-- ==== Sys2Proof/Word.lean ====
section
/-! DEFINITION. The plainest types of the model: an instant, a byte, a table keyed by number. -/

namespace Sys2Proof

/-- One byte of a structure in host memory, on a link or in MRAM (R12). -/
abbrev Byte := BitVec 8

/-- An instant: measurement-clock cycles since TT second 0 in units of 2^-32 cycle
(R196, R204 and R273 of 05 and 07 count cycles from TT second 0; 32 fraction bits are those of R204). -/
abbrev Inst := Nat

/-- A sparse table: index and value pairs, indices strictly rising, no entry equal to the
value that an unlisted index reads as (the `default` of the value's type, which is its reset value). -/
abbrev Tab (α : Type) := List (Nat × α)

end Sys2Proof
end

