-- ==== Sys2Proof/Types.lean ====
section
/-! DEFINITION. The named choices of the spec (modes, states, causes) and the operand structures of the commands. -/

namespace Sys2Proof

/-- A Ternyx time (R269 of 07) without its QUALITY field: seconds, nanoseconds, 1/65,536 ns. -/
structure TT where
  sec  : Nat := 0
  ns   : Nat := 0
  frac : Nat := 0
  deriving DecidableEq, Repr, Inhabited

/-- The PLLs of R687 of 18. -/
inductive Pll where
  | measurement | lane | dram | pcie | management
  deriving DecidableEq, Repr, Inhabited

/-- The channel modes of R70 of 02, in the order of its Values column. -/
inductive ChanMode where
  | dc | iepe | off
  deriving DecidableEq, Repr, Inhabited

/-- The bias states of R66 of 02, in the order of their codes. -/
inductive Bias where
  | ok | low | high | openCircuit | short | acquire
  deriving DecidableEq, Repr, Inhabited

/-- The excitation driver states of R81 of 02, in its order. -/
inductive ExcState where
  | off | ramp | regulating | limit | fault | localSense
  deriving DecidableEq, Repr, Inhabited

/-- The role of one excitation group in a clover pair (R88 to R90 of 02): voltage regulation or current follower. -/
inductive ExcRole where
  | regulate | follow
  deriving DecidableEq, Repr, Inhabited

/-- The spare states of R111 of 03, in its order. -/
inductive SpareState where
  | free | shadow | serving | remapped | refcheck | failed
  deriving DecidableEq, Repr, Inhabited

/-- The calibration states of R138 of 03 (the causes of DEGRADED are those of R121 and R122). -/
inductive CalState where
  | ok | pending | degradedDisagree | degradedVoid | remapped (spare : Nat) | failed
  deriving DecidableEq, Repr, Inhabited

/-- The mains rejection settings of R177 of 04. -/
inductive Mains where
  | off | avg50 | avg60 | notch50 (h tn : Nat) | notch60 (h tn : Nat)
  deriving DecidableEq, Repr, Inhabited

/-- The chain outputs: LB, WB, EB (kind codes 1, 2, 3 of R306 of 08). -/
inductive Band where
  | lb | wb | eb
  deriving DecidableEq, Repr, Inhabited

/-- The states of a shaft group, R201 of 05, in its order. -/
inductive ShaftState where
  | off | acquire | locked | holdover | time
  deriving DecidableEq, Repr, Inhabited

/-- The states of a trigger unit, R244 of 06, in the code order of R712. -/
inductive TrigState where
  | off | armed | busy | done
  deriving DecidableEq, Repr, Inhabited

/-- The states of a subscription, R340 of 08, in the order of STREAM_STATUS. -/
inductive SubState where
  | active | stalled | detached | closed
  deriving DecidableEq, Repr, Inhabited

/-- The start-up states of R42 of 01. -/
inductive Startup where
  | boot | memTrain | cal | sync | ready
  deriving DecidableEq, Repr, Inhabited

/-- QUALITY.STATE of R270 of 07. -/
inductive TimeState where
  | unsync | acquire | locked | holdover
  deriving DecidableEq, Repr, Inhabited

/-- The bring-up states of a port, R442 of 11, in its order. -/
inductive PortState where
  | disabled | idle | rate | lock | adapt | deskew | up
  deriving DecidableEq, Repr, Inhabited

/-- The stage of quiet entry or exit of one direction of a port (R459 to R461 of 11). -/
inductive Quiet where
  | awake | requested | acked | quiet | waking
  deriving DecidableEq, Repr, Inhabited

/-- The pair states of R515 of 13, in the order of their codes. -/
inductive PairState where
  | unpaired | search | joining | formed | solo | severed
  deriving DecidableEq, Repr, Inhabited

/-- The role of a member of a pair (R512 of 13, ROLE [3:2]). -/
inductive PairRole where
  | none | active | standby
  deriving DecidableEq, Repr, Inhabited

/-- The state of an I2C bus (R639 and R640 of 16). -/
inductive BusState where
  | idle | waitScl | stuck
  deriving DecidableEq, Repr, Inhabited

/-- The status codes of a completion, R587 of 15. -/
inductive Status where
  | done | accepted | partialDone | staged | badOpcode | badParam | noSuchObject | notOwner | busy
  | noResource | limit | state | tooLate | auth | interrupted | violation
  deriving DecidableEq, Repr, Inhabited

/-- The re-acquisition policies of R303 of 07. -/
inductive Reacq where
  | slew | step | stay
  deriving DecidableEq, Repr, Inhabited

/-- The loops of R464 of 11. -/
inductive Loop where
  | none | nearSerial | nearParallel | farEnd
  deriving DecidableEq, Repr, Inhabited

/-- One setting pair of R571 of 15: ROW, PART and the 32-bit VALUE. -/
structure Pair where
  row   : Nat
  part  : Nat
  value : BitVec 32
  deriving DecidableEq, Repr, Inhabited

/-- The fields of a Dwehild command entry that every command has (R567 of 15), with the
tenant and queue it came from, the instant at which it is fetched, the length of the buffer that it names in the
BUFFER form, and whether a word of it is upset in the FIFO that it crosses (R423 of 10). -/
structure Cmd where
  tenant : Nat
  queue  : Nat
  tag    : BitVec 32
  flags  : BitVec 16 := 0
  handle : BitVec 32 := 0
  stage  : Nat := 0
  at_    : Inst := 0
  outLen : Nat := 65536
  upset  : Bool := false
  deriving DecidableEq, Repr, Inhabited

/-- One credit entry of R330 of 08. -/
structure CreditEntry where
  addr   : Nat
  length : Nat
  handle : Nat
  deriving DecidableEq, Repr, Inhabited

/-- What the hub reads of one command entry when it fetches it (R563, R567 and R568 of 15). -/
structure Fetch where
  opcode : Nat
  tag    : BitVec 32
  flags  : BitVec 16
  deriving DecidableEq, Repr, Inhabited

/-- What is read of one image slot and its flash (R615 to R617 of 16): the flash answers and holds 512 Mbit, its SFDP tables give
its read modes, the header's fields, and the outcome of the three cryptographic checks. -/
structure ImageInfo where
  flash     : Bool := false
  sfdp      : Bool := false
  magic     : Nat := 0
  length    : Nat := 0
  /-- Signing key slot. -/
  key       : Nat := 0
  /-- The public key is on the curve and its digest equals fuse slot KEY's. -/
  keyOk     : Bool := false
  /-- The signature verifies over header bytes 0 to 415. -/
  signed    : Bool := false
  /-- DIGEST is that of the payload. -/
  digestOk  : Bool := false
  major     : Nat := 0
  minor     : Nat := 0
  pairProto : Nat := 0
  secver    : Nat := 0
  deriving DecidableEq, Repr, Inhabited

/-- The DRAM population as the SPD hubs describe it (R382 and R383 of 10). -/
structure Population where
  channels : List Nat := []
  gib      : Nat := 0
  ranks    : Nat := 1
  mts      : Nat := 6400
  /-- Device width; bytes of a row of one subchannel; RAAIMT and RAAMMT of refresh management (R382, R386, R396). -/
  width    : Nat := 4
  rowBytes : Nat := 8192
  raaimt   : Nat := 80
  raammt   : Nat := 480
  deriving DecidableEq, Repr, Inhabited

/-- A DIMM as its SPD declares it, with the channel that it populates (R382, R383 of 10): capacity, ranks, device width, speed grade,
highest data rate, bytes of a row of one subchannel, RAAIMT and RAAMMT. -/
structure Dimm where
  channel  : Nat := 0
  gib      : Nat := 64
  ranks    : Nat := 1
  width    : Nat := 4
  grade    : Nat := 6400
  mts      : Nat := 6400
  rowBytes : Nat := 8192
  raaimt   : Nat := 80
  raammt   : Nat := 480
  deriving DecidableEq, Repr, Inhabited

/-- One transaction of a burst that a memory-port requester was granted (R384, R388 of 10): a write or a read of the 64-byte unit at
a hub address, with the data of a write, and whether the word is upset in the FIFO that it crosses (R423). -/
structure Access where
  write : Bool := false
  addr  : Nat := 0
  data  : Nat := 0
  upset : Bool := false
  deriving DecidableEq, Repr, Inhabited

/-- The training result of one DRAM lane (R389 to R391 of 10). -/
structure LaneTrain where
  channel  : Nat := 0
  lane     : Nat := 0
  readEye  : Nat := 0
  writeEye : Nat := 0
  readDly  : Nat := 0
  writeDly : Nat := 0
  vrefCtl  : Nat := 0
  vrefDram : Nat := 0
  deriving DecidableEq, Repr, Inhabited

/-- What one estimation run gives (R120 and R122 of 03). Figures in 1/256 dBFS or dB. -/
structure CalRun where
  residual  : Int := 0
  margin    : Int := 0
  set       : List Int := []
  deriving DecidableEq, Repr, Inhabited

/-- What a match of an incoming modulator to the outgoing one gives (R114, R118 of 03): matching gain x 2^24 and offset in 2^-8
LSB, and what is left of the difference in gain (ppm) and in offset (µV referred to input). -/
structure Match where
  gain    : Nat := 16777216
  offs    : Int := 0
  gainErr : Nat := 0
  offErr  : Nat := 0
  deriving DecidableEq, Repr, Inhabited

/-- What SWATH_BOUNDARY brings (R29, R64, R15): the bias readings of the swath by channel, in µV, and the tiles whose side-band has failed. -/
structure SwathIn where
  bias : List (Nat × Int) := []
  side : List Nat := []
  deriving DecidableEq, Repr, Inhabited

/-- What a burst boundary or a release brings (R388, R405, R407): the requests raised and their instants, the burst of the owner that
was served, and the order in which the controller served it. -/
structure BurstIn where
  raised : List (Nat × Inst) := []
  burst  : List Access := []
  order  : List Nat := []
  deriving DecidableEq, Repr, Inhabited

/-- What a SKIP slot brings (R435, R436): the lanes whose SKIP is misaligned, and the blocks of the interval that are read as bits, each
with its lane and its position. -/
structure SkipIn where
  late : List Nat := []
  raw  : List (Nat × Nat × BitVec 130) := []
  deriving DecidableEq, Repr, Inhabited

/-- A read of a register (R543, R548): its offset, its width in bytes and its instant. -/
structure ReadIn where
  offset : Nat := 0
  width  : Nat := 4
  t      : Inst := 0
  deriving DecidableEq, Repr, Inhabited

/-- What a tile's receiver takes in one measurement-clock cycle (R104, R108, R423, R424): the bits of the 128 data wires in three unit
intervals and of the four repair wires (bit g + 4u), the groups whose FIFO the measurement domain does not read in this cycle, and
those in whose FIFO a stored bit has changed. -/
structure LinkIn where
  bits   : BitVec 384 := 0
  repair : BitVec 12 := 0
  held   : BitVec 4 := 0
  upset  : BitVec 4 := 0
  deriving DecidableEq, Repr, Inhabited

/-- The shape of a tussock descriptor (R249 of 06, buffer of R595 of 15). -/
structure Descriptor where
  gsis : List Nat := []
  pre  : Nat := 0
  post : Nat := 1
  pack : Bool := false
  next : Nat := 0
  fin  : Bool := true
  jump : Option Nat := none
  deriving DecidableEq, Repr, Inhabited

/-- One neighbour of an LSA (R492 of 12). -/
structure LsaLink where
  hub  : Nat
  port : Nat
  cost : Nat
  deriving DecidableEq, Repr, Inhabited

/-- What an LSA carries beside its origin (R492): the hops it has made and the links it lists. -/
structure LsaIn where
  hops  : Nat := 0
  links : List LsaLink := []
  deriving DecidableEq, Repr, Inhabited

/-- What a PTP master announces of its grandmaster (IEEE 1588-2019; R288, R289 of 07): priority1, class, accuracy, variance,
priority2, identity, steps removed, and that the timescale is PTP with a valid UTC offset. -/
structure PtpData where
  prio1 : Nat := 128
  cls   : Nat := 248
  acc   : Nat := 254
  var   : Nat := 65535
  prio2 : Nat := 128
  gm    : Nat := 0
  steps : Nat := 0
  tai   : Bool := false
  deriving DecidableEq, Repr, Inhabited

/-- Where a PTP message on the management port comes from (R288 of 07): domain, transport, and the port identity of the master. -/
structure PtpFrom where
  domain    : Nat := 0
  transport : Nat := 0
  master    : Nat := 0
  deriving DecidableEq, Repr, Inhabited

/-- The payload of a HELLO frame (R491 of 12). -/
structure HelloMsg where
  uid    : Nat := 0
  hub    : Nat := 0
  port   : Nat := 0
  clover : Bool := false
  alloc  : Bool := false
  prio   : Nat := 128
  qual   : BitVec 16 := 0xF838
  root   : Nat := 0
  rprio  : Nat := 128
  rqual  : BitVec 16 := 0xF838
  lsaSeq : Nat := 0
  hseq   : Nat := 0
  deriving DecidableEq, Repr, Inhabited

/-- A frame of R467 and R468 of 12: header fields, payload bytes, its CRC-32C as received, and, where a word of it was harmed in the FIFO
of a receiving lane (R423, R424 of 10), the physical lane and whether the word was dropped. -/
structure Frame where
  ftype  : Nat := 0
  vc     : Nat := 0
  mcast  : Bool := false
  timed  : Bool := false
  late   : Bool := false
  dest   : Nat := 0
  src    : Nat := 0
  seq    : Nat := 0
  hops   : Nat := 0
  aux    : Nat := 0
  body   : List Byte := []
  crc    : BitVec 32 := 0
  cross  : Option (Nat × Bool) := none
  deriving DecidableEq, Repr, Inhabited

/-- A cross-trigger block (R484 of 12), its SEC rebuilt by the receiver. -/
structure XTrig where
  origin : Nat := 0
  count  : Nat := 0
  cls    : Nat := 0
  tt     : TT := {}
  xtSeq  : Nat := 0
  hops   : Nat := 0
  deriving DecidableEq, Repr, Inhabited

/-- The training fields of a TS1 or TS2 block (R440 of 11), one per logical lane. -/
structure TsFields where
  lane       : Nat := 0
  width      : Nat := 4
  rate       : Nat := 2
  inverted   : Bool := false
  reversed   : Bool := false
  adaptDone  : Bool := false
  deskewDone : Bool := false
  hub        : Nat := 0
  port       : Nat := 0
  clover     : Bool := false
  member     : Nat := 0
  deriving DecidableEq, Repr, Inhabited

/-- The heartbeat payload of R512 of 13. -/
structure HeartbeatMsg where
  seq      : Nat := 0
  member   : Nat := 0
  pref     : Bool := false
  role     : PairRole := .none
  update   : Bool := false
  state    : PairState := .unpaired
  proto    : Nat := 0x0100
  sendAt   : Inst := 0
  health   : Nat := 0
  fault    : Bool := false
  calClear : Bool := false
  swath    : Nat := 0
  decSeq   : Nat := 0
  decided  : Inst := 0
  grpFault : List Nat := []
  current  : List Nat := []
  deriving DecidableEq, Repr, Inhabited

/-- The decisions of R517 of 13 that the active member sends. -/
inductive Decision where
  | taken (unit : Nat) (at_ : Inst) (number : Nat) (cross : Option XTrig)
  | refuse (unit : Nat) (at_ : Inst) (reason : Nat)
  | pointer (unit : Nat) (desc : Nat) (jump : Bool) (doneState : Bool)
  | xtrig (count cls : Nat) (tt : TT)
  | tachEdge (group : Nat) (at_ : Inst) (code : Option Nat) (armed : Bool)
  | zero (group : Nat)
  | shaft (group : Nat) (st : ShaftState) (revs : Nat) (good : Bool)
  | interrupted (channel : Nat) (swath : Nat)
  | closeInterval (defn : Nat) (at_ : Inst)
  | closeRecord (gsi seq : Nat)
  deriving DecidableEq, Repr, Inhabited

/-- A packed record that DATA frames bring (R315 of 08, R378 of 09): SPK_TAG, FIRST_SEQ, COUNT and the bitstream. -/
structure PackedIn where
  tag     : Nat := 0
  first   : Nat := 0
  count   : Nat := 0
  payload : List Byte := []
  deriving DecidableEq, Repr, Inhabited

/-- What the last segment of a record completes (R472 of 12): the edges of a tach record, or a packed record. -/
structure DataIn where
  edges  : List Inst := []
  packed : Option PackedIn := none
  deriving DecidableEq, Repr, Inhabited

/-- A stream as it will stand at the join second (R311, R363 of 09, R526 of 13): its GSI without the address, the next sequence number,
what its next record carries (FIRST, RATE, RESTART), and the generations of its ring's and its exports' packing contexts. -/
structure StreamPos where
  key     : Nat := 0
  next    : Nat := 0
  rate    : Bool := false
  restart : Bool := false
  gen     : Option Nat := none
  expGen  : Option Nat := none
  deriving DecidableEq, Repr, Inhabited

/-- The job descriptor of R370 of 09 with the input it names and the context and byte it resumes from. -/
structure JobIn where
  op       : Nat := 1
  kind     : Nat := 1
  resume   : Bool := false
  save     : Bool := false
  resvOk   : Bool := true
  count    : Nat := 0
  firstSeq : Nat := 0
  input    : List Byte := []
  stats    : List Nat := []
  outBytes : Nat := 0
  outLimit : Nat := 0
  lastByte : Nat := 0
  deriving DecidableEq, Repr, Inhabited

/-- The codec context of R361 of 09. -/
structure SpkCtx where
  valid      : Bool := false
  crcOk      : Bool := true
  version    : Nat := 1
  kind       : Nat := 1
  packer     : Bool := true
  bitpos     : Nat := 0
  generation : Nat := 0
  nextSeq    : Nat := 0
  hist1      : Int := 0
  hist2      : Int := 0
  hist3      : Int := 0
  mean       : Nat := 16
  bitsIn     : Nat := 0
  itemsOut   : Nat := 0
  deriving DecidableEq, Repr, Inhabited

/-- A staged change: the command that stages it and the objects it names (R575). -/
structure Change where
  opcode : Nat := 0
  handle : Nat := 0
  /-- Object indices after a broadcast handle has been resolved (R570). -/
  objs   : List Nat := []
  pairs  : List Pair := []
  tap    : Nat := 0
  taps   : List Int := []
  deriving DecidableEq, Repr, Inhabited

end Sys2Proof
end

