-- ==== Sys2Proof/Syntax.lean ====
section
/-! DEFINITION. The commands of spec/opcode_table.json, one constructor per row: the Dwehild
commands, then the events that carry operands, then those that carry none, each in the table's order.
The table gives no operands; each constructor carries what its rule says the event or command brings with it
(what was measured, received or written), which the block itself cannot compute. Instants are in `Inst`. -/

namespace Sys2Proof

/-- The commands of the block. -/
inductive Instr where
  -- Dwehild commands
  /-- IDENTIFY, R590: Returns device ID, revision, grade, firmware and pair protocol versions and UID. -/
  | identify (c : Cmd)
  /-- GET_LIMITS, R610: Writes one entry per table limit with maximum, in use and high-water mark. -/
  | getLimits (c : Cmd)
  /-- HEALTH_GET, R712: Reports start-up state, health registers, reset cause, PCIe link and DRAM lane results. -/
  | healthGet (c : Cmd)
  /-- RESET_PART, R591: Resets the hub, a tile through its side-band, or retrains a port. -/
  | resetPart (c : Cmd)
  /-- QUEUE_CREATE, R546: Creates an I/O or DMA queue with its rings and MSI-X vector. -/
  | queueCreate (c : Cmd) (sqBase sqSize vector cqBase cqSize : Nat)
  /-- QUEUE_DELETE, R591: Deletes a queue, aborting posted credits, or is refused while a subscription is bound. -/
  | queueDelete (c : Cmd)
  /-- DMA_QUEUE_RESTART, R549: Restarts a DMA queue stopped by a DMA fault or watchdog. -/
  | dmaQueueRestart (c : Cmd)
  /-- STAGE_STATUS, R590: Reports whether a stage is open or committed, its change count and named boundary. -/
  | stageStatus (c : Cmd)
  /-- STAGE_DISCARD, R581: Ends an open stage and frees its identifier. -/
  | stageDiscard (c : Cmd)
  /-- COMMIT_AT_SWATH, R578: Seals a stage into the commit bank for a named boundary, locally or across the network. -/
  | commitAtSwath (c : Cmd) (sec swath : Nat) (targets : List Nat)
  /-- CHANNEL_SET, R70: Stages channel mode, range, offset, servo, bias thresholds, ratiometric, mains rejection and calibration policy. -/
  | channelSet (c : Cmd) (pairs : List Pair)
  /-- CHANNEL_STATUS, R712: Reports bias state, thresholds, overload counters, spare and calibration state of a channel. -/
  | channelStatus (c : Cmd)
  /-- EXC_SET, R73: Stages an excitation group's set voltage, current limit and tolerance. -/
  | excSet (c : Cmd) (pairs : List Pair)
  /-- EXC_STATUS, R81: Reports a group's sensed voltage, current, state and retries. -/
  | excStatus (c : Cmd)
  /-- REFBUF_SET, R98: Stages enabling or disabling a tile's reference buffer. -/
  | refbufSet (c : Cmd) (pairs : List Pair)
  /-- CAL_NOW, R125: Orders an immediate calibration and later reports applied, checked or DEGRADED. -/
  | calNow (c : Cmd)
  /-- CAL_REPORT, R138: Returns the 16-byte QUALITY or COUNT calibration figure. -/
  | calReport (c : Cmd) (sel : Nat)
  /-- CAL_SET, R138: Sets the calibration figure selection, clears COUNT, and sets run length and apply threshold. -/
  | calSet (c : Cmd) (pairs : List Pair)
  /-- SPARE_SHADOW, R112: Places a spare in SHADOW of a channel, copying its chain settings. -/
  | spareShadow (c : Cmd) (spare swaths : Nat)
  /-- SPARE_RELEASE, R113: Releases a commanded spare shadow of a channel. -/
  | spareRelease (c : Cmd)
  /-- REMAP_CLEAR, R137: Clears a remap or failed-spare record, taking effect at the next start-up. -/
  | remapClear (c : Cmd)
  /-- CHAIN_SET, R177: Stages chain enables, rates, bindings, mains rejection, E1 band and stage shifts. -/
  | chainSet (c : Cmd) (pairs : List Pair)
  /-- CHAIN_TAPS, R593: Stages a USER_TAPS tap set for an EB chain's E1 stage. -/
  | chainTaps (c : Cmd) (tap : Nat) (taps : List Int)
  /-- CHAIN_REPORT, R159: Reports Δ, n or m, t, delivered rate, delay line, ρ, alias limit and quantised taps. -/
  | chainReport (c : Cmd)
  /-- TACH_SET, R193: Stages tach threshold, hysteresis, edge, glitch filter, code mode and field-pin output. -/
  | tachSet (c : Cmd) (pairs : List Pair)
  /-- TACH_STATUS, R198: Reports a tach input's EDGES, GLITCHES, CODE_ABORTS and FLOODS. -/
  | tachStatus (c : Cmd)
  /-- SHAFT_SET, R199: Stages a shaft group's source, teeth, zero source, speed window, tolerance, policy, allowance and enable. -/
  | shaftSet (c : Cmd) (pairs : List Pair)
  /-- SHAFT_STATUS, R201: Reports a shaft group's state, speed and revolution count. -/
  | shaftStatus (c : Cmd)
  /-- SHAFT_RETURN, R594: Returns a COMMAND-policy group from TIME to angle mode at the next boundary. -/
  | shaftReturn (c : Cmd)
  /-- STATS_SET, R229: Stages a statistics definition's enable, interval kind, length and shaft group. -/
  | statsSet (c : Cmd) (pairs : List Pair)
  /-- TRIGGER_SET, R238: Stages a trigger unit's source, level, hysteresis, direction, mask, hold-off and actions. -/
  | triggerSet (c : Cmd) (pairs : List Pair)
  /-- TRIGGER_STATUS, R712: Reports a trigger unit's state, current descriptor and counters. -/
  | triggerStatus (c : Cmd)
  /-- DESC_CREATE, R595: Creates a live tussock descriptor from an input buffer. -/
  | descCreate (c : Cmd) (d : Descriptor)
  /-- DESC_SET, R595: Changes a tussock descriptor unless it is in use. -/
  | descSet (c : Cmd) (d : Descriptor)
  /-- DESC_FREE, R251: Frees a tussock descriptor unless it is in use. -/
  | descFree (c : Cmd)
  /-- TUSSOCK_JUMP, R596: Registers a jump request at a trigger unit when it completes. -/
  | tussockJump (c : Cmd) (target : Nat)
  /-- ADMISSION_SET, R260: Stages the admission copy rate C and guard Gd. -/
  | admissionSet (c : Cmd) (pairs : List Pair)
  /-- REFUSAL_READ, R261: Returns the refusal log entries, oldest first. -/
  | refusalRead (c : Cmd)
  /-- SUBSCRIBE, R327: Binds a tenant to a stream with mode, class, start, queue, lag, retention and auto-acknowledge. -/
  | subscribe (c : Cmd) (pairs : List Pair)
  /-- UNSUBSCRIBE, R340: Closes a subscription at the next boundary, aborting its posted credits. -/
  | unsubscribe (c : Cmd)
  /-- STREAM_STATUS, R590: Reports a subscription's state, mode, class, largest record, DROPPED and positions. -/
  | streamStatus (c : Cmd) (sel : Nat)
  /-- ACK, R334: Acknowledges every item up to n of a subscription. -/
  | ack (c : Cmd) (n : Nat)
  /-- RESEND, R340: Rewinds DELIVERED so that items from m are delivered again with RESENT. -/
  | resend (c : Cmd) (m : Nat)
  /-- ATTACH, R597: Re-attaches a DETACHED subscription, writing its recorded ABORTED completions and resuming delivery. -/
  | attach (c : Cmd) (queue : Nat)
  /-- RING_SET, R326: Stages a ring's guaranteed depth, record window and packing. -/
  | ringSet (c : Cmd) (pairs : List Pair)
  /-- SPK_JOB, R370: Submits an SPK pack or unpack job to the job engine. -/
  | spkJob (c : Cmd) (queue : Nat) (j : JobIn) (ctx : SpkCtx)
  /-- STREAM_LIST, R590: Returns the GSIs of existing streams. -/
  | streamList (c : Cmd)
  /-- TIME_STATUS, R712: Reports the TIME_ registers, quality and parent port. -/
  | timeStatus (c : Cmd)
  /-- TIME_SET, R303: Sets time priority, bandwidth, holdover limit, re-acquisition policy and reference stability. -/
  | timeSet (c : Cmd) (pairs : List Pair)
  /-- PTP_SET, R288: Sets PTP enable, domain, message intervals and transport. -/
  | ptpSet (c : Cmd) (pairs : List Pair)
  /-- PPS_SET, R286: Sets PPS_OUT enable, compensation, width, state mask and PPS_IN compensation. -/
  | ppsSet (c : Cmd) (pairs : List Pair)
  /-- TIME_OF_DAY, R598: Names SEC of a PPS_IN pulse at least 100 ms ahead. -/
  | timeOfDay (c : Cmd) (sec : Nat)
  /-- LINK_ASYM, R291: Sets a link's asymmetry compensation A. -/
  | linkAsym (c : Cmd) (ps : Int)
  /-- PIN_LAUNCH, R598: Schedules a field-pin level change at a TT and reports the actual launch TT. -/
  | pinLaunch (c : Cmd) (pin : Nat) (level : Bool) (tt : TT)
  /-- PORT_SET, R431: Stages a Skecy port's enable, lanes, rate, polarity, preset, role, quiet policy and loop permit. -/
  | portSet (c : Cmd) (pairs : List Pair)
  /-- PORT_STATUS, R712: Reports a port's state, width, rate, equalisation, eyes and counters. -/
  | portStatus (c : Cmd)
  /-- ROUTE_STATIC, R494: Adds or removes a static route entry. -/
  | routeStatic (c : Cmd) (pfx len primary alternate : Nat) (remove : Bool)
  /-- ROUTE_READ, R590: Returns the route entries with UNPROTECTED and UNREACHABLE marks. -/
  | routeRead (c : Cmd)
  /-- MCAST_SET, R482: Creates or changes a multicast group's port mask, LOCAL bit and alternates. -/
  | mcastSet (c : Cmd) (mask : Nat) (loc : Bool) (alts : List Nat)
  /-- PORT_WAKE, R461: Orders a wake of a port's quiet lanes. -/
  | portWake (c : Cmd)
  /-- ADDR_SET, R489: Sets the address reclaim age. -/
  | addrSet (c : Cmd) (pairs : List Pair)
  /-- CLOVER_SET, R524: Sets the search timeout, hold time and return policy. -/
  | cloverSet (c : Cmd) (pairs : List Pair)
  /-- CLOVER_STATUS, R515: Reports pair state, role byte, formation cause and decision sequence. -/
  | cloverStatus (c : Cmd)
  /-- CLOVER_SWAP, R531: Orders a role swap in a formed pair. -/
  | cloverSwap (c : Cmd)
  /-- MEM_LAYOUT, R599: Sets the interleave grain and DRAM area sizes while no ring exists. -/
  | memLayout (c : Cmd) (pairs : List Pair)
  /-- MEM_STATUS, R403: Reports DRAM lane results, ECC counters and staging occupancy, resetting the high-water mark. -/
  | memStatus (c : Cmd)
  /-- ARB_RANK, R411: Writes a requester's shadow rank and optionally commits the instance's shadows. -/
  | arbRank (c : Cmd) (rank : Nat) (commit : Bool)
  /-- ARB_WATCHDOG, R409: Sets an instance's watchdog limit and optionally re-enables a disabled requester. -/
  | arbWatchdog (c : Cmd) (limit : Nat) (reenable : Bool)
  /-- POLICY_CLASS, R417: Sets class deadlines, promotion ranks, holds and base ranks. -/
  | policyClass (c : Cmd) (pairs : List Pair)
  /-- TENANT_CAP, R554: Sets a tenant's DMA rate cap, applied at the next boundary. -/
  | tenantCap (c : Cmd) (cap : Nat)
  /-- FURZE_SET, R398: Sets the Furze threshold and throttle interval. -/
  | furzeSet (c : Cmd) (threshold interval : Nat)
  /-- SENSOR_READ, R627: Returns a sensor's value and over-range flag. -/
  | sensorRead (c : Cmd)
  /-- SENSOR_SET, R632: Sets alarm limits, housekeeping period, I2C bus settings and PMBus addresses. -/
  | sensorSet (c : Cmd) (pairs : List Pair)
  /-- LOG_READ, R646: Reads event journal entries from a sequence number. -/
  | logRead (c : Cmd) (first : Nat)
  /-- JOURNAL_QUERY, R607: Returns a command-journal record and its object entries. -/
  | journalQuery (c : Cmd) (kind id : Nat) (tag : BitVec 32)
  /-- UPDATE_BEGIN, R619: Erases the inactive image slot and opens an update. -/
  | updateBegin (c : Cmd) (bytes : Nat)
  /-- UPDATE_CHUNK, R619: Writes the next consecutive image chunk. -/
  | updateChunk (c : Cmd) (offset len : Nat)
  /-- UPDATE_COMMIT, R619: Verifies the image and marks the slot TRY, or starts a live update on a standby. -/
  | updateCommit (c : Cmd) (live : Bool) (v : ImageInfo)
  /-- I2C_XFER, R638: Performs a board I2C transfer between firmware transfers. -/
  | i2cXfer (c : Cmd) (addr wr rd : Nat) (nakAt : Option Nat) (data : List Byte)
  /-- LOOP_SET, R464: Sets or clears a near or far-end loop on a port. -/
  | loopSet (c : Cmd) (kind : Nat)
  /-- PRBS_SET, R463: Sets a lane's PRBS generator and checker. -/
  | prbsSet (c : Cmd) (poly : Nat) (gen chk : Bool)
  /-- PRBS_STATUS, R463: Reports a lane's compared bits, errors and relocks. -/
  | prbsStatus (c : Cmd)
  /-- FIFO_STATUS, R425: Reports each crossing FIFO's count, parity and overflow counters. -/
  | fifoStatus (c : Cmd)
  /-- COUNTER_READ, R602: Returns a named counter and its SAT bit. -/
  | counterRead (c : Cmd) (field : Nat)
  /-- COUNTER_WRITE, R602: Writes a named counter, applied at the next boundary. -/
  | counterWrite (c : Cmd) (field : Nat) (value : Nat)
  /-- DEM_SET, R603: Turns element rotation on or off on a modulator not serving a stream. -/
  | demSet (c : Cmd) (on : Bool)
  /-- MEM_TEST, R603: Runs a memory test on a DRAM channel that holds no ring. -/
  | memTest (c : Cmd) (ch mib errors : Nat)
  /-- RESET_N_ASSERT, R681: RESET_N held low for at least 1 µs fully resets the hub, putting every ball into its reset state and ignoring PWRFAIL_N. -/
  | resetNAssert (lowNs : Nat)
  /-- RESET_N_RELEASE, R42: Release of RESET_N starts the start-up sequence in BOOT: the safety core runs the boot ROM and the straps are sampled. -/
  | resetNRelease (s0 s1 s2 : BitVec 12)
  /-- IMAGE_VERIFIED, R618: Completion of image verification starts the application cores, or leaves the hub in BOOT when both slots fail. -/
  | imageVerified (a b : ImageInfo) (buses : List (Bool × Option Nat))
  /-- PLL_LOCK, R687: A PLL locks after its reference is valid; measurement PLL lock moves the hub to MEM_TRAIN. -/
  | pllLock (p : Pll)
  /-- PLL_LOCK_TIMEOUT, R687: A PLL not locked within 10 times its lock time holds the hub in BOOT with detail code 0x00FF. -/
  | pllLockTimeout (p : Pll)
  /-- TILE_LINK_TRAINING_DONE, R106: End of the PRBS15 tile-link training repairs failed wires onto the repair wire and records repairs in MRAM. -/
  | tileLinkTrainingDone (tile : Nat) (bad : List Nat)
  /-- DRAM_TRAINING_DONE, R389: Completion of DRAM training records eye widths, retries a failed channel once, and moves the hub on to CAL or holds it in MEM_TRAIN. -/
  | dramTrainingDone (dimms : List Dimm) (lanes : List LaneTrain)
  /-- MODULATOR_START, R44: Once the PLL is locked and the reference buffers have been on for 40 ms, the modulators start tile by tile and free-run. -/
  | modulatorStart (tile : Nat)
  /-- CAL_COMPLETE, R126: End of the nine calibration rounds in CAL moves the hub to SYNC and starts Skecy bring-up. -/
  | calComplete (t : Inst)
  /-- SYNC_EXIT, R298: The offset held within ±0.25 ns for 1,000 swaths meets the exit condition of SYNC. -/
  | syncExit (t : Inst)
  /-- FREE_RUNNING_MASTER, R49: No time source within 3 s of entering SYNC makes the hub an unsynchronised free-running master and steps its grid. -/
  | freeRunningMaster (t : Inst)
  /-- STREAMS_START, R45: At the first whole TT second after SYNC is left, streams start and HEALTH reports READY. -/
  | streamsStart (sec : Nat)
  /-- GRID_STEP, R24: Once the frequency error to the parent is small, the counter loads the parent's TT and enters GRID mode in one step. -/
  | gridStep (parent : TT)
  /-- SWATH_BOUNDARY, R29: Every 187,500 measurement cycles the swath sequencer carries out the boundary actions in their fixed order. -/
  | swathBoundary (x : SwathIn)
  /-- CONTROL_PASS, R626: Firmware runs its per-swath control-pass tasks in order after the swath-start interrupt. -/
  | controlPass (slots : Nat)
  /-- HK_CONVERSION, R628: Each 1 µs conversion slot converts the next sensor of the housekeeping sequence. -/
  | hkConversion (slot : Nat) (code : Int) (t : Inst)
  /-- URGENT_CONVERSION, R629: A firmware urgent conversion runs at once if the converter is idle, and otherwise is dropped and counted. -/
  | urgentConversion (sensor slot : Nat) (code : Int)
  /-- REF_SETTLED, R98: The end of a 40 ms reference settling interval clears SETL. -/
  | refSettled (tile : Nat)
  /-- HOUSEKEEPING_PERIOD, R632: At the end of each sensor's stream period a housekeeping entry is written to the housekeeping stream. -/
  | housekeepingPeriod (sensor : Nat) (t : Inst)
  /-- THERMAL_TRIP, R636: A point reaching L + 15 °C trips the comparator; the safety core flushes and holds the hub in reset. -/
  | thermalTrip (sensor : Nat)
  /-- THERMAL_TRIP_RELEASE, R636: Once every point is below L − 10 °C, the hub restarts and journals THERMAL_TRIP. -/
  | thermalTripRelease (s0 s1 s2 : BitVec 12) (sensor : Nat) (value : Int)
  /-- PWRFAIL_N_ASSERT, R346: A confirmed fall of PWRFAIL_N freezes publication and positions and runs the MRAM flush. -/
  | pwrfailNAssert (lowNs : Nat) (t : Inst)
  /-- INTERNAL_RESET_RELEASE, R682: An internal full reset releases after at least 1 ms once its cause is gone, samples the straps and starts from BOOT. -/
  | internalResetRelease (s0 s1 s2 : BitVec 12)
  /-- FULL_RESET, R624: The hub resets fully on a safety-watchdog expiry or a third warm restart in 600 s and records the cause. -/
  | fullReset (cause : Nat)
  /-- REF_RETURNED, R303: A returned reference after 1 ms within limits leads to re-acquisition under the time policy. -/
  | refReturned (offset : Int)
  /-- SRAM_UNCORRECTABLE, R613: An uncorrectable management SRAM error causes a full reset in the safety region and a warm restart elsewhere. -/
  | sramUncorrectable (safety : Bool) (addr : Nat)
  /-- WARM_RESTART, R622: 64 consecutive overruns or 80 swaths without a heartbeat warm-restart the application cores, reload the image and restart firmware. -/
  | warmRestart (t : Inst)
  /-- WARM_RESTART_DONE, R622: Firmware restarted after a warm restart resumes commands and control passes. -/
  | warmRestartDone (buses : List (Bool × Option Nat))
  -- Front end and modulators
  /-- SPAN_EXCURSION, R52: An input pin leaving or re-entering the operating span sets OVR on overlapping samples and is journalled. -/
  | spanExcursion (ch pin : Nat) (start : Bool) (t : Inst)
  /-- FAST_ACQUISITION_END, R64: After 8,000 swaths the servo changes to its selected corner and the bias state is resolved. -/
  | fastAcquisitionEnd (ch : Nat)
  /-- BIAS_STATE, R67: A classification holding for 32 consecutive swaths changes the reported bias state, holding or releasing the servo, and is journalled. -/
  | biasState (ch : Nat)
  /-- EXC_LIMIT, R78: A load above the current limit holds the driver at its limit and is journalled. -/
  | excLimit (g mv ua : Nat)
  /-- EXC_FAULT, R78: After 10 ms continuously in limit, the driver turns off and enters FAULT. -/
  | excFault (g : Nat)
  /-- EXC_RETRY, R78: Once per second a faulted driver retries with a ramp, and after 10 failures it stays off. -/
  | excRetry (g : Nat)
  /-- EXC_WINDOW_FLAG, R79: The sensed voltage leaving or re-entering the tolerance window flags or clears the group's comparator for EXT. -/
  | excWindowFlag (g : Nat) (outside : Bool) (mv : Nat)
  /-- EXC_SETTLED, R77: After the sensed voltage has been within tolerance for 32 consecutive swaths, EXT clears. -/
  | excSettled (g : Nat)
  /-- EXC_LOCAL_SENSE, R80: A sense-lead fault switches the driver to local sense within 10 µs, and this is logged. -/
  | excLocalSense (g mv : Nat)
  /-- EXC_REMOTE_SENSE_RETURN, R80: After the sense fault has been absent for 32 swaths, the driver returns to remote sense. -/
  | excRemoteSenseReturn (g mv : Nat)
  /-- TILE_LINK_WORD, R105: A received link word is checked per slice; odd parity or code 31 poisons codes, which enter C1 as 0 and mark samples SUB. -/
  | tileLinkWord (tile : Nat) (x : LinkIn) (cycle : Nat)
  /-- TILE_CLOCK_LOST, R109: Loss of a group's forwarded clock poisons that group's slices and is journalled. -/
  | tileClockLost (tile grp : Nat)
  /-- TILE_GROUP_RETRAIN, R109: Once per second a tile-link group without clock is retrained. -/
  | tileGroupRetrain (tile grp : Nat) (clockBack : Bool)
  /-- TILE_REPAIR_SWITCH, R108: After the repair wire has been clean for 8 swaths, the receiver takes the wire's bits from it at the next boundary. -/
  | tileRepairSwitch (tile grp : Nat)
  /-- MOD_LOOP_RESET, R102: An overload run reaching 4,096 cycles clears the modulator integrators, marks OVR and counts the reset. -/
  | modLoopReset (m : Nat)
  /-- MOD_LOOP_RESTART, R102: After 64 cycles of cleared integrators the modulator loop restarts. -/
  | modLoopRestart (m : Nat)
  /-- MOD_FAILED, R133: A modulator meeting a failure criterion is declared failed, and its channel is remapped, failed or handed back. -/
  | modFailed (m criterion : Nat) (validCodes : Bool)
  /-- SPARE_SUSPECT, R114: A spare failing to match within 256 swaths is marked suspect, returned to FREE and replaced. -/
  | spareSuspect (m : Nat)
  /-- CAL_RUN_DONE, R120: The end of an estimation run yields a proposed set, judges the attempt, and applies, checks, retries or marks DEGRADED. -/
  | calRunDone (m : Nat) (r : CalRun)
  /-- COVER_TAKEOVER, R126: After the shadow match, the spare takes over, and the primary stops to load its new set. -/
  | coverTakeover (ch : Nat) (gain : Nat × Nat) (offs : Int × Nat)
  /-- PRIMARY_RESTART, R129: 1 µs before B + 2 swaths, a stopped modulator restarts with its integrators cleared. -/
  | primaryRestart (at_ : Nat × Inst)
  /-- COVER_HANDBACK, R126: After the primary's match, the channel is handed back, SPARE clears and the spare returns to FREE. -/
  | coverHandback (ch : Nat) (gain : Nat × Nat) (offs : Int × Nat)
  /-- REFCHECK_DONE, R126: A round-0 spare finishes its 64 swaths against the tile reference, setting its absolute gain. -/
  | refcheckDone (m : Nat) (gain : Nat)
  /-- SUBSTITUTION_END, R129: At exactly B + 250 µs the substituted C1 input ends and normal samples resume. -/
  | substitutionEnd (ch : Nat)
  -- Chains, tach, triggers and streams
  /-- CHAIN_SAMPLE_AVAILABLE, R176: A stage output reaches the statistics engine, trigger units and stream engine after its computation window. -/
  | chainSampleAvailable (m : Nat) (band : Band)
  /-- TACH_TRANSITION, R194: A tach comparator transition opens a pulse, and a pulse shorter than W is removed and counted. -/
  | tachTransition (n : Nat) (uv : Int) (t : Inst)
  /-- TACH_EDGE_CONFIRMED, R195: W after its opening transition, a pulse is confirmed and timestamped, and the shaft group judges the edge. -/
  | tachEdgeConfirmed (n : Nat)
  /-- EDGE_DEADLINE, R203: The prediction window ends without an acceptable edge, so the edge is missing. -/
  | edgeDeadline (g : Nat)
  /-- CODE_TIMEOUT, R209: A code not complete within 26 u of its start stripe aborts. -/
  | codeTimeout (n : Nat)
  /-- CODE_FLOOD, R210: An input at stripe level for more than 3.5 u is flooded; the code aborts and the group enters HOLDOVER. -/
  | codeFlood (n : Nat)
  /-- SHAFT_FALLBACK, R222: After 64 predicted revolutions the group enters TIME, and its chains change to time mode at the next boundary. -/
  | shaftFallback (g : Nat)
  /-- TRIGGER_TIME_EXPIRY, R239: The instant T0 + k × P of a TIME source arrives and the unit judges the event. -/
  | triggerTimeExpiry (u : Nat)
  /-- FIELD_PIN_EDGE, R239: A confirmed field-pin input edge feeds PIN-source units and jump inputs. -/
  | fieldPinEdge (pin : Nat) (rising : Bool) (t : Inst)
  /-- PIN_PULSE_END, R243: At the end of the pulse width the field pin returns low. -/
  | pinPulseEnd (pin : Nat)
  /-- TRIGGER_REARM, R244: Within 1 µs of the fire, a unit without an admitted capture re-arms. -/
  | triggerRearm (u : Nat)
  /-- TUSSOCK_SET_WRITTEN, R252: In the cycle that writes the set's last sample, the descriptor pointer moves by jump, NEXT or DONE and the unit re-arms. -/
  | tussockSetWritten (u : Nat)
  /-- TUSSOCK_COMPLETE, R259: A completed tussock copy is published in sequence order. -/
  | tussockComplete (gsi number : Nat)
  /-- RECORD_WRITE, R314: A record whose items are all available is written to its ring, retiring the oldest records. -/
  | recordWrite (gsi : Nat)
  /-- STAGING_RECOVER, R402: When staging room returns, lost items are written into their rings as 0 with SUB. -/
  | stagingRecover (bytes : Nat)
  /-- RECORD_DELIVERY, R332: A published record is pushed into the subscription's next credit at an aligned offset, never split. -/
  | recordDelivery (sub : Nat) (t : Inst)
  /-- BULK_CREDIT_TIMEOUT, R332: 100 ms after its first record, a BULK credit completes. -/
  | bulkCreditTimeout (sub : Nat)
  /-- RETENTION_EXPIRY, R340: A DETACHED subscription whose retention expires is CLOSED, its protection removed and a RETENTION range journalled. -/
  | retentionExpiry (sub : Nat)
  -- Memory and arbiters
  /-- DRAM_READ_RETURN, R395: Read data returns from DRAM, single-symbol errors are corrected and uncorrectable ones poisoned and journalled. -/
  | dramReadReturn (req addr data badSymbols : Nat) (upset : Bool) (held : Option (Nat × Nat))
  /-- REFRESH, R393: Every tREFI, an all-bank refresh slice runs per rank. -/
  | refresh (ch rank : Nat)
  /-- RFM, R396: A bank's rolling activation count reaching RAAIMT issues an RFM. -/
  | rfm (ch bank : Nat)
  /-- ZQ_CALIBRATION, R393: Every 128 ms per rank, a ZQ calibration long slice runs. -/
  | zqCalibration (ch rank : Nat)
  /-- OSCILLATOR_READ, R393: Every 1 ms per rank, the DQS interval oscillator is read. -/
  | oscillatorRead (ch lane : Nat) (drift : Int)
  /-- DRIFT_RECENTRING, R393: On 2 steps of drift or every 100 ms, one lane's delay moves by at most one step. -/
  | driftRecentring (ch lane : Nat) (eye : Nat)
  /-- FURZE, R398: A requester reaching the threshold in a row group gets an RFM, is throttled and is journalled. -/
  | furze (ch req bank row : Nat) (t : Inst)
  /-- BURST_BOUNDARY, R407: At an owner's burst boundary, the arbiter applies pending ranks and pre-empts for a strictly higher rank. -/
  | burstBoundary (inst : Nat) (x : BurstIn)
  /-- GRANT_RELEASE, R405: An owner dropping its request frees the resource, which goes to the highest raised rank. -/
  | grantRelease (inst : Nat) (x : BurstIn)
  /-- GRANT_WATCHDOG, R409: A grant held past the watchdog limit is ended, errored, logged, and its requester disabled. -/
  | grantWatchdog (inst addr : Nat) (t : Inst)
  -- Skecy lanes and frames
  /-- IDLE_EXPIRY, R442: After 10 ms in IDLE the port enters RATE and sends its rate signal. -/
  | idleExpiry (p : Nat)
  /-- RATE_SIGNAL_CLASSED, R443: The partner's rate signal classed for 64 runs fixes the agreed rate and moves the port to LOCK. -/
  | rateSignalClassed (p : Nat) (runs : List Nat)
  /-- TS1, R444: Received TS1 blocks give block lock, polarity, lane order and width, and move the port on from LOCK or ADAPT. -/
  | ts1 (p : Nat) (lanes : List TsFields)
  /-- ADAPT_DONE, R447: Completion of CTLE and DFE adaptation reports ADAPT_DONE. -/
  | adaptDone (p : Nat) (ctle : List Nat) (dfe : List Int) (eyes : List (Nat × Nat))
  /-- TS2, R448: Received TS2 slots deskew the lanes; aligned lanes and DESKEW_DONE move the port to UP. -/
  | ts2 (p : Nat) (lanes : List TsFields) (skew : List Nat)
  /-- TRAINING_TIMEOUT, R442: A phase timeout continues on a reduced legal lane set or returns the port to IDLE with TRAIN_FAIL. -/
  | trainingTimeout (p : Nat) (passing : List Nat)
  /-- START, R451: The START slot on entry to UP begins traffic with freshly seeded scrambling. -/
  | startBlock (p lane width : Nat) (peerEmits peerPref : Bool)
  /-- SKIP, R436: A SKIP slot is removed and reseeds the descrambler, and a misaligned one is counted. -/
  | skipBlock (p count : Nat) (x : SkipIn)
  /-- LANE_FAULT, R453: A LANE_FAULT block names faulty lanes, and the transmitter answers with WIDTH. -/
  | laneFault (p mask : Nat)
  /-- WIDTH, R453: A WIDTH block makes both ends stripe over the named reduced lane set from the next slot. -/
  | widthBlock (p mask : Nat)
  /-- LOSS_OF_SIGNAL, R452: Loss of signal for 1 µs makes a lane faulty, or takes the link down when every lane is lost. -/
  | lossOfSignal (p : Nat) (lanes : List Nat)
  /-- QUIET_IDLE_EXPIRY, R458: A direction lightly used throughout its idle time starts quiet entry by sending QUIET_REQ. -/
  | quietIdleExpiry (p : Nat)
  /-- QUIET_REQ, R459: A received QUIET_REQ is answered with QUIET_ACK within 100 ns. -/
  | quietReq (p : Nat)
  /-- QUIET_ACK, R459: A received QUIET_ACK commits the transmitter to entry, unless a wake need has withdrawn the request. -/
  | quietAck (p : Nat)
  /-- QUIET_ENTER, R459: A received QUIET_ENTER moves the direction to the lead lane and idles the other lanes. -/
  | quietEnter (p mask : Nat)
  /-- QUIET_ENTRY_WITHDRAWN, R460: A receiver that sees no QUIET_ENTER within 2 µs of its QUIET_ACK keeps its lanes awake. -/
  | quietEntryWithdrawn (p : Nat)
  /-- WAKE_NEED, R461: A transmit queue beyond the wake depth starts the idle-exit pattern on the quiet lanes. -/
  | wakeNeed (p : Nat)
  /-- IDLE_EXIT_END, R461: After 2 µs of idle-exit pattern, a WAKE slot is sent on all lanes. -/
  | idleExitEnd (p : Nat)
  /-- WAKE, R461: A received WAKE slot deskews the woken lanes, and striping over the full set resumes. -/
  | wakeBlock (p : Nat) (aligned : List Nat)
  /-- LOOP, R465: A LOOP block requests, accepts or refuses a far-end loop. -/
  | loopBlock (p code : Nat)
  /-- FRAME_RECEIVE, R476: A received frame is accepted in sequence with good CRCs, NAKed, discarded, or forwarded cut-through or store-and-forward. -/
  | frameReceive (p : Nat) (f : Frame) (t : Inst)
  /-- ACK_BLOCK, R477: A received ACK releases acknowledged frames, or a NAK triggers a replay of every unacknowledged frame. -/
  | ackBlock (p ack : Nat) (nak : Bool) (xtAck : Nat)
  /-- CREDIT, R474: A CREDIT block updates the cumulative per-VC credit counts. -/
  | creditBlock (p : Nat) (counts : List Nat)
  /-- REPLAY_TIMEOUT, R477: With no ACK progress for one replay timeout, unacknowledged frames and XTRIGs are resent, and 4 fruitless replays fail the port. -/
  | replayTimeout (p : Nat)
  /-- ACK_TIMER, R476: At least once every 1 µs while frames are unacknowledged, an ACK is sent. -/
  | ackTimer (p : Nat)
  /-- CREDIT_TIMER, R474: At least once every 1 µs, a CREDIT block is sent. -/
  | creditTimer (p : Nat)
  /-- TIMED_LAUNCH, R498: A TIMED frame held at egress is sent at its launch TT, or late with LATE set. -/
  | timedLaunch (p : Nat) (t : Inst)
  /-- XTRIG, R263: A received cross-trigger is checked against the duplicate table, entered, forwarded and fires matching CROSS units. -/
  | xtrig (p : Nat) (x : XTrig) (t : Inst)
  /-- DATA, R472: A DATA frame carries a record segment; out-of-order or missing segments discard the record so far. -/
  | dataFrame (src gsi sub : Nat) (first last : Bool) (offset seqLo bytes : Nat) (x : DataIn)
  /-- HELLO_TIMER, R491: Every 1 ms each up NETWORK port sends a HELLO. -/
  | helloTimer (p : Nat)
  /-- HELLO, R491: A received HELLO records the neighbour and root candidate and detects address conflicts. -/
  | hello (p : Nat) (m : HelloMsg)
  /-- NEIGHBOUR_LOSS, R491: A neighbour missing 3 HELLO periods is lost, and the port fails for routing. -/
  | neighbourLoss (p : Nat)
  /-- LSA, R492: A newer LSA is stored and flooded onward, and an older one is discarded. -/
  | lsa (p origin uid seq : Nat) (x : LsaIn)
  /-- ROOT_CHANGE, R294: A candidate ranked best for 16 discovery periods is adopted as root. -/
  | rootChange (offset : Int)
  /-- ADDR_REQ, R488: The allocator grants the previous or lowest free address, reclaims one, or journals exhaustion. -/
  | addrReq (p uid held : Nat) (t : Inst)
  /-- ADDR_GRANT, R488: A received grant gives the hub its address, applied under R307. -/
  | addrGrant (p uid addr : Nat)
  /-- TIME_REQUEST_TIMER, R496: Every 15.625 µs each port end sends a TIME request. -/
  | timeRequestTimer (p : Nat) (t : Inst)
  /-- TIME_REQ, R497: A received TIME request is answered with a RESP launched at a time at least 1 µs later. -/
  | timeReq (p xseq : Nat) (qual : BitVec 16) (t : Inst)
  /-- TIME_RESP, R291: A received RESP completes an exchange whose offset is filtered over 64 exchanges. -/
  | timeResp (p xseq : Nat) (qual : BitVec 16) (t2 t3 t4 : Inst) (late : Bool)
  /-- TIME_RESP_TIMEOUT, R497: A RESP not arriving within 1 ms discards the exchange. -/
  | timeRespTimeout (p : Nat)
  -- Time
  /-- PTP_MESSAGE, R288: A PTP event or general message on the management port is timestamped and used by the slave-only clock; peer-delay messages are discarded. `kind`: 0 timing, 1 peer-delay, 2 Announce; `data` is what an Announce says, `offset` (1/256 ns) and `err` (ERR code) what the slave measures from timing messages. -/
  | ptpMessage (kind : Nat) (src : PtpFrom) (data : PtpData) (offset : Int) (err : Nat) (t : Inst)
  /-- PPS_IN_EDGE, R290: A PPS_IN rising edge is timestamped, accepted or rejected against its predicted second, and completes MODE 1 snapshots. -/
  | ppsInEdge (t : Inst) (highNs err : Nat)
  /-- PPS_SOURCE_LOST, R290: 3 seconds without an accepted PPS_IN edge lose the source. -/
  | ppsSourceLost (t : Inst)
  /-- PPS_OUT_LAUNCH, R286: At each TT second less the compensation, PPS_OUT rises when its STATE mask allows. -/
  | ppsOutLaunch (sec : Nat) (t : Inst)
  /-- PIN_LAUNCH_TIME, R284: A field-pin launch is performed at the first tick at or after its TT, or late and counted. -/
  | pinLaunchTime (pin : Nat) (t : Inst)
  -- Clover pair and network commits
  /-- HEARTBEAT_LAUNCH, R512: At every cycle count divisible by 3,000, each member launches a HEARTBEAT. -/
  | heartbeatLaunch (k : Nat)
  /-- HEARTBEAT, R512: A received heartbeat restarts the loss timer, updates follower current and group faults, and may trigger a health takeover. -/
  | heartbeat (h : HeartbeatMsg) (t : Inst)
  /-- PARTNER_LOSS, R513: 6 µs after the newest valid heartbeat, extended once while the link is up, the member declares partner loss and enters SOLO. -/
  | partnerLoss (t : Inst)
  /-- DECISION, R517: The standby applies a received decision in sequence order in place of its own. -/
  | decision (seq : Nat) (d : Decision)
  /-- COMMAND, R520: A mirrored command from the partner is staged, and its status returned. -/
  | command (i : Instr) (reply : Option Status) (now : Inst)
  /-- JOIN_REQ, R511: A joining member's version, UID and configuration digest are checked, and the active member names the join second. -/
  | joinReq (proto uid digest strap : Nat) (pop : Population) (t : Inst)
  /-- JOIN_SYNC, R526: The joining member takes the configuration and the stream and decision positions as they will stand at S_j. -/
  | joinSync (sec uid addr : Nat) (config : List Change) (positions : List StreamPos) (decSeq : Nat)
  /-- SWAP, R531: A proposed or confirmed SWAP fixes a boundary at which the members exchange roles. -/
  | swap (boundary : Nat) (confirm : Bool)
  /-- PREPARE, R584: A target checks its stage for a network commit and answers READY or REFUSE. -/
  | prepare (src stage boundary : Nat) (now : Inst)
  /-- READY, R584: The originator records a target's READY answer. -/
  | readyMsg (src stage : Nat)
  /-- REFUSE, R584: The originator records a target's refusal and its status. -/
  | refuseMsg (src stage : Nat) (st : Status)
  /-- NETWORK_COMMIT_DECIDE, R584: 8 swaths before the boundary, the originator sends SEAL if every target is READY, and ABORT otherwise. -/
  | networkCommitDecide (stage : Nat)
  /-- SEAL, R584: A target seals its stage into its commit bank for the named boundary. -/
  | sealStage (src stage : Nat)
  /-- ABORT, R584: A target discards the network-commit stage. -/
  | abortMsg (src stage : Nat)
  /-- NETWORK_STAGE_EXPIRY, R585: A READY target without SEAL or ABORT by 2 swaths before the boundary discards its stage and journals it. -/
  | networkStageExpiry (stage : Nat)
  /-- COMMIT_CONFIRM, R585: A sealed target's confirmation after the boundary is counted by the originator. -/
  | commitConfirm (src stage : Nat)
  /-- NETWORK_COMMIT_DEADLINE, R585: 1 ms after the boundary, the network commit completes DONE or PARTIAL. -/
  | networkCommitDeadline (stage : Nat)
  /-- OPEN, R558: A remote OPEN takes the lowest free tenant number and is answered by OPEN_REPLY. -/
  | openMsg (hub uid : Nat)
  /-- OPEN_REPLY, R558: The remote requester receives its tenant number, epoch and status. -/
  | openReply (hub tenant epoch : Nat) (st : Status)
  /-- COMMANDS, R558: A remote frame of command entries is accepted in FSEQ order and executed. -/
  | commandsMsg (tenant epoch fseq ack : Nat) (cmds : List Fetch)
  /-- CREDITS, R560: A remote frame of credit entries posts credits for remote subscriptions. -/
  | creditsMsg (tenant epoch fseq ack queue : Nat) (credits : List CreditEntry)
  /-- COMPLETIONS, R558: A frame of command completions reaches the remote host. -/
  | completionsMsg (hub tenant epoch fseq ack : Nat) (tags : List (BitVec 32))
  /-- DMA_COMPLETIONS, R558: A frame of credit completions reaches the remote host. -/
  | dmaCompletionsMsg (hub tenant epoch fseq ack : Nat) (tags : List (BitVec 32))
  /-- CLOSE, R558: A remote CLOSE ends the remote session, detaching its subscriptions. -/
  | closeMsg (tenant epoch fseq ack : Nat)
  /-- KEEPALIVE, R559: After 1 s without other traffic, each end sends KEEPALIVE. -/
  | keepalive (tenant : Nat) (got : Option (Nat × Nat × Nat))
  /-- REMOTE_RESEND_TIMER, R559: Frames not covered by ACK_FSEQ within 1 ms are resent in order. -/
  | remoteResendTimer (tenant : Nat)
  /-- REMOTE_SESSION_TIMEOUT, R559: A remote session without a valid frame for 10 s ends. -/
  | remoteSessionTimeout (tenant : Nat)
  -- PCIe host interface
  /-- ADM_ENABLE_SET, R538: Setting ADM_CTRL.ENABLE opens a session with the admin queue, or sets FAILED when the table is full or parameters are invalid. -/
  | admEnableSet (fn : Nat)
  /-- ADM_ENABLE_CLEAR, R538: Clearing ENABLE ends the session, stopping DMA and detaching subscriptions. -/
  | admEnableClear (fn : Nat)
  /-- FLR, R538: A function-level reset ends that function's session. -/
  | flr (fn : Nat)
  /-- D3HOT_ENTRY, R538: A function entering D3hot ends its session. -/
  | d3hotEntry (fn : Nat)
  /-- PCIE_LINK_UP, R536: After training or retraining, the negotiated link and D_P are reported and LATENCY bounds rechecked. -/
  | pcieLinkUp (rate width : Nat)
  /-- DB_SQ_TAIL_WRITE, R566: A submission or credit doorbell announces new entries, which are fetched within 10 µs. -/
  | dbSqTailWrite (fn q tail : Nat) (cmds : List Fetch) (credits : List CreditEntry) (t : Inst)
  /-- DB_CQ_HEAD_WRITE, R565: A completion-head doorbell frees completion slots so held completions and commands may proceed. -/
  | dbCqHeadWrite (fn q head : Nat) (t : Inst)
  /-- VIOL_CLEAR, R550: Writing 1 to VIOL_CLEAR empties the violation log. -/
  | violClear (fn : Nat) (t : Inst)
  /-- VIOL_LOST_CLEAR, R550: Writing 1 to VIOL_STATUS.LOST clears the lost-entry flag. -/
  | violLostClear (fn : Nat)
  /-- SNAP_TAKE_NOW, R279: TAKE in MODE 0 latches a snapshot at the first tick within 20 ns. -/
  | snapTakeNow (fn : Nat) (t : Inst)
  /-- SNAP_TAKE_PPS, R279: TAKE in MODE 1 arms a snapshot for the next PPS_IN edge. -/
  | snapTakePps (fn : Nat)
  /-- SNAP_TAKE_SWATH, R279: TAKE in MODE 2 arms a snapshot for the next swath boundary. -/
  | snapTakeSwath (fn : Nat)
  /-- HIGH_WORD_LATCH_READ, R543: Reading the low word of a 64-bit RO register latches its high word. -/
  | highWordLatchRead (fn : Nat) (x : ReadIn)
  /-- REGISTER_WRITE, R10: A write to a register without its own behaviour updates RW fields and is checked for violations. -/
  | registerWrite (fn offset width : Nat) (value : BitVec 64) (t : Inst)
  /-- DMA_FAULT, R548: A host-memory read receiving UR, CA or a timeout completes its command or job with VIOLATION and stops the DMA queue. -/
  | dmaFault (fn q addr : Nat) (tag : Option (BitVec 32)) (t : Inst)
  /-- SPK_JOB_COMPLETE, R374: A job finishes DONE, PARTIAL or with a failure reason, saving its context when asked. -/
  | spkJobComplete (tenant : Nat) (tag : BitVec 32)
  -- Later rows of the table
  /-- I2C_SCL_TIMEOUT, R639: SCL still low 35 ms after enable marks the bus STUCK. -/
  | i2cSclTimeout (bus : Nat)
  /-- I2C_STUCK_RETRY, R640: Every 1 s a STUCK bus pulses its reset pin and repeats the clear. -/
  | i2cStuckRetry (bus : Nat) (scl : Bool) (pulses : Option Nat)
  /-- PMBUS_POLL, R637: Every 10 ms the PMBus regulators are read and faults journalled and cleared. -/
  | pmbusPoll (reg : Nat) (vout iout temp status : Int) (pecOk : Bool)
  /-- SFP_POLL, R637: Each second the SFP+ diagnostics page is read. -/
  | sfpPoll (vals : List Int) (alarms : Nat)
  /-- PREDICTED_ZERO, R205: In HOLDOVER, the prediction reaching the angle of a zero produces a once-per-revolution event carrying HOLD for triggers, REV intervals and the tach stream. -/
  | predictedZero (g : Nat)
  /-- DUPLICATE_PAIR_EXPIRY, R263: An (origin, count) pair leaves the cross-trigger duplicate table 1 s of TT after its first arrival. -/
  | duplicatePairExpiry (origin count : Nat)
  /-- PTP_SOURCE_LOST, R295: A root whose PTP master stops being usable loses its source and enters HOLDOVER, keeping its CLASS while ERR stays within the holdover limit. -/
  | ptpSourceLost (t : Inst)
  /-- MANAGEMENT_ETHERNET_LINK_UP, R637: The management Ethernet port's link comes up, so the SFP+ identity page 0xA0 is read and PTP traffic can flow. -/
  | managementEthernetLinkUp (page : List Byte)
  /-- EXC_LIMIT_EXIT, R78: A driver whose load falls back below its current limit leaves limit, regulates again, ends its 10 ms count and journals the exit. -/
  | excLimitExit (g mv ua : Nat)
  /-- DRAM_WRITE_COMPLETE, R32: A ring write drained from staging completes in DRAM, making its samples eligible for publication at the next boundary. -/
  | dramWriteComplete (gsi bytes : Nat)
  /-- MRAM_WRITE_COMPLETE, R344: A position-journal word write to MRAM completes, allowing that stream's pointer to be published. -/
  | mramWriteComplete (gsi : Nat)
  /-- PRBS_CHECKER_LOCK, R463: A lane's PRBS checker locks after 1,024 error-free bits, or relocks by itself after 64 errors in 1,024 bits and counts the relock. -/
  | prbsCheckerLock (lane : Nat) (received : List Bool) (bits errors : Nat)
  /-- BANK_IDLE_TIMER_EXPIRY, R387: A DRAM bank's idle timer expires and the controller precharges the bank. -/
  | bankIdleTimerExpiry (ch bank : Nat)
  /-- ADDRESS_APPLY, R307: A newly received address applies at the first boundary at which every open record closes, and the GSI change is journalled. -/
  | addressApply
  /-- CONTROL_LOOP_SEAL, R626: 100 µs into the swath firmware seals the control-loop bank with the work completed and defers the rest. -/
  | controlLoopSeal
  /-- THERMAL_LEVEL_EXIT, R633: After 10 s at 2 °C below a level's threshold, the level is left and shed work is restored. -/
  | thermalLevelExit
  /-- FLUSH_COMPLETE, R346: The flush commit word is written after positions, journal tail and statistics records. -/
  | flushComplete
  /-- PWRFAIL_N_DEASSERT, R348: PWRFAIL_N rising before the supplies fall lets the flush finish; delivery resumes and the flush is marked void at the next boundary. -/
  | pwrfailNDeassert
  /-- BROWN_OUT, R683: A rail below 90 % for 1 µs fully resets the hub and ends any flush in progress. -/
  | brownOut
  /-- REF_LOST, R304: Loss of REFCLK_MEAS holds the PLL control word, sets ERR to 31 and is journalled. -/
  | refLost
  /-- REFCLK_LANE_LOST, R686: Loss of REFCLK_LANE moves the safety core to its oscillator, runs the flush without step 5 and ends in a full reset. -/
  | refclkLaneLost
  /-- REFCLK_PCIE_LOST, R686: Loss of REFCLK_PCIE takes the PCIe link down and ends every PCIe session. -/
  | refclkPcieLost
  /-- SAFETY_WATCHDOG_EXPIRY, R624: 10 ms without a safety-core kick causes a full reset. -/
  | safetyWatchdogExpiry
  /-- PATROL_SCRUB, R393: A patrol-scrub read of one 64-byte burst runs at rank 15. -/
  | patrolScrub
  /-- FURZE_WINDOW, R397: Every 32 ms a new refresh window clears the Furze tables and throttles. -/
  | furzeWindow
  /-- LSA_TIMER, R492: Once per second, or on a neighbour-set change, an addressed hub floods its LSA. -/
  | lsaTimer
  /-- ADDR_REQ_RETRY, R489: Every 10 s an UNADDRESSED hub repeats ADDR_REQ. -/
  | addrReqRetry
  /-- HOLDOVER_LIMIT_REACHED, R295: A holdover root whose error bound passes the limit announces its reference-grade CLASS. -/
  | holdoverLimitReached
  /-- PPS_OUT_PULSE_END, R286: At the end of the pulse width PPS_OUT falls. -/
  | ppsOutPulseEnd
  /-- SEARCH_TIMEOUT, R524: A member still in SEARCH at its timeout enters SOLO and starts streams. -/
  | searchTimeout
  /-- SWAP_HOLD_EXPIRY, R531: Under AUTO, a preferred standby healthy for the hold time proposes a SWAP. -/
  | swapHoldExpiry
  /-- LIVE_UPDATE_RESET, R532: After its follower current has ramped to zero over 32 swaths, the standby resets into its new image. -/
  | liveUpdateReset
  /-- VF_ENABLE_CLEAR, R538: Clearing VF Enable ends every VF session. -/
  | vfEnableClear
  /-- HOT_RESET, R538: A hot reset ends every PCIe session. -/
  | hotReset
  /-- PCIE_LINK_DOWN, R538: A PCIe link down ends every PCIe session. -/
  | pcieLinkDown
  /-- JTAG_TRST_N_ASSERT, R681: JTAG_TRST_N low resets the TAP controller at once. -/
  | jtagTrstNAssert
  deriving DecidableEq, Repr

end Sys2Proof
end

