-- ==== Sys2Proof/Config.lean ====
section
/-! DEFINITION. What one part fixes (fuses, factory data) and the values that the spec leaves open. An `opaque`
constant has no body: no proof can see its value (notes/assumptions/2.md lists each). -/

namespace Sys2Proof.Config

/-- Measurement-clock cycles in one swath (R22). -/
def swathCycles : Nat := 187500

/-- Measurement-clock cycles in one TT second (R272). -/
def secCycles : Nat := 1500000000

/-- Swaths in one TT second (R22). -/
def swathsPerSec : Nat := 8000

/-- ID_REVISION.GRADE, fused (14): true for the screened grade UMH-768-CH. -/
opaque gradeHigh : Bool

/-- ID_UID, fused (14, R488). -/
opaque uid : BitVec 64

/-- R550: PCIe requester ID of the accesses that a function gets, which the host's bus enumeration fixes. -/
opaque requesterId : Nat → BitVec 16

/-- PAIR_PROTO of a hub before an image has booted (R512); the image header gives it afterwards. -/
opaque pairProto : Nat

/-- R119: factory set of trims of each modulator, in the tile fuses. -/
opaque factorySet : Nat → List Int

/-- R381: jobs that the job engine's queue holds; no rule states its depth. -/
opaque jobDepth : Nat

/-- R120: agreement of two proposed sets in 1/256 dBFS: the power of the difference of the DAC error sequences that they predict
for a histogram of codes (counts of codes 0 to 30); no rule gives the sequence that a set predicts. -/
opaque agreement : List Int → List Int → List Nat → Int

/-- R128: the partner's answer to a standby member that asks to interrupt a channel; the number of a draw. -/
opaque agrees : Nat → Bool

/-- R643: severity of an entry of a code; no rule gives it. -/
opaque severity : Nat → Fin 5

/-- R282: the PI servo's gains; the rule gives the bandwidth only. F requested from the offset in 1/256 ns, the
integral and the bandwidth in mHz. -/
opaque servo : Int → Int → Nat → Int

/-- R282: the integral of the servo after a pass. -/
opaque servoIntegral : Int → Int → Nat → Int

/-- R81: measured current of a driver in µA, which the load makes; the number of a draw and the group. -/
opaque loadUa : Nat → Nat → Nat

/-- R81: measured sense voltage of a driver in mV; the number of a draw and the group. -/
opaque senseMv : Nat → Nat → Nat

/-- R463: bits compared and errors found by a checker since its last lock, which what it receives makes; the number of a draw. -/
opaque prbsSeen : Nat → Nat × Nat

/-- R278: INC that firmware chooses in FREE mode; R278 bounds it. -/
opaque freeInc : Int → BitVec 48

/-- R681: whether a RESET_N pulse of 100 ns to 1 µs resets the hub; the draw's number and the width in ns. -/
opaque shortReset : Nat → Nat → Bool

/-- R33: whether a counter write less than 2 µs before a boundary takes effect at that boundary. -/
opaque lateWrite : Nat → Bool

/-- R630: VALUE of a sensor whose nominal value the spec does not state, from its code. -/
opaque sensorScale : Nat → Int → Int

/-- R511: the digest of the mirrored configuration, whose form no rule states; the number of a draw. -/
opaque digest : Nat → Nat

/-- R419: worst-case writes of all tach (0x6), event (0x7), housekeeping (0x8) or tussock (0x5) rings together in bytes
per second, by kind; no rule states the rate of their items. -/
opaque otherLoad : Nat → Nat

/-- Code of a journal entry that a rule orders and neither R644 nor R645 lists: 0 the SRAM error of R613, 1 the bound of
R536, 2 the discarded stage of R585. -/
opaque entryCode : Nat → BitVec 16

/-- R532, R681: cause code of the reset of a live update, which the table of R681 does not list. -/
opaque updateCause : Nat

/-- A number the firmware draws where a rule leaves the choice to it; the draw's number. -/
opaque draw : Nat → Nat

end Sys2Proof.Config
end

