-- ==== Sys2Proof/Machine/Bits.lean ====
section
/-! DEFINITION. Byte layouts (R12), the CRCs of R438 of 11 and R470 of 12, and the integer helpers of the filters. -/

namespace Sys2Proof.Machine

/-- The low n bytes of a number, lowest first (R12). -/
def leBytes : Nat → Nat → List Byte
  | 0, _ => []
  | n + 1, v => BitVec.ofNat 8 v :: leBytes n (v / 256)

/-- The number that little-endian bytes stand for (R12). -/
def ofLe : List Byte → Nat
  | [] => 0
  | b :: r => b.toNat + 256 * ofLe r

/-- A signed number as n little-endian bytes, two's complement. -/
def leInt (n : Nat) (v : Int) : List Byte := leBytes n (v % (2 ^ (8 * n) : Int)).toNat

/-- The value of a w-bit two's-complement field. -/
def signExt (w v : Nat) : Int :=
  let u := v % 2 ^ w
  if u < 2 ^ (w - 1) then (u : Int) else (u : Int) - 2 ^ w

/-- A signed value as a 64-bit field (R574: sign-extended). -/
def s64 (v : Int) : BitVec 64 := BitVec.ofInt 64 v

/-- A number as an unsigned 64-bit field. -/
def u64 (v : Nat) : BitVec 64 := BitVec.ofNat 64 v

/-- One bit through the reflected CRC-32C register. -/
def crc32Step : Nat → BitVec 32 → BitVec 32
  | 0, c => c
  | n + 1, c => crc32Step n (if c.getLsbD 0 then (c >>> 1) ^^^ 0x82F63B78#32 else c >>> 1)

/-- The CRC-32C register after some bytes. -/
def crc32Run (c : BitVec 32) : List Byte → BitVec 32
  | [] => c
  | b :: r => crc32Run (crc32Step 8 (c ^^^ b.setWidth 32)) r

/-- CRC-32C: Castagnoli, reflected, initial value and final exclusive-or 0xFFFF_FFFF (R470 of 12). -/
def crc32c (bs : List Byte) : BitVec 32 := crc32Run 0xFFFFFFFF#32 bs ^^^ 0xFFFFFFFF#32

/-- One bit through the CRC-8 register, most significant bit first. -/
def crc8Step : Nat → Byte → Byte
  | 0, c => c
  | n + 1, c => crc8Step n (if c.getLsbD 7 then (c <<< 1) ^^^ 0x07#8 else c <<< 1)

/-- CRC-8 of a control block: polynomial 0x07, initial value 0xFF, no final inversion (R438 of 11). -/
def crc8 (bs : List Byte) : Byte := bs.foldl (fun c b => crc8Step 8 (c ^^^ b)) 0xFF#8

/-- Clamp to a range. -/
def clampI (lo hi v : Int) : Int := if v < lo then lo else if hi < v then hi else v

/-- Clamp to the s32 bounds (TIME_OFFSET). -/
def clamp32 (v : Int) : Int := clampI (-2147483648) 2147483647 v

/-- Ceiling division. -/
def ceilDiv (a b : Nat) : Nat := (a + b - 1) / b

/-- Round up to a multiple. -/
def roundUp (a b : Nat) : Nat := ceilDiv a b * b

end Sys2Proof.Machine
end

