-- ==== Sys2Proof/Machine/Parts/Clover.lean ====
section
/-! DEFINITION. State of the clover pair (13 of the spec). -/

namespace Sys2Proof.Machine

/-- A fire of a standby member: unit, instant, place (stream key, sample, fraction), and the cross-trigger that fired it. -/
structure OwnFire where
  unit  : Nat := 0
  at_   : Inst := 0
  place : Option (Nat × Nat × Nat) := none
  cross : Option XTrig := none
  deriving DecidableEq, Repr, Inhabited

/-- The pair as one member holds it. -/
structure Clover where
  state   : PairState := .unpaired
  role    : PairRole := .none
  /-- R509: 0 none, 1 ADDRESS, 2 POPULATION, 3 VERSION. -/
  cause   : Nat := 0
  /-- R524, R531: settings in seconds; return policy COMMAND. -/
  search  : Nat := 10
  hold    : Nat := 10
  command : Bool := false
  /-- R512: HB_SEQ of the next heartbeat; the newest heartbeat received and its SEND instant. -/
  hbSeq   : Nat := 0
  last    : Option HeartbeatMsg := none
  lastAt  : Inst := 0
  /-- R514: the timer has been extended for this loss. -/
  extended : Bool := false
  /-- R517: sequence of the next decision sent; next decision expected; decisions sent and not yet covered. -/
  decSeq  : Nat := 0
  decNext : Nat := 0
  sent    : List (Nat × Decision) := []
  /-- R517: sequence of the next decision that leaves in a DECISION frame. -/
  decOut  : Nat := 0
  /-- R512: instant up to which every trigger has been decided, as received. -/
  decided : Inst := 0
  /-- R529: consecutive heartbeats that show the active member unfit. -/
  unfit   : Nat := 0
  /-- R525, R526: the partner's UID, the join second. -/
  partner : Nat := 0
  joinSec : Option Nat := none
  joinOk  : Bool := false
  /-- R510: the pair's address that this member will adopt. -/
  adopt   : Option Nat := none
  /-- R531: global swath index of the proposed exchange, confirmed, cause of R645. -/
  swapAt  : Option Nat := none
  swapOk  : Bool := false
  swapWhy : Nat := 0
  /-- R532: UPDATE set; it is set at the next boundary; swaths of the current ramp done. -/
  update  : Bool := false
  updNext : Bool := false
  ramp    : Nat := 0
  /-- R517: decisions on interrupted applies received from the active member: channel and swath. -/
  noStop  : List (Nat × Nat) := []
  /-- R519, R527: own fires that wait for the active member's decision. -/
  fires   : List OwnFire := []
  /-- R531: boundary before which fires are still this member's, after it gave up the active role. -/
  ceded   : Inst := 0
  /-- R524: the search timeout has passed. -/
  timedOut : Bool := false
  /-- R526: next sequence numbers as they will stand at S_j, by stream key. -/
  positions : List StreamPos := []
  /-- R520: commands accepted here that wait for the partner's status. -/
  mirrors : List Instr := []
  /-- R520: commands accepted while not formed, counted for the digest. -/
  marked  : Nat := 0
  /-- R530: tussock sequence range admitted while SOLO, per stream. -/
  soloFrom : Tab (Option Nat) := []
  /-- The mirrored configuration's digest is that of the partner (outcome of R511). -/
  digest  : Nat := 0
  deriving DecidableEq, Repr, Inhabited

end Sys2Proof.Machine
end

