-- ==== Sys2Proof/Machine/Parts/Reduce.lean ====
section
/-! DEFINITION. State of the tach inputs, shaft groups, statistics, trigger units, tussocks, cross-triggers and field
pins (05 and 06 of the spec). -/

namespace Sys2Proof.Machine

/-- The marker-code decoder of a tach input (R208 to R210 of 05). -/
structure Decoder where
  /-- Leading edge of the start stripe. -/
  start   : Inst := 0
  /-- Time of one u at the speed of the preceding zero; 0 until the start stripe has given it (no zero yet). -/
  unit    : Nat := 0
  /-- Start of the element being measured, and whether it is a stripe. -/
  elemAt  : Inst := 0
  stripe  : Bool := true
  /-- Stripes completed (the start stripe included) and the bits read. -/
  stripes : Nat := 0
  bits    : Nat := 0
  deriving DecidableEq, Repr, Inhabited

/-- Settings of a tach input under which a pulse opened before they were changed (R226). -/
structure TachSet where
  falling : Bool := false
  glitch  : Nat := 100
  codeOn  : Bool := false
  codeU   : Nat := 16
  expect  : Nat := 128
  pin     : Option Nat := none
  deriving DecidableEq, Repr, Inhabited

/-- One tach input (R193 of 05). -/
structure Tach where
  /-- In 5 mV steps: threshold 0.000, hysteresis 0.100. -/
  threshold  : Int := 0
  hysteresis : Nat := 20
  falling    : Bool := false
  /-- Glitch filter W in 10 ns steps, default 1,000 ns. -/
  glitch     : Nat := 100
  codeOn     : Bool := false
  codeU      : Nat := 16
  expect     : Nat := 128
  pin        : Option Nat := none
  /-- R194: comparator output. DESIGN CHOICE 1: low. -/
  level      : Bool := false
  /-- R195: level of the last confirmed pulse, open pulse (opening instant), removed pulse since the last confirmed transition. -/
  confirmed  : Bool := false
  opened     : Option Inst := none
  glitchAdj  : Bool := false
  /-- R226: the settings that hold for the open pulse, where they were changed after it opened. -/
  before     : Option TachSet := none
  /-- R206: confirmed active edges since the tach stream started. -/
  edgeCount  : Nat := 0
  /-- R208 to R210: the decoder, the identity learned for ANY, its run, flooded. -/
  decoder    : Option Decoder := none
  lastId     : Nat := 128
  idRun      : Nat := 0
  learned    : Option Nat := none
  flooded    : Bool := false
  /-- R206, R211: entries of the edges since a start stripe whose code is still being read: instant, glitch-adjacent, edge count. -/
  waiting    : List (Inst × Bool × Nat) := []
  deriving DecidableEq, Repr, Inhabited

/-- A labelled edge of a shaft group (R204 of 05): its angle in 2^-32 of a tooth position (so that R + k/P is exact for
every P) and its instant. -/
structure Edge where
  angle : Int := 0
  t     : Inst := 0
  deriving DecidableEq, Repr, Inhabited

/-- A span of angle and the rule that gives its instants: the quadratic of R204 through labelled edges (newest first), or
the prediction of R219 from them. -/
structure Seg where
  start : Int := 0
  /-- One past the last angle; none while the prediction runs. -/
  stop  : Option Int := none
  edges : List Edge := []
  pred  : Bool := false
  hold  : Bool := false
  deriving DecidableEq, Repr, Inhabited

/-- One shaft group (R199 and R201 of 05). Speeds are in 2^-16 rev/s. -/
structure Shaft where
  /-- R199: the default source is tach input n of the group's own number; `none` says so. A GSI of kind 0x6 is above 31. -/
  source   : Option Nat := none
  teeth    : Nat := 1
  /-- 0 EDGE, 1 GAP, 2 CODE, 3 INPUT, with G or the second input. -/
  zeroKind : Nat := 0
  gapOrIn  : Nat := 0
  /-- R199: required, so none until set. -/
  fmin     : Option Nat := none
  fmax     : Option Nat := none
  tol      : Nat := 10
  command  : Bool := false
  allow    : Nat := 0
  on       : Bool := false
  state    : ShaftState := .off
  speed    : Nat := 0
  revs     : Nat := 0
  /-- R202: consecutive good revolutions; the revolution in progress is good so far; edges in it. -/
  good     : Nat := 0
  okRev    : Bool := false
  edges    : Nat := 0
  /-- Instants of the edges since the last zero, newest first, and the last interval. -/
  lastT    : Option Inst := none
  lastGap  : Nat := 0
  /-- R200 INPUT: the second input has fired since the last zero. -/
  zeroArm  : Bool := false
  /-- R204: labelled edges, newest first (three are kept), and the spans of angle with their rules (65,536 are kept). -/
  labels   : List Edge := []
  segs     : List Seg := []
  /-- R204: tooth position of the last accepted edge. -/
  tooth    : Nat := 0
  /-- R222: revolutions predicted since the entry to HOLDOVER. -/
  predRevs : Nat := 0
  /-- R221: e of the blend revolution (unit of the angles), and its R. -/
  blend    : Option Int := none
  blendRev : Nat := 0
  /-- R203: end of the window in which the last edge was accepted. -/
  winEnd   : Inst := 0
  /-- R198: the revolution in progress is marked missing already. -/
  marked   : Bool := false
  /-- R205, R236: instant of the last zero. -/
  zeroAt   : Option Inst := none
  /-- R222: the change to time mode waits for the boundary; R223: the return waits for it. -/
  fellBack : Bool := false
  returnAt : Bool := false
  /-- R223 COMMAND: three good revolutions counted in TIME. -/
  mayReturn : Bool := false
  deriving DecidableEq, Repr, Inhabited

/-- A sample as the statistics engine holds it: instant, value, flags. -/
structure StatSamp where
  t  : Inst := 0
  y  : Int := 0
  fl : BitVec 8 := 0
  deriving DecidableEq, Repr, Inhabited

/-- A statistics interval (R230 to R234 of 06). -/
structure Interval where
  start   : Inst := 0
  count   : Nat := 0
  min     : Int := 0
  max     : Int := 0
  sum     : Int := 0
  sumsq   : Nat := 0
  flags   : BitVec 8 := 0
  flagged : Nat := 0
  part    : Bool := false
  /-- Instant at which a SWATH interval ends, or the zero that ended a REV interval. -/
  stop    : Option Inst := none
  /-- R233: the interval is of kind REV. R231: its samples, newest first, until the zero that ends it is known. -/
  isRev   : Bool := false
  held    : List StatSamp := []
  /-- R234: the time within which a sample is available, and the sample period (0 in angle mode), under the settings that the interval
  began with. -/
  wait    : Nat := 0
  period  : Nat := 0
  /-- R231, R236: its shaft group and N; a change at a boundary has cut it, and a zero from before that may still divide it. -/
  grp     : Nat := 0
  len     : Nat := 1
  cut     : Bool := false
  deriving DecidableEq, Repr, Inhabited

/-- One statistics definition (R229 of 06). -/
structure StatDef where
  on      : Bool := false
  rev     : Bool := false
  len     : Nat := 8000
  group   : Option Nat := none
  current : Option Interval := none
  /-- Intervals that have ended and wait for the boundary that closes them (R234). -/
  ended   : List Interval := []
  /-- R234: instant of the last sample of the chain output. R237: no REV interval opens before the first zero after TIME. -/
  seen    : Option Inst := none
  fell    : Bool := false
  /-- R231, R237: samples while no REV interval is open, newest first, of the time that a zero's confirmation takes. -/
  loose   : List StatSamp := []
  deriving DecidableEq, Repr, Inhabited

/-- A trigger source (R239 of 06). -/
inductive TrigSource where
  | none
  | chain (gsi : Nat)
  | rev (group : Nat)
  | pin (pin : Nat) (falling : Bool)
  | cross (cls : Nat)
  | time (t0 : TT) (period : Nat)
  deriving DecidableEq, Repr, Inhabited

/-- Hold-off of R238 and R246 of 06. -/
inductive HoldOff where
  | none | time (ns : Nat) | count (n : Nat)
  deriving DecidableEq, Repr, Inhabited

/-- The parts of a trigger source as TRIGGER_SET last named them (R238, R239): kind CHAIN 0, REV 1, PIN 2, CROSS 3, TIME 4,
none before it is set; selector; the four words of T0; the period. -/
structure SrcParts where
  kind : Option Nat := none
  sel  : Nat := 0
  w0   : Nat := 0
  w1   : Nat := 0
  w2   : Nat := 0
  w3   : Nat := 0
  per  : Nat := 0
  deriving DecidableEq, Repr, Inhabited

/-- One sample as a trigger unit remembers it: sequence number, value, instant. -/
structure TrigSamp where
  seq : Nat := 0
  y   : Int := 0
  t   : Inst := 0
  deriving DecidableEq, Repr, Inhabited

/-- A fire that waits for x[n+1] (R241 and R242 of 06): the direction that crossed. -/
structure Crossing where
  falling : Bool := false
  deriving DecidableEq, Repr, Inhabited

/-- The settings of a trigger unit (R238). -/
structure UnitSet where
  on         : Bool := false
  source     : TrigSource := .none
  level      : Int := 0
  hysteresis : Nat := 4096
  dir        : Nat := 0
  mask       : BitVec 8 := 4
  holdOff    : HoldOff := .none
  src        : SrcParts := {}
  holdQ      : Nat := 0
  actions    : BitVec 5 := 16
  head       : Option Nat := none
  xcls       : Option Nat := none
  pinNum     : Option Nat := none
  pinWidth   : Option Nat := none
  jumpUnit   : Option Nat := none
  jumpDesc   : Option Nat := none
  jumpIn     : Option (Nat × Bool) := none
  deriving DecidableEq, Repr, Inhabited

/-- What still governs the events of a trigger unit before the boundary at which its settings changed (R248). -/
structure Before where
  set      : UnitSet := {}
  at_      : Inst := 0
  /-- The unit has been enabled or disabled: its state for those events. -/
  turned   : Bool := false
  state    : TrigState := .off
  /-- What the detector watches has changed: its primes, samples and crossing for those events. -/
  own      : Bool := false
  primeUp  : Bool := false
  primeDn  : Bool := false
  samples  : List TrigSamp := []
  crossing : Option Crossing := none
  deriving DecidableEq, Repr, Inhabited

/-- One trigger unit (R238, R244 to R254 of 06). -/
structure TrigUnit where
  on         : Bool := false
  source     : TrigSource := .none
  level      : Int := 0
  hysteresis : Nat := 4096
  /-- 0 RISING, 1 FALLING, 2 EITHER. -/
  dir        : Nat := 0
  mask       : BitVec 8 := 4
  holdOff    : HoldOff := .none
  /-- Source parts and hold-off quantity as last named. -/
  src        : SrcParts := {}
  holdQ      : Nat := 0
  /-- Bits CAPTURE, CROSS, PIN, JUMP, EVENT; default EVENT. -/
  actions    : BitVec 5 := 16
  head       : Option Nat := none
  xcls       : Option Nat := none
  pinNum     : Option Nat := none
  pinWidth   : Option Nat := none
  jumpUnit   : Option Nat := none
  jumpDesc   : Option Nat := none
  /-- Jump input: pin and whether the edge is FALLING. -/
  jumpIn     : Option (Nat × Bool) := none
  state      : TrigState := .off
  primeUp    : Bool := false
  primeDn    : Bool := false
  /-- x[n], x[n-1], x[n-2], newest first. -/
  samples    : List TrigSamp := []
  crossing   : Option Crossing := none
  /-- R246: instant of the last fire; events since the last re-arm. -/
  lastFire   : Option Inst := none
  sinceArm   : Nat := 0
  /-- R252: current descriptor, and the registered jump request's target. -/
  current    : Option Nat := none
  jumpReq    : Option Nat := none
  /-- R244: a fire without an admitted capture re-arms; an admitted set is being written. -/
  rearming   : Bool := false
  inFlight   : Bool := false
  /-- R244: sets that were being written when the unit was disabled. -/
  orphans    : Nat := 0
  /-- R239 TIME: number of events that are past. -/
  timeK      : Nat := 0
  /-- R248: the earlier settings, newest first, each for the events before its boundary (eight are kept). -/
  before     : List Before := []
  deriving DecidableEq, Repr, Inhabited

/-- A tussock (R256 to R259 of 06). -/
structure Tussock where
  gsi     : Nat := 0
  source  : Nat := 0
  number  : Nat := 0
  seq     : Nat := 0
  unit    : Nat := 0
  desc    : Nat := 0
  trig    : Inst := 0
  first   : Nat := 0
  pre     : Nat := 0
  post    : Nat := 1
  frac    : Nat := 0
  pack    : Bool := false
  /-- R257: 0 IN_PROGRESS, 1 COMPLETE, 2 COMPLETE_FLAGGED, 3 CUT_BY_RESET. -/
  state   : Nat := 0
  bytes   : Nat := 0
  flags   : BitVec 8 := 0
  missing : Nat := 0
  /-- R258: samples that a poisoned read of the ring has lost. -/
  holes   : List Nat := []
  xorigin : Nat := 0
  xcount  : Nat := 0
  published : Bool := false
  /-- R518: decision that admitted it. -/
  decSeq  : Nat := 0
  /-- R256, R270: QUALITY of the trigger's TT. -/
  quality : BitVec 16 := 0
  /-- R260: instant at which the copy of its set is booked to finish. -/
  finish  : Inst := 0
  /-- R255: the trigger sample and the fraction have been found among the samples. -/
  placed  : Bool := true
  /-- R258: the samples copied. -/
  data    : List Byte := []
  deriving DecidableEq, Repr, Inhabited

/-- An entry of the refusal log (R261 of 06). -/
structure Refusal1 where
  unit   : Nat := 0
  trig   : Inst := 0
  reason : Nat := 0
  desc   : Nat := 0
  /-- R270: QUALITY of the trigger's TT. -/
  quality : BitVec 16 := 0
  deriving DecidableEq, Repr, Inhabited

/-- What a unit refused during the swath (R261 of 06): count, first and last trigger instant. -/
structure RefTally where
  count : Nat := 0
  first : Inst := 0
  last  : Inst := 0
  deriving DecidableEq, Repr, Inhabited

/-- A pair of the cross-trigger duplicate table (R263 of 06). -/
structure XtPair where
  origin : Nat := 0
  count  : Nat := 0
  since  : Inst := 0
  deriving DecidableEq, Repr, Inhabited

/-- One field pin (R197, R243, R284). -/
structure FieldPin where
  /-- The hub drives the pin; after reset it is an input (R666). -/
  driven : Bool := false
  level  : Bool := false
  /-- End of the PIN pulse in progress. -/
  pulse  : Option Inst := none
  deriving DecidableEq, Repr, Inhabited

/-- A fire whose CAPTURE waits for admission control, which judges fires in order of trigger instant and unit (R260): its place in the
stream that fired, the cross-trigger that it answers or originated, and the instant of the fire. -/
structure Shot where
  unit  : Nat := 0
  trig  : Inst := 0
  place : Option (Nat × Nat × Nat × Bool) := none
  cross : Option XTrig := none
  at_   : Inst := 0
  deriving DecidableEq, Repr, Inhabited

/-- The reduction engines. -/
structure Reduce where
  tachs    : Tab Tach := []
  shafts   : Tab Shaft := []
  stats    : Tab StatDef := []
  units    : Tab TrigUnit := []
  descs    : Tab (Option Descriptor) := []
  /-- R248 of 15/R540: owner of each descriptor. -/
  descOwner : Tab Nat := []
  tussocks : List Tussock := []
  /-- R259: next NUMBER, modulo 2^32. -/
  number   : Nat := 0
  /-- R260: C in GB/s and Gd in µs; the horizon. -/
  rateC    : Nat := 40
  guard    : Nat := 1000
  horizon  : Inst := 0
  /-- R260: fires that wait for admission control. -/
  shots    : List Shot := []
  refusals : List Refusal1 := []
  tally    : Tab RefTally := []
  /-- R262 to R264: next count, last origination. -/
  xtCount  : Nat := 0
  xtLast   : Option Inst := none
  pairs    : List XtPair := []
  pins     : Tab FieldPin := []
  deriving DecidableEq, Repr, Inhabited

end Sys2Proof.Machine
end

