-- ==== Sys2Proof/Machine/Parts/Front.lean ====
section
/-! DEFINITION. State of the analogue front end, the modulators, the spares, the tile links and the chains
(02, 03, 04 of the spec). The default of each field is its value after reset; `DESIGN CHOICE 1` marks a value
that the spec does not give (notes/assumptions/1.md). -/

namespace Sys2Proof.Machine

/-- A cover sequence of a channel (R126, R112 to R114 of 03), from the claim on its spare to the handback. -/
structure Cover where
  spare     : Nat := 768
  /-- R115: the spare is claimed and enters SHADOW at a boundary from which it is to be had; then it has entered. -/
  entered   : Bool := false
  /-- Global swath index of the boundary at which the spare entered SHADOW. -/
  start     : Nat := 0
  /-- Takeover has happened and the primary is stopped or shadows the spare. -/
  serving   : Bool := false
  /-- The primary stands stopped to load its set (R126 step 4). -/
  stopped   : Bool := false
  /-- R113: global swath index of the boundary for which the takeover is scheduled. -/
  takeAt    : Option Nat := none
  /-- R118: matching gain and offset found for the incoming modulator, which apply at the switch. -/
  trim      : Option (Nat × Int) := none
  /-- Global swath index of the boundary from which the primary runs on its new set (R126 step 6). -/
  ranFrom   : Nat := 0
  /-- The channel is to be handed back at the next boundary (R113). -/
  handback  : Bool := false
  /-- R134: the cover ends in a permanent remap, with the failure criterion of R133; without valid codes from the primary the
  spare takes its place as it enters. -/
  remap     : Option Nat := none
  direct    : Bool := false
  /-- Ordered by SPARE_SHADOW (R115), not by a calibration, with its length in swaths; boundary at which it ends. -/
  ordered   : Bool := false
  len       : Option Nat := none
  endAt     : Option Nat := none
  /-- Suspended by a reference fault or a link-group loss (R132); so it was while the primary stood stopped. -/
  suspended : Bool := false
  late      : Bool := false
  /-- R116: the spare has failed; the channel is handed back at the next boundary, or at the end of the primary's stop. -/
  lost      : Bool := false
  /-- R115: the spare is reclaimed for a demand of higher rank. -/
  reclaimed : Bool := false
  /-- R114: a suspect spare that serves until this cover's spare takes over from it. -/
  from_     : Option Nat := none
  deriving DecidableEq, Repr, Inhabited

/-- An interval of instants whose samples do not carry their own values: 0 with SUB (R64, R135), or the last value before it
with SUB (R116, R134), and XCAL too in an interrupted stop (R130). Without a stop it is still open. -/
structure Patch where
  start : Inst := 0
  stop  : Option Inst := none
  zero  : Bool := false
  xcal  : Bool := false
  deriving DecidableEq, Repr, Inhabited

/-- One channel (R70 of 02 and R138 of 03). -/
structure Channel where
  /-- R70: mode, reset DC. -/
  mode        : ChanMode := .dc
  /-- R56, R70: range code, reset 0. -/
  range       : Nat := 0
  /-- R70: DC offset in 10 mV steps, reset 0 V. -/
  dcOffset    : Int := 0
  /-- R62, R70: servo corner 0, 1, 2 for 0.05, 0.02, 0.01 Hz, reset 0.05 Hz. -/
  corner      : Nat := 0
  /-- R66, R70: thresholds in 10 mV steps, reset 1.00, 7.00, 16.00, 20.00 V. -/
  shortMax    : Int := 100
  lowMax      : Int := 700
  highMin     : Int := 1600
  openMin     : Int := 2000
  /-- R83, R70: ratiometric, reset off. -/
  ratiometric : Bool := false
  /-- R85: boundaries at which it changed, newest first, with what it was before (eight are kept). -/
  ratioWas    : List (Nat × Bool) := []
  /-- R128: interrupted apply allowed, default not allowed. -/
  interruptOk : Bool := false
  /-- R125: calibration interval in seconds, default 3,600. -/
  calInterval : Nat := 3600
  /-- R66, R67: reported bias state. DESIGN CHOICE 1: OK. -/
  bias        : Bias := .ok
  /-- R67: the state the classification gives and for how many consecutive swaths. -/
  biasClass   : Bias := .ok
  biasRun     : Nat := 0
  /-- R62: bias estimate in mV. DESIGN CHOICE 1. -/
  vb          : Int := 0
  /-- R68, R72: a fast acquisition starts at the next boundary. -/
  acqPending  : Bool := false
  /-- R64: a fast acquisition runs, with the corner 5 Hz, and its swaths left. -/
  acquiring   : Bool := false
  acqLeft     : Nat := 0
  /-- R68: the servo holds the offset DAC. -/
  hold        : Bool := false
  /-- R59, R62, R72: value the offset DAC subtracts, in 2^-20 mV. -/
  dac         : Int := 0
  /-- R71: cycle count up to which the gain stage settles after a range change. -/
  gainTo      : Nat := 0
  /-- R52: AIN_P and AIN_N outside the operating span. -/
  outP        : Bool := false
  outN        : Bool := false
  /-- R138: calibration state. -/
  cal         : CalState := .ok
  /-- R121, R122: cause of a DEGRADED mark, 0 none, 1 DISAGREE, 2 VOID_INPUT; a REMAPPED channel keeps its state (log entry
  145). -/
  degraded    : Nat := 0
  /-- R133: consecutive scheduled calibrations that ended DEGRADED DISAGREE; a spare that shadowed the channel passed its own
  calibration in that time. -/
  disagrees   : Nat := 0
  shadowPass  : Bool := false
  /-- R133, R135: criterion by which the primary of a FAILED channel failed, and whether it gives valid codes. -/
  failure     : Option (Nat × Bool) := none
  /-- R125: global swath index of the last apply or check; tile temperature at the last apply, in m°C. R122: global swath index
  at which an attempt was given up. -/
  calAt       : Nat := 0
  calTemp     : Int := 0
  calTried    : Option Nat := none
  /-- R125: an attempt is scheduled or running. -/
  calDue      : Bool := false
  /-- R128: a proposed set waits for a free spare. -/
  setWaiting  : Bool := false
  /-- R112, R126: the spare that shadows or serves, with the sequence's place. -/
  cover       : Option Cover := none
  /-- R128: boundary for which an interrupted stop is proposed; R129: global swath index B of the interrupted stop in progress,
  and of the last one. -/
  stopAsk     : Option Nat := none
  stopB       : Option Nat := none
  lastStop    : Option Nat := none
  /-- R64, R116, R130, R134: intervals whose samples are held or 0, newest first (eight are kept). -/
  patches     : List Patch := []
  /-- R591: the tile was reset; the channel carries SUB until it has recalibrated. -/
  resetSub    : Bool := false
  /-- R113: the changes of source, newest first (eight are kept): global swath index of the boundary, and the spare
  whose chains are the source from its first instant on, none for the primary. -/
  switches    : List (Nat × Option Nat) := []
  /-- R31, R131: cycles of the boundaries at which a setting of the channel changed, newest first (eight are kept). -/
  shownAt     : List Nat := []
  deriving DecidableEq, Repr, Inhabited

/-- One excitation group (R73 to R93 of 02). -/
structure Group where
  /-- R73: set-voltage code, 0 off. -/
  setCode    : Nat := 0
  /-- R76: current limit in 5 mA steps, default 20 mA. -/
  limit      : Nat := 4
  /-- R79: tolerance in 0.1 % steps, default 1.0 %. -/
  tol        : Nat := 10
  /-- R15: set-voltage code, limit and tolerance that the driver holds while its tile's side-band has failed. -/
  stuck      : Option (Nat × Nat × Nat) := none
  /-- R81: state; OFF because EXC_OUT is high-impedance after reset (R666). -/
  state      : ExcState := .off
  /-- R88, R89: voltage regulation, or current follower in a formed pair. -/
  role       : ExcRole := .regulate
  /-- R78: in limit now; R82 keeps the 10 ms count when the set voltage changes. -/
  inLimit    : Bool := false
  /-- R78: retries made since the group was set; stays off after 10. -/
  retries    : Nat := 0
  staysOff   : Bool := false
  /-- R79: the window comparator flags. -/
  flagged    : Bool := false
  /-- R80: the driver senses locally; the state reported is LIMIT while it is also in limit (log entry 138). -/
  sense      : Bool := false
  /-- R77: the present swath has been within tolerance so far; consecutive whole swaths within it, counted to 32. -/
  swathOk    : Bool := true
  okSwaths   : Nat := 0
  /-- R77: EXT set since the last change of set voltage or takeover. -/
  ext        : Bool := false
  /-- R81: reported voltage in mV and current in µA, measured at every boundary. DESIGN CHOICE 1. -/
  sensedMv   : Nat := 0
  currentUa  : Nat := 0
  /-- R85: intervals in which the driver does not regulate, newest first (eight are kept): each begins as the driver
  enters FAULT or OFF and ends as it regulates again. It is OFF from reset on. -/
  deadSpans  : List (Inst × Option Inst) := [(0, none)]
  /-- R88: follower current in µA; the entry of EXC_FOLLOW_LIMIT is written once. -/
  followUa   : Nat := 0
  followOver : Bool := false
  deriving DecidableEq, Repr, Inhabited

/-- One wire group of a tile link (R106 to R109 of 03). -/
structure LinkGroup where
  /-- Wire whose bits travel on the repair wire. -/
  repair    : Option Nat := none
  /-- Failed data wires that the repair wire does not cover (R107). -/
  uncovered : List Nat := []
  /-- The repair wire itself failed training. -/
  repairBad : Bool := false
  /-- R109: forwarded clock lost. -/
  clockLost : Bool := false
  /-- R108: wire under repair; the repair wire has been clean in the present swath; whole swaths for which it has been; the
  receiver takes the wire's bits from it at the next boundary. -/
  ordered   : Option Nat := none
  cleanNow  : Bool := false
  clean     : Nat := 0
  takeNext  : Bool := false
  deriving DecidableEq, Repr, Inhabited

/-- One tile (R98, R99 of 03; R75 of 02). -/
structure Tile where
  /-- R98: reference buffer enabled; after reset off. -/
  refOn     : Bool := false
  /-- R98, R99: a 40 ms settling interval runs; samples carry SETL. -/
  settling  : Bool := false
  /-- R99, R672: reference fault, and its cause (1 reference, 2 supply). -/
  refFault  : Bool := false
  refCause  : Nat := 0
  /-- R99: deviation of the reference at the last comparison, in ppm. -/
  refDev    : Int := 0
  /-- R106: tile link trained; R44: modulators of the tile started. -/
  trained   : Bool := false
  started   : Bool := false
  /-- R137: the last usable spare has been lost and journalled. -/
  noSpare   : Bool := false
  /-- R126: round of CAL (9 when all are done), and its modulators that are not done yet. -/
  round     : Nat := 0
  calLeft   : List Nat := []
  /-- R15: the control side-band has failed: no setting and no reset reaches the tile. -/
  sideFail  : Bool := false
  deriving DecidableEq, Repr, Inhabited

/-- One modulator (03). The analogue trims are the 30 DAC element trims and the delay trim (R117). -/
structure Modulator where
  /-- R44, R117, R129: the loop runs. -/
  running   : Bool := false
  /-- R101: consecutive cycles at +15 or -15. -/
  overRun   : Nat := 0
  /-- R172: analogue flags of the last five cycles with a code, newest first, which the codes four cycles later carry. -/
  line      : List (Nat × BitVec 8) := []
  /-- R102: integrators held cleared. -/
  resetting : Bool := false
  /-- R133: last code and how many consecutive cycles it has stood. -/
  lastCode  : Nat := 0
  sameRun   : Nat := 0
  /-- R133: loop resets in the current second. -/
  resetsSec : Nat := 0
  /-- R97: element rotation. -/
  rotation  : Bool := true
  /-- R117, R119: active trims, 30 of the DAC elements and the loop delay; empty stands for the factory set of the fuses. -/
  active    : List Int := []
  /-- R119: last good set, matching gain and offset in MRAM. -/
  stored    : Option (List Int × Nat × Int) := none
  /-- R120: proposed set of the last successful attempt. -/
  proposed  : Option (List Int) := none
  /-- R118: matching gain x 2^24 and matching offset in 2^-8 LSB. DESIGN CHOICE 1: 1 and 0. -/
  gm        : Nat := 16777216
  om        : Int := 0
  /-- R117: boundary for which a stop to load the proposed set is scheduled, and at which the present stop began. -/
  loadAt    : Option Nat := none
  stopAt    : Option Nat := none
  /-- R120: global swath index at which the present estimation run began; none without an estimator. -/
  estFrom   : Option Nat := none
  /-- R122: an overload run, a poisoned code or a SETL sample has fallen in the run. -/
  dirty     : Bool := false
  /-- R120: how often each code has come in the run. -/
  codes     : Tab Nat := []
  /-- R120 to R122: first run of the attempt, failed attempts, consecutive void runs, first figure, residuals of the attempts
  (oldest first). -/
  firstRun  : Option CalRun := none
  attempts  : Nat := 0
  voids     : Nat := 0
  firstAgr  : Int := 0
  residuals : List Int := []
  /-- R138: residual, loop margin, last agreement figure; sets applied; TT of the last apply. -/
  residual  : Int := 0
  margin    : Int := 0
  agreement : Int := 0
  applied   : Nat := 0
  appliedTt : TT := {}
  /-- R133: consecutive attempts whose residual exceeded -90 dBFS; a match that failed at the end of the range of R118. -/
  badRes    : Nat := 0
  trimOut   : Bool := false
  /-- R137: its remap or failed record is cleared at the next start-up. -/
  clear     : Bool := false
  /-- R125: CAL_NOW that waits for the outcome. -/
  calTag    : Option (Nat × Nat × BitVec 32) := none
  deriving DecidableEq, Repr, Inhabited

/-- One spare (R111 of 03). -/
structure Spare where
  state   : SpareState := .free
  /-- Channel whose front end it is connected to. -/
  source  : Option Nat := none
  /-- R114: marked suspect. -/
  suspect : Bool := false
  /-- R115: channel that has claimed it for a cover. -/
  claim   : Option Nat := none
  /-- R116, R137: it has failed and is SPARE_FAILED from the next boundary on. -/
  fails   : Bool := false
  /-- R126: global swath index at which REFCHECK begins or began; the gain it found, which applies at the next boundary. -/
  refFrom : Option Nat := none
  refGain : Option Nat := none
  /-- R139: the state in which a reset found it, until firmware has journalled the change. -/
  former  : Option SpareState := none
  deriving DecidableEq, Repr, Inhabited

/-- A binding of a chain to a shaft group (R212 of 05). -/
structure Bind where
  group : Nat
  nrev  : Nat
  /-- R215: words of the delay line in DRAM. -/
  words : Nat := 0
  deriving DecidableEq, Repr, Inhabited

/-- The E1 band setting (R163 to R165 of 04). -/
structure BandSel where
  /-- 0 to 7 preset, 8 USER_EDGES, 9 USER_TAPS; reset preset 1. -/
  preset : Nat := 1
  /-- Tap L1, L3, H1, H2, H3 as 0 to 4, and the edges in Hz, for a user band. -/
  tap    : Nat := 0
  f1     : Nat := 0
  f2     : Nat := 0
  /-- USER_TAPS: tap[0] to tap[127]. -/
  taps   : List Int := []
  deriving DecidableEq, Repr, Inhabited

/-- The chain settings of one modulator (R177 of 04). Rates are in thousandths of S/s. -/
structure ChainCfg where
  lbOn   : Bool := true
  wbOn   : Bool := false
  ebOn   : Bool := false
  /-- 0, 1, 2 for 46.875, 23.4375, 11.71875 MS/s. -/
  wbRate : Nat := 0
  lbRate : Nat := 25600000
  ebRate : Nat := 12800000
  lbBind : Option Bind := none
  ebBind : Option Bind := none
  mains  : Mains := .off
  /-- H, the code of T_n and N_rev as last named (R177); DESIGN CHOICE 1 until one has been. -/
  notchH : Nat := 0
  notchT : Nat := 0
  lbNrev : Nat := 0
  ebNrev : Nat := 0
  band   : BandSel := {}
  /-- Shift of each stage in the order of R140; unlisted is the stage's default. -/
  shifts : Tab (Option Nat) := []
  deriving DecidableEq, Repr, Inhabited

/-- One word inside a chain: the index of its instant on its stage's grid, its value, its status flags (R145). -/
structure Samp where
  idx : Int := 0
  v   : Int := 0
  fl  : BitVec 8 := 0
  deriving DecidableEq, Repr, Inhabited

/-- Chain settings that a change at a boundary replaced (R178): the cycle of the boundary, the settings before it, and the stages
whose histories it cleared. -/
structure FormerCfg where
  at_   : Nat := 0
  cfg   : ChainCfg := {}
  stale : List Nat := []
  deriving DecidableEq, Repr, Inhabited

/-- The running filters of one modulator (R140 to R169 of 04). -/
structure Pipe where
  /-- History of each stage, newest first, keyed by stage. -/
  hist   : Tab (List Samp) := []
  /-- Fixed-ratio WB outputs not yet made available. -/
  wbOut  : List Samp := []
  /-- Inputs of LR and ER, newest first, indexed by input position: the delay line in angle mode (R215). -/
  lrIn   : List Samp := []
  erIn   : List Samp := []
  /-- Next grid index of LR and ER (R190; R214 in angle mode); none until the chain has been placed on its grid. -/
  lrJ    : Option Nat := none
  erJ    : Option Nat := none
  /-- R178: samples whose window spans one of these cycles carry SETL, per band LB, WB, EB (eight are kept). -/
  setlLb : List Nat := []
  setlWb : List Nat := []
  setlEb : List Nat := []
  /-- R179: cycle at which the chain was enabled; it delivers no sample whose window begins before it. -/
  fromLb : Nat := 0
  fromWb : Nat := 0
  fromEb : Nat := 0
  /-- R181: cycle of the last change of the WB rate; no WB sample of an earlier instant has the new rate. -/
  placeWb : Nat := 0
  /-- R181: the same for LB. -/
  placeLb : Nat := 0
  /-- R178: settings before the last changes, newest first (eight are kept). -/
  former  : List FormerCfg := []
  /-- R156, R157: the mains rejection under which LN's history stands. -/
  lnMains : Mains := .off
  /-- LT and LN inputs (R154, R156), newest first. -/
  ltIn   : Tab (List Samp) := []
  lnIn   : List Samp := []
  /-- R129: the last C1 output before an interrupted stop, which replaces C1's output during it. -/
  c1Hold : Int := 0
  /-- R130: the last sample word of each band outside a patch, held during it. -/
  heldLb : Int := 0
  heldWb : Int := 0
  heldEb : Int := 0
  /-- R222, R223: LB and EB run in time mode because the group is in TIME. -/
  lbFell : Bool := false
  ebFell : Bool := false
  /-- R635: holds, and R420: WB held for the budget. -/
  wbHeld : Bool := false
  ebHeld : Bool := false
  budget : Bool := false
  deriving DecidableEq, Repr, Inhabited

/-- What a band still has to deliver after it was disabled, or its rate changed, at a boundary (R180, R181, R222, R223, R228): its
samples of instants before the boundary, by the settings and filters of before. -/
structure Tail where
  band : Band := .lb
  cfg  : ChainCfg := {}
  pipe : Pipe := {}
  /-- Cycle of the boundary. -/
  stop : Nat := 0
  /-- The stream ends with it (R308), or its record closes with it (R181). -/
  ends : Bool := false
  /-- R228: the shaft group that the band was bound to, as it stood when the group started anew. -/
  shaft : Option (Nat × Shaft) := none
  deriving DecidableEq, Repr, Inhabited

/-- The hub-wide front-end settings and the tables of the objects. -/
structure Front where
  chans    : Tab Channel := []
  groups   : Tab Group := []
  tiles    : Tab Tile := []
  links    : Tab LinkGroup := []
  mods     : Tab Modulator := []
  spares   : Tab Spare := []
  chains   : Tab ChainCfg := []
  pipes    : Tab Pipe := []
  tails    : Tab (List Tail) := []
  /-- R138: false QUALITY, true COUNT. -/
  figCount : Bool := false
  /-- R120: run length in swaths, default 640. R123: apply threshold in dBFS, default -120. -/
  runLen   : Nat := 640
  applyThr : Int := -120
  /-- R108: swaths since the last parity review, and the parity counters as they stood then (key 24t + s). -/
  reviewed : Nat := 0
  parityAt : Tab Nat := []
  deriving DecidableEq, Repr, Inhabited

end Sys2Proof.Machine
end

