-- ==== Sys2Proof/Machine/Parts/Skecy.lean ====
section
/-! DEFINITION. State of the Skecy lanes, ports, frames, routes, multicast groups and addresses (11 and 12 of the
spec). -/

namespace Sys2Proof.Machine

/-- One direction of a port: 0 transmit, 1 receive (R453, R458 to R461). -/
structure PortDir where
  /-- Mask of the active logical lanes. -/
  mask  : Nat := 0
  quiet : Quiet := .awake
  /-- Lanes that sleep while the direction is quiet. -/
  sleep : Nat := 0
  /-- R460: the wake starts at once when the entry completes. -/
  late  : Bool := false
  /-- R453: the receiver has dropped lanes, and the WIDTH slot has not come yet. -/
  due   : Bool := false
  deriving DecidableEq, Repr, Inhabited

/-- A frame held for the partner's acknowledgement or in an egress queue (R475, R502). `body` is kept. -/
structure Sent where
  seq   : Nat := 0
  frame : Frame := {}
  /-- R483: the source of a frame in an egress queue, a port or 16 for the hub's own traffic. -/
  src   : Nat := 16
  /-- R482: port and sequence by which a forwarded frame came, while the ingress buffer waits for it. -/
  mark  : Option (Nat × Nat) := none
  /-- R498: launch instant of a TIMED frame. -/
  at_   : Option Inst := none
  deriving DecidableEq, Repr, Inhabited

/-- A multicast group (R482). -/
structure Mcast where
  made : Bool := false
  mask : Nat := 0
  loc  : Bool := false
  alts : List Nat := []
  deriving DecidableEq, Repr, Inhabited

/-- A route entry (R493). -/
structure Route where
  pfx : Nat := 0
  len : Nat := 0
  prim : Nat := 0
  alt : Option Nat := none
  static : Bool := false
  deriving DecidableEq, Repr, Inhabited

/-- An LSA as stored (R492). -/
structure LsaRec where
  origin : Nat := 0
  uid    : Nat := 0
  seq    : Nat := 0
  links  : List LsaLink := []
  deriving DecidableEq, Repr, Inhabited

/-- A grant of the address allocator (R488, R489), in MRAM. -/
structure Grant where
  uid  : Nat := 0
  addr : Nat := 0
  seen : Inst := 0
  deriving DecidableEq, Repr, Inhabited

/-- A neighbour as its HELLO announced it (R491). -/
structure Neigh where
  uid    : Nat := 0
  hub    : Nat := 0
  port   : Nat := 0
  clover : Bool := false
  alloc  : Bool := false
  deriving DecidableEq, Repr, Inhabited

/-- One port (R430 to R461, R473 to R506). Port numbers 8 to 15 are off after reset; `on`, `base` and `width` are `none`
while they are the default of R431, which depends on the port number. -/
structure Port where
  on      : Option Bool := none
  base    : Option Nat := none
  width   : Option Nat := none
  /-- 0, 1, 2 for 48, 24, 12 Gbit/s (order of R431's Values column). -/
  maxRate : Nat := 0
  txInv   : Nat := 0
  /-- Receive polarity per lane: 0 AUTO, 1 normal, 2 inverted. -/
  rxPol   : Tab Nat := []
  preset  : Nat := 4
  clover  : Bool := false
  quietOn : Bool := false
  /-- R458: idle time in 10 µs, wake depth in blocks; DESIGN CHOICE 1 while the policy is OFF. -/
  quietT  : Nat := 10
  depth   : Nat := 4
  loopOk  : Bool := false
  state   : PortState := .disabled
  /-- R443: advertised maximum after RATE_FALLBACK, agreed rate code of R440 (0, 1, 2 for 12, 24, 48). -/
  advert  : Option Nat := none
  rate    : Nat := 2
  /-- R442, R449 RATE: lanes on which the partner's signal has been classed, as a mask, and the lowest class. -/
  classed : Nat := 0
  parRate : Nat := 2
  fails   : Nat := 0
  /-- R450: 1 s hold in IDLE. -/
  slowIdle : Bool := false
  /-- R442 LOCK: consecutive valid TS1 sets; R448 DESKEW: consecutive aligned TS2 slots. -/
  ts1Run  : Nat := 0
  ts2Run  : Nat := 0
  rxInv   : Nat := 0
  rxRev   : Bool := false
  ownAdapt : Bool := false
  parAdapt : Bool := false
  ownSkew  : Bool := false
  parSkew  : Bool := false
  agreed  : Nat := 0
  /-- Cause of the last training failure: 0 none, 1 timeout, 2 LANE_ORDER, 3 ROLE. -/
  cause   : Nat := 0
  parHub  : Nat := 0
  parPort : Nat := 0
  ctle    : List Nat := []
  dfe     : List Int := []
  eyes    : List (Nat × Nat) := []
  tx      : PortDir := {}
  rx      : PortDir := {}
  /-- R436: descrambler seeded since START or SKIP; SKIP count; lanes late in the last SKIP slot (R452). -/
  seeded  : Bool := false
  skips   : Nat := 0
  lateSkip : Nat := 0
  /-- R452: slots of the SKIP intervals so far; block numbers of the last sync header errors of each lane, newest first. -/
  rxSlots : Nat := 0
  hdrErr  : Tab (List Nat) := []
  /-- R464, R465: loop set here; loop granted to the partner; request that waits for the answer. -/
  loop    : Loop := .none
  farEnd  : Bool := false
  loopTag : Option (Nat × Nat × BitVec 32) := none
  /-- R475 to R477: next TX sequence, retry buffer, next RX sequence, frame not yet acknowledged to the partner, NAK sent, replays without progress. -/
  txSeq   : Nat := 0
  retry   : List Sent := []
  rxSeq   : Nat := 0
  ackDue  : Bool := false
  nakSent : Bool := false
  replays : Nat := 0
  timeout : Nat := 2000
  /-- R474: cumulative credits the partner has granted, blocks sent, blocks this end has freed, per VC. -/
  granted : Tab Nat := []
  used    : Tab Nat := []
  freed   : Tab Nat := []
  /-- R473, R482: frames that hold the ingress buffer: sequence, VC and blocks. -/
  buf     : List (Nat × Nat × Nat) := []
  egress  : List Sent := []
  timed   : List Sent := []
  /-- R486: XTRIG sequence, unacknowledged blocks, queue, last sequence received in order. -/
  xtSeq   : Nat := 0
  xtSent  : List XTrig := []
  xtQueue : List XTrig := []
  xtRx    : Nat := 255
  /-- R491: HELLO count, periods missed, neighbour; R492 cost; R500 failed. -/
  hseq    : Nat := 0
  missed  : Nat := 0
  neigh   : Option Neigh := none
  cost    : Nat := 1
  failed  : Bool := false
  deriving DecidableEq, Repr, Inhabited

/-- The generator and checker of one lane (R463). -/
structure Prbs where
  poly    : Nat := 0
  gen     : Bool := false
  chk     : Bool := false
  locked  : Bool := false
  bits    : BitVec 64 := 0
  errors  : Nat := 0
  relocks : Nat := 0
  deriving DecidableEq, Repr, Inhabited

/-- The Skecy switch and its ports. -/
structure Skecy where
  ports    : Tab Port := []
  prbs     : Tab Prbs := []
  mcast    : Tab Mcast := []
  routes   : List Route := []
  statics  : List Route := []
  /-- R493: table computed by firmware that waits for the boundary. -/
  nextTab  : Option (List Route) := none
  unreach  : List Nat := []
  lsas     : List LsaRec := []
  lsaSeq   : Nat := 0
  /-- R50, R307, R487: hub address in use (0 UNADDRESSED), address that waits to apply, address held before (MRAM). -/
  hub      : Nat := 0
  next     : Option Nat := none
  former   : Nat := 0
  /-- R307: items before this instant keep the address that the hub had before. -/
  addrFrom : Inst := 0
  oldHub   : Nat := 0
  grants   : List Grant := []
  /-- R489: reclaim age in hours, default 30 days. -/
  ageH     : Nat := 720
  /-- R488: identifiers whose grants are relayed back, with the port each came by. -/
  relays   : List (Nat × Nat) := []
  /-- R490, R489: an address request is outstanding. -/
  asking   : Bool := false
  deriving DecidableEq, Repr, Inhabited

end Sys2Proof.Machine
end

