-- ==== Sys2Proof/Machine/Parts/Control.lean ====
section
/-! DEFINITION. The settings that firmware writes to the control-loop bank (R34 to R36 of 01). -/

namespace Sys2Proof.Machine

/-- One setting of the control-loop bank. F has fields of its own in `TimeU`. -/
inductive CtlSet where
  /-- R633: the thermal level. -/
  | level (n : Nat)
  /-- R493: the route table, with the destinations that it leaves UNREACHABLE. -/
  | routes (table : List Route) (unreach : List Nat)
  /-- R416: a shadow rank of a requester of an arbiter instance. -/
  | rank (inst req rank : Nat)
  /-- R411, R416: the commit of every shadow rank. -/
  | commit
  /-- R410: a ring writer of a memory port is enabled again. -/
  | writer (inst req : Nat)
  /-- R108: a repair of a data wire of a tile's link. -/
  | repair (tile grp wire : Nat)
  /-- R125, R128: what the calibration task gives a tile's estimators and spares. -/
  | cal (tile : Nat)
  deriving DecidableEq, Repr, Inhabited

end Sys2Proof.Machine
end

