-- ==== Sys2Proof/Machine/Parts/Streams.lean ====
section
/-! DEFINITION. State of the streams, rings, subscriptions, the position journal, the power-fail flush, the SPK jobs
and the external memory (08, 09 and 10 of the spec). -/

namespace Sys2Proof.Machine

/-- One item of a stream: its 32-bit word, instant and status flags. For a sample the word is the 24-bit value;
for other kinds it is a reference into the table that holds the item. -/
structure Item where
  v  : Int := 0
  fl : BitVec 8 := 0
  t  : Inst := 0
  /-- The bytes of a statistics record, tach entry, journal entry or housekeeping entry (R206, R232, R632, R643). -/
  body : List Byte := []
  deriving DecidableEq, Repr, Inhabited

/-- A record of a ring (R312 to R321 of 08). -/
structure Record where
  gsi     : Nat := 0
  first   : Nat := 0
  items   : List Item := []
  /-- R315: items of a GAP record's range. -/
  count   : Nat := 0
  /-- FLAGS of R316. -/
  flags   : BitVec 16 := 0
  /-- The 32-byte stream descriptor of a record that carries FIRST or RATE (R318). -/
  desc    : List Byte := []
  /-- Payload bytes of a record whose items are not kept (a saved or packed record). -/
  bytes   : Nat := 0
  /-- SPK_TAG of R315; 0 for a raw record. -/
  spkTag  : Nat := 0
  packed  : List Byte := []
  /-- END or GAP type: 1 DATA, 2 GAP, 3 END. -/
  type    : Nat := 1
  /-- R314: every byte of it has reached DRAM. -/
  stored  : Bool := false
  /-- Start and end of the record's window; for an END record the boundary, for a GAP record the first item's instant (0: unknown). -/
  start   : Inst := 0
  stop    : Inst := 0
  /-- R270, R315: QUALITY of FIRST_TT. -/
  qual    : BitVec 16 := 0
  /-- R323: ring slot of 64 bytes at which it begins. -/
  slot    : Nat := 0
  deriving DecidableEq, Repr, Inhabited

/-- A boundary at which the open record closes though items before it may still come (R307, R313): the record window until then, and
whether the record after it carries FIRST. -/
structure Cut where
  at_   : Inst := 0
  was   : Nat := 8
  first : Bool := false
  deriving DecidableEq, Repr, Inhabited

/-- One stream and its ring (R306 to R326 of 08). -/
structure Stream where
  exists_  : Bool := false
  /-- R310: number of the next item. -/
  next     : Nat := 0
  /-- R32, R344: one past the last published item; W of the journal word being written and whether MRAM has it. -/
  pub      : Nat := 0
  journW   : Nat := 0
  journOk  : Bool := true
  /-- R312: open record, and the items of it whose instants its window takes. -/
  openRec  : Option Record := none
  /-- R307, R313: cuts that items have still to pass, and the last one passed. -/
  cuts     : List Cut := []
  cutAt    : Inst := 0
  /-- R517: items at which the active member has closed a record. -/
  closeAt  : List Nat := []
  /-- R526: items before this instant are not emitted by the member that joined then. -/
  from_    : Inst := 0
  /-- Records closed and not yet written (R314), then the ring, oldest first. -/
  closed   : List Record := []
  ring     : List Record := []
  /-- R325: guaranteed depth in µs or items; none is the default of the kind. -/
  depth    : Option Nat := none
  /-- R312: record window in swaths, default 8. -/
  window   : Nat := 8
  packed   : Bool := false
  /-- R363: generation of the ring's packing context; none before the first packed record. -/
  gen      : Option Nat := none
  /-- R363, R376: generation of the last export context that was reset; none before the first. -/
  expGen   : Option Nat := none
  /-- R322: items whose latest read from the ring was poisoned. -/
  poisoned : List Nat := []
  /-- R323: slots written so far. -/
  wr       : Nat := 0
  /-- R316: the next record carries FIRST, RATE, RESTART. -/
  nFirst   : Bool := true
  nRate    : Bool := false
  nRestart : Bool := false
  /-- R402: items whose values were lost and wait for room. -/
  lost     : Nat := 0
  /-- R331: largest record so far in bytes at 64-byte alignment. -/
  largest  : Nat := 64
  deriving DecidableEq, Repr, Inhabited

/-- A posted credit (R330 to R333 of 08). -/
structure Credit where
  tag     : Nat := 0
  addr    : Nat := 0
  length  : Nat := 0
  queue   : Nat := 0
  used    : Nat := 0
  first   : Nat := 0
  next    : Nat := 0
  records : Nat := 0
  gap     : Bool := false
  resent  : Bool := false
  since   : Option Inst := none
  /-- R332: a LATENCY credit into which the next record did not fit: it completes at the boundary. -/
  full    : Bool := false
  deriving DecidableEq, Repr, Inhabited

/-- A range of items that a subscription does not receive (R338 of 08); what is left of it to report begins at `first`. -/
structure Gap where
  first  : Nat := 0
  count  : Nat := 0
  reason : Nat := 0
  /-- First item of the whole range, the instant and QUALITY of its first item where they are known (R315), and whether it is journalled. -/
  from_  : Nat := 0
  t      : Option (Inst × BitVec 16) := none
  noted  : Bool := false
  deriving DecidableEq, Repr, Inhabited

/-- A completion of a credit (R333 of 08). -/
structure DmaCpl where
  tag     : Nat := 0
  queue   : Nat := 0
  bytes   : Nat := 0
  first   : Nat := 0
  next    : Nat := 0
  handle  : Nat := 0
  records : Nat := 0
  gap     : Bool := false
  resent  : Bool := false
  err     : Bool := false
  aborted : Bool := false
  deriving DecidableEq, Repr, Inhabited

/-- What is applied to a subscription at the next boundary (R327, R340 of 08). A new one starts at NEXT 0, OLDEST 1 or
FROM 2 a number. -/
inductive SubEvent where
  | opened (start n : Nat) | stall | credit | resend (m : Nat) | detach | attach (queue : Nat) | close | expired
  deriving DecidableEq, Repr, Inhabited

/-- One subscription (R327 to R340 of 08). -/
structure Sub where
  gsi        : Nat := 0
  tenant     : Nat := 0
  /-- Session key of R605: kind and id. -/
  keyKind    : Nat := 0
  keyId      : Nat := 0
  bestEffort : Bool := false
  bulk       : Bool := true
  queue      : Nat := 0
  /-- Lag limit in µs; none is the default of R327. -/
  lag        : Option Nat := none
  retention  : Nat := 60
  autoAck    : Bool := true
  state      : SubState := .active
  /-- Taken effect (R327). -/
  live       : Bool := false
  /-- One past DELIVERED and one past ACKED, so that 0 stands for "none yet". -/
  delivered  : Nat := 0
  acked      : Nat := 0
  former     : Nat := 0
  dropped    : Nat := 0
  gaps       : List Gap := []
  /-- R338, R340: ranges reported beyond ACKED, which a delivery from an earlier item reports again. -/
  told       : List Gap := []
  credits    : List Credit := []
  /-- R315: boundary of the last END record delivered. -/
  lastEnd    : Option Inst := none
  /-- ABORTED completions recorded at detachment (R538). -/
  recorded   : List DmaCpl := []
  events     : List SubEvent := []
  /-- R340: the retention timer runs since this instant. -/
  since      : Option Inst := none
  /-- R343: changed since the last journal slot. -/
  dirty      : Bool := false
  deriving DecidableEq, Repr, Inhabited

/-- W of one stream in a journal word: one past the last item, the swath stamp, and that the word's CRC holds (R343, R345 of 08). -/
structure PosW where
  w     : Nat := 0
  stamp : Nat := 0
  ok    : Bool := true
  deriving DecidableEq, Repr, Inhabited

/-- A subscription word of the position journal (R343, R345 of 08); ACKED is kept as one past. -/
structure PosSub where
  gsi        : Nat := 0
  tenant     : Nat := 0
  bestEffort : Bool := false
  acked      : Nat := 0
  state      : SubState := .active
  stamp      : Nat := 0
  ok         : Bool := true
  deriving DecidableEq, Repr, Inhabited

/-- One slot of the position journal (R343, R345 of 08): words by stream and by subscription handle. Seven streams share a word. -/
structure PosSlot where
  stamp : Nat := 0
  ws    : Tab PosW := []
  subs  : Tab PosSub := []
  deriving DecidableEq, Repr, Inhabited

/-- The power-fail flush (R346 to R348 of 08). -/
structure Flush where
  running   : Bool := false
  /-- Steps written: positions (3), journal tail (4), statistics (5), commit word (6). -/
  positions : Bool := false
  tail      : Bool := false
  stats     : Bool := false
  committed : Bool := false
  void      : Bool := false
  /-- W and ACKED saved by step 3; statistics records saved by step 5. -/
  ws        : Tab Nat := []
  subs      : Tab Nat := []
  records   : List Record := []
  /-- PWRFAIL_N is low; the flush without step 5 (R686); resume at the next boundary (R348). -/
  pinLow    : Bool := false
  noStats   : Bool := false
  resume    : Bool := false
  deriving DecidableEq, Repr, Inhabited

/-- The packing context of an export at a record that begins at `first` (R376, R377 of 09); `used` once a record has been
packed from it. -/
structure ExportCtx where
  first : Nat := 0
  ctx   : SpkCtx := {}
  used  : Bool := false
  deriving DecidableEq, Repr, Inhabited

/-- An SPK job that has been accepted (R370 to R375 of 09). -/
structure Job where
  tenant : Nat := 0
  queue  : Nat := 0
  dmaq   : Nat := 0
  tag    : BitVec 32 := 0
  job    : JobIn := {}
  ctx    : SpkCtx := {}
  deriving DecidableEq, Repr, Inhabited

/-- One transaction in flight in a DRAM channel (R388 of 10): its requester, and whether a write carries the poison tag of its
crossing (R423). -/
structure Xact where
  req    : Nat := 0
  write  : Bool := false
  addr   : Nat := 0
  poison : Bool := false
  deriving DecidableEq, Repr, Inhabited

/-- One entry of a channel's Furze table (R397 of 10): requester, bank (subchannel in [6], rank in [5], bank group in [4:2], bank in
[1:0]), row group and count, and whether the threshold has been acted on. -/
structure FurzeRow where
  req   : Nat := 0
  bank  : Nat := 0
  group : Nat := 0
  count : Nat := 0
  acted : Bool := false
  deriving DecidableEq, Repr, Inhabited

/-- One DRAM channel (10). -/
structure DramChan where
  populated : Bool := false
  /-- R47, R389: training attempts made; trained. -/
  attempts  : Nat := 0
  trained   : Bool := false
  /-- R387: idle timer setting in controller cycles, default 64; banks with an open row (key bank number). -/
  idle      : Nat := 64
  openRows  : Tab (Option Nat) := []
  /-- R396: rolling activation counts; R393: slices done, per rank. -/
  raa       : Tab Nat := []
  refreshes : Tab Nat := []
  zqs       : Tab Nat := []
  /-- R393, R394: drift in steps since the last re-centring and steps from the trained value, per lane. -/
  drift     : Tab Int := []
  moved     : Tab Int := []
  drifted   : Tab Bool := []
  margin    : Bool := false
  /-- R388: the transactions in flight, in the order in which they complete. -/
  flight    : List Xact := []
  /-- R397: Furze table, the newest pair first; throttled requesters. -/
  furze     : List FurzeRow := []
  throttled : List Nat := []
  /-- R398: accesses of throttled requesters that wait to open a row, oldest first, and when each requester last opened one. -/
  waiting   : List (Nat × Access) := []
  lastOpen  : Tab Inst := []
  fEvents   : Nat := 0
  fReq      : Nat := 0
  fBank     : Nat := 0
  fGroup    : Nat := 0
  fTime     : Nat := 0
  deriving DecidableEq, Repr, Inhabited

/-- One arbiter requester of one instance (R404 to R416 of 10). -/
structure Requester where
  /-- Rank in force, shadow and pending rank; none is the default rank of R414, R483 or R551. -/
  rank     : Option Nat := none
  shadow   : Option Nat := none
  pend     : Option Nat := none
  /-- R406, R413: instant at which the oldest outstanding request was raised; none while there is none. -/
  since    : Option Inst := none
  disabled : Bool := false
  promoted : Bool := false
  until_   : Nat := 0
  /-- R410: instants of the last bites. -/
  bites    : List Inst := []
  deriving DecidableEq, Repr, Inhabited

/-- One arbiter instance. -/
structure ArbInst where
  owner : Option Nat := none
  /-- R411: a commit waits for the next burst boundary. -/
  pend  : Bool := false
  /-- R409: watchdog limit in ns; none is the default of R404. -/
  limit : Option Nat := none
  deriving DecidableEq, Repr, Inhabited

/-- A word in a crossing FIFO with its parity bits and its poison tag (R423, R424 of 10). -/
structure FifoWord where
  bits   : Nat := 0
  par    : Nat := 0
  poison : Bool := false
  deriving DecidableEq, Repr, Inhabited

/-- A crossing FIFO (R421 to R425 of 10): two-port RAM, read and write pointers, and the poison tag that a dropped word has left for
the next one. -/
structure Fifo where
  ram        : Tab FifoWord := []
  rd         : Nat := 0
  wr         : Nat := 0
  poisonNext : Bool := false
  deriving DecidableEq, Repr, Inhabited

/-- One scheduling class of R417. -/
structure ClassPol where
  deadline : Nat
  promote  : Nat
  hold     : Nat
  deriving DecidableEq, Repr, Inhabited

/-- The memory system. -/
structure Mem where
  pop      : Population := {}
  chans    : Tab DramChan := []
  /-- R423: 64-byte units stored with a forced uncorrectable pattern. -/
  spoiled  : Tab Bool := []
  lanes    : List LaneTrain := []
  /-- R385: log2 of the interleave grain, default 4 KiB. -/
  grain    : Nat := 12
  /-- R324, R400: areas in GiB as set by MEM_LAYOUT; none is the default at the population. -/
  areas    : Option (List Nat) := none
  /-- R398: threshold and throttle interval in ns; window number (R397). -/
  furzeThr : Nat := 8192
  furzeInt : Nat := 1000
  window   : Nat := 0
  furzeRing : Bool := false
  /-- R393: bursts scrubbed. -/
  scrubbed : Nat := 0
  /-- R401 to R403: staging occupancy and high-water mark in bytes, items lost in this swath. -/
  staging  : Nat := 0
  highMark : Nat := 0
  lostNow  : Nat := 0
  /-- Arbiters: instances 0-7 memory ports, 8-23 Skecy ports, 24 PCIe DMA (R570); requesters keyed 512 x instance + r. -/
  insts    : Tab ArbInst := []
  reqs     : Tab Requester := []
  /-- R417: LATENCY, BULK, MGMT parameters (µs, rank, swaths), and base ranks. -/
  latPol   : ClassPol := ⟨250, 2, 8⟩
  bulkPol  : ClassPol := ⟨10000, 3, 8⟩
  mgmtPol  : ClassPol := ⟨1000, 2, 8⟩
  latRank  : Nat := 4
  bulkRank : Nat := 8
  streamFault : Bool := false
  /-- R421 to R425: the crossing FIFOs, keyed by row and instance (R712). -/
  fifos    : Tab Fifo := []
  deriving DecidableEq, Repr, Inhabited

/-- The stream engine. -/
structure StreamEng where
  streams  : Tab Stream := []
  subs     : Tab (Option Sub) := []
  slotA    : PosSlot := {}
  slotB    : PosSlot := {}
  /-- Which slot the next boundary writes. -/
  useB     : Bool := false
  /-- R345: tussock sets journalled in flight, keyed by unit. -/
  flight   : Tab (List Tussock) := []
  flush    : Flush := {}
  running  : Bool := false
  jobs     : List Job := []
  /-- R371: generation of the last context each tenant reset; none before the first. -/
  gens     : Tab (Option Nat) := []
  /-- R376 to R379: export contexts of each stream, newest first. -/
  exports  : Tab (List ExportCtx) := []
  /-- R472: records being reassembled (bytes received so far), keyed by source x 2^32 + GSI, and discarded records. -/
  partials : Tab Nat := []
  /-- R472: FIRST_SEQ of the record under way there, low 32 bits. -/
  partSeq  : Tab Nat := []
  discarded : Nat := 0
  received : List (Nat × Nat) := []
  /-- R378, R380: by GSI, the unpacker context at the end of the last packed record taken, and the samples of that record; records refused
  for want of a context. -/
  rxCtx    : Tab (Option SpkCtx) := []
  rxData   : Tab (List Byte) := []
  rxRefused : Nat := 0
  deriving DecidableEq, Repr, Inhabited

end Sys2Proof.Machine
end

