-- ==== Sys2Proof/Machine/Parts/Host.lean ====
section
/-! DEFINITION. State of the PCIe functions, tenants, queues, stages, commits and the command journal (14 and 15 of
the spec). -/

namespace Sys2Proof.Machine

/-- A completion entry of R569 of 15. -/
structure Cpl where
  tag      : BitVec 32 := 0
  status   : Status := .done
  more     : Bool := false
  mirrored : Bool := false
  replayed : Bool := false
  progress : Nat := 0
  result   : List Byte := []
  deriving DecidableEq, Repr, Inhabited

/-- A slot of a completion ring in host memory: what the hub wrote and the phase bit it wrote (R562). -/
structure CplSlot where
  cpl   : Option Cpl := none
  dma   : Option DmaCpl := none
  phase : Bool := false
  deriving DecidableEq, Repr, Inhabited

/-- One queue of a tenant (R545 and R562 to R565); the table's key is 8 x tenant + q. -/
structure Queue where
  made    : Bool := false
  base    : Nat := 0
  size    : Nat := 0
  cqBase  : Nat := 0
  cqSize  : Nat := 0
  vector  : Nat := 0
  /-- Submission tail as last announced, and the next entry to fetch. -/
  tail    : Nat := 0
  head    : Nat := 0
  /-- Next completion slot to write, head last written by the host, phase of the pass (R562). -/
  cqTail  : Nat := 0
  cqHead  : Nat := 0
  phase   : Bool := true
  ring    : Tab CplSlot := []
  /-- Completions that are due and wait for a slot (R565), oldest first. -/
  held    : List CplSlot := []
  /-- R623: entries announced during a warm restart, which are fetched after it. -/
  late    : List Fetch := []
  /-- R549: a DMA queue stopped by DMA_FAULT or WATCHDOG. -/
  stopped : Bool := false
  /-- R552: class of the DMA queue; none while classless, true for BULK. -/
  cls     : Option Bool := none
  deriving DecidableEq, Repr, Inhabited

/-- A violation log entry of R550. -/
structure Viol where
  kind      : Nat := 0
  addr      : Nat := 0
  write     : Bool := false
  abort     : Bool := false
  tenant    : Nat := 0
  requester : Nat := 0
  time      : Nat := 0
  deriving DecidableEq, Repr, Inhabited

/-- The TT snapshot latch of one function (R279 of 07). -/
structure Snap where
  /-- MODE as written, and the mode of the request that is pending. -/
  mode  : Nat := 0
  pend  : Nat := 0
  armed : Bool := false
  done  : Bool := false
  valid : Bool := false
  tt    : TT := {}
  grid  : Nat := 0
  qual  : BitVec 16 := 0
  deriving DecidableEq, Repr, Inhabited

/-- One PCIe function: 0 the PF, 1 to 63 the VFs (R538 to R550). -/
structure Func where
  enable  : Bool := false
  ready   : Bool := false
  failed  : Bool := false
  code    : Nat := 0
  sqBase  : Nat := 0
  cqBase  : Nat := 0
  sqSize  : Nat := 0
  cqSize  : Nat := 0
  /-- Tenant number while the session is open. -/
  tenant  : Option Nat := none
  viols   : List Viol := []
  lost    : Bool := false
  total   : Nat := 0
  snap    : Snap := {}
  /-- R543: latched high words, keyed by the offset of the high word. -/
  latched : Tab (Option Nat) := []
  /-- Data of the completion of the latest register read, none where it got UR or CA (R548). -/
  readData : Option Nat := none
  /-- Words of the MSI-X table (R541, R542), its mask bits inverted (log entry 185), and the pending-bit array. -/
  msix    : Tab Nat := []
  pend    : Tab Bool := []
  /-- Times that each vector has been raised, and the instant of the last (R546, R547); a queue's vector that waits for its 2 µs. -/
  raised  : Tab Nat := []
  lastMsg : Tab (Option Inst) := []
  msgDue  : Tab Bool := []
  deriving DecidableEq, Repr, Inhabited

/-- A frame of a remote session kept until ACK_FSEQ covers it (R559). -/
structure RemFrame where
  fseq : Nat := 0
  kind : Nat := 0
  cpls : List Cpl := []
  dmas : List DmaCpl := []
  /-- Status of an OPEN_REPLY; handed to the switch since it was made or the resend timer last ran (R559). -/
  st   : Status := .done
  sent : Bool := false
  deriving DecidableEq, Repr, Inhabited

/-- A session that this hub's own host has opened on another hub (R558): the answer to OPEN, the tenant number and epoch
it gave, the next FSEQ expected, and the tags of the completions that have come. -/
structure Away where
  status  : Option Status := none
  tenant  : Nat := 0
  epoch   : Nat := 0
  rxFseq  : Nat := 0
  acked   : Nat := 0
  cpls    : List (BitVec 32) := []
  dmas    : List (BitVec 32) := []
  deriving DecidableEq, Repr, Inhabited

/-- A command of a session that has been fetched and has not written its last completion (R568). -/
structure InExec where
  queue   : Nat := 0
  tag     : BitVec 32 := 0
  /-- Fetched and not yet carried out; an asynchronous or APPLY_NOW command is no longer `fresh`. -/
  fresh   : Bool := true
  /-- R563: its queue carries out no other command before it has completed. -/
  holds   : Bool := false
  opcode  : Nat := 0
  deriving DecidableEq, Repr, Inhabited

/-- One entry of the tenant table (R537, R554, R558). -/
structure Tenant where
  used     : Bool := false
  /-- 0 PF, 1 VF, 2 remote, with the VF number, the remote host's hub and UID. -/
  kind     : Nat := 0
  vf       : Nat := 0
  hub      : Nat := 0
  uid      : Nat := 0
  epoch    : Nat := 0
  /-- The session has ended; the number is free at the next boundary (R537). -/
  ended    : Bool := false
  /-- Rate cap in 16 MB/s, and the cap that applies at the next boundary; bytes in the bucket (R554), below 0
  while TLPs of a record that is under way wait for it. -/
  cap      : Nat := 0
  capNext  : Option Nat := none
  bucket   : Int := 0
  /-- Instant up to which the bucket has been filled. -/
  bucketAt : Inst := 0
  /-- R556: has created a DMA queue. -/
  hasDma   : Bool := false
  inExec   : List InExec := []
  /-- Remote session: next FSEQ expected and next to send, last ACK_FSEQ received plus one, unacknowledged frames. -/
  rxFseq   : Nat := 0
  txFseq   : Nat := 0
  acked    : Nat := 0
  unacked  : List RemFrame := []
  deriving DecidableEq, Repr, Inhabited

/-- An open stage (R575). -/
structure Stage where
  id      : Nat := 0
  tenant  : Nat := 0
  changes : List Change := []
  /-- R584: READY has been answered for a network commit; originating hub and boundary (global swath index). -/
  prepared : Option (Nat × Nat) := none
  deriving DecidableEq, Repr, Inhabited

/-- A committed stage that has not applied (R578 to R580), in order of acceptance. -/
structure Commit where
  stage   : Stage := {}
  /-- Global swath index of the named boundary. -/
  at_     : Nat := 0
  tenant  : Nat := 0
  queue   : Nat := 0
  tag     : BitVec 32 := 0
  /-- Committed by an APPLY_NOW command (R576): it completes with the object count and no boundary. -/
  now     : Bool := false
  /-- Sealed for a network commit of another hub, which is confirmed after the boundary (R585). -/
  src     : Option Nat := none
  /-- The partner's command (R520), or taken from it while joining (R511): no command of this member waits for it. -/
  silent  : Bool := false
  deriving DecidableEq, Repr, Inhabited

/-- A network commit at its originating hub (R583 to R585). -/
structure NetCommit where
  stage     : Nat := 0
  at_       : Nat := 0
  tenant    : Nat := 0
  queue     : Nat := 0
  tag       : BitVec 32 := 0
  targets   : List Nat := []
  ready     : List Nat := []
  refused   : List (Nat × Status) := []
  sealed    : Bool := false
  confirmed : List Nat := []
  deriving DecidableEq, Repr, Inhabited

/-- What a command answers: the fields of its completion, and the limit of GET_LIMITS that was full (R589). -/
structure Reply where
  status   : Status := .done
  progress : Nat := 0
  result   : List Byte := []
  limit    : Nat := 0
  /-- Bytes for the output buffer. -/
  out      : Option (List Byte) := none
  /-- The completion comes later, at a boundary (APPLY_NOW, R566; COUNTER_WRITE, R602). -/
  later    : Bool := false
  /-- Object states for the command journal (R604): handle and state code. -/
  objs     : List (Nat × Nat) := []
  deriving DecidableEq, Repr, Inhabited

/-- A message to another hub that the firmware sends in MGMT frames (R471): network commits, clover messages,
address requests. `kind` is the row's mnemonic order: 1 PREPARE, 2 READY, 3 REFUSE, 4 SEAL, 5 ABORT, 6 COMMIT_CONFIRM,
7 OPEN_REPLY, 8 ADDR_REQ, 9 ADDR_GRANT, 10 JOIN_REQ, 11 JOIN_SYNC, 12 COMMAND, 13 SWAP, 14 KEEPALIVE. -/
structure Msg where
  kind : Nat := 0
  dest : Nat := 0
  a    : Nat := 0
  b    : Nat := 0
  st   : Status := .done
  deriving DecidableEq, Repr, Inhabited

/-- A record of the command journal in MRAM with its object entries (R604). -/
structure JRec where
  kind     : Nat := 0
  id       : Nat := 0
  opcode   : Nat := 0
  tag      : BitVec 32 := 0
  handle   : BitVec 32 := 0
  stage    : Nat := 0
  progress : Nat := 0
  /-- none while the command is in execution. -/
  status   : Option Status := none
  tt       : TT := {}
  qual     : BitVec 16 := 0xF838
  /-- Handle, state code of R604, swath index, TT seconds. -/
  objs     : List (Nat × Nat × Nat × Nat) := []
  deriving DecidableEq, Repr, Inhabited

/-- A completion that waits for the next session of its key (R606). -/
structure Replay where
  kind : Nat := 0
  id   : Nat := 0
  cpl  : Cpl := {}
  deriving DecidableEq, Repr, Inhabited

/-- An output buffer as the hub wrote it to host memory for a command. -/
structure OutBuf where
  tenant : Nat := 0
  tag    : BitVec 32 := 0
  bytes  : List Byte := []
  /-- An SPK job's status bytes at STAT_ADDR and its context at CTX_ADDR (R370, R372). -/
  stats  : List Byte := []
  ctx    : List Byte := []
  deriving DecidableEq, Repr, Inhabited

/-- Bytes that the hub has pushed into a tenant's memory: a record in a credit (R332). -/
structure DmaWrite where
  tenant : Nat := 0
  addr   : Nat := 0
  bytes  : List Byte := []
  deriving DecidableEq, Repr, Inhabited

/-- A counter write that waits for the boundary (R33, R602). -/
structure CtrWrite where
  key    : Nat := 0
  value  : Nat := 0
  tenant : Nat := 0
  queue  : Nat := 0
  tag    : BitVec 32 := 0
  /-- Written less than 2 µs before the boundary that follows (R33). -/
  at_    : Inst := 0
  deriving DecidableEq, Repr, Inhabited

/-- A field-pin launch that has been scheduled (R284, R598). -/
structure PinJob where
  pin    : Nat := 0
  level  : Bool := false
  at_    : Inst := 0
  tenant : Nat := 0
  queue  : Nat := 0
  tag    : BitVec 32 := 0
  /-- The partner's command (R520): no command of this member waits for it. -/
  silent : Bool := false
  deriving DecidableEq, Repr, Inhabited

/-- The host interface. -/
structure HostIf where
  funcs    : Tab Func := []
  tenants  : Tab Tenant := []
  queues   : Tab Queue := []
  /-- R536: PCIe link trained, code of its rate (1 to 5) and width. -/
  linkUp   : Bool := false
  rate     : Nat := 0
  width    : Nat := 0
  /-- R558: next session epoch. -/
  epoch    : Nat := 0
  stages   : List Stage := []
  bank     : List Commit := []
  /-- R34 to R36: the control-loop bank is sealed for the next boundary, with the settings sealed in it; settings written to
  the bank and not sealed yet. -/
  sealed   : Bool := false
  ctlSeal  : List CtlSet := []
  ctl      : List CtlSet := []
  overrun  : BitVec 64 := 0
  writes   : List CtrWrite := []
  nets     : List NetCommit := []
  journal  : List JRec := []
  replays  : List Replay := []
  outs     : List OutBuf := []
  /-- R332: records pushed into credits, newest first. -/
  dma      : List DmaWrite := []
  /-- R558: sessions of this hub's host on other hubs, keyed by hub address. -/
  away     : Tab Away := []
  pinJobs  : List PinJob := []
  /-- Messages of the firmware that wait for a MGMT or CLOVER frame. -/
  msgs     : List Msg := []
  /-- R610: high-water marks, keyed by limit identifier. -/
  highs    : Tab Nat := []
  deriving DecidableEq, Repr, Inhabited

end Sys2Proof.Machine
end

