-- ==== Sys2Proof/Machine/Parts/Mgmt.lean ====
section
/-! DEFINITION. State of the management subsystem: start-up and reset (18), images and update, watchdogs, the control
pass, housekeeping, thermal levels, I2C buses and the event journal (16 of the spec). -/

namespace Sys2Proof.Machine

/-- A 32-bit or 64-bit counter with its sticky SAT bit. -/
structure Ctr where
  val : Nat := 0
  sat : Bool := false
  deriving DecidableEq, Repr, Inhabited

/-- An entry of the event journal (R643). Values carry their 2-bit type of byte 19. -/
structure Entry where
  tt       : TT := {}
  /-- QUALITY at the entry's instant (R269). -/
  qual     : BitVec 16 := 0xF838
  code     : Nat := 0
  severity : Nat := 0
  handle   : Nat := 0
  vals     : List (Nat × BitVec 64) := []
  origin   : Nat := 0
  deriving DecidableEq, Repr, Inhabited

/-- The queue of one arbiter port (R641, R642). -/
structure JPort where
  queue   : List Entry := []
  dropped : Nat := 0
  deriving DecidableEq, Repr, Inhabited

/-- One sensor (R627 to R632). -/
structure Sensor where
  code    : Nat := 0
  value   : Int := 0
  overR   : Bool := false
  at_     : Inst := 0
  /-- Consecutive readings beyond a limit, over-range, within both limits. -/
  beyond  : Nat := 0
  overRun : Nat := 0
  within  : Nat := 0
  alarm   : Bool := false
  /-- Limits as SENSOR_SET last set them: none before a set, `some none` for no limit. -/
  low     : Option (Option Int) := none
  high    : Option (Option Int) := none
  /-- Housekeeping stream period in swaths; none is the default of R632. -/
  period  : Option Nat := none
  deriving DecidableEq, Repr, Inhabited

/-- One I2C bus (R637 to R640). -/
structure Bus where
  state   : BusState := .idle
  /-- STUCK for SCL rather than SDA. -/
  byScl   : Bool := false
  /-- 0, 1, 2 for 100 kHz, 400 kHz, 1 MHz. -/
  speed   : Nat := 0
  rstPin  : Option Nat := none
  /-- Reset pulse in 10 µs steps, default 1 ms. -/
  pulse   : Nat := 100
  deriving DecidableEq, Repr, Inhabited

/-- One image slot as the boot control record and the boot ROM know it (R618 to R620). -/
structure Slot where
  info     : ImageInfo := {}
  /-- Verified or not known bad. -/
  valid    : Bool := true
  /-- TRY with attempts left. -/
  try_     : Option Nat := none
  /-- The update was a live one: the slot becomes ACTIVE at FORMED (R620). -/
  live     : Bool := false
  deriving DecidableEq, Repr, Inhabited

/-- An open update (R600, R619). -/
structure Update where
  bytes : Nat := 0
  held  : Nat := 0
  tag   : Option (Nat × Nat × BitVec 32) := none
  deriving DecidableEq, Repr, Inhabited

/-- The management subsystem. -/
structure Mgmt where
  startup   : Startup := .boot
  /-- R681, R682: RESET_N low; an internal reset held; the thermal trip held (R636). After reset the pin has been released. -/
  resetLow  : Bool := false
  held      : Bool := false
  tripHeld  : Bool := false
  /-- R681: cause of the last full reset (MRAM). -/
  cause     : Nat := 0
  /-- R42, R618: image verified and application cores running; image slot booted (0 A, 1 B). -/
  verified  : Bool := false
  booted    : Option Nat := none
  slotA     : Slot := {}
  slotB     : Slot := {}
  /-- The boot control record's ACTIVE slot: false A. -/
  activeB   : Bool := false
  fwMajor   : Nat := 0
  fwMinor   : Nat := 0
  pairProto : Nat := 0
  secver    : Nat := 0
  /-- R617: blown fuses of the anti-rollback counter. -/
  rollback  : Nat := 0
  /-- R617: key slots whose revocation fuse is blown. -/
  revoked   : List Nat := []
  update    : Option Update := none
  /-- R663: straps as sampled; ADDR_STRAP[9:0], member, preference. -/
  strap     : Nat := 0
  memberB   : Bool := false
  pref      : Bool := false
  /-- R687: PLLs locked. -/
  measLock  : Bool := false
  laneLock  : Bool := false
  dramLock  : Bool := false
  pcieLock  : Bool := false
  mgmtLock  : Bool := false
  /-- R304, R686: references lost. -/
  refLost   : Bool := false
  laneLost  : Bool := false
  pcieLost  : Bool := false
  /-- R106, R389: tile links and DRAM trained; R126: CAL done. -/
  dramDone  : Bool := false
  /-- HEALTH_ERROR fields. -/
  errCause  : Nat := 0
  errChan   : Nat := 0
  errLane   : Nat := 0
  errDetail : Nat := 0
  /-- R622 to R624: consecutive overruns, swaths without a heartbeat word, warm restarts (global swath index), restart running. -/
  overruns  : Nat := 0
  silent    : Nat := 0
  restarts  : List Inst := []
  warm      : Bool := false
  /-- R626: tasks deferred from the last pass (numbers of the table), tasks done in this one. -/
  deferred  : List Nat := []
  passDone  : Bool := false
  /-- R633: thermal level; per level, the global swath index since which the
  hottest point has stayed 2 °C below its entry threshold. -/
  level     : Nat := 0
  cool      : Tab (Option Nat) := []
  sensors   : Tab Sensor := []
  /-- R632: sensor settings that apply at the next boundary. -/
  sensorSets : List Pair := []
  buses     : Tab Bus := []
  /-- R632: PMBus regulator addresses; 0 none. -/
  pmbus     : Tab Nat := []
  sfpPage   : List Byte := []
  /-- The event journal: arbiter port last served, port queues, next sequence number, the MRAM ring (newest first). -/
  lastPort  : Nat := 12
  ports     : Tab JPort := []
  nextSeq   : Nat := 0
  /-- Entries of the journal that the event stream has taken (R641). -/
  streamed  : Nat := 0
  ring      : List (Nat × Entry) := []
  /-- R646: sequence numbers of the entries printed on the UART console, newest first. -/
  console   : List Nat := []
  /-- R681: JTAG TAP controller in its reset state. -/
  tapReset  : Bool := true
  deriving DecidableEq, Repr, Inhabited

end Sys2Proof.Machine
end

