-- ==== Sys2Proof/Machine/Parts/Time.lean ====
section
/-! DEFINITION. State of the time counter, the measurement PLL servo, the time sources and the choice of root and
parent (07 of the spec). -/

namespace Sys2Proof.Machine

/-- The time-transfer end of one port (R291, R292, R496, R497). Instants are in `Inst`; offsets in 1/256 ns. -/
structure Xchg where
  xseq    : Nat := 0
  /-- The request that waits for its RESP: exchange number and transmit instant t1. -/
  open_   : Option (Nat × Inst) := none
  /-- The last 64 offsets, newest first (R291). -/
  offs    : List Int := []
  offset  : Int := 0
  delay   : Int := 0
  /-- R291: asymmetry A in ps. -/
  asym    : Int := 0
  qual    : BitVec 16 := 0xF838
  deriving DecidableEq, Repr, Inhabited

/-- A root that a neighbour or the hub itself announces (R293). -/
structure Cand where
  prio : Nat := 128
  cls  : Nat := 7
  err  : Nat := 31
  hub  : Nat := 0
  /-- Hops of the neighbour that announces it (R294). -/
  hops : Nat := 0
  /-- The root's own QUALITY, as it is relayed (R491). -/
  qual : BitVec 16 := 0xF838
  deriving DecidableEq, Repr, Inhabited

/-- The PTP slave and its settings (R288). -/
structure Ptp where
  /-- Foreign masters: port identity, the Announce messages counted (up to 2) and the latest one's data. -/
  masters  : List (Nat × Nat × PtpData) := []
  on       : Bool := false
  domain   : Nat := 0
  /-- Base-2 logarithms of the intervals in seconds. -/
  sync     : Int := -4
  delayReq : Int := -4
  /-- 0 UDP on IPv4, 1 IEEE 802.3; DESIGN CHOICE 1: 0. -/
  transport : Nat := 0
  /-- A usable master is followed, and which. -/
  usable   : Bool := false
  master   : Nat := 0
  tai      : Bool := false
  deriving DecidableEq, Repr, Inhabited

/-- The time unit. -/
structure TimeU where
  /-- R275: GRID mode; FREE after reset. -/
  grid     : Bool := false
  /-- R278: INC; DESIGN CHOICE 1: the nominal increment. -/
  inc      : BitVec 48 := 0x02AAAAAAAAAB
  /-- The counter: SEC, NS and 40 fraction bits at the last instant at which it was set (R276). DESIGN CHOICE 1: 0. -/
  sec      : Nat := 0
  ns       : Nat := 0
  frac40   : Nat := 0
  /-- R278: the tick at which a counter in FREE mode stood as above. -/
  setAt    : Inst := 0
  /-- Global swath index of the swath in progress (R22). -/
  swath    : Nat := 0
  /-- R270: the fields of QUALITY other than reserved bit 6; TIME_STATUS resets to 0xF838. -/
  state    : TimeState := .unsync
  tai      : Bool := false
  cls      : Nat := 7
  hops     : Nat := 0
  err      : Nat := 31
  /-- R293: own priority; the adopted root, the candidate that leads and its run (R294). -/
  prio     : Nat := 128
  root     : Option Cand := none
  lead     : Option Cand := none
  leadRun  : Nat := 0
  parent   : Option Nat := none
  alt      : Option Nat := none
  xchg     : Tab Xchg := []
  /-- Roots relayed by the neighbours, keyed by port. -/
  heard    : Tab (Option Cand) := []
  /-- R280, R281: F in force, requested F, F written to the control-loop bank, F sealed in it (R34); PI integral of R282; clamps and rate limits are counters. -/
  f        : Int := 0
  fWant    : Int := 0
  fBank    : Option Int := none
  fSeal    : Option Int := none
  integ    : Int := 0
  /-- R301: F over the last 16 s of LOCKED, newest first: a value of F and the swaths in a row that had it. -/
  fRuns    : List (Int × Nat) := []
  offset   : Int := 0
  /-- R298: consecutive swaths within 0.25 ns; SYNC left; the whole second at which streams start. -/
  within   : Nat := 0
  syncLeft : Option Nat := none
  syncFrom : Nat := 0
  /-- R49: free-running master. -/
  free     : Bool := false
  /-- R295, R301 to R303: settings of TIME_SET. -/
  bandmHz  : Nat := 1000
  limitNs  : Nat := 1000
  policy   : Reacq := .slew
  slew     : Nat := 100
  stepUs   : Nat := 10
  yPpb     : Nat := 10
  aPpb     : Nat := 100
  tcxo     : Bool := true
  /-- R301: entry to HOLDOVER (cycle count) and bound at entry in ns. -/
  holdFrom : Option Nat := none
  holdE0   : Nat := 0
  /-- R303: offset that a SLEW removes, in ns; a restart under STEP waits for the boundary, with its step in ns. -/
  slewing  : Int := 0
  restart  : Option Int := none
  /-- R290: compensation in ns, SEC named for the next pulse, last accepted second, seconds missed. -/
  ppsComp  : Nat := 0
  ppsNamed : Option Nat := none
  ppsSec   : Option Nat := none
  /-- R290: instant from which the named pulse is taken; compensated instant of the last accepted edge. -/
  ppsFrom  : Inst := 0
  ppsAt    : Option Inst := none
  /-- R289, R293: ERR of the hub's own source. -/
  srcErr   : Nat := 31
  /-- R286: PPS_OUT. -/
  outOn    : Bool := false
  outComp  : Nat := 0
  outWidth : Nat := 100000
  outMask  : BitVec 4 := 0b1100
  outHigh  : Bool := false
  ptp      : Ptp := {}
  /-- R270: QUALITY from an instant on, newest first (64 are kept), for TTs of the past. -/
  quals    : List (Inst × BitVec 16) := []
  deriving DecidableEq, Repr, Inhabited

end Sys2Proof.Machine
end

