-- ==== Sys2Proof/Machine/State.lean ====
section
/-! DEFINITION. The state of the hub, the reasons for which a command stops, and the state after reset. -/

namespace Sys2Proof.Machine

/-- Why a command faults. -/
inductive Fault where
  /-- An event that names an object the spec does not give (a channel above 767, a tile above 11): raised by every
  event row, through `event`. Safe: no such event exists. -/
  | noSuchObject
  deriving DecidableEq, Repr

/-- Why a command is refused. -/
inductive Refusal where
  /-- An arm of `exec` whose meaning is not written. Safe: nothing can be proved of such a command. -/
  | notModelled (mnemonic : String)
  deriving DecidableEq, Repr

/-- The hub. -/
structure State where
  front   : Front := {}
  red     : Reduce := {}
  str     : StreamEng := {}
  mem     : Mem := {}
  sky     : Skecy := {}
  clover  : Clover := {}
  time    : TimeU := {}
  host    : HostIf := {}
  mgmt    : Mgmt := {}
  /-- The saturating counters of every chapter, keyed by object and number (R602). -/
  ctrs    : Tab Ctr := []
  /-- The latest instant that a command has brought with it (notes/assumptions/4.md). -/
  now     : Inst := 0
  /-- Commands that wait, first in, first out. -/
  pending : List Instr := []
  /-- The model's own count of free values drawn so far (notes/assumptions/2.md). -/
  free    : Nat := 0
  deriving DecidableEq, Repr, Inhabited

/-- The machine right after reset: every field at the default its declaration gives. -/
def State.reset : State := {}

end Sys2Proof.Machine
end

