-- ==== Sys2Proof/Machine/Tab.lean ====
section
/-! DEFINITION. Reading and writing sparse tables. A table keeps one canonical form: indices strictly rising and no
entry equal to the default, so that equal tables are equal data. -/

namespace Sys2Proof

/-- The value at an index; an unlisted index reads as the type's default, its reset value. -/
def Tab.get {α : Type} [Inhabited α] : Tab α → Nat → α
  | [], _ => default
  | (j, v) :: r, k => if k = j then v else Tab.get r k

/-- List a value at an index, in its place among rising indices. -/
def Tab.put {α : Type} : Tab α → Nat → α → Tab α
  | [], k, v => [(k, v)]
  | (j, w) :: r, k, v =>
    if k < j then (k, v) :: (j, w) :: r
    else if k = j then (k, v) :: r
    else (j, w) :: Tab.put r k v

/-- Write the value at an index, keeping the canonical form: a default is not listed. -/
def Tab.set {α : Type} [Inhabited α] [DecidableEq α] (t : Tab α) (k : Nat) (v : α) : Tab α :=
  if v = default then t.filter (fun p => decide (p.1 ≠ k)) else Tab.put t k v

/-- Change the value at an index. -/
def Tab.mod {α : Type} [Inhabited α] [DecidableEq α] (t : Tab α) (k : Nat) (f : α → α) : Tab α :=
  t.set k (f (t.get k))

/-- A table with each entry replaced. -/
def Tab.keep {α : Type} [Inhabited α] [DecidableEq α] (f : α → α) (t : Tab α) : Tab α :=
  t.foldl (fun r p => Tab.set r p.1 (f p.2)) []

/-- Every index of the table is above a bound and they rise. -/
def Tab.rising {α : Type} : Option Nat → Tab α → Bool
  | _, [] => true
  | none, (j, _) :: r => Tab.rising (some j) r
  | some b, (j, _) :: r => decide (b < j) && Tab.rising (some j) r

/-- The canonical form: indices strictly rising and no entry equal to the default. -/
def Tab.wf {α : Type} [Inhabited α] [DecidableEq α] (t : Tab α) : Bool :=
  Tab.rising none t && t.all (fun p => decide (p.2 ≠ default))

/-- The listed indices. -/
def Tab.keys {α : Type} (t : Tab α) : List Nat := t.map (·.1)

end Sys2Proof
end

