-- ==== Sys2Proof/Machine/Ops.lean ====
section
/-! DEFINITION. The shared operations: outcomes, instants and TT, the journal, the counters, the objects of the state. -/

namespace Sys2Proof.Machine

/-- What a command answers. -/
abbrev Out := Host.Outcome State Fault Refusal

/-- An event on an object: the next state when the object exists (R7, R570), a fault when the spec gives no such object. -/
def event (ok : Bool) (s : State) : Out := if ok then .next s else .fault .noSuchObject

/-! ## Instants (R269 to R274 of 07) -/

/-- One measurement-clock cycle in `Inst`. -/
def cycle1 : Nat := 4294967296

/-- Cycles since TT second 0 at an instant: the count K of R273. -/
def cyclesOf (t : Inst) : Nat := t / cycle1

/-- The instant of a cycle count. -/
def atCycle (k : Nat) : Inst := k * cycle1

/-- Global swath index at an instant: 8,000 x SEC + s (R22). -/
def swathAt (t : Inst) : Nat := cyclesOf t / Config.swathCycles

/-- First instant of a swath (B of 01). -/
def boundary (g : Nat) : Inst := atCycle (g * Config.swathCycles)

/-- The latest boundary at or before an instant lies this many swaths ahead of another (R38). -/
def swathsAhead (g : Nat) (t : Inst) (n : Nat) : Bool := decide (t + n * atCycle Config.swathCycles ≤ boundary g)

/-- FRAC of R272 from 2c mod 3. -/
def fracOf (r : Nat) : Nat := if r = 1 then 21845 else if r = 2 then 43691 else 0

/-- The TT of an instant: R272 for its cycle, and the offset within the cycle in 1/65,536 ns (R274). -/
def ttOf (t : Inst) : TT :=
  let k := cyclesOf t
  let c := k % Config.secCycles
  let x := 2 * c / 3 * 65536 + fracOf (2 * c % 3) + t % cycle1 / 98304
  { sec := k / Config.secCycles, ns := x / 65536, frac := x % 65536 }

/-- The instant to which a TT belongs (R274). -/
def instOf (tt : TT) : Inst :=
  let x := tt.ns * 65536 + tt.frac
  let c := (3 * x + 1) / 131072
  let off := x - (2 * c / 3 * 65536 + fracOf (2 * c % 3))
  atCycle (tt.sec * Config.secCycles + c) + off * 98304

/-- Nanoseconds as a span of `Inst`: 1.5 cycles each. -/
def nsSpan (ns : Nat) : Nat := ns * 6442450944

/-- Whole nanoseconds of a span. -/
def spanNs (d : Nat) : Nat := d / 6442450944

/-- The short time of an instant (R271). -/
def shortTime (t : Inst) : Nat :=
  let tt := ttOf t
  (tt.sec * 1000000000 + tt.ns) % 4294967296

/-- The cycle count E of R25 at a cycle count K. -/
def epochCycle (k : Nat) : Nat := k % (8192 * Config.secCycles)

/-! ## Free values -/

/-- The number of the next free value, and the state that has drawn it. -/
def drawn (s : State) : Nat × State := (s.free, { s with free := s.free + 1 })

/-! ## The control-loop bank (R34) -/

/-- Firmware writes a setting to the control-loop bank; one written after the seal waits for the next seal. -/
def ctlWrite (c : CtlSet) (s : State) : State := { s with host := { s.host with ctl := s.host.ctl ++ [c] } }

/-! ## Counters (R247, R602) -/

/-- Index of a counter: class of R570 (or a private class from 0x80), object index, number and direction. -/
def ctrKey (cls idx num dir : Nat) : Nat := ((cls * 16777216 + idx) * 64 + num) * 2 + dir

/-- Private counter classes: those that R602 gives no number. -/
def clsPrivate : Nat := 0x80

/-- Advance a saturating counter: at all-ones it stays and SAT is set. -/
def Ctr.add (c : Ctr) (top n : Nat) : Ctr :=
  if c.val + n < top then { c with val := c.val + n } else { val := top, sat := true }

/-- All-ones of a counter: STAGING_LOST is 64 bits wide (R402), every other counter 32 bits. -/
def ctrTop (key : Nat) : Nat := if key = ctrKey 0 0 1 0 then 2 ^ 64 - 1 else 2 ^ 32 - 1

/-- Advance a counter by n. -/
def bumpBy (key n : Nat) (s : State) : State :=
  { s with ctrs := s.ctrs.mod key (fun c => c.add (ctrTop key) n) }

/-- Advance a counter by one. -/
def bump (key : Nat) (s : State) : State := bumpBy key 1 s

/-- The value written to a counter, as wide as it, with SAT set exactly for all-ones (R602). -/
def writeCtr (key v : Nat) (s : State) : State :=
  let v := v % (ctrTop key + 1)
  { s with ctrs := s.ctrs.set key { val := v, sat := decide (v = ctrTop key) } }

/-- A counter. -/
def ctrOf (s : State) (key : Nat) : Ctr := s.ctrs.get key

/-- A counter item of R712: value, and SAT in bit 63 for a 32-bit counter. -/
def ctrItem (s : State) (key : Nat) : Nat :=
  let c := ctrOf s key
  c.val + (if c.sat && decide (ctrTop key = 2 ^ 32 - 1) then 2 ^ 63 else 0)

/-! ## The event journal (R641 to R645) -/

/-- An object handle of R570. -/
def handleOf (cls idx : Nat) : Nat := cls * 16777216 + idx

/-- An unsigned value of an entry. -/
def vU (n : Nat) : Nat × BitVec 64 := (1, BitVec.ofNat 64 n)

/-- A signed value of an entry. -/
def vS (n : Int) : Nat × BitVec 64 := (2, BitVec.ofInt 64 n)

/-- A TT listed as one value: its SEC field with type 3. -/
def vT (sec : Nat) : Nat × BitVec 64 := (3, BitVec.ofNat 64 sec)

/-- Entries that a port's queue holds (R642). -/
def portDepth : Nat := 16

/-- Queue an entry at a port: counted and not queued when the queue is full; after a loss the first entry queued is
JOURNAL_OVERFLOW with the count (R642). -/
def JPort.put (p : JPort) (e lost : Entry) : JPort :=
  if portDepth ≤ p.queue.length then { p with dropped := p.dropped + 1 }
  else if p.dropped = 0 then { p with queue := p.queue ++ [e] }
  else
    let q := p.queue ++ [lost]
    if portDepth ≤ q.length then { queue := q, dropped := 1 } else { queue := q ++ [e], dropped := 0 }

/-- Code of QUALITY.STATE (R270). -/
def timeCode : TimeState → Nat
  | .unsync => 0 | .acquire => 1 | .locked => 2 | .holdover => 3

/-- QUALITY of the hub's time (R270). -/
def qualOf (st : TimeState) (tai : Bool) (cls hops err : Nat) : BitVec 16 :=
  BitVec.ofNat 16 (timeCode st + (if tai then 4 else 0) + 8 * cls + 128 * hops + 2048 * err)

/-- QUALITY of the hub's own time. -/
def quality (s : State) : BitVec 16 := qualOf s.time.state s.time.tai s.time.cls s.time.hops s.time.err

/-- Note an instant that a command brings with it, so that entries stamped later carry it (notes/assumptions/4.md). -/
def touch (t : Inst) (s : State) : State :=
  let q := quality s
  { s with now := if s.now < t then t else s.now
           time := { s.time with quals := if (s.time.quals.head?.map (·.2)) = some q then s.time.quals
                                          else ((s.now, q) :: s.time.quals).take 64 } }

/-- The hub's QUALITY at an instant (R270). -/
def qualityAt (s : State) (t : Inst) : BitVec 16 :=
  match s.time.quals.find? (fun p => decide (p.1 ≤ t)) with
  | some p => p.2
  | none => (s.time.quals.getLast?.map (·.2)).getD (quality s)

/-- An entry stamped at an instant. -/
def entryAt (q : BitVec 16) (t : Inst) (port code handle : Nat) (vals : List (Nat × BitVec 64)) : Entry :=
  { tt := ttOf t, qual := q, code := code, severity := (Config.severity code).val, handle := handle, vals := vals, origin := port }

/-- Write an entry stamped at an instant to an arbiter port. -/
def postAt (t : Inst) (port code handle : Nat) (vals : List (Nat × BitVec 64)) (s : State) : State :=
  let lost := (s.mgmt.ports.get port).dropped
  let e := entryAt (quality s) t port code handle vals
  let ov := entryAt (quality s) t port 0x0B0B 0 [vU port, vU lost]
  { s with mgmt := { s.mgmt with ports := s.mgmt.ports.mod port (fun p => p.put e ov) } }

/-- Write an entry stamped with the latest instant known (notes/assumptions/4.md). -/
def post (port code handle : Nat) (vals : List (Nat × BitVec 64)) (s : State) : State :=
  postAt s.now port code handle vals s

/-- Ports of the journal arbiter (R641's table). -/
def pSafety : Nat := 0
/-- Application core 0. -/
def pApp : Nat := 1
def pStream : Nat := 5
def pTussock : Nat := 6
def pDram : Nat := 7
def pArb : Nat := 8
def pSkecy : Nat := 9
def pTile : Nat := 10
def pTime : Nat := 11
def pPcie : Nat := 12

/-- Entries that the MRAM ring holds (R614, R643). -/
def ringDepth : Nat := 65536

/-- Severity WARNING (R643). -/
def sevWarning : Nat := 2

/-- The journal arbiter takes one entry into the ring and the event stream (R641, R643); the console prints it from severity WARNING
up (R646). -/
def takeEntry (p : Nat) (s : State) : State :=
  match (s.mgmt.ports.get p).queue with
  | [] => s
  | e :: r =>
    { s with mgmt := { s.mgmt with
        ports := s.mgmt.ports.mod p (fun q => { q with queue := r })
        lastPort := p
        ring := ((s.mgmt.nextSeq, e) :: s.mgmt.ring).take ringDepth
        console := if sevWarning ≤ e.severity then s.mgmt.nextSeq :: s.mgmt.console else s.mgmt.console
        nextSeq := s.mgmt.nextSeq + 1 } }

/-- The port the arbiter visits next: round-robin after the last one that gave an entry (R641). -/
def nextPort (s : State) : Option Nat :=
  ((List.range 13).map (fun i => (s.mgmt.lastPort + 1 + i) % 13)).find?
    (fun p => !(s.mgmt.ports.get p).queue.isEmpty)

/-- One management cycle of the journal arbiter (R641). -/
def journalTick (s : State) : State :=
  match nextPort s with
  | none => s
  | some p => takeEntry p s

/-- The arbiter empties the queues; `n` bounds the entries taken (13 queues of 16). -/
def journalDrain : Nat → State → State
  | 0, s => s
  | n + 1, s => journalDrain n (journalTick s)

/-- The 16 bytes of a TT with a quality field (R269). -/
def ttBytes (tt : TT) (q : BitVec 16) : List Byte :=
  leBytes 6 tt.sec ++ leBytes 4 tt.ns ++ leBytes 2 tt.frac ++ leBytes 2 q.toNat ++ [0, 0]

/-- TYPES of an entry: two bits per value, VAL0 lowest (R643). -/
def typesOf : List (Nat × BitVec 64) → Nat
  | [] => 0
  | (t, _) :: r => t % 4 + 4 * typesOf r

/-- The 64 bytes of an entry (R643). -/
def entryBytes (e : Entry) : List Byte :=
  let b := ttBytes e.tt e.qual ++ leBytes 2 e.code ++ leBytes 1 e.severity ++ leBytes 1 (typesOf e.vals)
    ++ leBytes 4 e.handle
    ++ (List.range 4).flatMap (fun i => leBytes 8 ((e.vals.getD i (0, 0)).2.toNat))
    ++ leBytes 2 e.origin ++ [0, 0]
  b ++ leBytes 4 (crc32c b).toNat

/-! ## Objects -/

/-- Channel c (R70). -/
def State.chan (s : State) (c : Nat) : Channel := s.front.chans.get c
/-- Change channel c. -/
def State.modChan (s : State) (c : Nat) (f : Channel → Channel) : State :=
  { s with front := { s.front with chans := s.front.chans.mod c f } }
/-- Excitation group g (R73). -/
def State.group (s : State) (g : Nat) : Group := s.front.groups.get g
/-- Change excitation group g. -/
def State.modGroup (s : State) (g : Nat) (f : Group → Group) : State :=
  { s with front := { s.front with groups := s.front.groups.mod g f } }
/-- Tile t (R98). -/
def State.tile (s : State) (t : Nat) : Tile := s.front.tiles.get t
/-- Change tile t. -/
def State.modTile (s : State) (t : Nat) (f : Tile → Tile) : State :=
  { s with front := { s.front with tiles := s.front.tiles.mod t f } }
/-- Wire group g of the link of tile t (R106); the table's key is 4t + g. -/
def State.link (s : State) (k : Nat) : LinkGroup := s.front.links.get k
/-- Change a wire group. -/
def State.modLink (s : State) (k : Nat) (f : LinkGroup → LinkGroup) : State :=
  { s with front := { s.front with links := s.front.links.mod k f } }
/-- Modulator m (R7: 0 to 767 primaries, 768 to 863 spares). -/
def State.modu (s : State) (m : Nat) : Modulator := s.front.mods.get m
/-- Change modulator m. -/
def State.modModu (s : State) (m : Nat) (f : Modulator → Modulator) : State :=
  { s with front := { s.front with mods := s.front.mods.mod m f } }
/-- Spare with source number m (R111). -/
def State.spare (s : State) (m : Nat) : Spare := s.front.spares.get m
/-- Change a spare. -/
def State.modSpare (s : State) (m : Nat) (f : Spare → Spare) : State :=
  { s with front := { s.front with spares := s.front.spares.mod m f } }
/-- Chain settings of modulator m (R177). -/
def State.chain (s : State) (m : Nat) : ChainCfg := s.front.chains.get m
/-- Change the chain settings of modulator m. -/
def State.modChain (s : State) (m : Nat) (f : ChainCfg → ChainCfg) : State :=
  { s with front := { s.front with chains := s.front.chains.mod m f } }
/-- Running filters of modulator m. -/
def State.pipe (s : State) (m : Nat) : Pipe := s.front.pipes.get m
/-- Change the running filters of modulator m. -/
def State.modPipe (s : State) (m : Nat) (f : Pipe → Pipe) : State :=
  { s with front := { s.front with pipes := s.front.pipes.mod m f } }
/-- Tach input n (R193). -/
def State.tach (s : State) (n : Nat) : Tach := s.red.tachs.get n
/-- Change tach input n. -/
def State.modTach (s : State) (n : Nat) (f : Tach → Tach) : State :=
  { s with red := { s.red with tachs := s.red.tachs.mod n f } }
/-- Shaft group g (R199). -/
def State.shaft (s : State) (g : Nat) : Shaft := s.red.shafts.get g
/-- Change shaft group g. -/
def State.modShaft (s : State) (g : Nat) (f : Shaft → Shaft) : State :=
  { s with red := { s.red with shafts := s.red.shafts.mod g f } }
/-- Statistics definition k (index of R570). -/
def State.stat (s : State) (k : Nat) : StatDef := s.red.stats.get k
/-- Change a statistics definition. -/
def State.modStat (s : State) (k : Nat) (f : StatDef → StatDef) : State :=
  { s with red := { s.red with stats := s.red.stats.mod k f } }
/-- Trigger unit u (R238). -/
def State.unit (s : State) (u : Nat) : TrigUnit := s.red.units.get u
/-- Change trigger unit u. -/
def State.modUnit (s : State) (u : Nat) (f : TrigUnit → TrigUnit) : State :=
  { s with red := { s.red with units := s.red.units.mod u f } }
/-- Field pin p. -/
def State.pin (s : State) (p : Nat) : FieldPin := s.red.pins.get p
/-- Change field pin p. -/
def State.modPin (s : State) (p : Nat) (f : FieldPin → FieldPin) : State :=
  { s with red := { s.red with pins := s.red.pins.mod p f } }
/-- Stream of a GSI (R306). -/
def State.stream (s : State) (gsi : Nat) : Stream := s.str.streams.get gsi
/-- Change the stream of a GSI. -/
def State.modStream (s : State) (gsi : Nat) (f : Stream → Stream) : State :=
  { s with str := { s.str with streams := s.str.streams.mod gsi f } }
/-- Subscription h (R327); none while the handle is free. -/
def State.sub (s : State) (h : Nat) : Option Sub := s.str.subs.get h
/-- Change subscription h where it exists. -/
def State.modSub (s : State) (h : Nat) (f : Sub → Sub) : State :=
  { s with str := { s.str with subs := s.str.subs.mod h (fun o => o.map f) } }
/-- Skecy port p (R431). -/
def State.port (s : State) (p : Nat) : Port := s.sky.ports.get p
/-- Change Skecy port p. -/
def State.modPort (s : State) (p : Nat) (f : Port → Port) : State :=
  { s with sky := { s.sky with ports := s.sky.ports.mod p f } }
/-- DRAM channel c. -/
def State.dram (s : State) (c : Nat) : DramChan := s.mem.chans.get c
/-- Change DRAM channel c. -/
def State.modDram (s : State) (c : Nat) (f : DramChan → DramChan) : State :=
  { s with mem := { s.mem with chans := s.mem.chans.mod c f } }
/-- PCIe function (0 PF). -/
def State.func (s : State) (f : Nat) : Func := s.host.funcs.get f
/-- Change a PCIe function. -/
def State.modFunc (s : State) (f : Nat) (g : Func → Func) : State :=
  { s with host := { s.host with funcs := s.host.funcs.mod f g } }
/-- Tenant t (R537). -/
def State.tenant (s : State) (t : Nat) : Tenant := s.host.tenants.get t
/-- Change tenant t. -/
def State.modTenant (s : State) (t : Nat) (f : Tenant → Tenant) : State :=
  { s with host := { s.host with tenants := s.host.tenants.mod t f } }
/-- Queue q of tenant t (R545). -/
def State.queue (s : State) (t q : Nat) : Queue := s.host.queues.get (8 * t + q)
/-- Change queue q of tenant t. -/
def State.modQueue (s : State) (t q : Nat) (f : Queue → Queue) : State :=
  { s with host := { s.host with queues := s.host.queues.mod (8 * t + q) f } }
/-- Sensor i (R627). -/
def State.sensor (s : State) (i : Nat) : Sensor := s.mgmt.sensors.get i
/-- Change sensor i. -/
def State.modSensor (s : State) (i : Nat) (f : Sensor → Sensor) : State :=
  { s with mgmt := { s.mgmt with sensors := s.mgmt.sensors.mod i f } }
/-- I2C bus b (R637). -/
def State.bus (s : State) (b : Nat) : Bus := s.mgmt.buses.get b
/-- Change I2C bus b. -/
def State.modBus (s : State) (b : Nat) (f : Bus → Bus) : State :=
  { s with mgmt := { s.mgmt with buses := s.mgmt.buses.mod b f } }
/-- Lane pattern unit l (R463). -/
def State.lane (s : State) (l : Nat) : Prbs := s.sky.prbs.get l
/-- Change a lane's pattern unit. -/
def State.modLane (s : State) (l : Nat) (f : Prbs → Prbs) : State :=
  { s with sky := { s.sky with prbs := s.sky.prbs.mod l f } }

/-- Index of a requester (class 0x11). -/
def reqKey (i r : Nat) : Nat := 512 * i + r
/-- A requester. -/
def State.req (s : State) (i r : Nat) : Requester := s.mem.reqs.get (reqKey i r)
/-- Change a requester. -/
def State.modReq (s : State) (i r : Nat) (f : Requester → Requester) : State :=
  { s with mem := { s.mem with reqs := s.mem.reqs.mod (reqKey i r) f } }
/-- An instance. -/
def State.inst (s : State) (i : Nat) : ArbInst := s.mem.insts.get i
/-- Change an instance. -/
def State.modInst (s : State) (i : Nat) (f : ArbInst → ArbInst) : State :=
  { s with mem := { s.mem with insts := s.mem.insts.mod i f } }

/-- Age of a request in ticks of 8/3 ns: 0 for the owner and without a request, saturating (R413). -/
def ageOf (s : State) (i r : Nat) (t : Inst) : Nat :=
  if (s.inst i).owner = some r then 0
  else match (s.req i r).since with
    | some a => min (2 ^ 32 - 1) ((t - a) / (4 * cycle1))
    | none => 0

/-- Do something for each member of a list, in order. -/
def each {α : Type} (l : List α) (f : α → State → State) (s : State) : State := l.foldl (fun s a => f a s) s

/-- Do something under a condition. -/
def when (c : Bool) (f : State → State) (s : State) : State := if c then f s else s

/-- A decision of the active member goes to the standby in sequence (R517). -/
def sendDecision (d : Decision) (s : State) : State :=
  if s.clover.state = .formed && s.clover.role = .active then
    { s with clover := { s.clover with sent := s.clover.sent ++ [(s.clover.decSeq, d)], decSeq := (s.clover.decSeq + 1) % 2 ^ 32 } }
  else s

/-- Publication and positions are frozen: from step 2 of a flush until the hub resumes (R346 to R348). -/
def State.frozen (s : State) : Bool := s.str.flush.running || (s.str.flush.committed && !s.str.flush.void)

/-- Delivery goes back to an item, given as one past DELIVERED: what follows carries RESENT, and the ranges reported beyond it are
reported again in their places (R338, R340). -/
def Sub.rewind (u : Sub) (p : Nat) : Sub :=
  { u with former := max u.former u.delivered, delivered := p
           gaps := u.told.filter (fun g => decide (p < g.first + g.count)) ++ u.gaps
           told := u.told.filter (fun g => !decide (p < g.first + g.count)) }

/-! ## Small facts of R7 -/

/-- A channel number. -/
def isChannel (c : Nat) : Bool := decide (c < 768)
/-- A modulator number: primary or spare. -/
def isModulator (m : Nat) : Bool := decide (m < 864)
/-- A spare's number. -/
def isSpare (m : Nat) : Bool := decide (768 ≤ m) && decide (m < 864)
/-- A tile number. -/
def isTile (t : Nat) : Bool := decide (t < 12)
/-- The tile of a modulator: t = c / 64, or that of spare 768 + 8t + j (R7). -/
def tileOf (m : Nat) : Nat := if m < 768 then m / 64 else (m - 768) / 8
/-- The spares of a tile (R7). -/
def sparesOf (t : Nat) : List Nat := (List.range 8).map (fun j => 768 + 8 * t + j)
/-- The channels of a tile (R7). -/
def chansOf (t : Nat) : List Nat := (List.range 64).map (fun k => 64 * t + k)
/-- The excitation group of a channel: g = 8t + i with i = (c mod 64) / 8 (R7). -/
def groupOf (c : Nat) : Nat := 8 * (c / 64) + c % 64 / 8
/-- The channels of an excitation group (R7). -/
def chansOfGroup (g : Nat) : List Nat := (List.range 8).map (fun k => 64 * (g / 8) + 8 * (g % 8) + k)
/-- A hub that an error holds in BOOT keeps every output as in the reset state (R46, R687). -/
def State.outputsHeld (s : State) : Bool := decide (s.mgmt.startup = .boot) && decide (s.mgmt.errCause ≠ 0)
/-- The hub drives a field pin to a level (R197, R243, R284), unless its outputs are held (R46). -/
def drivePin (p : Nat) (level : Bool) (s : State) : State :=
  if s.outputsHeld then s else s.modPin p (fun x => { x with driven := true, level := level })
/-- READY is reported (R42): streams run (R45). -/
def State.ready (s : State) : Bool := decide (s.mgmt.startup = .ready)

end Sys2Proof.Machine
end

