-- ==== Sys2Proof/Machine/Flags.lean ====
section
/-! DEFINITION. The eight sample flags (R320 of 08) and how they combine (R145 of 04). -/

namespace Sys2Proof.Machine

/-- OVR: modulator overload or input beyond the operating span. -/
def flOVR : BitVec 8 := 0x01#8
/-- SAT: numeric saturation of a chain output. -/
def flSAT : BitVec 8 := 0x02#8
/-- SUB: value held or substituted. -/
def flSUB : BitVec 8 := 0x04#8
/-- SPARE: a spare modulator serves the channel. -/
def flSPARE : BitVec 8 := 0x08#8
/-- HOLD: instant taken from tach holdover prediction. -/
def flHOLD : BitVec 8 := 0x10#8
/-- SETL: reference not settled, or window spans a settings change. -/
def flSETL : BitVec 8 := 0x20#8
/-- XCAL: interrupted calibration apply. -/
def flXCAL : BitVec 8 := 0x40#8
/-- EXT: excitation out of tolerance. -/
def flEXT : BitVec 8 := 0x80#8

/-- A flag under a condition. -/
def flagIf (c : Bool) (f : BitVec 8) : BitVec 8 := if c then f else 0#8

/-- The OR of the flags of some words (R145). -/
def orFlags (l : List Samp) : BitVec 8 := l.foldl (fun a x => a ||| x.fl) 0#8

/-- A sample carries any flag of a mask (R238, R240). -/
def anyFlag (fl mask : BitVec 8) : Bool := decide (fl &&& mask ≠ 0#8)

end Sys2Proof.Machine
end

