-- ==== Sys2Proof/Machine/FrontEnd.lean ====
section
/-! DEFINITION. Analogue inputs and excitation (02 of the spec): the span detector, the bias diagnostics and the
excitation drivers. -/

namespace Sys2Proof.Machine

/-- Handle of a channel (class 0x01 of R570). -/
def hChan (c : Nat) : Nat := handleOf 0x01 c
/-- Handle of an excitation group. -/
def hGroup (g : Nat) : Nat := handleOf 0x03 g
/-- Handle of a tile. -/
def hTile (t : Nat) : Nat := handleOf 0x04 t
/-- Handle of a modulator. -/
def hMod (m : Nat) : Nat := handleOf 0x02 m

/-- A group number (R7). -/
def isGroup (g : Nat) : Bool := decide (g < 96)

/-! ## Span and bias (R52, R62 to R68) -/

/-- SPAN_EXCURSION (R52): a pin leaves or re-enters the operating span; the samples carry OVR meanwhile. -/
def execSpanExcursion (ch pin : Nat) (start : Bool) (t : Inst) (s : State) : Out :=
  let s := touch t s
  event (isChannel ch && decide (pin < 2)) <|
    let c := s.chan ch
    if (if pin = 0 then c.outP else c.outN) = start then s
    else
      let s := s.modChan ch (fun c => if pin = 0 then { c with outP := start } else { c with outN := start })
      postAt t pTile 0x0201 (hChan ch) [vU (if start then 1 else 0), vU pin] s

/-- Code of a bias state (R66). -/
def biasCode : Bias → Nat
  | .ok => 0 | .low => 1 | .high => 2 | .openCircuit => 3 | .short => 4 | .acquire => 5

/-- The classification of a bias estimate in mV (R66); thresholds are in 10 mV steps. -/
def classifyBias (c : Channel) (vb : Int) : Bias :=
  if vb < c.shortMax * 10 then .short
  else if vb < c.lowMax * 10 then .low
  else if vb < c.highMin * 10 then .ok
  else if vb < c.openMin * 10 then .high
  else .openCircuit

/-- A bias state at which the servo holds (R68). -/
def biasHolds (b : Bias) : Bool := b = .openCircuit || b = .short

/-- Swaths for which a classification must hold (R67). -/
def biasSwaths : Nat := 32

/-- The reported bias state changes: it is journalled, the servo holds in OPEN and SHORT, and a reported change from
OPEN or SHORT to OK, LOW or HIGH starts a fast acquisition at the next boundary (R67, R68). -/
def reportBias (ch : Nat) (new : Bias) (s : State) : State :=
  let c := s.chan ch
  if c.bias = new then s
  else
    let acq := biasHolds c.bias && !biasHolds new && decide (new ≠ .acquire)
    let s := s.modChan ch (fun c => { c with bias := new, hold := biasHolds new, acqPending := c.acqPending || acq })
    post pTile 0x0202 (hChan ch)
      [vU (biasCode c.bias), vU (biasCode new), vS c.vb, vT (ttOf (boundary s.time.swath)).sec] s

/-- A fast acquisition starts at a boundary (R64): 8,000 swaths at 5 Hz, ACQUIRE reported, its samples 0 with SUB. -/
def startAcquisition (ch : Nat) (g : Nat) (s : State) : State :=
  let s := reportBias ch .acquire s
  s.modChan ch (fun c => { c with
    acquiring := true, acqLeft := 8000, acqPending := false, hold := false
    patches := (({ start := boundary g, stop := some (boundary (g + 8000)), zero := true } : Patch) :: c.patches).take 8 })

/-- One swath of the bias servo of an IEPE channel (R62, R66, R67): the estimate, its classification, and the offset
DAC steered as a first-order high-pass, unless it is held. -/
def biasSwath (ch : Nat) (vb : Int) (s : State) : State :=
  s.modChan ch (fun c =>
    if c.mode ≠ .iepe then c
    else
      let b := classifyBias c vb
      let fc : Int := if c.acquiring then 5000 else if c.corner = 0 then 50 else if c.corner = 1 then 20 else 10
      let step := (vb * 1048576 - c.dac) * 6283185 * fc / 8000000000000
      { c with vb := vb, biasClass := b, biasRun := if b = c.biasClass then c.biasRun + 1 else 1
               acqLeft := c.acqLeft - 1
               dac := if c.hold then c.dac else clampI (-1000 * 1048576) (24000 * 1048576) (c.dac + step) })

/-- BIAS_STATE (R67): a classification that has held for 32 swaths becomes the reported state. -/
def execBiasState (ch : Nat) (s : State) : Out :=
  event (isChannel ch) <|
    let c := s.chan ch
    if c.mode = .iepe && !c.acquiring && decide (biasSwaths ≤ c.biasRun) then reportBias ch c.biasClass s else s

/-- FAST_ACQUISITION_END (R64, R67): the corner changes to the selected one, and the reported state becomes the one that
has held for 32 swaths; ACQUIRE stays until one has. -/
def execFastAcquisitionEnd (ch : Nat) (s : State) : Out :=
  event (isChannel ch) <|
    let c := s.chan ch
    if c.acquiring && decide (c.acqLeft = 0) then
      let s := s.modChan ch (fun c => { c with acquiring := false })
      if biasSwaths ≤ c.biasRun then reportBias ch c.biasClass s else s
    else s

/-! ## Excitation (R73 to R93) -/

/-- Set-voltage code, limit and tolerance that the driver works by: those that it was last given (R15). -/
def Group.driver (g : Group) : Nat × Nat × Nat := g.stuck.getD (g.setCode, g.limit, g.tol)
/-- The set-voltage code of the driver. -/
def Group.code (g : Group) : Nat := g.driver.1
/-- The current limit of the driver in µA (R76). -/
def Group.limitUa (g : Group) : Nat := 5000 * g.driver.2.1

/-- The group drives its output. -/
def Group.enabled (g : Group) : Bool := decide (g.code ≠ 0)

/-- The group sets EXT on its channels' samples (R77, R79). -/
def Group.extNow (g : Group) : Bool :=
  g.ext || (g.enabled && (g.flagged || g.inLimit || g.state = .fault || g.sense))

/-- The driver is in FAULT or OFF (R90, R516). -/
def Group.down (g : Group) : Bool := g.state = .fault || g.state = .off

/-- The driver enters FAULT or OFF at an instant: its ratiometric samples clip from then on (R85). -/
def Group.die (t : Inst) (g : Group) : Group :=
  match g.deadSpans with
  | (_, none) :: _ => g
  | l => { g with deadSpans := ((t, none) :: l).take 8 }

/-- The driver regulates again from an instant on (R85). -/
def Group.live (t : Inst) (g : Group) : Group :=
  match g.deadSpans with
  | (a, none) :: l => { g with deadSpans := (a, some t) :: l }
  | _ => g

/-- The driver did not regulate at an instant (R85). -/
def Group.deadAt (g : Group) (t : Inst) : Bool :=
  g.deadSpans.any (fun p => decide (p.1 ≤ t) && (match p.2 with | some e => decide (t < e) | none => true))

/-- The state a driver that is neither OFF nor in FAULT reports (R81): limit before local sense, RAMP until it has settled. -/
def Group.drives (g : Group) : ExcState :=
  if g.inLimit then .limit else if g.sense then .localSense else if g.ext then .ramp else .regulating

/-- EXC_LIMIT (R78): the driver holds its current at the limit. -/
def execExcLimit (g mv ua : Nat) (s : State) : Out :=
  event (isGroup g) <|
    let x := s.group g
    if !x.enabled || x.inLimit || x.state = .fault || x.state = .off then s
    else
      let s := s.modGroup g (fun x => { x with inLimit := true, state := .limit, sensedMv := mv, currentUa := ua })
      post pTile 0x0203 (hGroup g) [vU 1, vU mv, vU ua] s

/-- EXC_LIMIT_EXIT (R78): the load falls back and the 10 ms count ends. -/
def execExcLimitExit (g mv ua : Nat) (s : State) : Out :=
  event (isGroup g) <|
    if !(s.group g).inLimit then s
    else
      let s := s.modGroup g (fun x => { x with
        inLimit := false, state := Group.drives { x with inLimit := false }, sensedMv := mv, currentUa := ua })
      post pTile 0x0203 (hGroup g) [vU 0, vU mv, vU ua] s

/-- Retries after which the driver stays off (R78). -/
def maxRetries : Nat := 10

/-- EXC_FAULT (R78): after 10 ms in limit the output turns off; after 10 failed retries it stays off. -/
def execExcFault (g : Nat) (s : State) : Out :=
  event (isGroup g) <|
    let x := s.group g
    if !x.inLimit then s
    else
      let off := decide (maxRetries ≤ x.retries)
      let s := s.modGroup g (fun x => { x.die s.now with
        inLimit := false, state := .fault, staysOff := off, okSwaths := 0, swathOk := false, currentUa := 0 })
      post pTile 0x0204 (hGroup g) [vU x.retries, vU (if off then 1 else 0)] s

/-- EXC_RETRY (R78): once a second a faulted driver retries with the ramp of R77. -/
def execExcRetry (g : Nat) (s : State) : Out :=
  event (isGroup g) <|
    let x := s.group g
    if x.state ≠ .fault || x.staysOff then s
    else
      let s := s.modGroup g (fun x => { x with
        state := if x.sense then .localSense else .ramp, retries := x.retries + 1, ext := true, okSwaths := 0, swathOk := false })
      post pTile 0x0205 (hGroup g) [vU (x.retries + 1)] s

/-- EXC_WINDOW_FLAG (R79): the window comparator. -/
def execExcWindowFlag (g : Nat) (outside : Bool) (mv : Nat) (s : State) : Out :=
  event (isGroup g) <|
    s.modGroup g (fun x => { x with
      flagged := outside, sensedMv := mv, swathOk := x.swathOk && !outside, okSwaths := if outside then 0 else x.okSwaths })

/-- Swaths within tolerance after which EXT clears (R77). -/
def settleSwaths : Nat := 32

/-- Millivolts that the sensed voltage ramps in one swath, 1 V/ms (R77). -/
def rampSwath : Nat := 125

/-- The sense voltage as a boundary measures it (R81): a ramp moves 125 mV a swath towards its target (R77), a driver within
its window shows a value within its tolerance (R79), and any other value is the load's. `v` is the free value. -/
def Group.volts (g : Group) (v : Nat) : Nat :=
  let aim := 10 * g.code
  let step := max (g.sensedMv - rampSwath) (min aim (g.sensedMv + rampSwath))
  match g.state with
  | .off => g.sensedMv - rampSwath
  | .ramp => if g.role = .follow then v else step
  | .regulating =>
    let tol := aim * g.driver.2.2 / 1000
    if g.flagged then g.sensedMv else max (aim - tol) (min (aim + tol) v)
  | _ => v

/-- The output current as a boundary measures it (R81): none from a driver in OFF or FAULT, the limit in LIMIT (R78), a
follower's own (R88), and otherwise what the load draws, up to the limit: half of it beside a partner in a formed pair, and all of it
alone (R86, R91). `i` is the free value of the load's current. -/
def Group.amps (g : Group) (paired : Bool) (i : Nat) : Nat :=
  match g.state with
  | .off | .fault => 0
  | .limit => g.limitUa
  | _ => if g.role = .follow then g.followUa else min (if paired then i / 2 else i) g.limitUa

/-- One swath of a group: whole swaths within tolerance are counted (R77), and its voltage and current are measured (R81).
`n` is the number of a draw of free values. -/
def groupSwath (n g : Nat) (s : State) : State :=
  let paired := decide (s.clover.state = .formed)
  s.modGroup g (fun x =>
    let x := { x with
      okSwaths := if x.ext && x.swathOk && !x.flagged then min settleSwaths (x.okSwaths + 1) else 0, swathOk := !x.flagged }
    { x with sensedMv := x.volts (Config.senseMv n g), currentUa := x.amps paired (Config.loadUa n g) })

/-- One swath of every group. -/
def groupSwaths (s : State) : State :=
  let (n, s) := drawn s
  each (List.range 96) (groupSwath n) s

/-- EXC_SETTLED (R77): EXT clears after 32 swaths within tolerance and the driver regulates (R85); a retry that settles has not
failed (R78). -/
def execExcSettled (g : Nat) (s : State) : Out :=
  event (isGroup g) <|
    let x := s.group g
    if x.ext && decide (settleSwaths ≤ x.okSwaths) then
      s.modGroup g (fun x =>
        let y := { x with ext := false, retries := 0 }
        if y.down then y else { y.live s.now with state := y.drives })
    else s

/-- EXC_LOCAL_SENSE (R80): a sense-lead fault; V(EXC_OUT) in mV is journalled. -/
def execExcLocalSense (g mv : Nat) (s : State) : Out :=
  event (isGroup g) <|
    let x := s.group g
    if !x.enabled || x.sense || x.down then s
    else post pTile 0x0206 (hGroup g) [vU 1, vU mv] (s.modGroup g (fun x =>
      { x with sense := true, state := Group.drives { x with sense := true } }))

/-- EXC_REMOTE_SENSE_RETURN (R80): the driver returns to remote sense. -/
def execExcRemoteSenseReturn (g mv : Nat) (s : State) : Out :=
  event (isGroup g) <|
    if !(s.group g).sense then s
    else post pTile 0x0206 (hGroup g) [vU 0, vU mv] (s.modGroup g (fun x =>
      { x with sense := false, state := if x.down then x.state else Group.drives { x with sense := false } }))

/-- A group's settings do not reach a tile whose side-band has failed: its driver goes on by those that it holds (R15). `was` is the
group before the change. -/
def keepDriver (g : Nat) (was : Group) (code : Nat) (s : State) : State :=
  s.modGroup g (fun x => { x with setCode := code, stuck := some was.driver })

/-- A change of set voltage applies at a boundary (R73, R77, R78, R82): code 0 turns the driver off; otherwise the sensed
voltage ramps, EXT is set until it has settled, and a group in limit keeps its 10 ms count. A group of a standby member that
is turned on follows its partner's current (R88); a SEVERED member's outputs stay high-impedance (R515). -/
def setVoltage (g code : Nat) (b : Inst) (s : State) : State :=
  if s.outputsHeld || s.clover.state = .severed then s.modGroup g (fun x => { x with setCode := code })
  else
  let follows := decide (s.clover.state = .formed) && decide (s.clover.role = .standby)
  s.modGroup g (fun x =>
    if x.setCode = code && !x.staysOff && x.state ≠ .fault then x
    else
      let y := { x with
        setCode := code, inLimit := x.inLimit && decide (code ≠ 0), sense := x.sense && decide (code ≠ 0), retries := 0
        staysOff := false, ext := true, okSwaths := 0, swathOk := !x.flagged, currentUa := if code = 0 then 0 else x.currentUa
        role := if follows && decide (x.setCode = 0) then .follow else x.role }
      if code = 0 then { y.die b with state := .off } else { y with state := y.drives })

/-- A group changes between voltage regulation and current follower (R88 to R90, R93): a new follower goes on sourcing the
current that it sourced, and so does a new regulator until its loop changes it. -/
def setRole (g : Nat) (r : ExcRole) (s : State) : State :=
  s.modGroup g (fun x => { x with
    role := r, followOver := false, followUa := if r = .follow then min x.currentUa x.limitUa else x.followUa })

/-- Every group takes a role. -/
def setRoles (r : ExcRole) (s : State) : State := each (List.range 96) (fun g => setRole g r) s

/-- An active member whose partner is lost takes up the full current of the load with its voltage loop, without a change of role
(R91). -/
def takeLoad (s : State) : State :=
  each (List.range 96) (fun g s => s.modGroup g (fun x =>
    if x.enabled && !x.down && x.role = .regulate && x.state ≠ .limit then { x with currentUa := min (2 * x.currentUa) x.limitUa } else x)) s

/-- A standby member whose partner is lost regulates every enabled group; EXT is set until the sensed voltage has been within
tolerance for 32 swaths (R89). -/
def recoverGroups (s : State) : State :=
  each (List.range 96) (fun g s => s.modGroup g (fun x =>
    if x.enabled && !x.down then { x with ext := true, okSwaths := 0, swathOk := false } else x)) (setRoles .regulate s)

/-- A follower's current from a heartbeat (R88): its limit at most, with one entry while the request is above it. -/
def followCurrent (g ua : Nat) (s : State) : State :=
  let x := s.group g
  let lim := x.limitUa
  let past := decide (lim < ua)
  let s := s.modGroup g (fun x => { x with
    followUa := min ua lim, currentUa := if x.down then x.currentUa else min ua lim, followOver := past })
  when (past && !x.followOver) (post pTile 0x0207 (hGroup g) [vU ua, vU (lim / 1000)]) s

end Sys2Proof.Machine
end

