-- ==== Sys2Proof/Machine/Rates.lean ====
section
/-! DEFINITION. The rates, counts and delays of the chains (R153, R160 to R168, R174, R175 of 04; R190, R192, R212 to
R217 of 05), computed exactly over integers. Rates are rationals in thousandths of S/s. -/

namespace Sys2Proof.Machine

/-- A rate in thousandths of S/s as numerator and denominator. -/
abbrev Rate := Nat × Nat

/-- Nearest integer of a quotient, halves up. -/
def roundDiv (a b : Nat) : Nat := (2 * a + b) / (2 * b)

/-- Kind code of a band (R306). -/
def bandKind : Band → Nat
  | .lb => 1 | .wb => 2 | .eb => 3

/-- Index of a chain (class 0x05 of R570). -/
def chainIndex (m kind : Nat) : Nat := 4 * m + kind
/-- Handle of a chain. -/
def hChain (m kind : Nat) : Nat := handleOf 0x05 (chainIndex m kind)

/-- The least k from 0 to 64 at which 2^k times a rate reaches an input rate: ceil(log2(input / rate)). -/
def log2Up (inNum : Nat) (r : Rate) : Nat := ((List.range 65).find? (fun k => decide (inNum * r.2 ≤ 2 ^ k * r.1))).getD 64

/-- L3 output rate, 732,421.875 S/s. -/
def l3Rate : Nat := 732421875
/-- 1.5 GS/s in thousandths of S/s. -/
def topRate : Nat := 1500000000000

/-- Cycles between samples of a tap point L1, L3, H1, H2, H3 (R160). -/
def tapPeriod (tap : Nat) : Nat := match tap with | 0 => 128 | 1 => 2048 | 2 => 4096 | 3 => 8192 | _ => 16384
/-- Largest E3 exponent of a tap point (R160). -/
def tapMaxM (tap : Nat) : Nat := match tap with | 0 => 14 | 1 => 10 | 2 => 9 | 3 => 8 | _ => 7
/-- Tap, f1 and f2 in Hz of a preset (R163). -/
def preset (p : Nat) : Nat × Nat × Nat :=
  match p with
  | 0 => (4, 4000, 20000) | 1 => (3, 8000, 40000) | 2 => (3, 15000, 60000) | 3 => (2, 25000, 100000)
  | 4 => (1, 50000, 150000) | 5 => (1, 100000, 280000) | 6 => (0, 500000, 1000000) | _ => (0, 800000, 1500000)
/-- Tap, f1 and f2 of a band setting (R163 to R165). -/
def bandTap (b : BandSel) : Nat × Nat × Nat := if b.preset < 8 then preset b.preset else (b.tap, b.f1, b.f2)

/-- The rate that a binding needs at most: N_rev × f_max (R212, R213). -/
def bindRate (s : State) (b : Bind) : Rate := (1000 * b.nrev * (s.shaft b.group).fmax.getD 0, 65536)

/-- The LB chain of a modulator runs in angle mode now (R212, R222). -/
def lbAngle (s : State) (m : Nat) : Option Bind := if (s.pipe m).lbFell then none else (s.chain m).lbBind
/-- The EB chain of a modulator runs in angle mode now. -/
def ebAngle (s : State) (m : Nat) : Option Bind := if (s.pipe m).ebFell then none else (s.chain m).ebBind

/-- LH and LT counts of an LB rate in time mode (R153). -/
def lbCounts (r : Rate) : Nat × Nat :=
  let n := log2Up l3Rate r - 1
  (min n 10, n - 10)

/-- LH count of an LB chain (R153, R213). -/
def lhCount (s : State) (m : Nat) : Nat :=
  match lbAngle s m with
  | some b => log2Up l3Rate (bindRate s b) - 1
  | none => (lbCounts ((s.chain m).lbRate, 1)).1

/-- LT count of an LB chain; angle mode has none (R213). -/
def ltCount (s : State) (m : Nat) : Nat := if (lbAngle s m).isSome then 0 else (lbCounts ((s.chain m).lbRate, 1)).2

/-- E3 exponent for a rate at a tap (R168). -/
def e3Exp (tap : Nat) (r : Rate) : Nat := log2Up topRate (r.1 * tapPeriod tap, r.2) - 1

/-- E3 exponent of an EB chain (R168, R213). -/
def ebExp (s : State) (m : Nat) : Nat :=
  let tap := (bandTap (s.chain m).band).1
  match ebAngle s m with
  | some b => e3Exp tap (bindRate s b)
  | none => e3Exp tap ((s.chain m).ebRate, 1)

/-- Cascade ratio of the input of LR (R152). -/
def lrRatio (s : State) (m : Nat) : Nat := 2 ^ (11 + lhCount s m)
/-- Cascade ratio of the input of ER. -/
def erRatio (s : State) (m : Nat) : Nat := tapPeriod (bandTap (s.chain m).band).1 * 2 ^ ebExp s m

/-- Δ of a resampler for a rate and the cascade ratio of its input (R190). -/
def deltaOf (r : Rate) (d : Nat) : Nat := roundDiv (4294967296 * topRate * r.2) (r.1 * d)

/-- Δ of LR: for the LR output rate, 2^t times the LB rate. -/
def lrDelta (s : State) (m : Nat) : Nat := deltaOf ((s.chain m).lbRate * 2 ^ ltCount s m, 1) (lrRatio s m)
/-- Δ of ER. -/
def erDelta (s : State) (m : Nat) : Nat := deltaOf ((s.chain m).ebRate, 1) (erRatio s m)

/-- Cascade ratio of a WB chain (R149). -/
def wbRatio (s : State) (m : Nat) : Nat := 32 * 2 ^ (s.chain m).wbRate

/-- N_L of a line-cycle average: r / f_line as an integer from 2 to 8,192 (R156). -/
def avgLen (rate line : Nat) : Option Nat :=
  if rate % (1000 * line) = 0 && decide (2 ≤ rate / (1000 * line)) && decide (rate / (1000 * line) ≤ 8192)
  then some (rate / (1000 * line)) else none

/-- T_n of code 0, 1, 2 in tenths of a second (R157). -/
def notchTn (code : Nat) : Nat := if code = 0 then 2 else if code = 1 then 4 else 8

/-- Half of the notch length: nn = 2 × round(r × tn / 2) + 1 (R157). -/
def notchHalf (rate tn : Nat) : Nat := roundDiv (rate * notchTn tn) 20000

/-- Delay of LN in half periods of the LB output (R174). -/
def lnHalves (c : ChainCfg) : Nat :=
  match c.mains with
  | .off => 0
  | .avg50 => (avgLen c.lbRate 50).getD 1 - 1
  | .avg60 => (avgLen c.lbRate 60).getD 1 - 1
  | .notch50 _ tn => 2 * notchHalf c.lbRate tn
  | .notch60 _ tn => 2 * notchHalf c.lbRate tn

/-- Cascade delay to the tap point of EB, front end excluded (R175). -/
def tapDelay (tap : Nat) : Nat := match tap with | 0 => 314 | 1 => 33850 | 2 => 80954 | 3 => 175162 | _ => 363578

/-- Span of one LR output in time mode. -/
def lrSpan (s : State) (m : Nat) : Nat := lrDelta s m * lrRatio s m
/-- Span of one ER output in time mode. -/
def erSpan (s : State) (m : Nat) : Nat := erDelta s m * erRatio s m

/-- Longest period of an angle-mode chain, 1 / (N_rev × f_min) (R250). -/
def anglePeriod (s : State) (b : Bind) : Nat := roundDiv (1500000000 * 65536 * 4294967296) (b.nrev * max 1 ((s.shaft b.group).fmin.getD 1))

/-- Sample period of a chain output as a span (R250, R318). -/
def bandPeriod (s : State) (m : Nat) (b : Band) : Nat :=
  match b with
  | .wb => atCycle (wbRatio s m)
  | .lb => (match lbAngle s m with
    | some x => anglePeriod s x
    | none => lrSpan s m * 2 ^ ltCount s m)
  | .eb => (match ebAngle s m with
    | some x => anglePeriod s x
    | none => erSpan s m)

/-- Cascade delay up to LR's output as a span, front end excluded (R174, R175, R189). -/
def lrDelay (s : State) (m : Nat) : Nat := atCycle (33850 + 47104 * (2 ^ lhCount s m - 1) + 24 * lrRatio s m)

/-- Delay of a chain output as a span, front end excluded, LR or ER, LT and LN included (R174, R175, R189). -/
def bandDelay (s : State) (m : Nat) (b : Band) : Nat :=
  match b with
  | .wb => atCycle (match (s.chain m).wbRate with | 0 => 782 | 1 => 1518 | _ => 2990)
  | .lb =>
    let base := lrDelay s m
    if (lbAngle s m).isSome then base
    else base + 23 * (2 ^ ltCount s m - 1) * lrSpan s m + lnHalves (s.chain m) * (lrSpan s m * 2 ^ ltCount s m) / 2
  | .eb =>
    let tap := (bandTap (s.chain m).band).1
    let p := tapPeriod tap
    atCycle (tapDelay tap + 190 * p + 3 * (2 ^ ebExp s m - 1) * p / 2 + 24 * erRatio s m)

/-- Look-ahead L_a of an angle-mode chain: (1 + X) of the tooth interval at f_min, the transport allowance, and 26 u in
CODE mode (R211, R216). -/
def lookAhead (s : State) (b : Bind) : Nat :=
  let g := s.shaft b.group
  let rev := roundDiv (1500000000 * 65536 * 4294967296) (max 1 (g.fmin.getD 1))
  let tooth := rev * (100 + g.tol) / (100 * max 1 g.teeth)
  let code := if g.zeroKind = 2 then rev * 26 * (s.tach (g.source.getD b.group)).codeU / 4096 else 0
  let pair := if s.clover.state = .formed && s.clover.role = .standby then nsSpan 2000 else 0
  tooth + nsSpan (g.allow * 1000) + code + pair

/-- Binding of a chain output that runs in angle mode. -/
def bandBind (s : State) (m : Nat) (b : Band) : Option Bind :=
  match b with
  | .wb => none
  | .lb => lbAngle s m
  | .eb => ebAngle s m

/-- A sample of instant T is available by T + d + 300 ns (R176), where d is the cascade delay of R144; in angle mode by T + d + L_a +
300 ns (R216), where d is the removed delay, the four cycles of the front end included (R175). -/
def availSpan (s : State) (m : Nat) (b : Band) : Nat :=
  bandDelay s m b + (match bandBind s m b with | some x => lookAhead s x + atCycle 4 | none => 0) + nsSpan 300

/-- A chain output is enabled. -/
def bandOn (c : ChainCfg) : Band → Bool
  | .lb => c.lbOn | .wb => c.wbOn | .eb => c.ebOn

/-- A chain output is held by thermal shedding or the budget (R420, R635). -/
def bandHeld (p : Pipe) : Band → Bool
  | .lb => false | .wb => p.wbHeld || p.budget | .eb => p.ebHeld

/-- Band of a kind code. -/
def bandOf (kind : Nat) : Band := if kind = 2 then .wb else if kind = 3 then .eb else .lb

/-- Bytes of a sample (R260). -/
def sampleBytes (b : Band) : Nat := match b with | .wb => 3 | _ => 4

/-- The output rate of two chain outputs is the same (R249). -/
def sameRate (s : State) (b : Band) (m1 m2 : Nat) : Bool :=
  decide (bandBind s m1 b = bandBind s m2 b) && ((bandBind s m1 b).isSome || decide (bandPeriod s m1 b = bandPeriod s m2 b))

end Sys2Proof.Machine
end

