-- ==== Sys2Proof/Machine/Budget.lean ====
section
/-! DEFINITION. Worst-case records and the DRAM budget (R312, R319, R321, R324 to R326 of 08; R419 of 10; R215 of 05). -/

namespace Sys2Proof.Machine

/-! ## Worst-case records -/

/-- Span of one swath. -/
def swathSpan : Nat := atCycle Config.swathCycles

/-- Shortest sample period of a chain output as a span: in angle mode 1 / (N_rev × f_max) (R212). -/
def fastPeriod (s : State) (m : Nat) (b : Band) : Nat :=
  match bandBind s m b with
  | some x => 1500000000 * 65536 * 4294967296 / max 1 (x.nrev * (s.shaft x.group).fmax.getD 1)
  | none => bandPeriod s m b

/-- The most samples that a record window of n swaths holds (R312). -/
def windowItems (s : State) (m : Nat) (b : Band) (n : Nat) : Nat := ceilDiv (n * swathSpan) (max 1 (fastPeriod s m b))

/-- Payload bytes of n unpacked samples, no descriptor; WB status bytes for the most blocks they touch (R319, R321). -/
def sampleBytesOf (b : Band) (n : Nat) : Nat :=
  match b with
  | .wb => 3 * n + roundUp ((n + 254) / 256 + 1) 8
  | _ => 4 * n

/-- Largest payload of a sample record of a chain output at its present settings (R313). -/
def worstPayload (s : State) (m : Nat) (b : Band) (n : Nat) : Nat := sampleBytesOf b (windowItems s m b n)

/-- Largest record of a chain output in ring bytes, without a descriptor (R322's worked example). -/
def worstRing (s : State) (m : Nat) (b : Band) (n : Nat) : Nat := roundUp (48 + worstPayload s m b n) 64

/-- Largest record of a chain output, its descriptor included (R318, R331). -/
def worstRecord (s : State) (m : Nat) (b : Band) (n : Nat) : Nat := roundUp (80 + worstPayload s m b n) 64

/-! ## The fixed load (R419) -/

/-- Sustained planning figure of the population in MB/s: 75 % of peak (R382, R383). -/
def sustained (s : State) : Nat := 6 * s.mem.pop.mts * s.mem.pop.channels.length

/-- A chain output that is enabled and not held. -/
def bandRuns (s : State) (m : Nat) (b : Band) : Bool := bandOn (s.chain m) b && !bandHeld (s.pipe m) b

/-- Record window of a chain output's stream. -/
def windowOf (s : State) (m : Nat) (b : Band) : Nat := (s.stream (4096 * m + 256 * bandKind b)).window

/-- Ring writes of a chain output in bytes per second: its ring exists while the output is enabled, a spare's too, whatever channel
it serves (R308, R419; notes/assumptions/59.md). -/
def ringLoad (s : State) (m : Nat) (b : Band) : Nat :=
  if bandRuns s m b then
    worstRing s m b (windowOf s m b) * Config.swathsPerSec / max 1 (windowOf s m b)
  else 0

/-- Delay-line writes and reads of a bound chain output in bytes per second: 4 × f_in each way (R215). -/
def lineLoad (s : State) (m : Nat) (b : Band) : Nat :=
  match bandBind s m b with
  | none => 0
  | some _ =>
    if bandOn (s.chain m) b then 8 * ceilDiv 1500000000 (match b with | .eb => erRatio s m | _ => lrRatio s m) else 0

/-- Ring writes of a statistics definition in bytes per second: one record of 48 + 40 bytes an interval (R232, R323). -/
def statLoad (s : State) (x : StatDef) : Nat :=
  if !x.on then 0
  else if x.rev then 128 * ceilDiv ((s.shaft (x.group.getD 0)).fmax.getD 0) (65536 * max 1 x.len)
  else 128 * ceilDiv Config.swathsPerSec (max 1 x.len)

/-- All modulators. -/
def allMods : List Nat := List.range 864

/-- F of R419 in bytes per second: every ring's writes, and the delay lines' writes and reads. -/
def fixedLoad (s : State) : Nat :=
  (allMods.map (fun m => ringLoad s m .lb + ringLoad s m .wb + ringLoad s m .eb + lineLoad s m .lb + lineLoad s m .eb)).sum
    + (s.red.stats.map (fun p => statLoad s p.2)).sum
    + Config.otherLoad 5 + Config.otherLoad 6 + Config.otherLoad 7 + Config.otherLoad 8

/-- F + 2C within the sustained figure (R419), F given. Before training the population is not known and nothing is refused
(R420 judges the configuration when training ends). -/
def fitsAt (s : State) (f c : Nat) : Bool :=
  s.mem.pop.channels.isEmpty || decide (f + 2 * c * 1000000000 ≤ sustained s * 1000000)

/-- F + 2C within the sustained figure at the configured settings (R419). -/
def fitsBudget (s : State) : Bool := fitsAt s (fixedLoad s) s.red.rateC

/-! ## Ring areas (R324 to R326, R400) -/

/-- Default guaranteed depth of a kind: µs for kinds 0x1 to 0x3 and 0x6, items otherwise (R325). -/
def defaultDepth (kind : Nat) : Nat :=
  if kind = 2 then 2000000 else if kind = 1 || kind = 3 || kind = 6 then 60000000
  else if kind = 4 then 4096 else 65536

/-- G of a ring. -/
def depthOf (st : Stream) (kind : Nat) : Nat := st.depth.getD (defaultDepth kind)

/-- Bytes of a chain output's ring, sized for G at the unpacked worst-case record (R325). -/
def chainRing (s : State) (m : Nat) (b : Band) : Nat :=
  if bandOn (s.chain m) b && (decide (m < 768) || (s.stream (4096 * m + 256 * bandKind b)).exists_ || (s.spare m).source.isNone) then
    let st := s.stream (4096 * m + 256 * bandKind b)
    ceilDiv (depthOf st (bandKind b) * 8) (1000 * max 1 st.window) * worstRing s m b st.window
  else 0

/-- Bytes of a statistics definition's ring. -/
def statRing (s : State) (k : Nat) (x : StatDef) : Nat :=
  if x.on then 128 * depthOf (s.stream (4096 * (k / 16) + 1024 + 64 * (k / 4 % 4) + k % 4)) 4 else 0

/-- Bytes of the tach, event and housekeeping rings: a tach ring's share of the tach load over its G, and whole records of
1,024 event and 4,096 housekeeping entries. -/
def otherRings (s : State) : Nat :=
  ((List.range 64).map (fun (i : Nat) =>
      ceilDiv (depthOf (s.stream (4096 * (896 + i / 2) + 1536 + i % 2)) 6 * Config.otherLoad 6) (64 * 1000000))).sum
    + ceilDiv (depthOf (s.stream (4096 * 960 + 1792)) 7) 1024 * 65600
    + ceilDiv (depthOf (s.stream (4096 * 961 + 2048)) 8) 4096 * 65600

/-- Bytes of the delay lines. -/
def lineArea (s : State) : Nat :=
  (allMods.map (fun m => 4 * (((s.chain m).lbBind.map (·.words)).getD 0 + ((s.chain m).ebBind.map (·.words)).getD 0))).sum

/-- Size of area i of R324 and R400 in GiB: RING_WB, RING_LB, TUSSOCK, DELAY, TENANT; a default scales with the
population. -/
def areaGiB (s : State) (i : Nat) : Nat :=
  match s.mem.areas with
  | some l => l.getD i 0
  | none => ([202, 160, 128, 8, 14].getD i 0) * s.mem.pop.gib / 512

/-- Bytes within an area; before training the sizes of the default areas are not known. -/
def inArea (s : State) (i bytes : Nat) : Bool :=
  (s.mem.pop.channels.isEmpty && s.mem.areas.isNone) || decide (bytes ≤ areaGiB s i * 1073741824)

/-- Every ring and delay line fits in its area (R215, R326). -/
def fitsAreas (s : State) : Bool :=
  inArea s 0 ((allMods.map (fun m => chainRing s m .wb)).sum)
    && inArea s 1 ((allMods.map (fun m => chainRing s m .lb + chainRing s m .eb)).sum
        + (s.red.stats.map (fun p => statRing s p.1 p.2)).sum + otherRings s)
    && inArea s 3 (lineArea s)

/-- Words of a delay line: 2^ceil(log2(f_in / (P × f_min) + 64)), for a group and the cascade ratio of the resampler's input
(R215). -/
def lineWords (x : Shaft) (ratio : Nat) : Nat :=
  let need := ceilDiv (1500000000 * 65536) (ratio * max 1 x.teeth * max 1 (x.fmin.getD 1)) + 64
  2 ^ (((List.range 41).find? (fun (k : Nat) => decide (need ≤ 2 ^ k))).getD 41)

/-- Delay lines at the largest depth that the DELAY area still holds and those in use (R610). -/
def lineCount (s : State) : Nat :=
  (allMods.map (fun m => (if (s.chain m).lbBind.isSome then 1 else 0) + (if (s.chain m).ebBind.isSome then 1 else 0))).sum

end Sys2Proof.Machine
end

