-- ==== Sys2Proof/Machine/Fifo.lean ====
section
/-! DEFINITION. The asynchronous FIFOs between clock domains (R20 of 01; R421 to R426 of 10). One command writes and reads in
order, so the flags show the pointers themselves; the lag of the synchronisers is time alone (log entry 20). -/

namespace Sys2Proof.Machine

/-- A row of R426: log2 of the depth, and the word in bytes. -/
def fifoShape (row : Nat) : Nat × Nat :=
  match row with
  | 0 => (5, 12) | 1 => (5, 4) | 2 => (5, 4) | 3 => (8, 72) | 4 => (8, 64) | 5 => (7, 64) | 6 => (6, 8) | _ => (4, 8)

/-- Index of a crossing FIFO: its row and instance (R712). -/
def fifoKey (row inst : Nat) : Nat := 64 * row + inst

/-- Row ID and number of instances of each crossing (R426, R712). -/
def fifoRows : List (Nat × Nat) := [(0, 48), (1, 32), (2, 32), (3, 8), (4, 8), (5, 2), (6, 2), (7, 2)]

/-- Parity of the ones of a byte. -/
def byteOdd (b : Nat) : Bool := (List.range 8).foldl (fun a i => a != b.testBit i) false

/-- The even-parity bits of a word, one a byte (R423). -/
def parityOf (bytes bits : Nat) : Nat :=
  ((List.range bytes).map (fun (i : Nat) => if byteOdd (bits / 2 ^ (8 * i) % 256) then 2 ^ i else 0)).sum

/-- The Gray code of a pointer, which passes to the other domain (R421). -/
def grayOf (p : Nat) : Nat := Nat.xor p (p / 2)

/-- Words present in a FIFO of 2^n entries (R425). -/
def Fifo.count (n : Nat) (f : Fifo) : Nat := (f.wr + 2 ^ (n + 1) - f.rd) % 2 ^ (n + 1)

/-- Empty, as the read domain sees it: the pointers are equal (R422). -/
def Fifo.empty (f : Fifo) : Bool := decide (f.rd = f.wr)

/-- Full, as the write domain sees it: the pointers are a whole round apart (R422). -/
def Fifo.full (n : Nat) (f : Fifo) : Bool := decide (f.count n = 2 ^ n)

/-- A word is written with its parity, and with the poison tag that a dropped word has left (R422 to R424). -/
def Fifo.write (n bytes bits : Nat) (f : Fifo) : Fifo :=
  { f with ram := f.ram.set (f.wr % 2 ^ n) { bits := bits, par := parityOf bytes bits, poison := f.poisonNext }
           wr := (f.wr + 1) % 2 ^ (n + 1), poisonNext := false }

/-- The oldest word is read, and its entry is free (R422). -/
def Fifo.read (n : Nat) (f : Fifo) : FifoWord × Fifo :=
  (f.ram.get (f.rd % 2 ^ n), { f with rd := (f.rd + 1) % 2 ^ (n + 1) })

/-- A bit of the oldest word's storage changes, so that its parity fails. -/
def Fifo.upset (n : Nat) (f : Fifo) : Fifo :=
  { f with ram := f.ram.mod (f.rd % 2 ^ n) (fun w => { w with bits := Nat.xor w.bits 1 }) }

/-- Parity counter (k = 1) and overflow counter (k = 2) of a FIFO. -/
def fifoCtr (key k : Nat) : Nat := ctrKey (clsPrivate + 8) key k 0

/-- A FIFO changes. -/
def State.modFifo (s : State) (key : Nat) (f : Fifo → Fifo) : State := { s with mem := { s.mem with fifos := s.mem.fifos.mod key f } }

/-- A writer that cannot stall writes a word; when it finds the FIFO full it drops the word, counts the drop, and the next word
carries the poison tag (R424). -/
def pushWord (row inst bits : Nat) (s : State) : State :=
  let key := fifoKey row inst
  let (n, bytes) := fifoShape row
  if (s.mem.fifos.get key).full n then bump (fifoCtr key 2) (s.modFifo key (fun f => { f with poisonNext := true }))
  else s.modFifo key (Fifo.write n bytes bits)

/-- The read domain takes a word where there is one; a word whose parity fails is counted, and carries the poison tag (R423). -/
def popWord (row inst : Nat) (s : State) : Option (Nat × Bool) × State :=
  let key := fifoKey row inst
  let (n, bytes) := fifoShape row
  let f := s.mem.fifos.get key
  if f.empty then (none, s)
  else
    let (w, f') := f.read n
    let bad := decide (parityOf bytes w.bits ≠ w.par)
    (some (w.bits, w.poison || bad), when bad (bump (fifoCtr key 1)) (s.modFifo key (fun _ => f')))

/-- A word of a transfer that a command brings whole was harmed in its crossing: a stored bit had changed, or it found the FIFO full
(R423, R424). -/
def harmWord (row inst : Nat) (dropped : Bool) (s : State) : State := bump (fifoCtr (fifoKey row inst) (if dropped then 2 else 1)) s

end Sys2Proof.Machine
end

