-- ==== Sys2Proof/Machine/Dwehild.lean ====
section
/-! DEFINITION. What every Dwehild command has in common (15 of the spec): the marks of an opcode, the checks in the
order of R588, completions and their queues (R562 to R569), the command journal (R604) and remote frames (R558). -/

namespace Sys2Proof.Machine

/-! ## Opcodes and their marks (R590) -/

/-- Every opcode that a table of 15 lists. -/
def opcodes : List Nat :=
  [0x0100, 0x0101, 0x0102, 0x0103, 0x0104, 0x0105, 0x0106, 0x0107, 0x0108, 0x0109,
   0x0200, 0x0201, 0x0202, 0x0203, 0x0204, 0x0205, 0x0206, 0x0207, 0x0208, 0x0209, 0x020A,
   0x0300, 0x0301, 0x0302, 0x0400, 0x0401, 0x0402, 0x0403, 0x0404,
   0x0500, 0x0501, 0x0502, 0x0503, 0x0504, 0x0505, 0x0506, 0x0507, 0x0508] ++
  [0x0600, 0x0601, 0x0602, 0x0603, 0x0604, 0x0605, 0x0606, 0x0607, 0x0608,
   0x0700, 0x0701, 0x0702, 0x0703, 0x0704, 0x0705, 0x0706,
   0x0800, 0x0801, 0x0802, 0x0803, 0x0804, 0x0805, 0x0806, 0x0900, 0x0901, 0x0902,
   0x0A00, 0x0A01, 0x0A02, 0x0A03, 0x0A04, 0x0A05, 0x0A06,
   0x0B00, 0x0B01, 0x0B02, 0x0B03, 0x0B04, 0x0B05, 0x0B06, 0x0B07,
   0x0C00, 0x0C01, 0x0C02, 0x0C03, 0x0C04, 0x0C05, 0x0C06, 0x0C07]

/-- Mark S: the command stages a change. -/
def stagedOps : List Nat :=
  [0x0200, 0x0202, 0x0204, 0x0300, 0x0301, 0x0400, 0x0402, 0x0500, 0x0501, 0x0507, 0x0606, 0x0800]

/-- Mark P: for tenant 0 alone. -/
def privOps : List Nat :=
  [0x0103, 0x0207, 0x020A, 0x0507, 0x0606, 0x0701, 0x0702, 0x0703, 0x0704, 0x0705, 0x0800, 0x0802, 0x0804, 0x0806,
   0x0900, 0x0902, 0x0A00, 0x0A02, 0x0A03, 0x0A04, 0x0A05, 0x0A06, 0x0B01, 0x0B04, 0x0B05, 0x0B06, 0x0B07,
   0x0C00, 0x0C01, 0x0C06, 0x0C07]

/-- Mark L: member-local under R520. -/
def localOps : List Nat :=
  [0x0100, 0x0101, 0x0102, 0x0103, 0x0104, 0x0105, 0x0106, 0x0201, 0x0203, 0x0204, 0x0205, 0x0206, 0x0208, 0x0209,
   0x020A, 0x0401, 0x0700, 0x0701, 0x0702, 0x0703, 0x0704, 0x0801, 0x0805, 0x0901, 0x0A01, 0x0A02, 0x0A03, 0x0A06,
   0x0B00, 0x0B01, 0x0B02, 0x0B03, 0x0B04, 0x0B05, 0x0B06, 0x0B07] ++
  [0x0C00, 0x0C01, 0x0C02, 0x0C03, 0x0C04, 0x0C05, 0x0C06, 0x0C07]

/-- Commands that change no state: reads, excluded from the command journal (R604) and from mirroring (R590). -/
def readOps : List Nat :=
  [0x0100, 0x0101, 0x0102, 0x0107, 0x0201, 0x0203, 0x0206, 0x0302, 0x0401, 0x0403, 0x0502, 0x0508, 0x0602, 0x0608,
   0x0700, 0x0801, 0x0803, 0x0901, 0x0A01, 0x0B00, 0x0B02, 0x0B03, 0x0C02, 0x0C03, 0x0C04]

/-- A reserved flag is set (R567, R568). -/
def reservedFlags (f : BitVec 16) : Bool := decide (8 ≤ f.toNat)
/-- APPLY_NOW (R567). -/
def applyNow (c : Cmd) : Bool := c.flags.getLsbD 0
/-- NETWORK (R567). -/
def netFlag (c : Cmd) : Bool := c.flags.getLsbD 2

/-- Object class of a handle (R570). -/
def hClass (c : Cmd) : Nat := c.handle.toNat / 16777216
/-- Object index of a handle. -/
def hIndex (c : Cmd) : Nat := c.handle.toNat % 16777216
/-- The broadcast index 0xFF_FFFF. -/
def isBroadcast (c : Cmd) : Bool := decide (hIndex c = 0xFFFFFF)

/-! ## Statuses -/

/-- Code of a status (R587). -/
def statusCode : Status → Nat
  | .done => 0x0000 | .accepted => 0x0001 | .partialDone => 0x0002 | .staged => 0x0010
  | .badOpcode => 0x8001 | .badParam => 0x8002 | .noSuchObject => 0x8003 | .notOwner => 0x8004 | .busy => 0x8005
  | .noResource => 0x8006 | .limit => 0x8007 | .state => 0x8008 | .tooLate => 0x8009 | .auth => 0x800A
  | .interrupted => 0x800B | .violation => 0x800C

/-- Place of a status in the order of R588; statuses that R588 does not list come last. -/
def statusRank : Status → Nat
  | .badOpcode => 0 | .notOwner => 1 | .noSuchObject => 2 | .badParam => 3 | .state => 4 | .busy => 5 | .limit => 6
  | .noResource => 7 | .tooLate => 8 | .auth => 9 | _ => 10

/-- The status that a command reports: the first of R588 among the checks that fail. -/
def firstFail : List (Bool × Status) → Option Status
  | [] => none
  | (ok, st) :: r =>
    match ok, firstFail r with
    | true, x => x
    | false, none => some st
    | false, some st' => some (if statusRank st' < statusRank st then st' else st)

/-- A refusal has no effect (R588). -/
def refuse (st : Status) (s : State) : Reply × State := ({ status := st }, s)

/-- A NO_RESOURCE refusal with the GET_LIMITS identifier of the full table (R589). -/
def refuseFull (limit : Nat) (s : State) : Reply × State := ({ status := .noResource, limit := limit }, s)

/-- Carry out a body when every check holds. -/
def checked (l : List (Bool × Status)) (s : State) (body : State → Reply × State) : Reply × State :=
  match firstFail l with
  | some st => refuse st s
  | none => body s

/-! ## Completions -/

/-- The session key of a tenant: kind and id (R604, R605). -/
def keyOf (t : Tenant) : Nat × Nat := (t.kind, if t.kind = 2 then t.uid else t.vf)

/-- A vector of the MSI-X table is masked: bit 0 of the last word of its entry, which is 1 at reset (log entry 185). -/
def Func.masked (f : Func) (v : Nat) : Bool := !(f.msix.get (4 * v + 3)).testBit 0

/-- A function raises a vector: a masked one stays pending (R541, R546). -/
def Func.raise (v : Nat) (now : Inst) (f : Func) : Func :=
  { f with raised := f.raised.mod v (· + 1), lastMsg := f.lastMsg.set v (some now), msgDue := f.msgDue.set v false
           pend := if f.masked v then f.pend.set v true else f.pend }

/-- Raise a vector (R546). -/
def raise (fn v : Nat) (s : State) : State := s.modFunc fn (Func.raise v s.now)

/-- A vector was raised less than 2 µs ago (R547). -/
def Func.tooSoon (f : Func) (v : Nat) (now : Inst) : Bool :=
  match f.lastMsg.get v with
  | some l => decide (now < l + nsSpan 2000)
  | none => false

/-- Raise a queue's vector, at most once per 2 µs: one that comes too soon is due (R547). -/
def raiseQueue (fn v : Nat) (s : State) : State :=
  s.modFunc fn (fun f => if f.tooSoon v s.now then { f with msgDue := f.msgDue.set v true } else f.raise v s.now)

/-- Functions that exist. -/
def allFns : List Nat := List.range 64

/-- The vectors that are due are raised at the boundary, 2 µs after the last time (R547; log entry 185). -/
def raiseDue (s : State) : State :=
  each (allFns.filter (fun fn => (s.func fn).msgDue.any (·.2))) (fun fn s =>
    each (List.range 8) (fun v s => if (s.func fn).msgDue.get v then raiseQueue fn v s else s) s) s

/-! ## HEALTH_STATE (R546) -/

/-- Code of a start-up state (R42). -/
def startupCode : Startup → Nat
  | .boot => 0 | .memTrain => 1 | .cal => 2 | .sync => 3 | .ready => 4

/-- DRAM serves: commands that need it complete with STATE before (R43, R47). -/
def dramServes (s : State) : Bool := decide (2 ≤ startupCode s.mgmt.startup)

/-- Some channel is DEGRADED or FAILED. -/
def calIssue (s : State) : Bool :=
  s.front.chans.any (fun p => match p.2.cal with
    | .degradedDisagree => true | .degradedVoid => true | .failed => true | _ => false)

/-- HEALTH_STATE. -/
def healthState (s : State) : BitVec 32 :=
  BitVec.ofNat 32 (startupCode s.mgmt.startup + (if s.mem.streamFault then 16 else 0) + (if s.mem.furzeRing then 32 else 0)
    + (if s.mgmt.refLost then 64 else 0) + (if calIssue s then 128 else 0)
    + ((List.range 8).map (fun c => if (s.dram c).margin then 256 * 2 ^ c else 0)).sum)

/-- Vector 9 of every function with an open session when a field of HEALTH_STATE changes (R546). -/
def withHealth (f : State → State) (s : State) : State :=
  let s' := f s
  if healthState s' = healthState s then s'
  else each allFns (fun fn s => when ((s.func fn).tenant.isSome) (raise fn 9) s) s'

/-- The PCIe function of a tenant. -/
def fnOf (t : Tenant) : Nat := if t.kind = 1 then t.vf else 0

/-- The completion ring has no slot that the host has freed (R565). One slot stays empty, so that a full ring and an
empty one differ (notes/assumptions/5.md). -/
def Queue.full (q : Queue) : Bool := decide ((q.cqTail + 1) % q.cqSize = q.cqHead)

/-- Write a completion slot at the hub's head, the phase bit inverting at each wrap (R562). -/
def Queue.write (q : Queue) (c : CplSlot) : Queue :=
  let wrap := decide (q.cqTail + 1 = q.cqSize)
  { q with ring := q.ring.set q.cqTail { c with phase := q.phase }
           cqTail := if wrap then 0 else q.cqTail + 1
           phase := if wrap then !q.phase else q.phase }

/-- A completion that is due: written when a slot is free and none waits before it, otherwise kept (R565). -/
def Queue.put (q : Queue) (c : CplSlot) : Queue :=
  if q.held.isEmpty && !q.full then q.write c else { q with held := q.held ++ [c] }

/-- Write the completions that wait, while slots are free. -/
def Queue.drain : Nat → Queue → Queue
  | 0, q => q
  | n + 1, q =>
    match q.held with
    | [] => q
    | c :: r => if q.full then q else Queue.drain n ({ q with held := r }.write c)

/-- A remote session's frame of a kind, kept until ACK_FSEQ covers it (R559). -/
def remoteFrame (t kind : Nat) (cpls : List Cpl) (dmas : List DmaCpl) (s : State) : State :=
  s.modTenant t (fun x =>
    { x with txFseq := (x.txFseq + 1) % 2 ^ 32
             unacked := x.unacked ++ [{ fseq := x.txFseq, kind := kind, cpls := cpls, dmas := dmas }] })

/-- A completion slot for queue q of tenant t; the vector follows the entry (R547), a remote tenant gets a frame (R558). A
queue that has ended with its session takes none (R538). -/
def putSlot (t q : Nat) (slot : CplSlot) (s : State) : State :=
  let x := s.tenant t
  if x.kind = 2 then
    remoteFrame t (if slot.dma.isSome then 6 else 5) slot.cpl.toList slot.dma.toList s
  else if !(s.queue t q).made then s
  else
    let now := (s.queue t q).held.isEmpty && !(s.queue t q).full
    when now (raiseQueue (fnOf x) (s.queue t q).vector) (s.modQueue t q (·.put slot))

/-- A command completion. -/
def putCpl (t q : Nat) (c : Cpl) (s : State) : State := putSlot t q { cpl := some c } s

/-- A credit completion (R333). -/
def putDma (t q : Nat) (d : DmaCpl) (s : State) : State := putSlot t q { dma := some d } s

/-! ## High-water marks (R610) -/

/-- Record a limit's use when it exceeds the mark. -/
def noteUse (id n : Nat) (s : State) : State :=
  { s with host := { s.host with highs := s.host.highs.mod id (fun h => max h n) } }

/-! ## The command journal (R604) -/

/-- Records that the command journal holds. -/
def journalDepth : Nat := 131072

/-- Whether a record is the one of a session's command with a tag. -/
def JRec.is (r : JRec) (key : Nat × Nat) (tag : BitVec 32) : Bool :=
  decide (r.kind = key.1 ∧ r.id = key.2 ∧ r.tag = tag)

/-- Drop the oldest records beyond the depth, except those of commands in execution. -/
def trimJournal (l : List JRec) : List JRec :=
  l.take journalDepth ++ (l.drop journalDepth).filter (fun r => r.status.isNone)

/-- Write or rewrite the record of a command (newest first). -/
def journalWrite (r : JRec) (s : State) : State :=
  let old := s.host.journal.filter (fun x => !(x.is (r.kind, r.id) r.tag))
  { s with host := { s.host with journal := trimJournal (r :: old) } }

/-- Code of an object state of R604. -/
def objEntry (s : State) (o : Nat × Nat) : Nat × Nat × Nat × Nat :=
  (o.1, o.2, s.time.swath % Config.swathsPerSec, (ttOf s.now).sec % 2 ^ 32)

/-- Record the outcome of a command that changes state. -/
def journalReply (op : Nat) (c : Cmd) (r : Reply) (s : State) : State :=
  if readOps.contains op then s
  else
    let k := keyOf (s.tenant c.tenant)
    let open_ := decide (r.status = .accepted) || r.later
    let r : JRec := {
      kind := k.1, id := k.2, opcode := op, tag := c.tag, handle := c.handle, stage := c.stage, progress := r.progress
      status := if open_ then none else some r.status
      tt := ttOf s.now, qual := quality s, objs := r.objs.map (objEntry s) }
    let s := journalWrite r s
    noteUse 14 s.host.journal.length s

/-- Give the record of a tag its last status, progress and object states. -/
def journalEnd (key : Nat × Nat) (tag : BitVec 32) (st : Status) (n : Nat) (objState : Option Nat) (s : State) : State :=
  { s with host := { s.host with journal := s.host.journal.map (fun r =>
      if r.is key tag then
        { r with status := some st, progress := n, tt := ttOf s.now, qual := quality s
                 objs := match objState with
                   | none => r.objs
                   | some x => r.objs.map (fun o => objEntry s (o.1, x)) }
      else r) } }

/-! ## Execution -/

/-- A tag of the session is in execution as another command's (R568). -/
def tagBusy (s : State) (c : Cmd) : Bool :=
  (s.tenant c.tenant).inExec.any (fun e => decide (e.tag = c.tag) && !e.fresh)

/-- The command leaves the list of commands in execution. -/
def leaveExec (t : Nat) (tag : BitVec 32) (s : State) : State :=
  s.modTenant t (fun x => { x with inExec := x.inExec.filter (fun e => decide (e.tag ≠ tag)) })

/-- The command stays in execution until its final completion (R564); unless it has been accepted as asynchronous, its queue waits for
it (R563). -/
def stayExec (op : Nat) (c : Cmd) (holds : Bool) (s : State) : State :=
  (leaveExec c.tenant c.tag s).modTenant c.tenant
    (fun x => { x with inExec := x.inExec ++ [{ queue := c.queue, tag := c.tag, fresh := false, holds := holds, opcode := op }] })

/-- The hub takes the command: its session is open, its queue exists and carries out no other (R563), a completion slot is free
(R565), and no warm restart runs (R623). The admin queue answers in every start-up state (R43). -/
def accepts (s : State) (c : Cmd) : Bool :=
  (s.tenant c.tenant).used && !(s.tenant c.tenant).ended && !s.mgmt.warm
    && !(s.tenant c.tenant).inExec.any (fun e => decide (e.queue = c.queue) && e.holds)
    && (decide ((s.tenant c.tenant).kind = 2) ||
        ((s.queue c.tenant c.queue).made && !(s.queue c.tenant c.queue).full && (s.queue c.tenant c.queue).held.isEmpty))

/-- The hub takes a command of the queue: the words of its entry came through their crossing unharmed (R423). -/
def takes (s : State) (c : Cmd) : Bool := accepts s c && !c.upset

/-- A command whose words were poisoned in their crossing is discarded and completes with INTERRUPTED (R423). -/
def discard (c : Cmd) (s : State) : State :=
  if accepts s c then bump (fifoCtr (fifoKey 6 0) 1) (putCpl c.tenant c.queue { tag := c.tag, status := .interrupted } s) else s

/-- The final completion of a command (R564, R569). -/
def finish (t q : Nat) (tag : BitVec 32) (r : Reply) (mirrored : Bool) (s : State) : State :=
  putCpl t q { tag := tag, status := r.status, progress := r.progress, result := r.result, mirrored := mirrored }
    (leaveExec t tag s)

/-- The final completion of an asynchronous or delayed command that is in execution, with the journal's record of it. -/
def finishLater (t q : Nat) (tag : BitVec 32) (r : Reply) (objState : Option Nat) (s : State) : State :=
  if !(s.tenant t).inExec.any (fun e => decide (e.tag = tag)) then s
  else finish t q tag r false (journalEnd (keyOf (s.tenant t)) tag r.status r.progress objState s)

/-- Write an output buffer into host memory. -/
def putBuf (c : Cmd) (bytes : List Byte) (s : State) : State :=
  let old := s.host.outs.filter (fun b => !(decide (b.tenant = c.tenant) && decide (b.tag = c.tag)))
  { s with host := { s.host with outs := { tenant := c.tenant, tag := c.tag, bytes := bytes } :: old } }

/-- The entry of R589 for a command that fails with NO_RESOURCE. -/
def noResourceEntry (op : Nat) (c : Cmd) (r : Reply) (s : State) : State :=
  when (decide (r.status = .noResource)) (post pApp 0x0104 c.handle.toNat [vU op, vU c.tenant, vU r.limit]) s

/-- Everything that follows the answer of a command's body. -/
def answer (op : Nat) (c : Cmd) (mirrored : Bool) (r : Reply) (s : State) : State :=
  let s := match r.out with
    | none => s
    | some b => putBuf c b s
  let s := noResourceEntry op c r (journalReply op c r s)
  if r.later then stayExec op c true s
  else if r.status = .accepted then
    putCpl c.tenant c.queue { tag := c.tag, status := .accepted, more := true, mirrored := mirrored } (stayExec op c false s)
  else finish c.tenant c.queue c.tag r mirrored s

/-- A command is mirrored on the partner: the pair is formed, no mark L, and it changes state (R520, R590). SPK_JOB works in
the host memory of its own session and changes no state that the partner holds (notes/assumptions/76.md). -/
def isMirrored (op : Nat) (s : State) : Bool :=
  decide (s.clover.state = .formed) && !localOps.contains op && !readOps.contains op && decide (op ≠ 0x0607)

/-- Length of the buffer that the entry names: 0 in the inline form (R567). -/
def bufLen (c : Cmd) : Nat := if c.flags.getLsbD 1 then c.outLen else 0

/-- A buffer whose length R567 does not allow, or a remote tenant's of more than 896 bytes (R569). -/
def badBuffer (c : Cmd) (s : State) : Bool :=
  c.flags.getLsbD 1 && (decide (c.outLen = 0) || decide (65536 < c.outLen) || (decide ((s.tenant c.tenant).kind = 2) && decide (896 < c.outLen)))

/-- The body's checks that every opcode shares: mark P (R590) and the buffer's length. -/
def withMarks (op : Nat) (c : Cmd) (body : State → Reply × State) (s : State) : Reply × State :=
  if privOps.contains op && decide (c.tenant ≠ 0) then refuse .notOwner s
  else
    let r := body s
    if badBuffer c s && !decide (statusRank r.1.status < statusRank .badParam) then refuse .badParam s else r

/-- A command of opcode `op`: taken when the hub takes commands of its queue; a tag in execution or a reserved flag
refuses it at once (R568); a mirrored command waits for the partner (R520); otherwise its body answers. -/
def command (op : Nat) (self : Instr) (c : Cmd) (body : State → Reply × State) (s : State) : Out :=
  let s := touch c.at_ s
  .next <|
    if !takes s c then discard c s
    else if tagBusy s c || reservedFlags c.flags then
      putCpl c.tenant c.queue { tag := c.tag, status := .badParam } s
    else if isMirrored op s then
      let r := (withMarks op c body s).1
      if decide (statusCode r.status < 0x8000) then
        let s := stayExec op c true s
        { s with clover := { s.clover with mirrors := s.clover.mirrors ++ [self] } }
      else answer op c false r s
    else
      let (r, s) := withMarks op c body s
      answer op c false r (when (decide (statusCode r.status < 0x8000) && !localOps.contains op && !readOps.contains op)
        (fun s => { s with clover := { s.clover with marked := s.clover.marked + 1 } }) s)

/-! ## Report items (R574) -/

/-- One report item: ID, PART and VALUE in 16 bytes. -/
def item (id part : Nat) (v : Nat) : List Byte := leBytes 2 id ++ leBytes 2 part ++ [0, 0, 0, 0] ++ leBytes 8 v

/-- A signed report item. -/
def itemS (id part : Nat) (v : Int) : List Byte := item id part (BitVec.ofInt 64 v).toNat

/-- RESULT bytes 0 to 3 as the count of items written (R574). -/
def counted (n : Nat) : List Byte := leBytes 4 n

/-- A reply that writes entries of one size: those that fit, PARTIAL when some do not (R574). RESULT is what the row's
Result column gives, from the count of entries written. -/
def report (c : Cmd) (size : Nat) (items : List (List Byte)) (result : Nat → List Byte) (s : State) : Reply × State :=
  let fit := items.take (bufLen c / size)
  let n := fit.length
  ({ status := if n < items.length then .partialDone else .done, progress := n, result := result n, out := some fit.flatten }, s)

/-- A reply with RESULT bytes alone. -/
def done (result : List Byte) (s : State) : Reply × State := ({ result := result }, s)

end Sys2Proof.Machine
end

