-- ==== Sys2Proof/Machine/Calibrate.lean ====
section
/-! DEFINITION. Modulators, spares and calibration (03 of the spec), but for the tile-link words, which feed the chains. -/

namespace Sys2Proof.Machine

/-- Modulators of a tile: 64 primaries and 8 spares (R7). -/
def modsOf (t : Nat) : List Nat := chansOf t ++ sparesOf t

/-- Settings reach the tile of a modulator: its control side-band has not failed (R15). -/
def tileReached (s : State) (m : Nat) : Bool := !(s.tile (tileOf m)).sideFail

/-! ## Sources (R111 to R113) -/

/-- The modulator whose chains are the source of a channel's samples of an instant: the last switch at or before it. -/
def Channel.sourceAt (c : Channel) (t : Inst) : Option Nat :=
  (c.switches.find? (fun p => decide (boundary p.1 ≤ t))).bind (·.2)

/-- The spare that is the source of the channel's samples now. -/
def Channel.servedBy (c : Channel) : Option Nat := c.switches.head?.bind (·.2)

/-- The channel's samples come from another source from a boundary on (R113). -/
def switchSource (ch g : Nat) (src : Option Nat) (s : State) : State :=
  s.modChan ch (fun c => { c with switches := ((g, src) :: c.switches).take 8 })

/-- The channel's samples are held values from an instant on (R116, R130, R134), or 0 (R135), until an end that may still be
open. -/
def holdSamples (ch : Nat) (p : Patch) (s : State) : State :=
  s.modChan ch (fun c => { c with patches := (p :: c.patches).take 8 })

/-- Open intervals of a channel end at an instant. -/
def endHolds (ch : Nat) (t : Inst) (s : State) : State :=
  s.modChan ch (fun c => { c with patches := c.patches.map (fun p => if p.stop.isNone then { p with stop := some (max p.start t) } else p) })

/-- The channel of a modulator: its own for a primary, the one it is connected to for a spare. -/
def channelOf (s : State) (m : Nat) : Option Nat := if m < 768 then some m else (s.spare m).source

/-- The modulator that is calibrated for a channel: its primary, or its REMAPPED spare (R136). -/
def mainMod (s : State) (ch : Nat) : Nat :=
  match (s.chan ch).cal with
  | .remapped sp => sp
  | _ => ch

/-- Code of a spare state in the order of R111. -/
def spareCode : SpareState → Nat
  | .free => 0 | .shadow => 1 | .serving => 2 | .remapped => 3 | .refcheck => 4 | .failed => 5

/-- The last usable spare of a tile has been lost: journalled once (R137). -/
def checkLastSpare (t : Nat) (s : State) : State :=
  let lost := (sparesOf t).all (fun m => decide ((s.spare m).state = .remapped) || decide ((s.spare m).state = .failed))
  if lost && !(s.tile t).noSpare then post pTile 0x0211 (hTile t) [] (s.modTile t (fun x => { x with noSpare := true })) else s

/-- A spare changes state at a boundary, which is journalled (R139), and so is the loss of a tile's last spare (R137). -/
def setSpare (m g : Nat) (st : SpareState) (src : Option Nat) (s : State) : State :=
  let old := (s.spare m).state
  let s := s.modSpare m (fun x => { x with state := st, source := src })
  if old = st then s
  else checkLastSpare (tileOf m)
    (postAt (boundary g) pTile 0x020D (hMod m) [vU (spareCode old), vU (spareCode st), vU (src.getD 0xFFFF)] s)

/-- The next swath boundary's global index. -/
def nextBoundary (s : State) : Nat := s.time.swath + 1

/-- The calibration state of a channel changes; a FAILED or REMAPPED channel leaves it by a remap alone (R134, R135). -/
def setCalState (ch : Nat) (st : CalState) (s : State) : State :=
  match (s.chan ch).cal with
  | .failed | .remapped _ => s
  | _ => withHealth (fun s => s.modChan ch (fun c => { c with cal := st })) s

/-! ## Completion of CAL_NOW (0x0205) -/

/-- A CAL_NOW that waits for the modulator completes with its outcome: 0 applied, 1 checked, 2 DEGRADED (R125). -/
def calOutcome (m code : Nat) (s : State) : State :=
  match (s.modu m).calTag with
  | none => s
  | some (t, q, tag) =>
    finishLater t q tag { progress := 1, result := [BitVec.ofNat 8 code] } (some 3) (s.modModu m (fun x => { x with calTag := none }))

/-! ## Sets and matching trims (R117 to R119) -/

/-- A coefficient set as the modulator takes it (R117): 30 element trims within ±127 steps and the delay trim within 0 to 63. -/
def shapeSet (l : List Int) : List Int :=
  (List.range 30).map (fun (i : Nat) => clampI (-127) 127 (l.getD i 0)) ++ [clampI 0 63 (l.getD 30 0)]

/-- The set that a modulator runs on (R119). -/
def setOf (s : State) (m : Nat) : List Int :=
  let l := (s.modu m).active
  if l.isEmpty then Config.factorySet m else l

/-- The set and the matching trims of a modulator are its last good ones (R119). -/
def keepSet (m : Nat) (s : State) : State :=
  let l := setOf s m
  s.modModu m (fun x => { x with stored := some (l, x.gm, x.om) })

/-- At the start of MEM_TRAIN a modulator loads its last good set and matching trims (R119). -/
def Modulator.load (x : Modulator) : Modulator :=
  match x.stored with
  | some (l, g, o) => { x with active := l, gm := g, om := o }
  | none => { x with active := [] }

/-- Samples whose window spans a cycle carry SETL, on every chain of a modulator (R31). -/
def markSettle (m cyc : Nat) (s : State) : State :=
  (s.modPipe m (fun p => { p with
    setlLb := (cyc :: p.setlLb).take 8, setlWb := (cyc :: p.setlWb).take 8, setlEb := (cyc :: p.setlEb).take 8 })).modModu m
      (fun x => { x with dirty := true })

/-- New matching trims apply at a boundary without stopping the modulator (R118); only a change sets the flag of R31. -/
def applyTrims (m g : Nat) (gain : Nat) (offs : Int) (s : State) : State :=
  let x := s.modu m
  if x.gm = gain && x.om = offs then s
  else keepSet m (markSettle m (g * Config.swathCycles) (s.modModu m (fun x => { x with gm := gain, om := offs })))

/-- Matching trims lie in the range of R118: gain 0.98 to 1.02, offset ±2^16 LSB. -/
def trimsOk (k : Match) : Bool :=
  decide (98 * 16777216 ≤ 100 * k.gain) && decide (100 * k.gain ≤ 102 * 16777216)
    && decide (-16777216 ≤ k.offs) && decide (k.offs ≤ 16777216)

/-- A match lies within the takeover tolerance of R114: ±0.005 % in gain and ±20 µV in offset. -/
def matchNear (k : Match) : Bool := decide (k.gainErr ≤ 50) && decide (k.offErr ≤ 20)

/-! ## Rounds of CAL (R126) -/

/-- Estimation of a modulator begins at a boundary (R120). -/
def startEst (m g : Nat) (s : State) : State := s.modModu m (fun x => { x with estFrom := some g, dirty := false, codes := [] })

/-- Modulators of a round: the usable spares, or eight channels' modulators. -/
def roundMods (s : State) (t k : Nat) : List Nat :=
  if k = 0 then (sparesOf t).filter (fun m => decide ((s.spare m).state = .free) && !(s.spare m).fails)
  else (((List.range 8).map (fun i => 64 * t + 8 * (k - 1) + i)).filter (fun c => decide ((s.chan c).cal ≠ .failed))).map (mainMod s)

/-- A tile has gone through its rounds: the channels of one that RESET_PART reset no longer carry SUB (R591). -/
def roundsOver (t : Nat) (s : State) : State :=
  each ((chansOf t).filter (fun c => (s.chan c).resetSub)) (fun c s => s.modChan c (fun x => { x with resetSub := false }))
    (s.modTile t (fun x => { x with round := 9, calLeft := [] }))

/-- Round k of a tile begins, or the first later one with a modulator to calibrate; after round 8 the tile is done. -/
def startRound (t : Nat) : Nat → Nat → State → State
  | 0, _, s => roundsOver t s
  | n + 1, k, s =>
    if 8 < k then roundsOver t s
    else
      let l := roundMods s t k
      if l.isEmpty then startRound t n (k + 1) s
      else each l (fun m s => startEst m (nextBoundary s) s) (s.modTile t (fun x => { x with round := k, calLeft := l }))

/-- A modulator is done in its round; the next round begins when all of it are. -/
def roundDone (m : Nat) (s : State) : State :=
  let t := tileOf m
  if !(s.tile t).calLeft.contains m then s
  else
    let s := s.modTile t (fun x => { x with calLeft := x.calLeft.filter (fun k => decide (k ≠ m)) })
    if (s.tile t).calLeft.isEmpty then startRound t 9 ((s.tile t).round + 1) s else s

/-- Every tile has gone through its rounds. -/
def calFinished (s : State) : Bool := (List.range 12).all (fun t => decide ((s.tile t).round = 9))

/-! ## Granting spares (R110, R115) -/

/-- Rank of a cover among the demands of R115: 0 permanent, 1 cover, 2 commanded shadow. -/
def Cover.rank (cv : Cover) : Nat := if cv.remap.isSome then 0 else if cv.ordered then 2 else 1

/-- Rank of the cover of a channel; none ranks below every use. -/
def coverRank (s : State) (ch : Option Nat) : Nat :=
  match ch.bind (fun c => (s.chan c).cover) with
  | some cv => cv.rank
  | none => 4

/-- Rank of a spare's use among the demands of R115: 0 permanent, 1 cover, 2 commanded shadow, 3 own calibration, 4 free. -/
def useRank (s : State) (m : Nat) : Nat :=
  let x := s.spare m
  let now := match x.state with
    | .free => if (s.modu m).estFrom.isSome || (s.modu m).loadAt.isSome || (s.modu m).stopAt.isSome then 3 else 4
    | .refcheck => 3
    | .shadow | .serving => coverRank s x.source
    | _ => 0
  min now (coverRank s x.claim)

/-- A spare may be taken for a demand of a rank: it is in lower-ranked use, sound and not suspect (R114, R115, R116). -/
def canTake (s : State) (rank m : Nat) : Bool :=
  decide (rank < useRank s m) && !(s.spare m).suspect && !(s.spare m).fails

/-- A suspect spare that R114 returned to FREE, which takes a failed primary's place where its tile has no other (R134, R135; log entry
174). -/
def lastResort (s : State) (rank m : Nat) : Bool :=
  decide (rank = 0) && (s.spare m).suspect && !(s.spare m).fails && decide (useRank s m = 4)

/-- A spare cannot be had at the next boundary: it serves a channel whose primary is stopped (R115), or is stopped itself to load
its set (R117). -/
def tied (s : State) (m : Nat) : Bool :=
  (s.modu m).stopAt.isSome ||
    match (s.spare m).source.bind (fun ch => (s.chan ch).cover) with
    | some cv => cv.stopped
    | none => false

/-- The spare granted to a demand: a free one first, then one in the lowest-ranked use, one that can be had at the next boundary
before one that cannot, the lowest number each. -/
def pickSpare (s : State) (t rank : Nat) : Option Nat :=
  let l := (sparesOf t).filter (canTake s rank)
  let l := l.filter (fun m => !tied s m) ++ l.filter (tied s)
  ([4, 3, 2, 1].filterMap (fun r => l.find? (fun m => decide (useRank s m = r)))).head?.or ((sparesOf t).find? (lastResort s rank))

/-- A calibration of a modulator ends without an outcome; one ordered by CAL_NOW starts anew (R115). -/
def dropCal (m : Nat) (s : State) : State :=
  roundDone m (s.modModu m (fun x => { x with
    estFrom := none, firstRun := none, attempts := 0, voids := 0, residuals := [], loadAt := none }))

/-- A claim on a spare: the channel's cover waits for the boundary at which it is to be had, and a use of lower rank is reclaimed
(R115). `lost` gives the channel whose claim it takes. -/
def claimSpare (ch m : Nat) (cv : Cover) (s : State) : Option Nat × State :=
  let old := (s.spare m).claim
  let s := match old with
    | some c => s.modChan c (fun c => { c with cover := none })
    | none => s
  let s := match (s.spare m).source with
    | some c => s.modChan c (fun c => { c with cover := c.cover.map (fun v => { v with reclaimed := true }) })
    | none => s
  let s := if isSpare m && (s.spare m).source.isNone then dropCal m s else s
  let s := s.modSpare m (fun x => { x with claim := some ch })
  (old, s.modChan ch (fun c => { c with cover := some { cv with spare := m, entered := false }, setWaiting := false }))

/-! ## Interrupted mode (R128) -/

/-- The partner is interrupting the same channel in an overlapping swath (R128). -/
def partnerStops (s : State) (ch g : Nat) : Bool :=
  decide (s.clover.state = .formed) && s.clover.noStop.any (fun p => decide (p.1 = ch) && decide (p.2 < g + 2) && decide (g < p.2 + 2))

/-- An interrupted stop is proposed for a boundary: the active member tells the standby by a decision, and a standby asks the
active member (R128, R517; log entry 146). -/
def askStop (ch g : Nat) (s : State) : State :=
  let s := s.modChan ch (fun c => { c with stopAsk := some g, setWaiting := false })
  if s.clover.state ≠ .formed then s
  else if s.clover.role = .active then sendDecision (.interrupted ch g) s
  else { s with host := { s.host with msgs := s.host.msgs ++ [{ kind := 15, dest := s.sky.hub, a := ch, b := g }] } }

/-- The pair agrees to a stop (R128): the partner interrupts the channel in no overlapping swath, has taken the active member's
decision, and agrees, which the free value of draw n says of either member's partner (log entry 146). -/
def stopAgreed (n : Nat) (ch g : Nat) (s : State) : Bool :=
  if s.clover.state ≠ .formed then true
  else !partnerStops s ch g && !s.clover.sent.any (fun d => decide (d.2 = .interrupted ch g)) && Config.agrees n

/-! ## Applying a set (R126 to R128, R136) -/

/-- A tile has a spare that a cover can use now or later (R137). -/
def hasSpare (s : State) (t : Nat) : Bool :=
  (sparesOf t).any (fun m => decide ((s.spare m).state ≠ .remapped) && decide ((s.spare m).state ≠ .failed) && !(s.spare m).fails
    && !(s.spare m).suspect)

/-- A new set is to be applied to a channel's modulator: under cover, in interrupted mode where the policy allows it, or PENDING
(R128, R136). A commanded shadow of the channel becomes its cover (R110, R115); a channel that is being remapped discards the
set. A DEGRADED channel stays so until its set is applied (R124). -/
def applySet : Nat → Nat → State → State
  | 0, _, s => s
  | n + 1, ch, s =>
    match (s.chan ch).cover with
    | some cv =>
      if cv.remap.isSome then s.modModu (mainMod s ch) (fun x => { x with proposed := none })
      else s.modChan ch (fun c => { c with cover := some { cv with ordered := false, endAt := none }, setWaiting := false })
    | none =>
      match pickSpare s (tileOf ch) 1 with
      | some m =>
        (match claimSpare ch m {} s with
         | (some c, s) => if (s.modu (mainMod s c)).proposed.isSome then applySet n c s else s
         | (none, s) => s)
      | none =>
        if (s.chan ch).interruptOk then askStop ch (nextBoundary s) s
        else
          let s := s.modChan ch (fun c => { c with setWaiting := true })
          let s := if (s.chan ch).degraded = 0 then setCalState ch .pending s else s
          if hasSpare s (tileOf ch) then s else roundDone (mainMod s ch) s

/-- Claims that one claim may push on: the spares of a tile. -/
def claimDepth : Nat := 8

/-! ## Failure and remapping (R133 to R137) -/

/-- A channel whose primary has failed has no spare (R135): FAILED, its samples 0 with SUB until one becomes free. -/
def failChannel (ch criterion : Nat) (valid : Bool) (s : State) : State :=
  let s := withHealth (fun s => s.modChan ch (fun c => { c with cal := .failed, failure := some (criterion, valid) })) s
  postAt (boundary (nextBoundary s)) pTile 0x0210 (hChan ch) [vU criterion] (holdSamples ch { start := s.now, zero := true } s)

/-- Channel `ch` is remapped: under the cover sequence while its modulator gives valid codes, otherwise at the next boundary at
which a spare is to be had, with its samples held until then (R134); with no spare it is FAILED (R135). The spare of a cover that
the channel has already stays for good. -/
def remap (ch criterion : Nat) (valid : Bool) (s : State) : State :=
  let hold (s : State) : State := if valid then s else holdSamples ch { start := s.now } s
  match (s.chan ch).cover with
  | some cv =>
    if cv.remap.isSome then s
    else
      let s := s.modChan ch (fun c => { c with cover := some { cv with
        remap := some criterion, direct := !valid, ordered := false, endAt := none, handback := false } })
      if cv.serving || cv.from_.isSome then s else hold s
  | none =>
    match pickSpare s (tileOf ch) 0 with
    | none => failChannel ch criterion valid s
    | some m =>
      let (old, s) := claimSpare ch m { remap := some criterion, direct := !valid } s
      let s := match old with
        | some c => if (s.modu (mainMod s c)).proposed.isSome then applySet claimDepth c s else s
        | none => s
      hold s

/-- A claim for the cover `cv` of a channel on spare `m`; a channel whose claim it takes applies its set in another way. -/
def claimFor (ch m : Nat) (cv : Cover) (s : State) : State :=
  match claimSpare ch m cv s with
  | (some c, s) => if (s.modu (mainMod s c)).proposed.isSome then applySet claimDepth c s else s
  | (none, s) => s

/-- A channel that a suspect spare serves tries another one (R114): that one shadows, is matched to the suspect one, and takes over from
it; with none to be had the suspect spare serves on until the primary has matched it (log entry 147). -/
def moveCover (ch : Nat) (s : State) : State :=
  match (s.chan ch).cover with
  | none => s
  | some cv =>
    if !cv.serving || cv.stopped || cv.lost || cv.remap.isSome || !(s.spare cv.spare).suspect then s
    else match pickSpare s (tileOf ch) 1 with
      | none => s
      | some m => claimFor ch m { cv with serving := false, from_ := some cv.spare, takeAt := none, trim := none, handback := false, reclaimed := false } s

/-- A spare has become free: a FAILED channel of its tile is remapped (R135), else the lowest-numbered channel whose set waits
takes cover (R128; log entry 142), else one that a suspect spare serves moves to it (R114). -/
def spareFreed (t : Nat) (s : State) : State :=
  match (chansOf t).find? (fun c => (s.chan c).failure.isSome && (s.chan c).cover.isNone) with
  | some ch =>
    let f := (s.chan ch).failure.getD (1, false)
    match pickSpare s t 0 with
    | none => s
    | some m => (claimSpare ch m { remap := some f.1, direct := !f.2 } s).2
  | none =>
    match (chansOf t).find? (fun c => (s.chan c).setWaiting) with
    | some ch => applySet claimDepth ch s
    | none =>
      match (chansOf t).find? (fun c => (s.chan c).cover.any (fun cv => cv.serving && (s.spare cv.spare).suspect)) with
      | some ch => moveCover ch s
      | none => s

/-- A cover loses its spare before its set has been loaded: a remap is made again, a set is applied in another way, and a
commanded shadow ends (R114 to R116). One that was to take over from a suspect spare leaves the channel with that one, which another
may relieve (R114). -/
def loseCover (ch : Nat) (s : State) : State :=
  match (s.chan ch).cover with
  | none => s
  | some cv =>
    match cv.from_, cv.remap with
    | some m, none =>
      moveCover ch (s.modChan ch (fun c => { c with cover := some { cv with
        spare := m, entered := true, serving := true, from_ := none, takeAt := none, trim := none, reclaimed := false
        ranFrom := s.time.swath } }))
    | _, _ =>
      let s := s.modChan ch (fun c => { c with cover := none })
      match cv.remap with
      | some k => remap ch k (!cv.direct) s
      | none => if cv.ordered then s else applySet claimDepth ch s

/-- A spare fails (R116, R137): SPARE_FAILED from the next boundary on. A channel that it serves is handed back at that boundary or
at the end of the primary's stop, its samples held until then; one that it shadows loses its cover; one that it was remapped to is
remapped again (log entry 143). -/
def failSpare (m criterion : Nat) (valid : Bool) (s : State) : State :=
  let sp := s.spare m
  let s := (s.modSpare m (fun x => { x with fails := true, claim := none })).modModu m (fun x => { x with clear := false })
  let s := match sp.claim with
    | some ch => loseCover ch s
    | none => s
  match sp.state, sp.source with
  | .remapped, some ch => remap ch criterion valid s
  | .shadow, some ch => loseCover ch s
  | .serving, some ch =>
    (match (s.chan ch).cover with
     | some cv =>
       let s := holdSamples ch { start := s.now } s
       (match cv.remap with
        | some k => remap ch k false (s.modChan ch (fun c => { c with cover := none }))
        | none => s.modChan ch (fun c => { c with cover := some { cv with
            spare := m, entered := true, serving := true, from_ := none, lost := true, handback := false } }))
     | none => s)
  | _, _ => s

/-- Wires of a tile's link that no repair wire covers (R107). -/
def lostSlice (s : State) (tile sl : Nat) : Bool :=
  (s.link (4 * tile + sl % 8 / 2)).uncovered.any (fun w => decide (w / 16 = sl) || decide (w / 16 + 8 = sl) || decide (w / 16 + 16 = sl))

/-- A slice of a modulator's codes on the tile link (R104). -/
def sliceOfMod (m : Nat) : Nat := (if m < 768 then m % 64 else 64 + (m - 768) % 8) / 3

/-- What R133 requires of a failure by each criterion: 1 an unchanged code for 4,096 cycles without an overload run, 2 more than 16
loop resets in a second with the input in span, 3 a residual above −90 dBFS in two attempts in a row, 4 matching trims at the end of
their range, 5 slices poisoned for good, 6 three DISAGREE marks in a row while a spare on the same input passed. -/
def hasFailed (s : State) (m k : Nat) : Bool :=
  let x := s.modu m
  match k with
  | 1 => decide (4096 ≤ x.sameRun) && decide (x.overRun < 8)
  | 2 =>
    let inSpan := match channelOf s m with
      | some ch => !(s.chan ch).outP && !(s.chan ch).outN
      | none => true
    decide (16 < x.resetsSec) && inSpan
  | 3 => decide (2 ≤ x.badRes)
  | 4 => x.trimOut
  | 5 => lostSlice s (tileOf m) (sliceOfMod m)
  | 6 =>
    (match channelOf s m with
     | some ch => decide (mainMod s ch = m) && decide (3 ≤ (s.chan ch).disagrees) && (s.chan ch).shadowPass
     | none => false)
  | _ => false

/-- A modulator has been declared failed already: a failed spare, a primary whose channel is FAILED, REMAPPED or being remapped. -/
def knownFailed (s : State) (m : Nat) : Bool :=
  if isSpare m then (s.spare m).fails || decide ((s.spare m).state = .failed)
  else
    let c := s.chan m
    decide (mainMod s m ≠ m) || decide (c.cal = .failed) || ((c.cover.bind (·.remap)).isSome)

/-- A modulator is declared failed, and its channel is remapped or handed back (R133 to R137). -/
def declareFailed (m criterion : Nat) (valid : Bool) (s : State) : State :=
  let s := dropCal m (calOutcome m 2 (post pTile 0x0212 (hMod m) [vU criterion] s))
  if isSpare m then failSpare m criterion valid s else remap m criterion valid s

/-- MOD_FAILED (R133 to R137), with the criterion and whether the modulator still gives valid codes. -/
def execModFailed (m criterion : Nat) (validCodes : Bool) (s : State) : Out :=
  event (isModulator m && decide (1 ≤ criterion) && decide (criterion ≤ 6)) <|
    if knownFailed s m || !hasFailed s m criterion then s else declareFailed m criterion validCodes s

/-- Swaths after which an unmatched spare is suspect (R114). -/
def suspectSwaths : Nat := 256

/-- SPARE_SUSPECT (R114): the match was not reached within 256 swaths. A shadowing spare returns to FREE at the next boundary and
another is tried; one that serves, and whose primary has not matched it, is relieved by another, and returns to FREE then (log entry
147). -/
def execSpareSuspect (m : Nat) (s : State) : Out :=
  event (isSpare m) <|
    match (s.spare m).source with
    | none => s
    | some ch =>
      match (s.chan ch).cover with
      | none => s
      | some cv =>
        let since := if cv.serving then cv.ranFrom else cv.start
        if cv.spare ≠ m || !cv.entered || cv.ordered || cv.stopped || cv.takeAt.isSome && !cv.serving || cv.handback
            || (s.spare m).suspect || s.time.swath < since + suspectSwaths then s
        else
          let s := s.modSpare m (fun x => { x with suspect := true })
          let s := post pTile 0x020E (hMod m) [vU ch, vU (s.time.swath - since)] s
          if cv.serving then moveCover ch s else loseCover ch s

/-! ## Modulators (R101, R102, R117 to R119) -/

/-- The overload-run counter and the loop-reset counter of R103. -/
def ovrCtr (m : Nat) : Nat := ctrKey 2 m 0 0
/-- The loop-reset counter. -/
def resetCtr (m : Nat) : Nat := ctrKey 2 m 1 0

/-- Cycles of an overload run that reset the loop (R102). -/
def overLimit : Nat := 4096

/-- MOD_LOOP_RESET (R102). -/
def execModLoopReset (m : Nat) (s : State) : Out :=
  event (isModulator m) <|
    let x := s.modu m
    if x.running && !x.resetting && decide (overLimit ≤ x.overRun) then
      bump (resetCtr m) (s.modModu m (fun x => { x with resetting := true, resetsSec := x.resetsSec + 1 }))
    else s

/-- MOD_LOOP_RESTART (R102). -/
def execModLoopRestart (m : Nat) (s : State) : Out :=
  event (isModulator m) <|
    if (s.modu m).resetting then s.modModu m (fun x => { x with resetting := false, overRun := 0 }) else s

/-- MODULATOR_START (R44): the measurement PLL is locked, the tile link trained and the reference buffer settled. -/
def execModulatorStart (tile : Nat) (s : State) : Out :=
  event (isTile tile) <|
    let x := s.tile tile
    if s.mgmt.measLock && x.trained && x.refOn && !x.settling && !x.refFault && !x.started then
      each (modsOf tile) (fun m s => s.modModu m (fun x => { x with running := true }))
        (s.modTile tile (fun x => { x with started := true }))
    else s

/-! ## Tile links (R106 to R109) -/

/-- Key of a wire group: four per tile. -/
def linkKey (tile grp : Nat) : Nat := 4 * tile + grp
/-- Tile-link entry: group, event, wire (0x0209). -/
def linkEntry (tile grp ev wire : Nat) (s : State) : State := post pTile 0x0209 (hTile tile) [vU grp, vU ev, vU wire] s

/-- Slices that a data wire carries bits of (R104). -/
def slicesOf (w : Nat) : List Nat := [w / 16, w / 16 + 8, w / 16 + 16]

/-- The modulator of number `l` (0 to 71) of a tile. -/
def modOf (tile l : Nat) : Nat := if l < 64 then 64 * tile + l else 768 + 8 * tile + (l - 64)

/-- A group after training: its repair wire covers the lowest failed data wire (R106, R107). -/
def trainGroup (tile grp : Nat) (bad : List Nat) (s : State) : State :=
  let wires := (List.range 32).map (fun i => 32 * grp + i)
  let failed := wires.filter bad.contains
  let broken := bad.contains (128 + grp)
  let s := s.modLink (linkKey tile grp) (fun _ =>
    { repair := if broken then none else failed.head?, uncovered := if broken then failed else failed.drop 1, repairBad := broken })
  match failed with
  | w :: _ => if broken then s else linkEntry tile grp 5 w s
  | [] => s

/-- TILE_LINK_TRAINING_DONE (R106, R107): in MEM_TRAIN, with the measurement PLL locked, the tile's forwarded clocks running and its
modulators not started, the failed wires of a tile, 0 to 127 data and 128 to 131 the repair wires of the four groups. Modulators on an uncovered wire have
failed by criterion 5, and their channels are remapped unless they have been already. -/
def execTileLinkTrainingDone (tile : Nat) (bad : List Nat) (s : State) : Out :=
  event (isTile tile) <|
    if s.mgmt.startup ≠ .memTrain || !s.mgmt.measLock || (s.tile tile).started
        || (List.range 4).any (fun g => (s.link (linkKey tile g)).clockLost) then s
    else
      let s := each (List.range 4) (fun g s => trainGroup tile g bad s) s
      let s := s.modTile tile (fun x => { x with trained := true })
      let mods := (modsOf tile).filter (fun m => lostSlice s tile (sliceOfMod m))
      let fail (m : Nat) (s : State) : State := if knownFailed s m then s else declareFailed m 5 false s
      each (mods.filter isChannel) fail (each (mods.filter isSpare) fail s)

/-- Covers of a tile are suspended, and estimation runs become void, by a reference fault or the loss of a link group
(R132). -/
def suspendCovers (tile : Nat) (s : State) : State :=
  let s := each (chansOf tile) (fun ch s => s.modChan ch (fun c => { c with
    cover := c.cover.map (fun v => { v with suspended := true, late := v.late || v.stopped }) })) s
  each (modsOf tile) (fun m s => if (s.modu m).estFrom.isSome then s.modModu m (fun x => { x with dirty := true }) else s) s

/-- Covers of a tile go on. -/
def resumeCovers (tile : Nat) (s : State) : State :=
  each (chansOf tile) (fun ch s => s.modChan ch (fun c => { c with cover := c.cover.map (fun v => { v with suspended := false }) })) s

/-- Nothing suspends the covers of a tile: its link groups have their clocks and its reference is sound and settled (R132). -/
def coversMayRun (s : State) (tile : Nat) : Bool :=
  (List.range 4).all (fun g => !(s.link (linkKey tile g)).clockLost) && !(s.tile tile).refFault && !(s.tile tile).settling

/-- REF_SETTLED (R98, R99, R132): the settling interval ends and SETL clears; a fault's end is journalled and covers go on. -/
def execRefSettled (tile : Nat) (s : State) : Out :=
  event (isTile tile) <|
    let x := s.tile tile
    if !x.settling then s
    else
      let s := s.modTile tile (fun x => { x with settling := false, refCause := 0 })
      let s := when (decide (x.refCause ≠ 0)) (post pTile 0x0208 (hTile tile) [vU 0, vS x.refDev, vU x.refCause]) s
      when (coversMayRun s tile) (resumeCovers tile) s

/-- TILE_CLOCK_LOST (R109): every slice of the group is poisoned until it is retrained. -/
def execTileClockLost (tile grp : Nat) (s : State) : Out :=
  event (isTile tile && decide (grp < 4)) <|
    if (s.link (linkKey tile grp)).clockLost then s
    else
      let s := s.modLink (linkKey tile grp) (fun x => { x with clockLost := true })
      suspendCovers tile (linkEntry tile grp 1 0 s)

/-- TILE_GROUP_RETRAIN (R109): once a second the group without clock is retrained; it works again when its clock is
back. -/
def execTileGroupRetrain (tile grp : Nat) (clockBack : Bool) (s : State) : Out :=
  event (isTile tile && decide (grp < 4)) <|
    if !(s.link (linkKey tile grp)).clockLost then s
    else
      let s := linkEntry tile grp 2 0 (s.modLink (linkKey tile grp) (fun x => { x with clockLost := !clockBack }))
      when (coversMayRun s tile) (resumeCovers tile) s

/-- Swaths for which the repair wire must be clean (R108). -/
def repairSwaths : Nat := 8

/-- TILE_REPAIR_SWITCH (R108): once the repair wire has been clean for 8 swaths, the receiver takes the wire's bits from it at
the next boundary. -/
def execTileRepairSwitch (tile grp : Nat) (s : State) : Out :=
  event (isTile tile && decide (grp < 4)) <|
    let x := s.link (linkKey tile grp)
    if x.ordered.isSome && decide (repairSwaths ≤ x.clean) then s.modLink (linkKey tile grp) (fun x => { x with takeNext := true })
    else s

/-- A group at a boundary (R108): a whole swath without an error on the repair wire counts, an error starts the count anew, and a
switch that is due takes effect. -/
def turnLink (key g : Nat) (s : State) : State :=
  let x := s.link key
  match x.ordered with
  | none => s
  | some w =>
    if x.takeNext then
      postAt (boundary g) pTile 0x0209 (hTile (key / 4)) [vU (key % 4), vU 4, vU w]
        (s.modLink key (fun x => { x with repair := some w, ordered := none, clean := 0, cleanNow := false, takeNext := false }))
    else s.modLink key (fun x => { x with clean := if x.cleanNow then x.clean + 1 else 0, cleanNow := true })

/-- A repair that firmware has ordered takes effect: the tile drives the repair wire with the wire's bits too, from this boundary on
(R108); a tile whose side-band has failed does not get the order (R15). -/
def orderRepair (tile grp wire : Nat) (s : State) : State :=
  let x := s.link (linkKey tile grp)
  if x.repair.isSome || x.ordered.isSome || (s.tile tile).sideFail then s
  else linkEntry tile grp 3 wire (s.modLink (linkKey tile grp) (fun x => { x with ordered := some wire, cleanNow := false, clean := 0 }))

/-- Firmware's review of the parity counters every 64 swaths: a wire whose three slices show 16 errors or more in the
window is ordered repaired where its group's repair wire is free (R108). The sixteen wires of one set of slices show one count;
the lowest-numbered of them is taken (log entry 140). -/
def reviewTile (tile : Nat) (s : State) : State :=
  let errs (sl : Nat) : Nat := (ctrOf s (ctrKey 4 tile sl 0)).val - s.front.parityAt.get (24 * tile + sl)
  let s' := each (List.range 4) (fun g s =>
    let x := s.link (linkKey tile g)
    let wire := ((List.range 32).map (fun i => 32 * g + i)).find? (fun w => decide (16 ≤ ((slicesOf w).map errs).sum))
    match wire with
    | some w =>
      when (x.repair.isNone && x.ordered.isNone && !x.repairBad && x.uncovered.isEmpty) (ctlWrite (.repair tile g w)) s
    | none => s) s
  let seen := (List.range 24).foldl (fun t sl => Tab.set t (24 * tile + sl) (ctrOf s (ctrKey 4 tile sl 0)).val) s'.front.parityAt
  { s' with front := { s'.front with parityAt := seen } }

/-! ## Calibration attempts (R120 to R126) -/

/-- Temperature of a tile: the mean of its two points (R627). -/
def tileTemp (s : State) (t : Nat) : Int := ((s.sensor (2 * t)).value + (s.sensor (2 * t + 1)).value) / 2

/-- The channel named in calibration entries of a modulator. -/
def calChan (s : State) (m : Nat) : Nat := (channelOf s m).getD 0xFFFF

/-- The channel's interval starts again with an apply or a check; its temperature is noted at an apply (R125). -/
def calStamp (ch : Nat) (apply : Bool) (s : State) : State :=
  s.modChan ch (fun c => { c with
    calAt := s.time.swath, calTemp := if apply then tileTemp s (tileOf ch) else c.calTemp, calTried := none, calDue := false
    setWaiting := false, disagrees := 0, shadowPass := false })

/-- Two s32 packed into one value. -/
def pack2 (lo hi : Int) : Nat := (lo % 4294967296).toNat + (hi % 4294967296).toNat * 4294967296

/-- Residuals of the attempts, as R138 gives a figure: the oldest lowest, 16 bits each. -/
def packFigures (l : List Int) : Nat := (l.take 4).foldr (fun v acc => (v % 65536).toNat + 65536 * acc) 0

/-- The channel is marked DEGRADED with a cause, 1 DISAGREE or 2 VOID_INPUT, keeps its last good set, and is not tried again before
the next scheduled calibration (R121, R122, R124). Consecutive DISAGREE of scheduled calibrations alone are counted for R133. The entry
tells of the channel, or of the modulator whose set is no channel's (R139). A spare of round 0 goes to the tile reference all the same
(R126). -/
def degrade (m cause attempts : Nat) (s : State) : State :=
  let x := s.modu m
  let ch := calChan s m
  let main := isChannel ch && decide (mainMod s ch = m)
  let sched := s.ready && x.calTag.isNone
  let s := s.modModu m (fun x => { x with estFrom := none, firstRun := none, attempts := 0, voids := 0, residuals := [] })
  let s := if main then
      setCalState ch (if cause = 1 then .degradedDisagree else .degradedVoid) (s.modChan ch (fun c => { c with
        calDue := false, calTried := some s.time.swath, degraded := cause
        disagrees := if !sched then c.disagrees else if cause = 1 then c.disagrees + 1 else 0
        shadowPass := c.shadowPass && !(sched && decide (cause ≠ 1)) }))
    else s
  let s := postAt (boundary s.time.swath) pTile 0x020C (if main then hChan ch else hMod m)
    [vU cause, vU attempts, vU (pack2 x.firstAgr x.agreement), vU (packFigures x.residuals)] s
  let s := calOutcome m 2 s
  if decide ((s.spare m).state = .free) && (s.tile (tileOf m)).calLeft.contains m && isSpare m then
    s.modSpare m (fun x => { x with refFrom := some (nextBoundary s) })
  else roundDone m s

/-- A coefficient set has been applied at a boundary (R139): mode 0 under cover, 1 interrupted, 2 a spare's own. -/
def setApplied (m g mode : Nat) (s : State) : State :=
  let x := s.modu m
  let ch := calChan s m
  let s := keepSet m (s.modModu m (fun x => { x with
    active := x.proposed.getD x.active, proposed := none, applied := min (x.applied + 1) 4294967295, appliedTt := ttOf (boundary g) }))
  let s := if isChannel ch && mode ≠ 2 then
      calStamp ch true (setCalState ch .ok (s.modChan ch (fun c => { c with degraded := 0 })))
    else s
  let s := postAt (boundary g) pTile 0x020A (hMod m) [vU ch, vS x.residual, vU mode] s
  calOutcome m 0 s

/-- Agreement that an attempt needs, −110 dBFS in 1/256 dBFS (R120). -/
def agreeLimit : Int := -28160

/-- A successful attempt (R120, R123): in service a residual at or below the threshold is a check; otherwise the set is applied. A
spare that is FREE stops at the next boundary to load its own set (R117), and one that shadows a channel keeps it until it is
FREE. -/
def attemptDone (m : Nat) (r : CalRun) (s : State) : State :=
  let s := s.modModu m (fun x => { x with
    proposed := some (shapeSet r.set), estFrom := none, firstRun := none, attempts := 0, residuals := [] })
  let ch := calChan s m
  let main := isChannel ch && decide (mainMod s ch = m)
  let s := if isChannel ch && !main then s.modChan ch (fun c => { c with shadowPass := true }) else s
  if s.ready && decide (r.residual ≤ s.front.applyThr * 256) then
    let s := s.modModu m (fun x => { x with proposed := none })
    let s := if main then calStamp ch false s else s
    calOutcome m 1 (postAt (boundary s.time.swath) pTile 0x020B (hMod m) [vU ch, vS r.residual]
      (bump (ctrKey (clsPrivate + 2) m 0 0) s))
  else if main then applySet claimDepth ch s
  else if isChannel ch then s
  else s.modModu m (fun x => { x with loadAt := some (nextBoundary s) })

/-- The counts of codes 0 to 30 in a run. -/
def codeCounts (x : Modulator) : List Nat := (List.range 31).map (fun c => x.codes.get c)

/-- An estimation run of a modulator has gone its length (R120). -/
def runEnded (s : State) (m : Nat) : Bool :=
  match (s.modu m).estFrom with
  | some g => decide (g + s.front.runLen ≤ s.time.swath)
  | none => false

/-- A run that counts (R120, R121): the first one of an attempt is kept; the second one ends it, and the two proposed sets agree or
not. -/
def runCounts (m : Nat) (r : CalRun) (s : State) : State :=
  let x := s.modu m
  let s := s.modModu m (fun x => { x with voids := 0, residual := r.residual, margin := r.margin })
  match x.firstRun with
  | none => startEst m s.time.swath (s.modModu m (fun x => { x with firstRun := some r }))
  | some q =>
    let agr := Config.agreement (shapeSet q.set) (shapeSet r.set) (codeCounts x)
    let s := s.modModu m (fun x => { x with
      agreement := agr, firstAgr := if x.attempts = 0 then agr else x.firstAgr, residuals := x.residuals ++ [r.residual]
      badRes := if -90 * 256 < r.residual then x.badRes + 1 else 0 })
    if agr ≤ agreeLimit then attemptDone m r s
    else
      let n := x.attempts + 1
      let s := s.modModu m (fun x => { x with firstRun := none, attempts := n })
      if 4 ≤ n then degrade m 1 n s else startEst m s.time.swath s

/-- CAL_RUN_DONE (R120 to R126): the end of one estimation run; a void run is repeated, and after 16 in a row the channel is
DEGRADED. -/
def execCalRunDone (m : Nat) (r : CalRun) (s : State) : Out :=
  event (isModulator m) <|
    let x := s.modu m
    if !runEnded s m then s
    else if x.dirty then
      let s := s.modModu m (fun x => { x with voids := x.voids + 1 })
      if 16 ≤ x.voids + 1 then degrade m 2 x.attempts s else startEst m s.time.swath s
    else runCounts m r s

/-! ## The cover sequence (R113, R114, R126) -/

/-- COVER_TAKEOVER (R113, R114, R126): the spare has been matched; the takeover is scheduled for the next boundary, at least 4
swaths after the shadow began. A match that fails at the end of the range of R118 is a criterion of failure (R133). -/
def execCoverTakeover (ch : Nat) (gain : Nat × Nat) (offs : Int × Nat) (s : State) : Out :=
  let k : Match := { gain := gain.1, gainErr := gain.2, offs := offs.1, offErr := offs.2 }
  event (isChannel ch) <|
    match (s.chan ch).cover with
    | some cv =>
      let g := nextBoundary s
      if !cv.entered || cv.serving || cv.suspended || cv.ordered || g < cv.start + 4 then s
      else if !trimsOk k then s.modModu cv.spare (fun x => { x with trimOut := true })
      else if !matchNear k then s
      else s.modChan ch (fun c => { c with cover := some { cv with takeAt := some g, trim := some (k.gain, k.offs) } })
    | none => s

/-- PRIMARY_RESTART (R117, R126, R129): a stopped modulator restarts on its new set 1 µs before its two swaths are over, with its
integrators cleared; later where its cover sequence was suspended meanwhile (R132), and not by a side-band that has failed (R15). -/
def execPrimaryRestart (at_ : Nat × Inst) (s : State) : Out :=
  let (m, t) := at_
  let s := touch t s
  event (isModulator m) <|
    match (s.modu m).stopAt with
    | none => s
    | some b =>
      let due := boundary (b + 2) - nsSpan 1000
      let ch := calChan s m
      let cv := (s.chan ch).cover
      let late := match cv with
        | some v => v.stopped && v.late
        | none => false
      let waits := !tileReached s m || match cv with
        | some v => v.stopped && v.suspended
        | none => false
      if waits || !(decide (t = due) || (late && decide (due < t))) then s
      else
        let s := s.modModu m (fun x => { x with
          running := true, overRun := 0, resetting := false, sameRun := 0, stopAt := none })
        if isChannel ch && decide (mainMod s ch = m) then
          let s := s.modModu m (fun x => { x with active := x.proposed.getD x.active })
          match cv with
          | some v => s.modChan ch (fun c => { c with
              cover := some { v with stopped := false, late := false, ranFrom := if late then nextBoundary s else b + 2 } })
          | none => s
        else
          let s := setApplied m (b + 2) 2 s
          if (s.tile (tileOf m)).calLeft.contains m && decide ((s.spare m).state = .free) then s.modSpare m (fun x => { x with refFrom := some (b + 2) })
          else s

/-- COVER_HANDBACK (R113, R114, R126): the primary has been matched; the handback is scheduled for the next boundary. -/
def execCoverHandback (ch : Nat) (gain : Nat × Nat) (offs : Int × Nat) (s : State) : Out :=
  let k : Match := { gain := gain.1, gainErr := gain.2, offs := offs.1, offErr := offs.2 }
  event (isChannel ch) <|
    match (s.chan ch).cover with
    | some cv =>
      if !cv.serving || cv.stopped || cv.suspended || nextBoundary s < cv.ranFrom + 4 then s
      else if !trimsOk k then s.modModu (mainMod s ch) (fun x => { x with trimOut := true })
      else if !matchNear k then s
      else s.modChan ch (fun c => { c with cover := some { cv with handback := true, trim := some (k.gain, k.offs) } })
    | none => s

/-- REFCHECK_DONE (R126): after 64 swaths the spare's absolute gain is set against the tile reference, from the next boundary on. -/
def execRefcheckDone (m gain : Nat) (s : State) : Out :=
  event (isSpare m) <|
    let from_ := (s.spare m).refFrom.getD 0
    if (s.spare m).state = .refcheck && decide (from_ + 64 ≤ nextBoundary s) && trimsOk { gain := gain } then
      s.modSpare m (fun x => { x with refGain := some gain })
    else s

/-- SUBSTITUTION_END (R129, R139): the substituted C1 input ends at B + 250 µs and the set counts as applied; a set that a failed
side-band has kept from the modulator is not (R15). -/
def execSubstitutionEnd (ch : Nat) (s : State) : Out :=
  event (isChannel ch) <|
    match (s.chan ch).stopB with
    | some b =>
      if s.time.swath + 1 < b + 2 then s
      else
        let m := mainMod s ch
        let s := s.modChan ch (fun c => { c with stopB := none })
        if (s.modu m).stopAt.isSome && !tileReached s m then roundDone m (s.modModu m (fun x => { x with proposed := none }))
        else roundDone m (setApplied m (b + 2) 1 (s.modModu m (fun x => { x with running := true, stopAt := none })))
    | none => s

/-! ## Scheduling (R125, R126) -/

/-- A channel is due when its interval has elapsed since its last apply or check, or its tile's temperature has changed by 5 °C since
its last apply; after an attempt that was given up, an interval later (R122). A hub that is not READY calibrates none by schedule. -/
def scheduleCal (ch : Nat) (s : State) : State :=
  let c := s.chan ch
  let span := c.calInterval * Config.swathsPerSec
  let elapsed := decide (c.calAt + span ≤ s.time.swath)
  let warm := decide (5000 ≤ (tileTemp s (tileOf ch) - c.calTemp).natAbs)
  let may := match c.calTried with
    | some g => decide (g + span ≤ s.time.swath)
    | none => true
  if s.ready && !c.calDue && may && c.cal ≠ .failed && (elapsed || warm) then s.modChan ch (fun c => { c with calDue := true }) else s

/-- The modulator of a channel may be calibrated: no set of it waits or is being applied. -/
def calIdle (s : State) (ch : Nat) : Bool :=
  let c := s.chan ch
  let x := s.modu (mainMod s ch)
  x.running && x.estFrom.isNone && x.proposed.isNone && c.stopAsk.isNone && c.stopB.isNone && c.failure.isNone
    && ((c.cover.map (·.ordered)).getD true)

/-- Modulators of a tile that wait for an estimator: those of channels that are due, and spares with a CAL_NOW. -/
def dueMods (s : State) (t : Nat) : List Nat :=
  ((chansOf t).filter (fun ch => (s.chan ch).calDue && calIdle s ch)).map (mainMod s)
    ++ (sparesOf t).filter (fun m => (s.modu m).calTag.isSome && (s.modu m).estFrom.isNone && (s.modu m).proposed.isNone
      && (decide ((s.spare m).state = .free) || decide ((s.spare m).state = .shadow)))

/-- The calibration task's settings for a tile take effect at a boundary: the eight estimators are given to the modulators that wait, and
a set that waits is tried again (R125, R128). -/
def calTile (t : Nat) (s : State) : State :=
  let s := each ((chansOf t).filter (fun ch => (s.chan ch).setWaiting)) (applySet claimDepth) s
  if s.mgmt.startup ≠ .sync && s.mgmt.startup ≠ .ready || !(s.tile t).calLeft.isEmpty then s
  else
    let used := ((modsOf t).filter (fun m => (s.modu m).estFrom.isSome)).length
    each ((dueMods s t).take (8 - used)) (fun m s => startEst m s.time.swath s) s

/-- The calibration task has something to set on a tile. -/
def calWaits (s : State) (t : Nat) : Bool := (chansOf t).any (fun ch => (s.chan ch).setWaiting) || !(dueMods s t).isEmpty

/-- Task 6 of R626: what is due is marked, and what follows for a tile's estimators and spares is written to the control-loop bank, so
that it waits for the seal (R34 to R36). -/
def calTask (s : State) : State :=
  let s := each (List.range 768) scheduleCal s
  each ((List.range 12).filter (calWaits s)) (fun t s => ctlWrite (.cal t) s) s

end Sys2Proof.Machine
end

