-- ==== Sys2Proof/Machine/Ranks.lean ====
section
/-! DEFINITION. The instances of the fixed-rank arbiter, their requesters and the ranks in force (R404, R405, R414 of 10; R483 of 12;
R551, R552 of 14). -/

namespace Sys2Proof.Machine

/-- An arbiter instance: 0 to 7 memory ports, 8 to 23 Skecy ports, 24 PCIe DMA. -/
def isInst (i : Nat) : Bool := decide (i < 25)
/-- Requesters of an instance (R404, R483, R551). -/
def requestersOf (i : Nat) : Nat := if i < 8 then 96 else if i < 24 then 137 else 257
/-- Scheduling classes of R417: 0 LATENCY, 1 BULK, 2 MGMT. -/
abbrev SchedClass := Nat

/-- The class of a DMA queue: that of the first subscription bound to it; a queue without one is BULK here, and has no
request (R552). -/
def dmaClass (s : State) (t d : Nat) : SchedClass :=
  match s.str.subs.find? (fun p => match p.2 with
    | some u => decide (u.tenant = t) && decide (u.queue = d) && decide (u.state ≠ .closed)
    | none => false) with
  | some (_, some u) => if u.bulk then 1 else 0
  | _ => 1

/-- The class of a requester that has one (R414, R416, R483, R552). A memory-port requester that serves tenants of either
class is taken as BULK (notes/assumptions/17.md). -/
def classOf (s : State) (i r : Nat) : Option SchedClass :=
  if i < 8 then (if 48 ≤ r && r < 80 then some 1 else if 82 ≤ r && r < 88 then some 2 else none)
  else if i < 24 then
    (if r = 0 then none else match (r - 1) / 17 with | 4 => some 0 | 5 => some 1 | 6 => some 1 | _ => none)
  else if r = 0 then none else some (dmaClass s ((r - 1) / 4) ((r - 1) % 4))

/-- Base rank of a class. -/
def classRank (s : State) (c : SchedClass) : Nat := match c with | 0 => s.mem.latRank | 1 => s.mem.bulkRank | _ => 3
/-- Parameters of a class (R417). -/
def classPol (s : State) (c : SchedClass) : ClassPol :=
  match c with | 0 => s.mem.latPol | 1 => s.mem.bulkPol | _ => s.mem.mgmtPol

/-- Default rank of a requester (R414, R483, R551, R552). -/
def defaultRank (s : State) (i r : Nat) : Nat :=
  if i < 8 then
    if r < 24 then 0 else if r < 48 then 1 else if r < 80 then classRank s 1 else if r < 82 then 2 else if r < 88 then 3 else 15
  else if i < 24 then
    if r = 0 then 0 else
      match (r - 1) / 17 with
      | 0 => 0 | 1 => 0 | 2 => 1 | 3 => 2 | 4 => s.mem.latRank | 5 => s.mem.bulkRank | _ => min 15 (s.mem.bulkRank + 1)
  else if r = 0 then 2 else classRank s (dmaClass s ((r - 1) / 4) ((r - 1) % 4))

/-- Rank in force. -/
def rankOf (s : State) (i r : Nat) : Nat := (s.req i r).rank.getD (defaultRank s i r)
/-- Shadow rank. -/
def shadowOf (s : State) (i r : Nat) : Nat := (s.req i r).shadow.getD (rankOf s i r)

end Sys2Proof.Machine
end

