-- ==== Sys2Proof/Machine/Frames.lean ====
section
/-! DEFINITION. Ports and lanes, frames and their CRC, the retry buffer and credits, routes, and the records of remote tenants as DATA
frames (11 and 12 of the spec). -/

namespace Sys2Proof.Machine

/-- A port number (R430). -/
def isPort (p : Nat) : Bool := decide (p < 16)

/-- R431: ports 0 to 7 are on after reset. -/
def portOn (s : State) (p : Nat) : Bool := (s.port p).on.getD (decide (p < 8))
/-- R431: port p has quad p and width 4, for p = 0 to 7; a port above 7 has no lane until it is configured. -/
def portBase (s : State) (p : Nat) : Nat := (s.port p).base.getD (if p < 8 then 4 * p else 0)
/-- Configured width. -/
def portWidth (s : State) (p : Nat) : Nat := (s.port p).width.getD (if p < 8 then 4 else 0)
/-- Advertised maximum as a rate code of R440: 0 for 12, 1 for 24, 2 for 48 Gbit/s (R431, R450). -/
def advertised (s : State) (p : Nat) : Nat := (s.port p).advert.getD (2 - (s.port p).maxRate)
/-- Physical lane of a logical lane. -/
def physLane (s : State) (p i : Nat) : Nat := portBase s p + i

/-- A lane counter of R457. -/
def laneCtr (s : State) (p i num : Nat) : Nat := ctrKey 0x0E (physLane s p i) num 0
/-- A port counter of R457 or R506. -/
def portCtr (p num : Nat) : Nat := ctrKey 0x0D p num 0
/-- A direction counter of R457: 0 transmit, 1 receive. -/
def dirCtr (p num dir : Nat) : Nat := ctrKey 0x0D p num dir

/-- The lanes that a mask names. -/
def lanesOf (mask : Nat) : List Nat := (List.range 4).filter (fun i => mask.testBit i)
/-- Number of lanes in a mask. -/
def laneCount (mask : Nat) : Nat := (lanesOf mask).length
/-- Every lane of a width. -/
def fullMask (w : Nat) : Nat := 2 ^ w - 1
/-- A mask without the lanes of another. -/
def maskMinus (a b : Nat) : Nat := a - (a &&& b)
/-- The lead lane: the lowest-numbered active logical lane (R437). -/
def leadLane (mask : Nat) : Nat := (lanesOf mask).headD 0

/-- The legal lane sets of R430 inside a port of a width, widest first. -/
def legalSets (w : Nat) : List Nat :=
  if w = 4 then [15, 3, 12, 1, 2, 4, 8] else if w = 2 then [3, 1, 2] else if w = 1 then [1] else []

/-- The largest legal set of available lanes, preferring the one that includes a lane (R449, R453). -/
def bestSet (w avail prefer : Nat) : Option Nat :=
  let ok := (legalSets w).filter (fun m => decide (m &&& avail = m))
  let top := ok.foldl (fun n m => max n (laneCount m)) 0
  let big := ok.filter (fun m => laneCount m = top)
  match big.find? (fun m => m.testBit prefer) with
  | some m => some m
  | none => big.head?

/-! ## Frames (R467 to R471) -/

/-- Virtual channels of a frame type (R471); an empty list for a reserved type. -/
def frameVcs (ftype : Nat) : List Nat :=
  match ftype with
  | 1 => [4, 5, 6] | 2 => [3] | 3 => [3] | 5 => [0] | 6 => [0] | 7 => [0] | 8 => [1] | 9 => [2] | _ => []
/-- Payload limit of a frame type (R471). -/
def frameMax (ftype : Nat) : Nat := match ftype with | 1 => 4096 | 5 => 32 | 6 => 48 | _ => 1000
/-- A frame that R471 discards. -/
def badFrame (f : Frame) : Bool :=
  !(frameVcs f.ftype).contains f.vc || decide (frameMax f.ftype < f.body.length)

/-- Blocks of a frame: the header and D = ceil((LENGTH + 4) / 16) data blocks (R467). -/
def frameBlocks (f : Frame) : Nat := 1 + ceilDiv (f.body.length + 4) 16

/-- Header bytes 1 to 14 of a FRAME_HDR block (R468). -/
def frameHeader (f : Frame) : List Byte :=
  [BitVec.ofNat 8 f.ftype,
   BitVec.ofNat 8 (f.vc + (if f.mcast then 8 else 0) + (if f.timed then 16 else 0) + (if f.late then 32 else 0))]
  ++ leBytes 2 (f.dest % 1024) ++ leBytes 2 (f.src % 1024) ++ leBytes 2 f.body.length
  ++ leBytes 2 (f.seq % 4096 + 4096 * (f.hops % 16)) ++ leBytes 4 f.aux

/-- CRC-32C of a frame: header bytes 1 to 8 and 11 to 14, then every payload and pad byte (R470). -/
def frameCrc (f : Frame) : BitVec 32 :=
  let h := frameHeader f
  let pad := 16 * ceilDiv (f.body.length + 4) 16 - 4 - f.body.length
  crc32c (h.take 8 ++ h.drop 10 ++ f.body ++ List.replicate pad 0)

/-- A frame with its CRC. -/
def sealFrame (f : Frame) : Frame := { f with crc := frameCrc f }

/-- Frame buffer of a receiving port by VC (R473). -/
def vcBlocks (vc : Nat) : Nat := match vc with | 0 => 64 | 1 => 64 | 2 => 64 | 3 => 128 | 4 => 320 | 5 => 320 | 6 => 320 | _ => 0

/-- Blocks that the partner still has room for on a VC (R473, R474). -/
def creditLeft (q : Port) (vc : Nat) : Nat := vcBlocks vc - (q.used.get vc + 4096 - q.granted.get vc % 4096) % 4096

/-- Blocks in the retry buffer (R475). -/
def retryBlocks (q : Port) : Nat := (q.retry.map (fun x => frameBlocks x.frame)).sum

/-- The requester of the egress port's arbiter that a frame raises: 0 for the launch slot, else by VC and source (R483). -/
def requesterOf (x : Sent) : Nat := if x.at_.isSome then 0 else 1 + 17 * x.frame.vc + x.src

/-- A frame may start: credit for every block of it, and room in the retry buffer (R473, R475). -/
def frameMayStart (q : Port) (x : Sent) : Bool :=
  let b := frameBlocks x.frame
  decide (b ≤ creditLeft q x.frame.vc) && decide (retryBlocks q + b ≤ 512)

/-- Requests of an egress port: the place and the requester of the first frame of each requester that may start (R483). -/
def requestsOf (s : State) (p : Nat) : List (Nat × Nat) :=
  let q := s.port p
  (q.egress.zipIdx.filter (fun x =>
    (q.egress.take x.2).all (fun y => decide (requesterOf y ≠ requesterOf x.1)) && frameMayStart q x.1
      && !(s.req (8 + p) (requesterOf x.1)).disabled)).map (fun x => (x.2, requesterOf x.1))

/-- The frame that the arbiter grants: the highest rank, and the lowest requester among equals (R405, R483). -/
def grantedFrame (s : State) (p : Nat) : Option Nat :=
  ((requestsOf s p).foldl (fun (b : Option (Nat × Nat)) x => match b with
    | none => some x
    | some y =>
      let (i, j) := (rankOf s (8 + p) x.2, rankOf s (8 + p) y.2)
      if i < j || (i = j && decide (x.2 < y.2)) then some x else b) none).map (·.1)

/-- A forwarded frame still waits in some egress queue. -/
def copyWaits (s : State) (i seq : Nat) : Bool :=
  (List.range 16).any (fun a => (s.port a).egress.any (fun x => decide (x.mark = some (i, seq))))

/-- The ingress buffer releases the blocks of every frame whose last copy has left: the cumulative counts that are returned to the
partner advance (R474, R482). -/
def release (i : Nat) (s : State) : State :=
  let gone := (s.port i).buf.filter (fun b => !copyWaits s i b.1)
  s.modPort i (fun q => { q with
    buf := q.buf.filter (fun b => copyWaits s i b.1)
    freed := gone.foldl (fun f b => f.mod b.2.1 (fun n => (n + b.2.2) % 4096)) q.freed })

/-- Start frames of the egress queue as the arbiter grants them; `n` bounds them (R473, R475, R476, R483). -/
def pump (p : Nat) : Nat → State → State
  | 0, s => s
  | n + 1, s =>
    let q := s.port p
    if q.state ≠ .up || q.failed then s
    else match grantedFrame s p with
      | none => s
      | some i =>
        let x := q.egress.getD i {}
        let b := frameBlocks x.frame
        let f := { x.frame with seq := q.txSeq }
        let s := s.modPort p (fun q => { q with
          egress := q.egress.eraseIdx i, txSeq := (q.txSeq + 1) % 4096, retry := q.retry ++ [{ seq := q.txSeq, frame := f, src := x.src }]
          used := q.used.mod f.vc (fun u => (u + b) % 4096) })
        let s := match x.mark with
          | some (i, _) => release i s
          | none => s
        pump p n (bump (portCtr p 12) s)

/-- Put a frame into a port's egress queue and send what can be sent. -/
def enqueue (p : Nat) (x : Sent) (s : State) : State :=
  let s := s.modPort p (fun q => { q with egress := q.egress ++ [x] })
  pump p (s.port p).egress.length s

/-- Queue a frame of the hub's own at a port's egress. -/
def sendFrame (p : Nat) (f : Frame) (s : State) : State := enqueue p { frame := sealFrame f } s

/-! ## Routes (R493, R495, R502) -/

/-- An entry matches a hub address: its prefix is the top bits of the 10-bit address. -/
def Route.hits (r : Route) (dest : Nat) : Bool := decide (r.pfx = dest / 2 ^ (10 - r.len))

/-- The entry of longest matching prefix (R493). -/
def findRoute (s : State) (dest : Nat) : Option Route :=
  (s.sky.routes.filter (fun r => r.hits dest)).foldl
    (fun b r => match b with
      | none => some r
      | some x => if x.len < r.len then some r else b) none

/-- A lane of the port runs a pattern test (R463, R464). -/
def inTest (s : State) (p : Nat) : Bool :=
  (List.range (portWidth s p)).any (fun i => (s.lane (physLane s p i)).gen || (s.lane (physLane s p i)).chk)

/-- A port carries frames: up and not failed. -/
def usable (s : State) (p : Nat) : Bool := decide ((s.port p).state = .up) && !(s.port p).failed

/-- The port that a destination's frames leave by: the primary, or the alternate when it is failed (R495, R502, R505). -/
def egressOf (s : State) (dest : Nat) : Option Nat :=
  match findRoute s dest with
  | none => none
  | some r =>
    if usable s r.prim then some r.prim
    else match r.alt with
      | some a => if usable s a then some a else none
      | none => none

/-- Ports of a list that are up NETWORK ports. -/
def netPorts (s : State) : List Nat := (List.range 16).filter (fun p => usable s p && !(s.port p).clover)

/-- Every port that is up, clover link included. -/
def upPorts (s : State) : List Nat := (List.range 16).filter (usable s)

/-- Send a frame to a hub, dropping it where no route serves (R495). -/
def sendTo (f : Frame) (s : State) : State :=
  match egressOf s f.dest with
  | some p => sendFrame p f s
  | none => s

/-- Queue a forwarded frame at an egress port with one hop more; its CRC stands (R470, R480). It came by port `p`, whose buffer waits
for it when `mark` says so. -/
def forwardOn (p a : Nat) (mark : Option (Nat × Nat)) (f : Frame) (s : State) : State :=
  enqueue a { frame := { f with hops := f.hops + 1, seq := 0 }, src := p, mark := mark } s

/-! ## Records of remote tenants (R472, R560) -/

/-- Bytes of a record that one DATA frame carries (R472). -/
def segmentBytes : Nat := 4080

/-- The segments of a record from an offset on, with their offsets; `n` bounds them. -/
def segmentsOf : Nat → Nat → List Byte → List (Nat × List Byte)
  | 0, _, _ => []
  | n + 1, off, l =>
    if l.length ≤ segmentBytes then [(off, l)] else (off, l.take segmentBytes) :: segmentsOf n (off + segmentBytes) (l.drop segmentBytes)

/-- The payload of a DATA frame: the segment header and the segment (R472). -/
def segmentBody (gsi h first total : Nat) (x : Nat × List Byte) : List Byte :=
  leBytes 4 gsi ++ leBytes 2 h ++ leBytes 2 ((if x.1 = 0 then 1 else 0) + (if x.1 + x.2.length = total then 2 else 0))
    ++ leBytes 4 x.1 ++ leBytes 4 first ++ x.2

/-- A record leaves for a hub as the DATA frames of its segments, in order on one path (R472, R560). -/
def sendRecord (dest vc gsi h first : Nat) (image : List Byte) (s : State) : State :=
  each (segmentsOf (image.length / segmentBytes + 1) 0 image) (fun x s =>
    sendTo { ftype := 1, vc := vc, dest := dest, src := s.sky.hub, body := segmentBody gsi h first image.length x } s) s

end Sys2Proof.Machine
end

