-- ==== Sys2Proof/Machine/Spk.lean ====
section
/-! DEFINITION. The SPK bitstream: encoder, decoder, contexts (09 of the spec). Bits are lists, first bit first. -/

namespace Sys2Proof.Machine

/-- The low n bits of a number, lowest first (R352). -/
def bitsOf : Nat → Nat → List Bool
  | 0, _ => []
  | n + 1, v => decide (v % 2 = 1) :: bitsOf n (v / 2)

/-- The number that bits stand for, lowest first. -/
def ofBits : List Bool → Nat
  | [] => 0
  | b :: r => (if b then 1 else 0) + 2 * ofBits r

/-- The bits of bytes (R352). -/
def bitsOfBytes (l : List Byte) : List Bool := l.flatMap (fun b => bitsOf 8 b.toNat)

/-- Bytes of bits, the last one filled with 0; `n` bounds the bytes. -/
def bytesOfBits : Nat → List Bool → List Byte
  | 0, _ => []
  | n + 1, l => if l.isEmpty then [] else BitVec.ofNat 8 (ofBits (l.take 8)) :: bytesOfBits n (l.drop 8)

/-- The bytes of a bitstream without a pad to 8 bytes. -/
def rawBytes (l : List Bool) : List Byte := bytesOfBits (l.length / 8 + 1) l

/-- The bytes of a bitstream, padded with 0 bits to a multiple of 8 bytes (R352). -/
def padBytes (l : List Bool) : List Byte :=
  let b := rawBytes l
  b ++ List.replicate (roundUp b.length 8 - b.length) 0

/-! ## Contexts (R361) -/

/-- A reset context (R361). -/
def resetCtx (kind gen first : Nat) (packer : Bool) : SpkCtx :=
  { valid := true, kind := kind, packer := packer, generation := gen % 2 ^ 31, nextSeq := first, mean := 16 }

/-- The 64 bytes of a context (R361). -/
def ctxBytes (c : SpkCtx) : List Byte :=
  let b := leBytes 1 c.version ++ leBytes 1 c.kind
    ++ leBytes 2 ((if c.valid then 1 else 0) + (if c.packer then 2 else 0) + 4 * c.bitpos) ++ leBytes 4 c.generation
    ++ leBytes 8 c.nextSeq ++ leInt 4 c.hist1 ++ leInt 4 c.hist2 ++ leInt 4 c.hist3 ++ leBytes 4 c.mean
    ++ leBytes 8 c.bitsIn ++ leBytes 8 c.itemsOut ++ List.replicate 12 0
  b ++ leBytes 4 (crc32c b).toNat

/-- One item of a block: sample and status byte. -/
structure SpkItem where
  x  : Int := 0
  st : Nat := 0
  deriving DecidableEq, Repr, Inhabited

/-! ## Prediction and Rice coding (R357 to R360) -/

/-- The prediction of an order from p1, p2, p3 (R357). -/
def prediction (ord : Nat) (p1 p2 p3 : Int) : Int :=
  match ord with
  | 0 => 0
  | 1 => p1
  | 2 => 2 * p1 - p2
  | _ => 3 * p1 - 3 * p2 + p3

/-- The residual mapped to an unsigned value. -/
def mapResidual (e : Int) : Nat := if 0 ≤ e then (2 * e).toNat else (-2 * e - 1).toNat

/-- The residual of an unsigned value (R367). -/
def unmapResidual (u : Nat) : Int := if u % 2 = 0 then (u / 2 : Nat) else -(((u + 1) / 2 : Nat) : Int)

/-- The residuals of samples under an order (R357). -/
def residuals (ord : Nat) : Int → Int → Int → List Int → List Int
  | _, _, _, [] => []
  | p1, p2, p3, x :: r => (x - prediction ord p1 p2 p3) :: residuals ord x p1 p2 r

/-- k of a group: least k to 26 with 16 << k at or above M (R358). -/
def riceParam (m : Nat) : Nat := ((List.range 27).find? (fun (k : Nat) => decide (m ≤ 16 * 2 ^ k))).getD 26

/-- Length of a Rice code (R359). -/
def riceLen (u k : Nat) : Nat := if u / 2 ^ k < 32 then u / 2 ^ k + 1 + k else 59

/-- A Rice code (R359). -/
def riceCode (u k : Nat) : List Bool :=
  let q := u / 2 ^ k
  if q < 32 then List.replicate q true ++ [false] ++ bitsOf k u else List.replicate 32 true ++ bitsOf 27 u

/-- M after a group of n items whose u values sum to `sum` (R360). -/
def nextMean (m sum n : Nat) : Nat := (3 * m + sum * 16 / max 1 n) / 4

/-- The group lengths of a block of n items that begins at a sequence number (R353). -/
def groupLens : Nat → Nat → Nat → List Nat
  | 0, _, _ => []
  | f + 1, seq, n =>
    if n = 0 then [] else
      let g := min n (16 - seq % 16)
      g :: groupLens f (seq + g) (n - g)

/-- The groups of values of a block, each with the k in force before it, and M after the block (R358, R360). -/
def ricePlan : List Nat → List Nat → Nat → List (Nat × List Nat) × Nat
  | [], _, m => ([], m)
  | g :: gs, us, m =>
    let now := us.take g
    let (rest, m') := ricePlan gs (us.drop g) (nextMean m now.sum g)
    ((riceParam m, now) :: rest, m')

/-- The status mode and field of a block (R354 to R356, R364). -/
def statusField (kind : Nat) (st : List Nat) : Nat × List Bool :=
  if st.all (fun x => decide (x = 0)) then (0, [])
  else if kind = 2 then (1, bitsOf 8 (st.foldl (fun a b => a ||| b) 0))
  else if st.all (fun x => decide (x = st.headD 0)) then (1, bitsOf 8 (st.headD 0))
  else (2, st.flatMap (bitsOf 8))

/-- The order with the least sum of residual magnitudes, the lowest on a tie (R364). -/
def bestOrder (c : SpkCtx) (xs : List Int) : Nat :=
  let cost (o : Nat) : Nat := ((residuals o c.hist1 c.hist2 c.hist3 xs).map Int.natAbs).sum
  ([1, 2, 3].foldl (fun (b : Nat × Nat) o => if cost o < b.2 then (o, cost o) else b) (0, cost 0)).1

/-- The history after some samples. -/
def advanceCtx (c : SpkCtx) (xs : List Int) (m seq : Nat) : SpkCtx :=
  let h := xs.reverse ++ [c.hist1, c.hist2, c.hist3]
  { c with hist1 := h.getD 0 0, hist2 := h.getD 1 0, hist3 := h.getD 2 0, mean := m, nextSeq := seq + xs.length
           itemsOut := c.itemsOut + xs.length }

/-- Encode one block (R364). -/
def encodeBlock (kind : Nat) (items : List SpkItem) (seq : Nat) (c : SpkCtx) : List Bool × SpkCtx :=
  let xs := items.map (·.x)
  let n := xs.length
  let ord := bestOrder c xs
  let us := (residuals ord c.hist1 c.hist2 c.hist3 xs).map mapResidual
  let (plan, m) := ricePlan (groupLens n seq n) us c.mean
  let coded := (plan.map (fun g => (g.2.map (fun u => riceLen u g.1)).sum)).sum
  let raw := decide (24 * n ≤ coded)
  let (sm, sf) := statusField kind (items.map (·.st))
  let head := bitsOf 16 ((if raw then 1 else 0) + 2 * ord + 8 * sm + 32 * (n - 1))
  let field := if raw then xs.flatMap (fun x => bitsOf 24 (x % 16777216).toNat)
    else plan.flatMap (fun g => g.2.flatMap (fun u => riceCode u g.1))
  (head ++ sf ++ field, advanceCtx c xs m seq)

/-- Lengths of the blocks of n items from a sequence number (R353). -/
def blockLens : Nat → Nat → Nat → List Nat
  | 0, _, _ => []
  | f + 1, seq, n =>
    if n = 0 then [] else
      let b := min n (256 - seq % 256)
      b :: blockLens f (seq + b) (n - b)

/-- Encode the items of a record from a context. -/
def encodeAll (kind : Nat) : List Nat → List SpkItem → Nat → SpkCtx → List Bool × SpkCtx
  | [], _, _, c => ([], c)
  | b :: bs, items, seq, c =>
    let (now, c) := encodeBlock kind (items.take b) seq c
    let (rest, c) := encodeAll kind bs (items.drop b) (seq + b) c
    (now ++ rest, c)

/-- The packed payload of items that begin at a sequence number, and the context after it. -/
def packItems (kind : Nat) (items : List SpkItem) (seq : Nat) (c : SpkCtx) : List Byte × SpkCtx :=
  let (bits, c) := encodeAll kind (blockLens items.length seq items.length) items seq c
  (padBytes bits, c)

/-! ## Decoding (R367 to R369) -/

/-- Why a job ends early (reason codes of R374). -/
inductive SpkFail where
  | format | truncated | expansion | outLimit
  deriving DecidableEq, Repr

/-- Read n bits; none when the input ends. -/
def readBits (n : Nat) (l : List Bool) : Option (Nat × List Bool) :=
  if l.length < n then none else some (ofBits (l.take n), l.drop n)

/-- Count one-bits, stopping at a zero-bit, which is taken, or at 32. -/
def readUnary : Nat → List Bool → Option (Nat × List Bool)
  | 0, l => some (0, l)
  | _ + 1, [] => none
  | _ + 1, false :: r => some (0, r)
  | n + 1, true :: r => (readUnary n r).map (fun x => (x.1 + 1, x.2))

/-- One Rice code (R367). -/
def readRice (k : Nat) (l : List Bool) : Option (Nat × List Bool) :=
  match readUnary 32 l with
  | none => none
  | some (q, r) =>
    if q = 32 then readBits 27 r
    else (readBits k r).map (fun x => (q * 2 ^ k + x.1, x.2))

/-- A sample as 24 bits, sign-extended. -/
def readRaw (l : List Bool) : Option (Int × List Bool) := (readBits 24 l).map (fun x => (signExt 24 x.1, x.2))

/-- Decode the items of one group: samples, u values, the rest. -/
def decodeGroup (raw : Bool) (ord k : Nat) : Nat → Int → Int → Int → List Bool → Except SpkFail (List Int × List Nat × List Bool)
  | 0, _, _, _, l => .ok ([], [], l)
  | n + 1, p1, p2, p3, l =>
    let one : Option (Int × Nat × List Bool) :=
      if raw then (readRaw l).map (fun x => (x.1, mapResidual (x.1 - prediction ord p1 p2 p3), x.2))
      else (readRice k l).map (fun u => (unmapResidual u.1 + prediction ord p1 p2 p3, u.1, u.2))
    match one with
    | none => .error .truncated
    | some (x, u, l) =>
      if 8388607 < x || x < -8388607 then .error .format
      else
        match decodeGroup raw ord k n x p1 p2 l with
        | .error e => .error e
        | .ok (xs, us, l) => .ok (x :: xs, u :: us, l)

/-- Decode the groups of a block. -/
def decodeGroups (raw : Bool) (ord : Nat) : List Nat → Int → Int → Int → Nat → List Bool →
    Except SpkFail (List Int × Nat × List Bool)
  | [], _, _, _, m, l => .ok ([], m, l)
  | g :: gs, p1, p2, p3, m, l =>
    match decodeGroup raw ord (riceParam m) g p1 p2 p3 l with
    | .error e => .error e
    | .ok (xs, us, l) =>
      let h := xs.reverse ++ [p1, p2, p3]
      match decodeGroups raw ord gs (h.getD 0 0) (h.getD 1 0) (h.getD 2 0) (nextMean m us.sum g) l with
      | .error e => .error e
      | .ok (ys, m, l) => .ok (xs ++ ys, m, l)

/-- The status bytes of a block of n items. -/
def readStatus (sm n : Nat) (l : List Bool) : Option (List Nat × List Bool) :=
  if sm = 0 then some (List.replicate n 0, l)
  else if sm = 1 then (readBits 8 l).map (fun x => (List.replicate n x.1, x.2))
  else if l.length < 8 * n then none
  else some ((List.range n).map (fun (i : Nat) => ofBits ((l.drop (8 * i)).take 8)), l.drop (8 * n))

/-- Decode one block that must hold `cnt` items, with `room` items left under the output limit and `left` input bytes from
the byte of its first bit (R367 to R369). -/
def decodeBlock (kind cnt seq room left : Nat) (c : SpkCtx) (l : List Bool) :
    Except (SpkFail × Nat) (List SpkItem × SpkCtx × List Bool) :=
  match readBits 16 l with
  | none => .error (.truncated, cnt)
  | some (h, l) =>
    let raw := decide (h % 2 = 1)
    let ord := h / 2 % 4
    let sm := h / 8 % 4
    let n := h / 32 % 256 + 1
    if h / 8192 ≠ 0 || sm = 3 || (kind = 2 && sm = 2) || n ≠ cnt then .error (.format, n)
    else if room < n then .error (.outLimit, n)
    else if 16 * left < n then .error (.expansion, n)
    else
      match readStatus sm n l with
      | none => .error (.truncated, n)
      | some (st, l) =>
        match decodeGroups raw ord (groupLens n seq n) c.hist1 c.hist2 c.hist3 c.mean l with
        | .error e => .error (e, n)
        | .ok (xs, m, l) => .ok ((xs.zip st).map (fun p => { x := p.1, st := p.2 }), advanceCtx c xs m seq, l)

end Sys2Proof.Machine
end

