-- ==== Sys2Proof/Machine/Jobs.lean ====
section
/-! DEFINITION. What an SPK job does (R370 to R375 of 09): its blocks one by one, and the result that it reports. -/

namespace Sys2Proof.Machine

/-- The descriptor's values are within R370 (R374, DESCRIPTOR). -/
def JobInOk (j : JobIn) : Bool :=
  (decide (j.op = 1) || decide (j.op = 2)) && decide (1 ≤ j.kind) && decide (j.kind ≤ 3) && decide (0 < j.count) && j.resvOk

/-- A resumed context matches the job (R371). -/
def ctxFits (j : JobIn) (c : SpkCtx) : Bool :=
  c.valid && c.crcOk && decide (c.version = 1) && decide (c.kind = j.kind) && (c.packer == decide (j.op = 1))
    && decide (c.nextSeq = j.firstSeq)

/-- What a job has done. -/
structure JobOut where
  status : Status := .done
  reason : Nat := 0
  items  : Nat := 0
  bits   : Nat := 0
  bytes  : Nat := 0
  decl   : Nat := 0
  out    : List Byte := []
  stats  : List Byte := []
  ctx    : SpkCtx := {}
  deriving DecidableEq, Repr, Inhabited

/-- Reason, status of a failed block (R374). -/
def failOf : SpkFail → Nat × Status
  | .format => (1, .badParam) | .truncated => (2, .badParam) | .expansion => (3, .limit) | .outLimit => (4, .limit)

/-- The items of a PACK job's input: LB and EB words, or WB samples with one status byte a block. -/
def jobItems (j : JobIn) : List SpkItem :=
  let b := j.input
  if j.kind = 2 then
    (List.range (b.length / 3)).map (fun (i : Nat) =>
      { x := signExt 24 (ofLe ((b.drop (3 * i)).take 3)), st := j.stats.getD ((j.firstSeq + i) / 256 - j.firstSeq / 256) 0 % 256 })
  else
    (List.range (b.length / 4)).map (fun (i : Nat) =>
      { x := signExt 24 (ofLe ((b.drop (4 * i + 1)).take 3)), st := ((b.getD (4 * i) 0).toNat) })

/-- Bytes of output that bits take: padded, or to the last partly used byte with SAVE (R352, R372). -/
def outSize (save : Bool) (bits : Nat) : Nat := if save then ceilDiv bits 8 else roundUp (ceilDiv bits 8) 8

/-- The blocks of a PACK job one by one: `done` counts items, `bits` the output so far. -/
def packJob (j : JobIn) : List Nat → List SpkItem → Nat → List Bool → SpkCtx → JobOut
  | [], _, done, bits, c =>
    { items := done, out := if j.save then rawBytes bits else padBytes bits, bytes := outSize j.save bits.length
      ctx := { c with bitpos := if j.save then bits.length % 8 else 0 } }
  | n :: ns, items, done, bits, c =>
    let now := items.take n
    let so : JobOut := { items := done, out := if j.save then rawBytes bits else padBytes bits
                         bytes := outSize j.save bits.length, decl := n
                         ctx := { c with bitpos := if j.save then bits.length % 8 else 0 } }
    if now.length < n then { so with status := .badParam, reason := 2 }
    else if now.any (fun i => decide (8388607 < i.x) || decide (i.x < -8388607)) then { so with status := .badParam, reason := 1 }
    else
      let (b, c') := encodeBlock j.kind now (j.firstSeq + done) c
      if j.outBytes < outSize false (bits.length + b.length) then { so with status := .partialDone, decl := 0 }
      else packJob j ns (items.drop n) (done + n) (bits ++ b) c'

/-- Bytes of one unpacked item in the output. -/
def jobItemBytes (kind : Nat) (i : SpkItem) : List Byte := if kind = 2 then leInt 3 i.x else BitVec.ofNat 8 i.st :: leInt 3 i.x

/-- The blocks of an UNPACK job one by one; `used` counts the input bits. -/
def unpackJob (j : JobIn) : List Nat → List Bool → Nat → Nat → List Byte → List Byte → SpkCtx → JobOut
  | [], _, used, done, out, st, c =>
    { items := done, bits := used, out := out, stats := st, ctx := { c with bitpos := used % 8 } }
  | n :: ns, l, used, done, out, st, c =>
    let so : JobOut := { items := done, bits := used, out := out, stats := st, ctx := { c with bitpos := used % 8 } }
    if j.outBytes < out.length + n * (if j.kind = 2 then 3 else 4) then { so with status := .partialDone }
    else match decodeBlock j.kind n (j.firstSeq + done) (j.outLimit - done) (j.input.length - used / 8) c l with
    | .error (e, m) => let (r, stt) := failOf e; { so with status := stt, reason := r, decl := m }
    | .ok (items, c', rest) =>
      unpackJob j ns rest (used + (l.length - rest.length)) (done + n) (out ++ items.flatMap (jobItemBytes j.kind))
        (if j.kind = 2 then st ++ [BitVec.ofNat 8 ((items.head?.map (·.st)).getD 0)] else st) c'

/-- A job carried out to its end, or through its first `upTo` blocks when it is held (R370 to R374, R634). -/
def runJob (x : Job) (upTo : Option Nat) : JobOut :=
  let j := x.job
  if !JobInOk j then { status := .badParam, reason := 6, ctx := x.ctx }
  else if j.resume && !ctxFits j x.ctx then { status := .badParam, reason := 5, ctx := x.ctx }
  else
    let all := blockLens j.count j.firstSeq j.count
    let lens := match upTo with | some n => all.take n | none => all
    let held (o : JobOut) : JobOut := if o.status = .done && decide (lens.length < all.length) then { o with status := .partialDone } else o
    if j.op = 1 then
      let keep := if j.resume then bitsOf x.ctx.bitpos j.lastByte else []
      let o := packJob j lens (jobItems j) 0 keep x.ctx
      let bits := o.items * (if j.kind = 2 then 24 else 32)
      held { o with bits := bits, ctx := { o.ctx with bitsIn := x.ctx.bitsIn + bits } }
    else
      let skip := if j.resume then x.ctx.bitpos else 0
      let o := unpackJob j lens ((bitsOfBytes j.input).drop skip) skip 0 [] [] x.ctx
      held { o with ctx := { o.ctx with bitsIn := x.ctx.bitsIn + (o.bits - skip) } }

/-- RESULT of a job (R374). -/
def jobResult (j : JobIn) (o : JobOut) : List Byte :=
  let last := if o.status = .done || o.status = .partialDone then (if j.op = 1 then o.bytes else 0) else o.decl
  leBytes 8 (if o.reason = 5 || o.reason = 6 then 0 else o.bits) ++ leBytes 1 o.reason ++ [0, 0, 0] ++ leBytes 4 last

/-- Blocks of a job. -/
def jobBlocks (j : JobIn) : Nat := (blockLens j.count j.firstSeq j.count).length

/-- An output buffer that a job has written, in place of what the same command wrote before. -/
def writeOut (b : OutBuf) (s : State) : State :=
  let others := s.host.outs.filter (fun x => !(decide (x.tenant = b.tenant) && decide (x.tag = b.tag)))
  { s with host := { s.host with outs := b :: others } }

/-- A job that a reset ends (R375): the blocks that it had finished, of which a free value tells the number, are written; its context is
not. Answers the items written. -/
def cutJob (x : Job) (s : State) : Nat × State :=
  let (n, s) := drawn s
  let o := runJob x (some (Config.draw n % (jobBlocks x.job + 1)))
  (o.items, writeOut { tenant := x.tenant, tag := x.tag, bytes := o.out, stats := o.stats } s)

end Sys2Proof.Machine
end

