-- ==== Sys2Proof/Machine/Dram.lean ====
section
/-! DEFINITION. The DRAM channels: where an address lies (R384 to R386 of 10), activations (R387, R396, R397) and the transactions in
flight (R388, R423). -/

namespace Sys2Proof.Machine

/-! ## Address mapping (R384 to R386) -/

/-- Channel of a hub DRAM address (R385). -/
def dramChan (s : State) (a : Nat) : Nat := a / 2 ^ s.mem.grain % s.mem.pop.channels.length
/-- Channel address of a hub DRAM address (R385). -/
def channelAddr (s : State) (a : Nat) : Nat :=
  a / (2 ^ s.mem.grain * s.mem.pop.channels.length) * 2 ^ s.mem.grain + a % 2 ^ s.mem.grain

/-- Where a channel address lies in its channel (R386). -/
structure DramPlace where
  byte  : Nat
  sub   : Nat
  col   : Nat
  group : Nat
  bank  : Nat
  rank  : Nat
  row   : Nat
  deriving DecidableEq, Repr

/-- The fields of a channel address, from least to most significant: byte within the burst, subchannel, column in bursts, bank
group, bank, rank and row (R386). -/
def placeOf (p : Population) (a : Nat) : DramPlace :=
  let cols := p.rowBytes / 64
  let u := a / 128
  let v := u / cols
  { byte := a % 64, sub := a / 64 % 2, col := u % cols, group := v % 8, bank := v / 8 % 4, rank := v / 32 % p.ranks
    row := v / (32 * p.ranks) }

/-- The bank of a place within its channel: subchannel in [6], rank in [5], bank group in [4:2], bank in [1:0]. -/
def DramPlace.index (d : DramPlace) : Nat := 64 * d.sub + 32 * d.rank + 4 * d.group + d.bank

/-- Place of a hub DRAM address in its channel. -/
def placeAt (s : State) (a : Nat) : DramPlace := placeOf s.mem.pop (channelAddr s a)

/-- The population holds a hub DRAM address. -/
def dramHolds (s : State) (a : Nat) : Bool := decide (a < s.mem.pop.gib * 2 ^ 30) && !s.mem.pop.channels.isEmpty

/-! ## Activations (R387, R396, R397) -/

/-- The bank's rolling count starts again after an RFM (R396). -/
def rfm (ch bank : Nat) (s : State) : State := s.modDram ch (fun c => { c with raa := c.raa.set bank 0 })

/-- A pair (requester, row group) of the Furze table. -/
def FurzeRow.isPair (req bank grp : Nat) (e : FurzeRow) : Bool :=
  decide (e.req = req) && decide (e.bank = bank) && decide (e.group = grp)

/-- One more activation of a pair: a new pair of a full table replaces the oldest entry of least count and starts from that count
plus 1 (R397). -/
def countPair (req bank grp : Nat) (l : List FurzeRow) : List FurzeRow :=
  if l.any (FurzeRow.isPair req bank grp) then
    l.map (fun e => if e.isPair req bank grp then { e with count := e.count + 1 } else e)
  else if l.length < 256 then { req := req, bank := bank, group := grp, count := 1 } :: l
  else
    let least := l.foldl (fun m e => min m e.count) (l.headD {}).count
    match (l.reverse.findIdx? (fun e => decide (e.count = least))) with
    | none => l
    | some i => { req := req, bank := bank, group := grp, count := least + 1 } :: (l.reverse.eraseIdx i).reverse

/-- Activations of a pair in this window. -/
def pairCount (req bank grp : Nat) (l : List FurzeRow) : Nat := ((l.find? (FurzeRow.isPair req bank grp)).map (·.count)).getD 0

/-- An access to a row that is not open activates it: the bank's rolling count advances, an RFM coming before it would pass RAAMMT
(R396), and Furze counts it; a requester that Furze has acted on costs one more RFM in every 256 of its activations (R397, R398). A
timer setting of 0 closes the row again (R387). -/
def openRow (req c : Nat) (d : DramPlace) (s : State) : State :=
  let b := d.index
  let ch := s.dram c
  let stays := if ch.idle = 0 then none else some d.row
  if ch.openRows.get b = some d.row then s
  else
    let grp := d.row / 256
    let s := when (decide (s.mem.pop.raammt ≤ ch.raa.get b)) (rfm c b) s
    let s := s.modDram c (fun x => { x with
      openRows := x.openRows.set b stays, raa := x.raa.mod b (· + 1), furze := countPair req b grp x.furze
      lastOpen := x.lastOpen.set req s.now })
    let l := (s.dram c).furze
    let n := pairCount req b grp l
    when (l.any (fun e => e.isPair req b grp && e.acted) && decide (s.mem.furzeThr < n)
      && decide ((n - s.mem.furzeThr) % 256 = 0)) (rfm c b) s

/-! ## Transactions in flight (R388) -/

/-- Two accesses of one burst may change places: they lie in one bank, and are not two writes of the same 64-byte unit (R388). -/
def maySwap (s : State) (a b : Access) : Bool :=
  decide ((placeAt s a.addr).index = (placeAt s b.addr).index) && !(a.write && b.write && decide (a.addr / 64 = b.addr / 64))

/-- The order in which the controller serves the accesses of a burst, given as indices into it, is one that R388 allows. -/
def orderOk (s : State) (burst : List Access) (order : List Nat) : Bool :=
  decide (order.mergeSort = List.range burst.length) &&
    (List.range order.length).all (fun j => (List.range j).all (fun i =>
      let a := order.getD i 0
      let b := order.getD j 0
      decide (a < b) || maySwap s (burst.getD a {}) (burst.getD b {})))

/-- A burst in the order in which the controller serves it; an order that R388 does not allow is the requester's own. -/
def served (s : State) (burst : List Access) (order : List Nat) : List Access :=
  if orderOk s burst order then order.map (fun i => burst.getD i {}) else burst

/-- One access enters its channel: the word of a write crosses to the DRAM controller, the row opens, and the transaction waits behind
those granted before it (R388, R421 to R426). -/
def issue (req c : Nat) (a : Access) (s : State) : State :=
  let (poison, s) :=
    if a.write then
      let s := pushWord 3 c a.data s
      let (w, s) := popWord 3 c (when a.upset (fun s => s.modFifo (fifoKey 3 c) (Fifo.upset 8)) s)
      ((w.map (·.2)).getD false, s)
    else (false, s)
  let s := openRow req c (placeAt s a.addr) s
  s.modDram c (fun x => { x with flight := x.flight ++ [{ req := req, write := a.write, addr := a.addr, poison := poison }] })

/-- A throttled requester may not open a row yet: one activation per throttle interval on the channel (R398). -/
def mustWait (s : State) (req c : Nat) (a : Access) : Bool :=
  let x := s.dram c
  let d := placeAt s a.addr
  x.throttled.contains req && decide (x.openRows.get d.index ≠ some d.row)
    && decide (s.now < x.lastOpen.get req + nsSpan s.mem.furzeInt)

/-- An access is issued, or waits behind what its requester has waiting already (R398). -/
def issueOrWait (req c : Nat) (a : Access) (s : State) : State :=
  if mustWait s req c a || (s.dram c).waiting.any (fun p => decide (p.1 = req)) then
    s.modDram c (fun x => { x with waiting := x.waiting ++ [(req, a)] })
  else issue req c a s

/-- What waits on a channel is tried again, in order. -/
def retryWaiting (c : Nat) (s : State) : State :=
  let l := (s.dram c).waiting
  each l (fun p s => issueOrWait p.1 c p.2 s) (s.modDram c (fun x => { x with waiting := [] }))

/-- A burst of a memory port: at most 16 accesses, all to the 1 KiB unit of the first (R404). -/
def burstOf (l : List Access) : List Access :=
  match l with
  | [] => []
  | a :: _ => (l.take 16).filter (fun b => decide (b.addr / 1024 = a.addr / 1024))

/-- The accesses of the burst that a memory port's owner has just had, those of the port's own channel. -/
def issueAll (inst : Nat) (burst : List Access) (order : List Nat) (s : State) : State :=
  let s := if inst < 8 then retryWaiting inst s else s
  match (s.inst inst).owner with
  | none => s
  | some o => if inst < 8 then
      each ((served s (burstOf burst) order).filter (fun a => dramHolds s a.addr && decide (dramChan s a.addr = inst))) (issueOrWait o inst) s
    else s

/-- A write reaches its 64-byte unit: with the poison tag it is stored with a forced uncorrectable pattern (R423). -/
def store (x : Xact) (s : State) : State := { s with mem := { s.mem with spoiled := s.mem.spoiled.set (x.addr / 64) x.poison } }

/-- The writes at the front of a channel complete, in the order of their grants. -/
def storeFront (c : Nat) (s : State) : State :=
  let l := (s.dram c).flight
  each (l.takeWhile (·.write)) store (s.modDram c (fun x => { x with flight := l.dropWhile (·.write) }))

/-- The read that completes next in a channel (R388). -/
def nextRead (s : State) (c : Nat) : Option Xact := ((s.dram c).flight.dropWhile (·.write)).head?

/-- The oldest read of a channel completes, after the writes granted before it. -/
def takeRead (c : Nat) (s : State) : State := (storeFront c s).modDram c (fun x => { x with flight := x.flight.tail })

/-- The word read crosses to the measurement domain; true when it carries the poison tag there (R423). -/
def readWord (c data : Nat) (upset : Bool) (s : State) : Bool × State :=
  let s := pushWord 4 c data s
  let (w, s) := popWord 4 c (when upset (fun s => s.modFifo (fifoKey 4 c) (Fifo.upset 8)) s)
  ((w.map (·.2)).getD false, s)

end Sys2Proof.Machine
end

