-- ==== Sys2Proof/Machine/Streams.lean ====
section
/-! DEFINITION. The stream engine (08 of the spec): items, records and rings, publication and the position journal,
subscriptions, credits and delivery. A stream's key is its GSI without the hub address (R570, class 0x0B). -/

namespace Sys2Proof.Machine

/-! ## Identifiers (R306) -/

/-- Key of a stream: GSI bits [21:0]. -/
def streamKey (source kind inst : Nat) : Nat := source * 4096 + kind * 256 + inst
/-- Kind of a stream. -/
def kindOf (key : Nat) : Nat := key / 256 % 16
/-- Source of a stream. -/
def sourceOf (key : Nat) : Nat := key / 4096 % 1024
/-- Instance of a stream. -/
def instOfGsi (key : Nat) : Nat := key % 256
/-- The whole GSI of a stream of this hub. -/
def gsiOf (s : State) (key : Nat) : Nat := s.sky.hub * 4194304 + key
/-- The GSI under which an item of some instant is recorded: items before a change of address keep the one before (R307). -/
def gsiAt (s : State) (key : Nat) (t : Inst) : Nat := (if t < s.sky.addrFrom then s.sky.oldHub else s.sky.hub) * 4194304 + key
/-- The hub takes another address at a boundary: items before it keep the one before (R307). -/
def setAddress (a : Nat) (s : State) : State :=
  { s with sky := { s.sky with hub := a, former := a, next := none, oldHub := s.sky.hub, addrFrom := boundary s.time.swath } }

/-- The key of a GSI. -/
def keyOfGsi (gsi : Nat) : Nat := gsi % 4194304
/-- The event stream: source 960, kind 0x7. -/
def eventKey : Nat := streamKey 960 7 0
/-- The housekeeping stream: source 961, kind 0x8. -/
def houseKey : Nat := streamKey 961 8 0
/-- A stream whose items lie on a sample grid: LB, WB, EB. -/
def isSampleKind (k : Nat) : Bool := decide (1 ≤ k) && decide (k ≤ 3)

/-! ## Records -/

/-- Bytes that an item takes in a record (R319). -/
def itemSize (kind : Nat) (it : Item) : Nat :=
  if kind = 2 then 3 else if isSampleKind kind then 4 else it.body.length

/-- The status bytes that follow the samples of a WB record, before padding (R321). -/
def wbBlocks (first n : Nat) : Nat := if n = 0 then 0 else (first + n - 1) / 256 - first / 256 + 1

/-- Payload bytes of an unpacked record: descriptor, items, and WB status bytes padded to 8 (R318, R319, R321). -/
def Record.payload (r : Record) : Nat :=
  let k := kindOf r.gsi
  let n := r.items.length
  r.desc.length +
    (if r.packed.isEmpty then
      (r.items.map (itemSize k)).sum + (if k = 2 then roundUp (wbBlocks r.first n) 8 else 0) + r.bytes
     else r.packed.length)

/-- Bytes of a record with its header (R315). -/
def Record.size (r : Record) : Nat := 48 + r.payload
/-- Ring slots of 64 bytes (R323). -/
def Record.slots (r : Record) : Nat := ceilDiv r.size 64
/-- One past the last item. -/
def Record.stopSeq (r : Record) : Nat := r.first + r.items.length

/-- Start and end of the record window that holds an instant (R312). -/
def windowStart (n : Nat) (t : Inst) : Inst := boundary (swathAt t / n * n)
def windowEnd (n : Nat) (t : Inst) : Inst := boundary ((swathAt t / n + 1) * n)

/-- The record that an item of some instant opens begins and ends with its window, or with a cut inside it (R307, R313). -/
def Stream.span (st : Stream) (t : Inst) : Inst × Inst :=
  let lo (n : Nat) : Inst := let a := windowStart n t; if st.cutAt ≤ t then max a st.cutAt else a
  match st.cuts.find? (fun c => decide (t < c.at_)) with
  | some c => (lo c.was, min (windowEnd c.was t) c.at_)
  | none => (lo st.window, windowEnd st.window t)

/-- FLAGS of a new record (R316): FIRST, RATE, ANGLE and RESTART. -/
def newFlags (st : Stream) (angle : Bool) : BitVec 16 :=
  (if st.nFirst then 0x2#16 else 0#16) ||| (if st.nRate then 0x4#16 else 0#16) |||
  (if angle then 0x8#16 else 0#16) ||| (if st.nRestart then 0x40#16 else 0#16)

/-- A record opened at an item, with the QUALITY of its instant (R312, R315, R316, R318). -/
def openRecord (gsi : Nat) (st : Stream) (it : Item) (desc : List Byte) (angle : Bool) (q : BitVec 16) : Record :=
  { gsi := gsi, first := st.next, flags := newFlags st angle, start := (st.span it.t).1, stop := (st.span it.t).2, qual := q
    desc := if isSampleKind (kindOf gsi) && (st.nFirst || st.nRate) then desc else [] }

/-- Close the open record, if any: it waits for RECORD_WRITE (R314). -/
def Stream.close (st : Stream) : Stream :=
  match st.openRec with
  | none => st
  | some r => if r.items.isEmpty then { st with openRec := none } else { st with openRec := none, closed := st.closed ++ [r] }

/-- A cut at a boundary: the open record ends there, later items open another (R307, R313). -/
def Stream.cut (at_ : Inst) (was : Nat) (first : Bool) (st : Stream) : Stream :=
  { st with cuts := st.cuts ++ [{ at_ := at_, was := was, first := first }]
            openRec := st.openRec.map (fun r => { r with stop := min r.stop at_ }) }

/-- The cuts that an item of some instant has passed: the record before them is closed. -/
def Stream.passCuts (t : Inst) (st : Stream) : Stream :=
  match (st.cuts.takeWhile (fun c => decide (c.at_ ≤ t))).getLast? with
  | none => st
  | some c =>
    let due := st.cuts.takeWhile (fun c => decide (c.at_ ≤ t))
    { st.close with cuts := st.cuts.drop due.length, cutAt := c.at_, nFirst := st.nFirst || due.any (·.first) }

/-- The record that is open does not take an item: it lies outside the window, or the payload has reached 65,536 bytes (kinds 0x6 to
0x8), R312. -/
def Record.closes (r : Record) (kind : Nat) (t : Inst) : Bool :=
  decide (r.stop ≤ t) || decide (t < r.start) || (decide (6 ≤ kind) && decide (65536 ≤ r.payload))

/-- The active member has closed its record on a change before this stream's next item (R517). -/
def Stream.closeHere (st : Stream) : Stream :=
  let l := st.closeAt.filter (fun n => decide (st.next < n))
  if st.closeAt.contains st.next then { st.close with nRate := true, closeAt := l } else { st with closeAt := l }

/-- An item takes the stream's next number and its place in a record (R309, R312). A statistics or tussock record holds one. -/
def Stream.add (st : Stream) (gsi : Nat) (it : Item) (desc : List Byte) (angle : Bool) (q : BitVec 16) : Stream :=
  let k := kindOf gsi
  let st := (st.passCuts it.t).closeHere
  let st := match st.openRec with
    | some r => if r.closes k it.t then st.close else st
    | none => st
  let (r, st) := match st.openRec with
    | some r => (r, st)
    | none => (openRecord gsi st it desc angle q, { st with nFirst := false, nRate := false, nRestart := false })
  let st := { st with openRec := some { r with items := r.items ++ [it] }, next := st.next + 1 }
  if k = 4 || k = 5 then st.close else st

/-- Staging SRAM in bytes (R401). -/
def stagingSize : Nat := 67108864

/-- SUB in the status flags (R320). -/
def flagSUB : BitVec 8 := 0x04#8

/-- An item of a stream reaches the stream engine: it enters staging, or, with staging full, keeps its number and flags
and loses its value, which is counted (R402). -/
def emitItem (key : Nat) (it : Item) (desc : List Byte) (angle : Bool) (s : State) : State :=
  if !(s.stream key).exists_ || decide (it.t < (s.stream key).from_) then s
  else
    let n := itemSize (kindOf key) it
    let lost := decide (stagingSize < s.mem.staging + n)
    let it := if lost then { it with v := 0, fl := it.fl ||| flagSUB, body := it.body.map (fun _ => 0) } else it
    let s := s.modStream key (fun st =>
      let st := st.add (gsiAt s key it.t) it desc angle (qualityAt s it.t)
      if lost then { st with lost := st.lost + 1 } else st)
    if lost then
      bump (ctrKey 0 0 1 0) { s with mem := { s.mem with lostNow := s.mem.lostNow + 1 } }
    else
      let occ := s.mem.staging + n
      { s with mem := { s.mem with staging := occ, highMark := max s.mem.highMark occ } }

/-- The next record of a stream carries RATE, and the open one closes (R181, R222, R313); the standby of a pair is told the item at
which it does (R517). -/
def rateChange (key : Nat) (s : State) : State :=
  sendDecision (.closeRecord key (s.stream key).next) (s.modStream key (fun st => { st.close with nRate := true }))

/-- The active member has closed a record of this stream on a change before item n (R517): so does this member, at once where that is its
next item, later where it has not come; where the item has passed, the open record is split there, and the part from it on carries RATE
and the descriptor of the changed stream. -/
def Stream.closeFor (n : Nat) (desc : List Byte) (st : Stream) : Stream :=
  if st.next = n then { st.close with nRate := true }
  else if st.next < n then { st with closeAt := n :: st.closeAt }
  else match st.openRec with
    | none => st
    | some r =>
      if r.first < n then
        { st with
          closed := st.closed ++ [{ r with items := r.items.take (n - r.first) }]
          openRec := some { r with first := n, items := r.items.drop (n - r.first), flags := r.flags ||| 0x4#16, desc := desc } }
      else st

/-- A stream comes into being or exists again: it continues its numbers with a FIRST record (R310). -/
def startStream (key : Nat) (s : State) : State :=
  if (s.stream key).exists_ then s
  else
    let s := s.modStream key (fun st => { st with exists_ := true, nFirst := true })
    noteUse 6 (s.str.streams.filter (fun p => p.2.exists_)).length s

/-- A stream ends at an instant: its open record closes and an END record follows (R180, R315). -/
def endStream (key : Nat) (t : Inst) (s : State) : State :=
  if !(s.stream key).exists_ then s
  else s.modStream key (fun st =>
    let st := st.close
    { st with exists_ := false
              closed := st.closed ++ [{ gsi := gsiAt s key t, first := st.next, type := 3, stop := t, qual := qualityAt s t, stored := false }] })

/-! ## Record bytes (R315, R319) -/

/-- FIRST_TT of a record: that of its first item, of the boundary of an END, or of the range of a GAP, all zero when unknown (R315). -/
def Record.firstTT (r : Record) : List Byte :=
  let t := if r.type = 1 then (r.items.head?.map (·.t)).getD r.start else r.stop
  if r.type = 2 && decide (t = 0) then List.replicate 16 0 else ttBytes (ttOf t) r.qual

/-- The 48-byte header of a record, with its CRC (R315). -/
def headerBytes (r : Record) : List Byte :=
  let count := if r.type = 1 then r.items.length else r.count
  let b := [BitVec.ofNat 8 r.type, 1] ++ leBytes 2 r.flags.toNat ++ leBytes 4 r.gsi ++ leBytes 8 r.first
    ++ r.firstTT ++ leBytes 4 count ++ leBytes 4 (if r.type = 1 then r.payload else 0) ++ leBytes 4 r.spkTag
  b ++ leBytes 4 (crc32c b).toNat

/-- Item bytes of a record (R319). -/
def itemBytes (kind : Nat) (it : Item) : List Byte :=
  if kind = 2 then leInt 3 it.v
  else if isSampleKind kind then it.fl :: leInt 3 it.v
  else it.body

/-- The status bytes of a WB record: the OR of the flags of each block's samples, padded with zeros to 8 (R321). -/
def wbStatus (r : Record) : List Byte :=
  let n := wbBlocks r.first r.items.length
  let ofBlock (b : Nat) : Byte :=
    (r.items.zipIdx.filter (fun p => (r.first + p.2) / 256 == r.first / 256 + b)).foldl (fun a p => a ||| p.1.fl) 0
  (List.range n).map ofBlock ++ List.replicate (roundUp n 8 - n) 0

/-- A record as it stands in its ring and in a credit: header, descriptor, and items or their bitstream (R315, R318, R319). -/
def recordImage (r : Record) : List Byte :=
  let k := kindOf r.gsi
  headerBytes r ++ r.desc ++
    (if r.packed.isEmpty then r.items.flatMap (itemBytes k) ++ (if k = 2 then wbStatus r else []) else r.packed)

/-- A record in its ring slots of 64 bytes: the padding reads 0 (R323). -/
def slotBytes (r : Record) : List Byte := recordImage r ++ List.replicate (roundUp r.size 64 - r.size) 0

/-! ## Retirement (R323, R335, R336) -/

/-- The live subscriptions of a stream, with their handles. -/
def subsOf (s : State) (key : Nat) : List (Nat × Sub) :=
  s.str.subs.filterMap (fun p => match p.2 with
    | some u => if decide (u.gsi = key) && decide (u.state ≠ .closed) then some (p.1, u) else none
    | none => none)

/-- The free point: least ACKED + 1 over the REQUIRED subscriptions, else one past the last published item (R335). -/
def freePoint (s : State) (key : Nat) : Nat :=
  ((subsOf s key).filter (fun p => !p.2.bestEffort && p.2.live)).foldl (fun m p => min m p.2.acked) (s.stream key).pub

/-- A lost range in its place among those that wait, joined to one of the same reason that it continues. -/
def addGap (g : Gap) : List Gap → List Gap
  | [] => [g]
  | x :: r =>
    if x.reason = g.reason && decide (x.first + x.count = g.first) then { x with count := x.count + g.count } :: r
    else if g.first < x.first then g :: x :: r
    else x :: addGap g r

/-- A range of items that a subscription does not receive (R338), with the instant of its first item where that is known: its GAP waits
for delivery and DROPPED advances. -/
def Sub.drop (u : Sub) (first stop reason : Nat) (t : Option (Inst × BitVec 16)) : Sub :=
  if stop ≤ first then u
  else { u with gaps := addGap { first := first, count := stop - first, reason := reason, from_ := first, t := t } u.gaps
                dropped := u.dropped + (stop - first) }

/-- Instant and QUALITY of an item of a record, where the record holds it. -/
def Record.itemAt (r : Record) (n : Nat) : Option (Inst × BitVec 16) :=
  if n < r.first then none else (r.items[n - r.first]?).map (fun it => (it.t, r.qual))

/-- The journal entry of a range that is not received (R338, R645). -/
def dropEntry (key h reason first last : Nat) (s : State) : State :=
  post pStream 0x0601 (handleOf 0x0B key) [vU (h + reason * 65536), vU first, vU last] s

/-- A required subscriber loses the items of a retired record beyond its ACKED (R336; log entry 6). -/
def Sub.outrun (u : Sub) (r : Record) : Sub :=
  if u.bestEffort || !u.live then u
  else let n := max u.acked r.first; u.drop n r.stopSeq 2 (r.itemAt n)

/-- Slots of a ring of samples, sized for G at the unpacked worst-case record (R325). -/
def ringSlots (s : State) (key : Nat) : Nat :=
  let st := s.stream key
  let k := kindOf key
  if isSampleKind k then
    ceilDiv (depthOf st k * 8) (1000 * max 1 st.window) * (worstRing s (sourceOf key) (bandOf k) st.window / 64)
  else 0

/-- A ring keeps its oldest record. For kinds 0x1 to 0x3 and 0x6 it does while its window ends no more than G before the newest's, and
for samples, which packing may make shorter, while the slots hold every record; for kinds 0x4, 0x7 and 0x8 while fewer than G items
follow it (R325; log entry 7). Tussock references are retired only with their tussock (R713). -/
def ringFits (st : Stream) (kind slots : Nat) (l : List Record) : Bool :=
  if kind = 5 then true
  else match l.head?, l.getLast? with
    | some a, some b =>
      if isSampleKind kind || decide (kind = 6) then
        decide (b.stop ≤ a.stop + nsSpan (depthOf st kind * 1000)) || (isSampleKind kind && decide ((l.map Record.slots).sum ≤ slots))
      else decide ((l.map (fun r => r.items.length)).sum - a.items.length < depthOf st kind)
    | _, _ => true

/-- Retire the oldest records until the ring fits; `n` bounds the count. Answers the retired records and the ring. -/
def retire (st : Stream) (kind slots : Nat) : Nat → List Record → List Record × List Record
  | 0, l => ([], l)
  | n + 1, l =>
    if ringFits st kind slots l then ([], l)
    else match l with
      | [] => ([], [])
      | r :: rest => let (a, b) := retire st kind slots n rest; (r :: a, b)

/-- Every subscription of a stream after some of its records have been retired. -/
def outrunAll (key : Nat) (gone : List Record) (s : State) : State :=
  each (subsOf s key) (fun p s => s.modSub p.1 (fun u => gone.foldl (fun u r => u.outrun r) u)) s

/-- Put a finished record into its ring, at the slot after the one before it in the circular area (R314, R323, R336). -/
def ringWrite (key : Nat) (r : Record) (s : State) : State :=
  let st := s.stream key
  let slots := ringSlots s key
  let r := { r with slot := if slots = 0 then st.wr else st.wr % slots }
  let (gone, ring) := retire st (kindOf key) slots (st.ring.length + 1) (st.ring ++ [r])
  let s := s.modStream key (fun st => { st with ring := ring, wr := st.wr + r.slots, largest := max st.largest (roundUp r.size 64) })
  outrunAll key gone s

/-! ## Storage in DRAM and publication (R32, R343, R344) -/

/-- One past the last item of the stored records at the head of the unpublished ring. -/
def storedTo (st : Stream) : Nat :=
  (st.ring.dropWhile (fun r => decide (r.stopSeq ≤ st.pub) && r.stored)).takeWhile (·.stored)
    |>.foldl (fun m r => max m r.stopSeq) st.pub

/-- One past the last item that the next publication covers: W of the journal word, once that is written (R343, R344). -/
def Stream.covered (st : Stream) : Nat := if st.journOk then max st.pub st.journW else st.pub

/-- Publish a stream's pointer at a boundary when its journal word is written; otherwise it stays and the delay is
counted (R344). -/
def publishOne (key : Nat) (s : State) : State :=
  if (s.stream key).journOk then s.modStream key (fun st => { st with pub := st.covered })
  else bump (ctrKey (clsPrivate + 1) key 0 0) s

/-- The subscription word of the journal (R343). -/
def posSub (g : Nat) (u : Sub) : PosSub :=
  { gsi := u.gsi, tenant := u.tenant, bestEffort := u.bestEffort, acked := u.acked, state := u.state, stamp := g }

/-- The journal slot that the boundary g ends: W of every stream whose word is written, and a word for every subscription that has
changed; other words stand as the slot has them (R343 to R345). -/
def nextSlot (g : Nat) (e : StreamEng) (old : PosSlot) : PosSlot :=
  { stamp := g
    ws := e.streams.foldl (fun t p => if p.2.journOk then Tab.set t p.1 { w := p.2.covered, stamp := g } else t) old.ws
    subs := e.subs.foldl (fun t p => match p.2 with
      | some u => if u.dirty then Tab.set t p.1 (posSub g u) else t
      | none => t) old.subs }

/-- The slot of the swath that ends, and then every stream's pointer (R29 step 2, R343 to R345). -/
def publishAll (g : Nat) (s : State) : State :=
  if s.frozen then s
  else
    let e := s.str
    let e := if e.useB then { e with slotB := nextSlot g e e.slotB } else { e with slotA := nextSlot g e e.slotA }
    let s := { s with str := { e with
      useB := !e.useB, subs := e.subs.map (fun p => (p.1, p.2.map (fun u => { u with dirty := false }))) } }
    each (s.str.streams.keys) publishOne s

/-! ## Credits and completions (R330 to R333) -/

/-- The completion of a credit as it stands. -/
def Credit.cpl (c : Credit) (h : Nat) (err aborted : Bool) : DmaCpl :=
  { tag := c.tag, queue := c.queue, bytes := c.used, first := c.first, next := c.next, handle := h,
    records := c.records, gap := c.gap, resent := c.resent, err := err, aborted := aborted }

/-- An ACK of n, given as one past n (R334). -/
def Sub.ackTo (u : Sub) (n1 : Nat) : Sub :=
  if u.acked < n1 && n1 ≤ u.delivered then
    { u with acked := n1, dirty := true, told := u.told.filter (fun g => decide (n1 < g.first + g.count)) }
  else u

/-- Credit i of a subscription completes; a BEST_EFFORT subscription with auto-acknowledge takes it as an ACK
of NEXT_SEQ - 1 (R332, R334). -/
def completeAt (h i : Nat) (err : Bool) (s : State) : State :=
  match s.sub h with
  | none => s
  | some u =>
    match u.credits[i]? with
    | none => s
    | some c =>
      let s := s.modSub h (fun u =>
        let u := { u with credits := u.credits.eraseIdx i }
        if u.bestEffort && u.autoAck && !err then u.ackTo c.next else u)
      putDma u.tenant (4 + c.queue) (c.cpl h err false) s

/-- The first credit of a subscription completes. -/
def completeCredit (h : Nat) (err : Bool) (s : State) : State := completeAt h 0 err s

/-- The credits still posted complete with ABORTED: written (UNSUBSCRIBE) or recorded (detachment), R340. -/
def abortCredits (h : Nat) (write : Bool) (s : State) : State :=
  match s.sub h with
  | none => s
  | some u =>
    let l := u.credits.map (fun c => c.cpl h false true)
    let s := s.modSub h (fun u => { u with credits := [], recorded := if write then u.recorded else u.recorded ++ l })
    if write then each l (fun d s => putDma u.tenant (4 + d.queue) d s) s else s

/-- The largest record of a stream at its present settings in bytes at 64-byte alignment (R312, R331): that of a sample
record and of kinds 0x4 and 0x6 to 0x8 the rules fix; a tussock stream's is the largest so far. -/
def largestOf (s : State) (key : Nat) : Nat :=
  let k := kindOf key
  if k = 4 then 128 else if 6 ≤ k then 65600
  else if isSampleKind k then worstRecord s (sourceOf key) (bandOf k) (s.stream key).window
  else max 128 (s.stream key).largest

/-! ## Delivery (R332, R337, R338) -/

/-- A record of the ring that a subscription receives next: published items it has not had, or the END of the stream at
its position (R315). -/
def Record.due (r : Record) (st : Stream) (u : Sub) : Bool :=
  (decide (r.type = 1) && decide (u.delivered < r.stopSeq) && decide (r.stopSeq ≤ st.pub))
    || (decide (r.type = 3) && r.stored && decide (r.first = u.delivered) && decide (u.lastEnd.getD 0 < r.stop))

/-- Items that one GAP record can report (R315). -/
def gapMax : Nat := 4294967295

/-- What a subscription receives next; a GAP record reports 2^32 - 1 items at most (R315). -/
def nextFor (st : Stream) (u : Sub) : Option Record :=
  match u.gaps with
  | g :: _ =>
    if g.first ≤ u.delivered then
      some { gsi := u.gsi, first := g.first, type := 2, flags := BitVec.ofNat 16 (g.reason * 256), count := min gapMax g.count
             stop := (g.t.map (·.1)).getD 0, qual := (g.t.map (·.2)).getD 0 }
    else st.ring.find? (fun r => r.due st u)
  | [] => st.ring.find? (fun r => r.due st u)

/-! ## Packed exports (R366, R376, R377, R522) -/

/-- Flags of a packed record: PACKED (R316). -/
def flagPacked : BitVec 16 := 0x1#16

/-- The items of a record as SPK items. -/
def spkItems (r : Record) : List SpkItem := r.items.map (fun it => { x := it.v, st := it.fl.toNat })

/-- The context resets at this record: it carries FIRST or RATE, or it starts at swath 0 of a second, or the pair
is formed, or the stream has no export context here. -/
def exportResets (s : State) (r : Record) : Bool :=
  decide (r.flags &&& 0x6#16 ≠ 0#16) || decide (swathAt r.start % Config.swathsPerSec = 0)
    || decide (s.clover.state = .formed)

/-- Bits of an unpacked item that a packer consumes (R361). -/
def itemBits (kind : Nat) : Nat := if kind = 2 then 24 else 32

/-- A record of samples as an export packs it, and the contexts kept; other records stay as they are. -/
def exportRecord (key : Nat) (r : Record) (s : State) : Record × State :=
  let kind := kindOf key
  if !isSampleKind kind || r.type ≠ 1 || r.items.isEmpty then (r, s)
  else
    let st := s.stream key
    let l := s.str.exports.get key
    let gen := match st.expGen with | some g => (g + 1) % 2 ^ 31 | none => 0
    let new : SpkCtx × Bool × Bool := (resetCtx kind gen r.first true, true, true)
    let (start, fresh, reset) := match l.find? (fun e => decide (e.first = r.first)) with
      | some e => if e.used || !exportResets s r then (e.ctx, decide (e.ctx.itemsOut = 0), false) else new
      | none => new
    let (bytes, stop) := packItems kind (spkItems r) r.first start
    let stop := { stop with bitsIn := start.bitsIn + r.items.length * itemBits kind }
    let s := when reset (fun s => s.modStream key (fun st => { st with expGen := some gen })) s
    let oldest := match st.ring with | x :: _ => x.first | [] => r.first
    let kept := l.filter (fun e => decide (oldest ≤ e.first) && decide (e.first ≠ r.first))
    let l := if kept.any (fun e => decide (e.first = r.stopSeq)) then { first := r.first, ctx := start, used := true } :: kept
      else { first := r.stopSeq, ctx := stop } :: { first := r.first, ctx := start, used := true } :: kept
    let tag := (if fresh then 2 ^ 31 else 0) + start.generation
    ({ r with packed := bytes, flags := r.flags ||| flagPacked, spkTag := tag },
     { s with str := { s.str with exports := s.str.exports.set key l } })

/-- One past the last item of the next delivery. -/
def nextStop (r : Record) : Nat := if r.type = 2 then r.first + r.count else r.stopSeq

/-- What of a range no waiting gap covers. -/
def uncovered (lo hi : Nat) : List Gap → List (Nat × Nat)
  | [] => if lo < hi then [(lo, hi)] else []
  | g :: r => (if lo < min g.first hi then [(lo, min g.first hi)] else []) ++ uncovered (max lo (g.first + g.count)) hi r

/-- A start or resend position before the oldest record is a GONE gap, but for what is reported with another reason (R339; log entry
180). -/
def goneGap (st : Stream) (u : Sub) : Sub :=
  match st.ring with
  | [] => u
  | r :: _ => (uncovered u.delivered r.first u.gaps).foldl (fun u p => u.drop p.1 p.2 3 none) u

/-- The first waiting gap has been reported, or its first 2^32 - 1 items: the rest waits, of an unknown instant. -/
def Sub.tellGap (u : Sub) : Sub :=
  match u.gaps with
  | [] => u
  | g :: r =>
    if gapMax < g.count then { u with gaps := { g with first := g.first + gapMax, count := g.count - gapMax, t := none, noted := true } :: r }
    else { u with gaps := r, told := u.told ++ [{ g with first := g.from_, count := g.first + g.count - g.from_, noted := true }] }

/-- The instant of an item of the ring. -/
def instantOf (st : Stream) (n : Nat) : Option Inst :=
  (st.ring.find? (fun r => decide (r.first ≤ n) && decide (n < r.stopSeq))).bind (fun r => (r.items[n - r.first]?).map (·.t))

/-- Lag limit in µs: G / 2 where G is a time, 30 s otherwise (R327). -/
def lagOf (st : Stream) (u : Sub) : Nat :=
  let k := kindOf u.gsi
  u.lag.getD (if isSampleKind k || decide (k = 6) then depthOf st k / 2 else 30000000)

/-- The instant of an item of the ring with its QUALITY. -/
def instantQual (st : Stream) (n : Nat) : Option (Inst × BitVec 16) :=
  (st.ring.find? (fun r => decide (r.first ≤ n) && decide (n < r.stopSeq))).bind (fun r => r.itemAt n)

/-- The best-effort skip of R337: DELIVERED and ACKED move on at once. -/
def policySkip (st : Stream) (u : Sub) : Sub :=
  if !u.bestEffort || st.pub ≤ u.delivered then u
  else
    match instantOf st (st.pub - 1), instantOf st u.delivered with
    | some new, some old =>
      let lag := nsSpan (lagOf st u * 1000)
      if old + lag < new then
        let goal := new - lag / 2
        match st.ring.find? (fun r => decide (u.delivered ≤ r.first) && (match r.items.head? with
          | some it => decide (goal ≤ it.t)
          | none => false)) with
        | some r => { (u.drop u.delivered r.first 1 (instantQual st u.delivered)) with
                      delivered := max u.delivered r.first, acked := max u.acked r.first, dirty := true }
        | none => u
      else u
    | _, _ => u

/-- Bytes that a tenant's bucket holds at most (R554). -/
def bucketMax : Nat := 32768

/-- The bucket of a tenant at an instant: it fills at the cap (R554). -/
def Tenant.fill (t : Inst) (x : Tenant) : Tenant :=
  { x with bucket := min bucketMax (x.bucket + ((16 * x.cap * (t - x.bucketAt) / nsSpan 1000 : Nat) : Int)), bucketAt := max t x.bucketAt }

/-- Bytes drawn from a tenant's bucket (R553, R554). -/
def drawBytes (tenant n : Nat) (s : State) : State := s.modTenant tenant (fun x => { x with bucket := x.bucket - n })

/-- The bucket holds the next TLP of a record of some size: 512 bytes at most (R534, R554). -/
def tlpReady (s : State) (tenant size : Nat) : Bool := decide ((min 512 size : Nat) ≤ (s.tenant tenant).bucket)

/-- A record with the items whose read was poisoned delivered as 0 with SUB (R322, R395); a packed one is packed again from its reset
context. -/
def Record.poison (l : List Nat) (r : Record) : Record :=
  if !(l.any (fun n => decide (r.first ≤ n) && decide (n < r.stopSeq))) then r
  else
    let r := { r with items := r.items.zipIdx.map (fun p =>
      if l.contains (r.first + p.2) then { p.1 with v := 0, fl := p.1.fl ||| flagSUB } else p.1) }
    if r.packed.isEmpty then r
    else { r with packed := (packItems (kindOf r.gsi) (spkItems r) r.first (resetCtx (kindOf r.gsi) (r.spkTag % 2 ^ 31) r.first true)).1 }

/-- RESENT (R316). -/
def flagResent : BitVec 16 := 0x10#16

/-- The next record as a subscription receives it: a GAP under the hub's GSI, poisoned items as 0, RESENT on what it had before, packed
for a tenant on another hub (R322, R341, R366). -/
def asDelivered (u : Sub) (r : Record) (s : State) : Record × State :=
  if r.type = 2 then ({ r with gsi := gsiOf s u.gsi }, s)
  else
    let r := r.poison (s.stream u.gsi).poisoned
    let (r, s) := if (s.tenant u.tenant).kind = 2 && r.packed.isEmpty then exportRecord u.gsi r s else (r, s)
    (if r.type = 1 && decide (r.first < u.former) then { r with flags := r.flags ||| flagResent } else r, s)

/-- A record is pushed into the tenant's memory (R332); that of a tenant on another hub travels in DATA frames on VC4 or VC5 by class
(R472, R560). -/
def pushRecord (h : Nat) (u : Sub) (addr : Nat) (r : Record) (s : State) : State :=
  if (s.tenant u.tenant).kind = 2 then
    sendRecord (s.tenant u.tenant).hub (if u.bulk then 5 else 4) r.gsi h r.first (recordImage r) s
  else
    let others := s.host.dma.filter (fun w => !(decide (w.tenant = u.tenant) && decide (w.addr = addr)))
    { s with host := { s.host with dma := { tenant := u.tenant, addr := addr, bytes := recordImage r } :: others } }

/-- The journal entry of a range, once, as its GAP goes out (R338). -/
def noteGap (h : Nat) (u : Sub) (s : State) : State :=
  match u.gaps with
  | [] => s
  | g :: _ => if g.noted then s else dropEntry u.gsi h g.reason g.from_ (g.first + g.count - 1) s

/-- The record goes into credit i (R332). -/
def putRecord (h i : Nat) (c : Credit) (r : Record) (t : Inst) (u : Sub) (s : State) : State :=
  let off := roundUp c.used 64
  let stop := nextStop r
  let c' := { c with used := off + r.size, first := if c.records = 0 then r.first else c.first
                     next := if c.records = 0 then stop else max c.next stop
                     records := c.records + 1, gap := c.gap || decide (r.type = 2)
                     resent := c.resent || decide (r.flags &&& flagResent ≠ 0), since := if c.records = 0 then some t else c.since }
  let s := pushRecord h u (c.addr + off) r (drawBytes u.tenant r.size s)
  let s := when (decide (r.type = 2)) (noteGap h u) s
  let s := s.modStream u.gsi (fun st =>
    if r.type = 1 then { st with poisoned := st.poisoned.filter (fun n => decide (n < r.first) || decide (stop ≤ n)) } else st)
  s.modSub h (fun u =>
    let u := if r.type = 2 then u.tellGap else u
    { u with credits := u.credits.set i c', delivered := max u.delivered stop
             lastEnd := if r.type = 3 then some r.stop else u.lastEnd })

/-- Place the next record of a subscription into its credits; `n` bounds the credits that it passes on the way. A BULK credit into which
it does not fit completes, a LATENCY one at the boundary, an empty one with ERR (R331, R332). -/
def place (h : Nat) (t : Inst) : Nat → State → State
  | 0, s => s
  | n + 1, s =>
    match s.sub h with
    | none => s
    | some u =>
      match nextFor (s.stream u.gsi) u with
      | none => s
      | some r =>
        let i := (u.credits.takeWhile (·.full)).length
        match u.credits[i]? with
        | none => s.modSub h (fun u => { u with events := u.events ++ [.stall] })
        | some c =>
          let (r, s) := asDelivered u r s
          if roundUp c.used 64 + r.size ≤ c.length then putRecord h i c r t u s
          else if c.records = 0 then place h t n (completeAt h i true s)
          else if u.bulk then place h t n (completeAt h i false s)
          else place h t n (s.modSub h (fun u => { u with credits := u.credits.set i { c with full := true } }))

/-- A subscription delivers: it is live and ACTIVE, its session is open and its queue runs, the flush has not frozen positions, its
tenant's cap is not 0, and a SEVERED member delivers to local tenants only (R340, R346, R530, R538, R549, R554). -/
def delivers (s : State) (u : Sub) : Bool :=
  u.live && (s.tenant u.tenant).used && decide (u.state = .active) && !s.frozen && !(s.queue u.tenant (4 + u.queue)).stopped
    && (decide ((s.tenant u.tenant).cap ≠ 0))
    && !(decide (s.clover.state = .severed) && decide ((s.tenant u.tenant).kind = 2))

/-- Deliver the next record of a subscription, or drop its request until the tenant's bucket holds the next TLP (R554). The TLPs of a
record that is under way leave as the bucket fills (log entry 156). -/
def deliver (h : Nat) (t : Inst) (s : State) : State :=
  match s.sub h with
  | none => s
  | some u =>
    if !delivers s u then s
    else
      let s := s.modTenant u.tenant (Tenant.fill t)
      let st := s.stream u.gsi
      let s := s.modSub h (fun u => goneGap st (policySkip st u))
      let size := ((s.sub h).bind (nextFor st)).elim 0 (·.size)
      if tlpReady s u.tenant size then place h t (u.credits.length + 1) s else s

/-! ## The subscription state machine (R340), applied at boundaries -/

/-- The subscriptions bound to a tenant's DMA queue: neither CLOSED nor DETACHED. -/
def boundSubs (s : State) (t d : Nat) : List (Nat × Sub) :=
  s.str.subs.filterMap (fun p => match p.2 with
    | some u =>
      if decide ((u.keyKind, u.keyId) = keyOf (s.tenant t)) && decide (u.queue = d) && decide (u.state ≠ .closed)
          && decide (u.state ≠ .detached) then some (p.1, u) else none
    | none => none)

/-- Protection ends; the ranges whose GAP has not gone out are journalled (R338), and with RETENTION the other items not delivered
(R339, R340). -/
def closeSub (h : Nat) (retention : Bool) (s : State) : State :=
  match s.sub h with
  | none => s
  | some u =>
    let st := s.stream u.gsi
    let s := each (u.gaps.filter (fun g => !g.noted)) (fun g s => dropEntry u.gsi h g.reason g.from_ (g.first + g.count - 1) s) s
    let s := each (if retention then uncovered u.delivered st.pub u.gaps else []) (fun p s => dropEntry u.gsi h 5 p.1 (p.2 - 1) s) s
    let s := s.modSub h (fun u => { u with state := .closed, live := false, credits := [], gaps := [], told := [] })
    when (decide ((u.keyKind, u.keyId) = keyOf (s.tenant u.tenant)) && (boundSubs s u.tenant u.queue).isEmpty)
      (fun s => s.modQueue u.tenant (4 + u.queue) (fun q => { q with cls := none })) s

/-- The oldest item in a ring, or the next to come. -/
def oldestItem (st : Stream) : Nat :=
  ((st.ring.find? (fun r => decide (r.type = 1))).map (·.first)).getD st.pub

/-- One event of a subscription (R329, R340). -/
def subEvent (h : Nat) (e : SubEvent) (s : State) : State :=
  match e with
  | .opened start n => s.modSub h (fun u =>
      let st := s.stream u.gsi
      let at_ := if start = 0 then st.pub else if start = 1 then oldestItem st else n
      { u with live := true, delivered := at_, acked := at_, dirty := true })
  | .stall => s.modSub h (fun u =>
      if u.state = .active && u.credits.isEmpty then { u with state := .stalled, dirty := true } else u)
  | .credit => s.modSub h (fun u =>
      if u.state = .stalled && !u.credits.isEmpty then { u with state := .active, dirty := true } else u)
  | .resend m => s.modSub h (fun u =>
      if u.state = .active || u.state = .stalled then
        { (u.rewind (max m u.acked)) with dirty := true } else u)
  | .detach =>
    let s := abortCredits h false s
    s.modSub h (fun u =>
      if u.state = .active || u.state = .stalled then
        { (u.rewind u.acked) with state := .detached, since := some s.now, dirty := true } else u)
  | .attach q => s.modSub h (fun u =>
      if u.state = .detached then
        { u with state := .active, queue := q, since := none, dirty := true } else u)
  | .close => closeSub h false (abortCredits h true s)
  | .expired => if ((s.sub h).map (·.state)) = some .detached then closeSub h true s else s

/-- Every event that waits for the boundary, in order (R327, R340), but while positions are frozen (R346). -/
def applySubEvents (s : State) : State :=
  if s.frozen then s
  else each s.str.subs.keys (fun h s =>
    match s.sub h with
    | none => s
    | some u =>
      let s := s.modSub h (fun u => { u with events := [] })
      each u.events (subEvent h) s) s

/-- An event waits for the next boundary. -/
def queueEvent (h : Nat) (e : SubEvent) (s : State) : State :=
  s.modSub h (fun u => { u with events := u.events ++ [e] })

/-- Every subscription of a tenant is to detach at the next boundary; its DMA stops at once (R538, R340). -/
def detachTenant (t : Nat) (s : State) : State :=
  each s.str.subs.keys (fun h s =>
    match s.sub h with
    | some u => if decide (u.tenant = t) && decide (u.state ≠ .closed) then queueEvent h .detach s else s
    | none => s) s

/-- Every subscription that lags too far moves on (R337). -/
def skipAll (s : State) : State :=
  if s.frozen then s
  else each s.str.subs.keys (fun h s =>
    match s.sub h with
    | some u => if u.live && u.state ≠ .closed then s.modSub h (policySkip (s.stream u.gsi)) else s
    | none => s) s

/-- LATENCY credits that hold a record complete at the boundary (R332). -/
def completeLatency (s : State) : State :=
  each s.str.subs.keys (fun h s =>
    match s.sub h with
    | some u =>
      if !u.bulk && (s.tenant u.tenant).used && !s.frozen then
        each (u.credits.takeWhile (fun c => decide (0 < c.records))) (fun _ s => completeCredit h false s) s
      else s
    | none => s) s

/-! ## The event stream (R641) -/

/-- Entries of the journal that the event stream has not yet taken become its items. -/
def streamEvents (s : State) : State :=
  let l := (s.mgmt.ring.takeWhile (fun p => decide (s.mgmt.streamed ≤ p.1))).reverse
  let s := each l (fun p s => emitItem eventKey { t := instOf p.2.tt, body := entryBytes p.2 } [] false s) s
  { s with mgmt := { s.mgmt with streamed := s.mgmt.nextSeq } }

/-! ## Rows of the stream engine -/

/-- DRAM_WRITE_COMPLETE (R32): the oldest record in staging is in DRAM; its journal word is being written (R343). -/
def execDramWriteComplete (gsi bytes : Nat) (s : State) : Out :=
  let key := keyOfGsi gsi
  let mark : List Record → List Record := fun l =>
    match l.findIdx? (fun r => !r.stored) with
    | none => l
    | some i => l.modify i (fun r => { r with stored := true })
  let s := each (List.range 8) storeFront { s with mem := { s.mem with staging := s.mem.staging - bytes } }
  .next (s.modStream key (fun st =>
    let st := { st with ring := mark st.ring }
    let w := storedTo st
    if w = st.pub then st else { st with journW := w, journOk := false }))

/-- MRAM_WRITE_COMPLETE (R344): the stream's journal word is written, so its pointer may be published. -/
def execMramWriteComplete (gsi : Nat) (s : State) : Out :=
  .next (s.modStream (keyOfGsi gsi) (fun st => { st with journOk := true }))

/-- RECORD_DELIVERY (R332). -/
def execRecordDelivery (sub : Nat) (t : Inst) (s : State) : Out :=
  event (decide (sub < 4096)) (deliver sub t (touch t s))

/-- BULK_CREDIT_TIMEOUT (R332): 100 ms after its first record a BULK credit completes. -/
def execBulkCreditTimeout (sub : Nat) (s : State) : Out :=
  event (decide (sub < 4096)) <|
    match s.sub sub with
    | some u =>
      (match u.credits with
       | c :: _ =>
         if u.bulk && decide (0 < c.records) && (s.tenant u.tenant).used && !s.frozen then completeCredit sub false s else s
       | [] => s)
    | none => s

/-- RETENTION_EXPIRY (R340): a DETACHED subscription closes at the next boundary: its protection ends and the items not delivered
are journalled. -/
def execRetentionExpiry (sub : Nat) (s : State) : Out :=
  event (decide (sub < 4096)) <|
    match s.sub sub with
    | some u => if u.state = .detached then queueEvent sub .expired s else s
    | none => s

/-- The lost items of every stream stand in their records (R402). -/
def clearLost (s : State) : State :=
  each s.str.streams.keys (fun k s => s.modStream k (fun st => { st with lost := 0 })) s

/-- STAGING_RECOVER (R402): room has returned; the lost items stand in their records as 0 with SUB. -/
def execStagingRecover (bytes : Nat) (s : State) : Out :=
  let s := { s with mem := { s.mem with staging := s.mem.staging - bytes } }
  .next (if s.mem.staging < stagingSize then clearLost s else s)

end Sys2Proof.Machine
end

