-- ==== Sys2Proof/Machine/Pcie.lean ====
section
/-! DEFINITION. The PCIe host interface (14 of the spec): sessions, doorbells, violations, registers and snapshots. -/

namespace Sys2Proof.Machine

/-! ## Violations (R548, R550) -/

/-- Entries of a function's violation log (R540). -/
def violDepth (fn : Nat) : Nat := if fn = 0 then 16 else 4

/-- Log a violation: when the log is full the oldest entry goes and LOST is set; TOTAL saturates; vector 8 (R546, R550). -/
def logViol (fn : Nat) (v : Viol) (s : State) : State :=
  raise fn 8 (s.modFunc fn (fun f =>
    let full := decide (violDepth fn ≤ f.viols.length)
    { f with viols := (if full then f.viols.drop 1 else f.viols) ++ [v], lost := f.lost || full
             total := min 65535 (f.total + 1) }))

/-- A violation of a function or tenant, logged there and in the PF log as well (R548). A remote tenant has the PF log
alone. -/
def violate (fn : Option Nat) (v : Viol) (s : State) : State :=
  match fn with
  | some 0 => logViol 0 v s
  | some f => logViol 0 v (logViol f v s)
  | none => logViol 0 v s

/-- The function of a tenant, none for a remote one. -/
def tenantFn (s : State) (t : Nat) : Option Nat :=
  if (s.tenant t).kind = 2 then none else some (fnOf (s.tenant t))

/-- A function number: the PF or one of 63 VFs (R534). -/
def isFn (fn : Nat) : Bool := decide (fn < 64)

/-! ## Sessions (R537 to R539) -/

/-- The lowest free tenant number from 1 to 63 (R537); a number that ended this swath is not yet free. -/
def freeTenant (s : State) : Option Nat :=
  ((List.range 63).map (· + 1)).find? (fun t => !(s.tenant t).used && !(s.tenant t).ended)

/-- Sizes and bases of the admin queues are legal: 16 to 4,096 entries, rings inside the 64-bit host address space
(R540, ADM_STATUS.CODE; notes/assumptions/8.md). -/
def admValid (f : Func) : Bool :=
  decide (16 ≤ f.sqSize) && decide (f.sqSize ≤ 4096) && decide (16 ≤ f.cqSize) && decide (f.cqSize ≤ 4096)
    && decide (f.sqBase + 64 * f.sqSize ≤ 2 ^ 64) && decide (f.cqBase + 32 * f.cqSize ≤ 2 ^ 64)

/-- The completions that wait for the session key are written to the new admin queue before any other (R606). -/
def writeReplays (t : Nat) (s : State) : State :=
  let k := keyOf (s.tenant t)
  let mine := s.host.replays.filter (fun r => decide (r.kind = k.1 ∧ r.id = k.2))
  let s := { s with host := { s.host with replays := s.host.replays.filter (fun r => !decide (r.kind = k.1 ∧ r.id = k.2)) } }
  each mine (fun r s => putCpl t 0 { r.cpl with replayed := true } s) s

/-- Rate cap of a new tenant: 1,024 MB/s in units of 16 MB/s (R554). A new session has no DMA queue and is not counted
by R556, so no condition lowers it (R556). -/
def newCap : Nat := 64

/-- Open a session for a function on a tenant number, with its admin queue (R538). -/
def openSession (fn t : Nat) (s : State) : State :=
  let f := s.func fn
  let s := s.modTenant t (fun _ =>
    { used := true, kind := if fn = 0 then 0 else 1, vf := fn, cap := newCap, bucket := bucketMax, bucketAt := s.now })
  let s := s.modQueue t 0 (fun _ =>
    { made := true, base := f.sqBase, size := f.sqSize, cqBase := f.cqBase, cqSize := f.cqSize, vector := 0 })
  let s := s.modFunc fn (fun f => { f with enable := true, ready := true, failed := false, code := 0, tenant := some t })
  let s := noteUse 1 (s.host.tenants.filter (fun p => p.2.used)).length s
  writeReplays t s

/-- An open that fails (R538, R539). -/
def failOpen (fn : Nat) (st : Status) (s : State) : State :=
  s.modFunc fn (fun f => { f with enable := true, ready := false, failed := true, code := statusCode st, tenant := none })

/-- ADM_ENABLE_SET (R538, R539). -/
def execAdmEnableSet (fn : Nat) (s : State) : Out :=
  event (isFn fn) <|
    let f := s.func fn
    if f.enable then s
    else if !admValid f then failOpen fn .badParam s
    else
      let free := if fn = 0 then (if (s.tenant 0).used || (s.tenant 0).ended then none else some 0) else freeTenant s
      match free with
      | some t => openSession fn t s
      | none => post pPcie 0x0105 (handleOf 0x12 0) [vU fn, vU 0x8006] (failOpen fn .noResource s)

/-- A number that no tenant has. -/
def noTenant : Nat := 64

/-- Nothing that a tenant's commands wait for answers them. -/
def forgetTenant (t : Nat) (s : State) : State :=
  let mine (w : Option (Nat × Nat × BitVec 32)) : Bool := match w with | some x => decide (x.1 = t) | none => false
  { s with
    front := { s.front with mods := Tab.keep (fun m => if mine m.calTag then { m with calTag := none } else m) s.front.mods }
    sky := { s.sky with ports := Tab.keep (fun q => if mine q.loopTag then { q with loopTag := none } else q) s.sky.ports }
    mgmt := { s.mgmt with update := s.mgmt.update.map (fun u => if mine u.tag then { u with tag := none } else u) }
    host := { s.host with
      bank := s.host.bank.map (fun k => if k.tenant = t then { k with silent := true } else k)
      pinJobs := s.host.pinJobs.map (fun j => if j.tenant = t then { j with silent := true } else j)
      writes := s.host.writes.map (fun w => if w.tenant = t then { w with tenant := noTenant } else w)
      nets := s.host.nets.map (fun n => if n.tenant = t then { n with tenant := noTenant } else n) } }

/-- The commands of a session that its end cuts off are those of R606 only after a reset, a takeover or the loss of a
remote path; a PCIe session's end drops its queues and detaches its subscriptions (R538). -/
def endTenant (t : Nat) (s : State) : State :=
  if !(s.tenant t).used then s
  else
    let s := forgetTenant t (detachTenant t s)
    let s := { s with host := { s.host with queues := s.host.queues.filter (fun p => p.1 / 8 ≠ t) } }
    let s := { s with str := { s.str with jobs := s.str.jobs.filter (fun j => j.tenant ≠ t) } }
    s.modTenant t (fun x => { x with used := false, ended := true, inExec := [], unacked := [] })

/-- SPK jobs of a session that a function-level reset ends complete with INTERRUPTED under R606 (R375). -/
def interruptJobs (t : Nat) (s : State) : State :=
  let k := keyOf (s.tenant t)
  let mine := s.str.jobs.filter (fun j => decide (j.tenant = t))
  each mine (fun j s =>
    let (n, s) := cutJob j s
    let rep : Replay := { kind := k.1, id := k.2, cpl := { tag := j.tag, status := .interrupted, progress := n, replayed := true } }
    { s with host := { s.host with replays := s.host.replays ++ [rep] } }) s

/-- End the session of a function, leaving ENABLE as given (R538). -/
def endSession (fn : Nat) (enable : Bool) (s : State) : State :=
  let s := match (s.func fn).tenant with
    | some t => endTenant t (interruptJobs t s)
    | none => s
  s.modFunc fn (fun f => { f with tenant := none, ready := false, enable := enable
                                  failed := f.failed && enable, code := if enable then f.code else 0 })

/-- Every session of a list of functions ends. -/
def endSessions (fns : List Nat) (enable : Bool) (s : State) : State := each fns (fun fn s => endSession fn enable s) s


/-- ADM_ENABLE_CLEAR (R538): the session ends; FAILED clears. -/
def execAdmEnableClear (fn : Nat) (s : State) : Out := event (isFn fn) (endSession fn false s)

/-- FLR (R538): the function's registers return to their reset values; an FLR of the PF ends every PCIe session. -/
def execFlr (fn : Nat) (s : State) : Out :=
  event (isFn fn) <|
    let fns := if fn = 0 then allFns else [fn]
    each fns (fun f s => s.modFunc f (fun _ => {})) (endSessions fns false s)

/-- D3HOT_ENTRY (R538): the function's session ends; its registers stand. -/
def execD3hotEntry (fn : Nat) (s : State) : Out := event (isFn fn) (endSession fn (s.func fn).enable s)

/-- VF_ENABLE_CLEAR (R538): every VF session ends. -/
def execVfEnableClear (s : State) : Out :=
  .next (each (allFns.drop 1) (fun f s => s.modFunc f (fun _ => {})) (endSessions (allFns.drop 1) false s))

/-- HOT_RESET (R538): every PCIe session ends. -/
def execHotReset (s : State) : Out :=
  .next (each allFns (fun f s => s.modFunc f (fun _ => {})) (endSessions allFns false s))

/-- The PCIe link goes down: every PCIe session ends (R538). -/
def linkDownPcie (s : State) : State :=
  let s := each allFns (fun f s => s.modFunc f (fun _ => {})) (endSessions allFns false s)
  { s with host := { s.host with linkUp := false } }

/-- PCIE_LINK_DOWN (R538). -/
def execPcieLinkDown (s : State) : Out := .next (linkDownPcie s)

/-- Raw payload rate of a PCIe link in MB/s: 63.0 GB/s at 32 GT/s x16, in proportion to the transfer rate, with 8b/10b
coding at 2.5 and 5 GT/s (R536). -/
def rawRate (rate width : Nat) : Nat :=
  (match rate with
   | 1 => 4000 | 2 => 8000 | 3 => 15750 | 4 => 31500 | _ => 63000) * width / 16

/-- D_P of R536 in MB/s. -/
def dmaPlan (s : State) : Nat := if s.host.linkUp then 56000 * rawRate s.host.rate s.host.width / 63000 else 0

/-! ## Doorbells and queues (R545, R562 to R568) -/

/-- Fetch one command entry: an unknown opcode, a tag in execution or a reserved flag completes it at once (R568, R587);
otherwise it is in execution until its command completes (R563). -/
def fetchOne (t q : Nat) (f : Fetch) (s : State) : State :=
  let refuseWith (st : Status) : State := putCpl t q { tag := f.tag, status := st } s
  if !opcodes.contains f.opcode then refuseWith .badOpcode
  else if (s.tenant t).inExec.any (fun e => decide (e.tag = f.tag)) || reservedFlags f.flags then refuseWith .badParam
  else s.modTenant t (fun x => { x with inExec := x.inExec ++ [{ queue := q, tag := f.tag, opcode := f.opcode }] })

/-- The credits that a subscription has, and a check of one credit entry (R330, R331). A credit of another tenant's
subscription is a FOREIGN violation (R548). A remote tenant's credit carries its opaque tag in place of the position
(R560). -/
def postCredit (t d pos : Nat) (e : CreditEntry) (s : State) : State :=
  let tag := (if (s.tenant t).kind = 2 then e.addr else pos) % 2 ^ 32
  let err : DmaCpl := { tag := tag, queue := d, handle := e.handle, err := true }
  match s.sub e.handle with
  | none => putDma t (4 + d) err s
  | some u =>
    if (u.keyKind, u.keyId) ≠ keyOf (s.tenant t) then
      putDma t (4 + d) err (violate (tenantFn s t) { kind := 8, tenant := t, time := shortTime s.now } s)
    else if u.queue ≠ d || e.length % 64 ≠ 0 || e.length < roundUp (largestOf s u.gsi) 64 || u.state = .closed || u.state = .detached then
      putDma t (4 + d) err s
    else
      let s := s.modSub e.handle (fun u => { u with credits := u.credits ++
        [{ tag := tag, addr := e.addr, length := e.length, queue := d, first := u.delivered, next := u.delivered }] })
      when (decide (u.state = .stalled)) (queueEvent e.handle .credit) s

/-- Post credits in order; each takes the next position of the queue's posting order (R330, R333). -/
def postCredits (t d : Nat) : List CreditEntry → State → State
  | [], s => s
  | e :: r, s =>
    let pos := (s.queue t (4 + d)).head
    postCredits t d r (postCredit t d pos e (s.modQueue t (4 + d) (fun q => { q with head := q.head + 1 })))

/-- Tenant of a function whose queue registers answer: its session is open. -/
def openTenant (s : State) (fn : Nat) : Option Nat := (s.func fn).tenant

/-- A doorbell is refused: DOORBELL, or NO_SESSION for a VF whose session has failed or ended with ENABLE still 1
(R545, R548). -/
def badDoorbell (fn off : Nat) (t : Inst) (s : State) : State :=
  let f := s.func fn
  let kind := if fn ≠ 0 && f.enable && f.tenant.isNone then 5 else 4
  violate (some fn) { kind := kind, addr := off, write := true, abort := true, tenant := f.tenant.getD 0
                      requester := (Config.requesterId fn).toNat, time := shortTime t } s

/-- DB_SQ_TAIL_WRITE (R545, R563, R566): the entries up to the tail are fetched. -/
def execDbSqTailWrite (fn q tail : Nat) (cmds : List Fetch) (credits : List CreditEntry) (t : Inst) (s : State) : Out :=
  let s := touch t s
  event (isFn fn && decide (q < 8)) <|
    match openTenant s fn with
    | none => badDoorbell fn (0x1040 + 8 * q) t s
    | some x =>
      let qu := s.queue x q
      if !qu.made || qu.size ≤ tail then badDoorbell fn (0x1040 + 8 * q) t s
      else if 4 ≤ q then
        let s := s.modQueue x q (fun k => { k with tail := tail })
        if qu.stopped then s else postCredits x (q - 4) credits s
      else
        let n := (tail + qu.size - qu.tail) % qu.size
        let s := s.modQueue x q (fun k => { k with tail := tail, head := (k.head + min n cmds.length) % k.size })
        if s.mgmt.warm then s.modQueue x q (fun k => { k with late := k.late ++ cmds.take n })
        else each (cmds.take n) (fetchOne x q) s

/-- DB_CQ_HEAD_WRITE (R545, R565): the host has consumed completions up to the head, and those that wait are written. -/
def execDbCqHeadWrite (fn q head : Nat) (t : Inst) (s : State) : Out :=
  let s := touch t s
  event (isFn fn && decide (q < 8)) <|
    match openTenant s fn with
    | none => badDoorbell fn (0x1044 + 8 * q) t s
    | some x =>
      let qu := s.queue x q
      if !qu.made || qu.cqSize ≤ head then badDoorbell fn (0x1044 + 8 * q) t s
      else
        let before := qu.held.length
        let s := s.modQueue x q (fun k => Queue.drain k.held.length { k with cqHead := head })
        let more := decide ((s.queue x q).cqTail ≠ head)
        when (more || decide ((s.queue x q).held.length < before)) (raiseQueue (fnOf (s.tenant x)) qu.vector) s

/-- DMA_FAULT (R548, R549): the command or job completes with VIOLATION; a DMA queue stops. -/
def execDmaFault (fn q addr : Nat) (tag : Option (BitVec 32)) (t : Inst) (s : State) : Out :=
  let s := touch t s
  event (isFn fn && decide (q < 8)) <|
    match openTenant s fn with
    | none => s
    | some x =>
      let s := violate (some fn) { kind := 6, addr := addr, tenant := x, time := shortTime t } s
      let s := match tag with
        | some g =>
          let s := { s with str := { s.str with jobs := s.str.jobs.filter (fun j => !(decide (j.tenant = x) && decide (j.tag = g))) } }
          let cq := if q < 4 then q else ((s.tenant x).inExec.find? (fun e => decide (e.tag = g))).elim 0 (·.queue)
          finishLater x cq g { status := .violation } none s
        | none => s
      when (decide (4 ≤ q)) (fun s => s.modQueue x q (fun k => { k with stopped := true })) s

/-- VIOL_CLEAR (R550). A VF whose session has failed or ended with ENABLE still 1 gets NO_SESSION (R548). -/
def execViolClear (fn : Nat) (t : Inst) (s : State) : Out :=
  let s := touch t s
  event (isFn fn) <|
    if fn ≠ 0 && (s.func fn).enable && (s.func fn).tenant.isNone then badDoorbell fn 0x2004 t s
    else s.modFunc fn (fun f => { f with viols := [] })

/-- VIOL_LOST_CLEAR (R550): VIOL_STATUS.LOST is W1C. -/
def execViolLostClear (fn : Nat) (s : State) : Out := event (isFn fn) (s.modFunc fn (fun f => { f with lost := false }))

/-! ## Time registers and snapshots (R270, R279) -/

/-- Units of 2^-40 ns in one second. -/
def fracSec : Nat := 1000000000 * 1099511627776

/-- A counter in FREE mode at a tick: it adds INC at each tick of 375 MHz and carries into SEC at 10^9 ns (R275, R277, R278). -/
def TimeU.runTo (t : Inst) (u : TimeU) : TimeU :=
  let x := u.ns * 1099511627776 + u.frac40 + (t - u.setAt) / (4 * cycle1) * u.inc.toNat
  { u with sec := u.sec + x / fracSec, ns := x % fracSec / 1099511627776, frac40 := x % 1099511627776, setAt := max t u.setAt }

/-- The counter's reading at an instant: in GRID mode the TT of R272, in FREE mode what INC has made of it, the part of a tick
interpolated (R279). -/
def counterTT (s : State) (t : Inst) : TT :=
  if s.time.grid then ttOf t
  else
    let u := s.time.runTo t
    let x := u.ns * 1099511627776 + u.frac40 + (t - s.time.setAt) % (4 * cycle1) * u.inc.toNat / (4 * cycle1)
    { sec := u.sec + x / fracSec, ns := x % fracSec / 1099511627776, frac := x % 1099511627776 / 16777216 }

/-- A latch takes a snapshot (R279): NS, FRAC, QUALITY, SEC and, in GRID mode, the grid position. -/
def takeSnap (s : State) (t : Inst) (n : Snap) : Snap :=
  let k := cyclesOf t
  { n with armed := false, valid := true, tt := counterTT s t, qual := quality s
           grid := if s.time.grid then k % Config.swathCycles + 262144 * (k / Config.swathCycles % Config.swathsPerSec) + 2147483648
                   else 0 }

/-- Arm a latch in a mode: VALID clears and PENDING is set; a pending request is replaced (R279). -/
def armSnap (fn mode : Nat) (s : State) : State :=
  s.modFunc fn (fun f => { f with snap := { f.snap with mode := mode, pend := mode, armed := true, valid := false } })

/-- Every latch that is armed in a mode takes its snapshot. -/
def takeArmed (mode : Nat) (t : Inst) (s : State) : State :=
  each allFns (fun fn s =>
    if (s.func fn).snap.armed && decide ((s.func fn).snap.pend = mode) then
      s.modFunc fn (fun f => { f with snap := takeSnap s t f.snap }) else s) s

/-- The first time-counter tick at or after an instant: one tick in four cycles (R19, R284). -/
def tickAt (t : Inst) : Inst := ceilDiv t (4 * cycle1) * (4 * cycle1)

/-- A TAKE in MODE 0 latches at the first tick (R279). -/
def snapNow (fn : Nat) (t : Inst) (s : State) : State :=
  (armSnap fn 0 s).modFunc fn (fun f => { f with snap := takeSnap s (tickAt t) f.snap })

/-- TIME_SNAP_CTRL is written: MODE stands as written, a pending request keeps its own unless TAKE is written too; MODE 3 takes
none (R279). -/
def writeSnap (fn : Nat) (value : BitVec 64) (t : Inst) (s : State) : State :=
  let mode := value.toNat / 2 % 4
  let take := decide (value.toNat % 2 = 1)
  if take && decide (mode = 0) then snapNow fn t s
  else if take && decide (mode ≠ 3) then armSnap fn mode s
  else s.modFunc fn (fun f => { f with snap := { f.snap with mode := mode } })

/-- SNAP_TAKE_NOW (R279): MODE 0 latches at the first tick. -/
def execSnapTakeNow (fn : Nat) (t : Inst) (s : State) : Out :=
  let s := touch t s
  event (isFn fn) (snapNow fn t s)

/-- SNAP_TAKE_PPS (R279). -/
def execSnapTakePps (fn : Nat) (s : State) : Out := event (isFn fn) (armSnap fn 1 s)

/-- SNAP_TAKE_SWATH (R279). -/
def execSnapTakeSwath (fn : Nat) (s : State) : Out := event (isFn fn) (armSnap fn 2 s)

/-! ## The register file (R541 to R544) -/

/-- HEALTH_ERROR. -/
def healthError (s : State) : BitVec 32 :=
  BitVec.ofNat 32 (s.mgmt.errCause + 16 * s.mgmt.errChan + 128 * s.mgmt.errLane + 65536 * s.mgmt.errDetail)

/-- ID_REVISION: C0, the fused grade and the running image's version. -/
def idRevision (s : State) : BitVec 32 :=
  BitVec.ofNat 32 (0xC0 + (if Config.gradeHigh then 256 else 0) + 65536 * s.mgmt.fwMinor + 16777216 * s.mgmt.fwMajor)

/-- ID_HUB. -/
def idHub (s : State) : BitVec 32 :=
  BitVec.ofNat 32 (s.sky.hub + (if s.sky.hub = 0 then 1024 else 0) + (if s.mgmt.memberB then 2048 else 0)
    + (if s.mgmt.pref then 4096 else 0) + 65536 * s.mgmt.strap)

/-- TIME_STATUS. -/
def timeStatusReg (s : State) : BitVec 32 :=
  BitVec.ofNat 32 ((quality s).toNat + 65536 * s.time.parent.getD 255)

/-- TIME_ROOT. -/
def timeRootReg (s : State) : BitVec 32 :=
  match s.time.root with
  | some r => BitVec.ofNat 32 (r.hub + 1024 * r.prio)
  | none => 0

/-- TIME_FREQ: F x 2^-40 / 60 in 1/256 ppb, clamped to s32. -/
def timeFreqReg (s : State) : BitVec 32 :=
  BitVec.ofInt 32 (clamp32 (s.time.f * 256000000000 / (60 * 1099511627776)))

/-- The ten TIME_ registers in order of offset, as a function's latch holds the snapshot ones. -/
def timeRegs (s : State) (fn : Nat) : List Nat :=
  let n := (s.func fn).snap
  [2 * n.mode + (if n.valid then 256 else 0) + (if n.armed then 512 else 0),
   n.tt.ns, n.tt.frac + 65536 * n.qual.toNat, n.tt.sec % 2 ^ 32, n.tt.sec / 2 ^ 32 % 65536, n.grid,
   (timeStatusReg s).toNat, (timeRootReg s).toNat, (BitVec.ofInt 32 (clamp32 s.time.offset)).toNat, (timeFreqReg s).toNat]

/-- The 32-bit words of a function's RO registers that HIGH_WORD_LATCH_READ can name: the high words of the 64-bit RO
registers ID_UID, HEALTH_OVERRUN and HEALTH_ARB (R543). The AGE word is that of requester `r` of the instance. -/
def highWord (s : State) (fn off : Nat) : Option Nat :=
  if off = 0x08 then some (Config.uid.toNat / 2 ^ 32)
  else if fn ≠ 0 then none
  else if off = 0x48 then some (s.host.overrun.toNat / 2 ^ 32)
  else if 0x4000 ≤ off && off < 0xF000 && off % 8 = 0 then
    let (inst, r) :=
      if off < 0x6000 then ((off - 0x4000) / 0x400, (off - 0x4000) % 0x400 / 8)
      else if off < 0xE000 then (8 + (off - 0x6000) / 0x800, (off - 0x6000) % 0x800 / 8)
      else (24, (off - 0xE000) / 8)
    let n := if inst < 8 then 96 else if inst < 24 then 137 else 257
    if r < n then some (ageOf s inst r s.now) else none
  else none

/-- An offset lies in a function's map (R541, R542). -/
def mapped (fn off : Nat) : Bool :=
  let inR (a b : Nat) : Bool := decide (a ≤ off) && decide (off < b)
  let common := inR 0 0x14 || inR 0x40 0x48 || inR 0x1000 0x101C || inR 0x1040 0x1080 || inR 0x1100 0x1108
    || inR 0x3000 0x3028 || inR 0x2000 0x2008
  if fn = 0 then
    common || inR 0x48 0x50 || inR 0x1200 0x1300 || inR 0x2010 0x2110
      || (inR 0x4000 0x6000 && decide (off % 0x400 < 96 * 8)) || (inR 0x6000 0xE000 && decide (off % 0x800 < 137 * 8))
      || inR 0xE000 (0xE000 + 257 * 8) || inR 0xF000 0xF100 || inR 0x80000 0x80100 || inR 0x81000 0x81008
  else common || inR 0x2010 0x2050 || inR 0x8000 0x8100 || inR 0x9000 0x9008

/-- Start of a 64-bit register (R543): ID_UID, HEALTH_OVERRUN, ADM_SQ_BASE, ADM_CQ_BASE, HEALTH_ARB. -/
def is64 (fn off : Nat) : Bool :=
  off = 0x08 || off = 0x1008 || off = 0x1010 ||
    (fn = 0 && (off = 0x48 || (decide (0x4000 ≤ off) && decide (off < 0xF000) && off % 8 = 0)))

/-- An access has a legal width and alignment (R543). -/
def sized (fn off width : Nat) : Bool :=
  (decide (width = 4) && decide (off % 4 = 0)) || (decide (width = 8) && decide (off % 8 = 0) && is64 fn off)

/-- Response to a violating register access: kind 1 UNMAPPED (UR), 2 SIZE, 3 PROTECTED, 5 NO_SESSION (CA), R548. -/
def badAccess (fn kind off : Nat) (write : Bool) (t : Inst) (s : State) : State :=
  violate (some fn) { kind := kind, addr := off, write := write, abort := decide (kind ≠ 1)
                      tenant := (s.func fn).tenant.getD 0, requester := (Config.requesterId fn).toNat, time := shortTime t } s

/-- Offset of a function's MSI-X table (R541, R542). -/
def msixBase (fn : Nat) : Nat := if fn = 0 then 0x80000 else 0x8000

/-- Write the low or high word, or both, of a 64-bit register value. -/
def wordWrite (old : Nat) (high wide : Bool) (v : BitVec 64) : Nat :=
  if wide then v.toNat
  else if high then old % 2 ^ 32 + v.toNat % 2 ^ 32 * 2 ^ 32
  else old / 2 ^ 32 * 2 ^ 32 + v.toNat % 2 ^ 32

/-- Bit 0 of the last word of an MSI-X entry is its mask, kept inverted. -/
def msixWord (i v : Nat) : Nat := if i % 4 = 3 then Nat.xor v 1 else v

/-- A word of the MSI-X table is written; a vector that is no longer masked is pending no more (log entry 185). -/
def writeMsix (i v : Nat) (f : Func) : Func :=
  let f := { f with msix := f.msix.set i (msixWord i v) }
  if f.masked (i / 4) then f else { f with pend := f.pend.set (i / 4) false }

/-- REGISTER_WRITE (R10, R543, R544, R548): violations first; then the RW fields take effect at once, RO fields and
reserved bits ignore the write (R10, R11). -/
def execRegisterWrite (fn offset width : Nat) (value : BitVec 64) (t : Inst) (s : State) : Out :=
  let s := touch t s
  event (isFn fn) <|
    let f := s.func fn
    let adm := decide (0x1008 ≤ offset) && decide (offset < 0x101C)
    if !mapped fn offset then badAccess fn 1 offset true t s
    else if !sized fn offset width then badAccess fn 2 offset true t s
    else if adm && fn ≠ 0 && f.enable && f.tenant.isNone then badAccess fn 5 offset true t s
    else if adm && f.enable then badAccess fn 3 offset true t s
    else if offset = 0x1008 || offset = 0x100C then
      s.modFunc fn (fun f => { f with sqBase := wordWrite f.sqBase (offset = 0x100C) (width = 8) value / 64 * 64 })
    else if offset = 0x1010 || offset = 0x1014 then
      s.modFunc fn (fun f => { f with cqBase := wordWrite f.cqBase (offset = 0x1014) (width = 8) value / 32 * 32 })
    else if offset = 0x1018 then
      s.modFunc fn (fun f => { f with sqSize := value.toNat % 8192, cqSize := value.toNat / 65536 % 8192 })
    else if offset = 0x3000 then writeSnap fn value t s
    else if msixBase fn ≤ offset && offset < msixBase fn + 0x100 then
      s.modFunc fn (writeMsix ((offset - msixBase fn) / 4) (value.toNat % 2 ^ 32))
    else s

/-- PCIE_LINK_UP (R536): the negotiated link is reported. The entries for LATENCY subscriptions whose bound no longer
holds are written by the caller of the budget (`relinked`). -/
def linkUp (rate width : Nat) (s : State) : State :=
  { s with host := { s.host with linkUp := true, rate := rate, width := width } }

end Sys2Proof.Machine
end

