-- ==== Sys2Proof/Machine/Links.lean ====
section
/-! DEFINITION. What the Skecy rows share (11 and 12 of the spec): failover, link down and training failures, LSAs, holdover entry and
parent change (07). -/

namespace Sys2Proof.Machine

/-! ## Time: holdover and parent (R295, R296, R301) -/

/-- Bound on the hub's time against its root's in quarter nanoseconds: 0.5 ns a hop (R298, R299; log entry 177). -/
def rootBound (s : State) : Nat := 2 * s.time.hops

/-- Smallest ERR code whose bound 2^(k-2) ns covers e, given in quarter nanoseconds (R270). -/
def errCode (quarters : Nat) : Nat := ((List.range 31).find? (fun k => decide (quarters ≤ 2 ^ k))).getD 31

/-- Swaths of 16 s (R301). -/
def meanSwaths : Nat := 16 * Config.swathsPerSec

/-- The newest n swaths of a list of runs. -/
def newestRuns : Nat → List (Int × Nat) → List (Int × Nat)
  | _, [] => []
  | n, (f, k) :: r => if n = 0 then [] else if n ≤ k then [(f, n)] else (f, k) :: newestRuns (n - k) r

/-- One more swath of LOCKED with F (R301). -/
def addRun (f : Int) (l : List (Int × Nat)) : List (Int × Nat) :=
  newestRuns meanSwaths (match l with
    | (x, k) :: r => if x = f then (x, k + 1) :: r else (f, 1) :: l
    | [] => [(f, 1)])

/-- Mean of F over the last 16 s of LOCKED (R301); F stays where nothing has been recorded. -/
def meanF (s : State) : Int :=
  let n := (s.time.fRuns.map (·.2)).sum
  if n = 0 then s.time.f else (s.time.fRuns.map (fun p => p.1 * (p.2 : Int))).sum / (n : Int)

/-- Entry to HOLDOVER: F goes to its mean within the limit of R281 and is held there, and the bound at entry is that of ERR
(R301). -/
def holdoverEntry (s : State) : State :=
  if s.time.state = .holdover then s
  else { s with time := { s.time with state := .holdover, fWant := meanF s, fBank := none
                                      holdFrom := some (cyclesOf s.now), holdE0 := 2 ^ s.time.err } }

/-- The roots that neighbours announce, by port (R293): a root without an address is none known, a root 15 hops away would be beyond
HOPS, and a hub without a parent takes no echo of itself. -/
def claims (s : State) : List (Nat × Cand) :=
  s.time.heard.filterMap (fun p => match p.2 with
    | some c =>
      if c.hub = 0 || 15 ≤ c.hops || (decide (c.hub = s.sky.hub) && s.time.parent.isNone) then none else some (p.1, c)
    | none => none)

/-- The nearer of two claims: fewest hops, ties to the lowest port (R294). -/
def nearer (b : Option (Nat × Cand)) (p : Nat × Cand) : Option (Nat × Cand) :=
  match b with
  | some x => if p.2.hops < x.2.hops || (decide (p.2.hops = x.2.hops) && decide (p.1 < x.1)) then some p else b
  | none => some p

/-- The port that leads to a root: the neighbour with the fewest hops, ties to the lowest port (R294). -/
def portTo (s : State) (root : Nat) (except_ : Option Nat) : Option Nat :=
  (((claims s).filter (fun p => decide (p.2.hub = root) && decide (some p.1 ≠ except_))).foldl nearer none).map (·.1)

/-- The alternate of the time parent (R296, R501): the next neighbour on a path to the root that does not return through this hub, as
that of a neighbour with no more hops than the hub itself does not. -/
def withAlt (s : State) : State :=
  let alt := match s.time.parent, s.time.root with
    | some p, some r =>
      let own := ((s.time.heard.get p).map (·.hops)).getD 0 + 1
      match portTo s r.hub (some p) with
      | some q => if ((s.time.heard.get q).map (·.hops)).getD 0 ≤ own then some q else none
      | none => none
    | _, _ => none
  { s with time := { s.time with alt := alt } }

/-- The parent moves to another port, or to none: the change steps nothing; with no path left the hub enters HOLDOVER
(R296). -/
def changeParent (new : Option Nat) (s : State) : State :=
  let old := s.time.parent
  if old = new then s
  else
    let off := match new with
      | some p => clamp32 (-(s.time.xchg.get p).offset)
      | none => s.time.offset
    let s := withAlt { s with time := { s.time with parent := new, offset := off } }
    let s := post pTime 0x0703 0 [vU (old.getD 255), vU (new.getD 255)] s
    if new.isNone then holdoverEntry s else s

/-! ## LSAs (R492) -/

/-- The LSA of this hub: its neighbours, ports and costs (R492). -/
def ownLsa (s : State) : LsaRec :=
  { origin := s.sky.hub, uid := Config.uid.toNat, seq := s.sky.lsaSeq
    links := (netPorts s).filterMap (fun p => (s.port p).neigh.map (fun n => { hub := n.hub, port := p, cost := (s.port p).cost })) }

/-- Payload of an LSA (R492); its byte layout is the model's (notes/assumptions/11.md). -/
def lsaBytes (l : LsaRec) : List Byte :=
  leBytes 2 l.origin ++ leBytes 8 l.uid ++ leBytes 4 l.seq
    ++ l.links.flatMap (fun x => leBytes 2 x.hub ++ [BitVec.ofNat 8 x.port, BitVec.ofNat 8 x.cost])

/-- Flood an LSA on every up port but the ingress, over which it came with `hops` links crossed (R469, R480, R492). -/
def floodLsa (l : LsaRec) (ingress : Option (Nat × Nat)) (s : State) : State :=
  let f : Frame := { ftype := 7, vc := 0, dest := 1023, src := l.origin, aux := 1, body := lsaBytes l }
  match ingress with
  | none => each (upPorts s) (fun p s => sendFrame p f s) s
  | some (i, hops) =>
    if 15 ≤ hops then s
    else each ((upPorts s).filter (fun p => decide (p ≠ i))) (fun p s => forwardOn i p none { sealFrame f with hops := hops } s) s

/-- Store an LSA in the database. -/
def storeLsa (l : LsaRec) (s : State) : State :=
  { s with sky := { s.sky with lsas := l :: s.sky.lsas.filter (fun x => decide (x.origin ≠ l.origin ∨ x.uid ≠ l.uid)) } }

/-- An addressed hub floods its LSA with the next sequence (R492). -/
def sendLsa (s : State) : State :=
  if s.sky.hub = 0 then s
  else
    let s := { s with sky := { s.sky with lsaSeq := (s.sky.lsaSeq + 1) % 2 ^ 32 } }
    floodLsa (ownLsa s) none (storeLsa (ownLsa s) s)

/-! ## Failover (R500 to R504) -/

/-- Re-queue a frame of a failed port onto its alternate, or discard and count it (R502). -/
def requeue (p : Nat) (x : Sent) (s : State) : State :=
  let f := x.frame
  if f.mcast then
    match ((s.sky.mcast.get f.dest).alts[p]?).getD 255 with
    | 255 => bump (portCtr p 21) s
    | a => if usable s a then s.modPort a (fun q => { q with egress := q.egress ++ [{ x with seq := 0 }] })
           else bump (portCtr p 21) s
  else if f.dest = 0 || f.dest = 1023 then bump (portCtr p 21) s
  else
    match egressOf s f.dest with
    | some a =>
      if x.at_.isSome then
        let s := s.modPort a (fun q => { q with timed := q.timed ++ [x] })
        noteUse 11 (s.port a).timed.length s
      else s.modPort a (fun q => { q with egress := q.egress ++ [{ x with seq := 0 }] })
    | none => bump (portCtr p 21) s

/-- Remote tenants whose path left by a port: DELIVERED := ACKED at once, RESENT on what follows (R340, R504). -/
def rewindRemote (p : Nat) (s : State) : State :=
  each s.str.subs.keys (fun h s =>
    match s.sub h with
    | some u =>
      let x := s.tenant u.tenant
      let onPath := decide (x.kind = 2) && ((findRoute s x.hub).elim false (fun r => decide (r.prim = p)))
      if onPath && (decide (u.state = .active) || decide (u.state = .stalled)) then
        s.modSub h (fun u => u.rewind u.acked) else s
    | none => s) s

/-- A port has failed for routing, with the cause of R645: entries move to alternates, held frames are re-queued, the
failover is counted and journalled, the parent and remote subscriptions follow (R502, R504), and an LSA tells of the neighbour that is
no longer reached (R492). -/
def failPort (p cause : Nat) (s : State) : State :=
  let q := s.port p
  if q.failed then s
  else
    let moved := (s.sky.routes.filter (fun r => decide (r.prim = p))).length
    let frames := q.retry.map (fun x => { x with mark := none }) ++ q.egress ++ q.timed
    let s := s.modPort p (fun q => { q with failed := true, retry := [], egress := [], timed := [], replays := 0, nakSent := false, neigh := none })
    let s := { s with time := { s.time with heard := s.time.heard.set p none } }
    let s := rewindRemote p (each frames (requeue p) s)
    let s := each (List.range 16) (fun a s => release a (pump a (s.port a).egress.length s)) s
    let s := postAt s.now pSkecy 0x0804 (handleOf 0x0D p) [vU cause, vU moved] (bump (portCtr p 25) s)
    sendLsa (if s.time.parent = some p then changeParent s.time.alt s else s)

/-- The lanes of a port idle, and bring-up starts again in IDLE (R456, R464, R465). -/
def toIdle (p : Nat) (s : State) : State :=
  s.modPort p (fun q => { q with
    state := .idle, ts1Run := 0, ts2Run := 0, tx := {}, rx := {}, seeded := false, farEnd := false, rxInv := 0
    rxRev := false, ownAdapt := false, parAdapt := false, ownSkew := false, parSkew := false, neigh := none, missed := 0 })

/-- The link of a port goes down (R456): routing is told, the transmitters idle, and bring-up starts again in IDLE. -/
def linkDown (p : Nat) (s : State) : State := toIdle p (failPort p 1 (bump (portCtr p 8) s))

/-- A training attempt fails: the port returns to IDLE and counts TRAIN_FAIL; after three in a row at one rate the
advertised maximum falls by one step, or at 12 Gbit/s a 1 s hold follows (R442, R450). -/
def trainFail (p cause : Nat) (s : State) : State :=
  let s := bump (portCtr p 5) s
  let rate := advertised s p
  let n := (s.port p).fails + 1
  let s := s.modPort p (fun q => { q with
    state := .idle, cause := cause, fails := n, ts1Run := 0, ts2Run := 0, ownAdapt := false, parAdapt := false
    ownSkew := false, parSkew := false, tx := {}, rx := {} })
  if n < 3 then s
  else if rate = 0 then s.modPort p (fun q => { q with slowIdle := true })
  else bump (portCtr p 6) (s.modPort p (fun q => { q with advert := some (rate - 1), fails := 0 }))

/-- A port that carries traffic again is no longer failed (R502 ends with the new table; the port itself is up). Its sequences, credits
and ingress buffer begin anew; the XTRIG blocks that no ACK has released are sent again (R486). -/
def portUp (p : Nat) (s : State) : State :=
  let s := each (List.range 16) (fun a s => s.modPort a (fun q => { q with
    egress := q.egress.map (fun x => if x.mark.any (fun m => decide (m.1 = p)) then { x with mark := none } else x) })) s
  s.modPort p (fun q =>
    let xt := (q.xtSent ++ q.xtQueue).zipIdx.map (fun x => { x.1 with xtSeq := x.2 })
    { q with
      state := .up, fails := 0, cause := 0, failed := false, txSeq := 0, rxSeq := 0, retry := [], replays := 0
      nakSent := false, granted := [], used := [], freed := [], buf := [], xtSeq := min 16 xt.length, xtSent := xt.take 16
      xtQueue := xt.drop 16, xtRx := 255, tx := { mask := q.tx.mask }, rx := { mask := q.rx.mask } })

end Sys2Proof.Machine
end

