-- ==== Sys2Proof/Machine/Acquire.lean ====
section
/-! DEFINITION. Statistics, trigger units, admission of tussocks, cross-triggers and field pins (06 of the spec). -/

namespace Sys2Proof.Machine

/-! ## Statistics (R229 to R237) -/

/-- Index of a statistics definition: 4 × chain index + definition (R570). -/
def statIndex (m kind d : Nat) : Nat := 4 * chainIndex m kind + d
/-- Modulator, kind and definition of an index. -/
def statParts (k : Nat) : Nat × Nat × Nat := (k / 16, k / 4 % 4, k % 4)
/-- Key of a definition's stream (R235). -/
def statStream (k : Nat) : Nat :=
  let (m, kind, d) := statParts k
  streamKey m 4 (64 * kind + d)

/-- An interval holds an instant (R230, R231). -/
def Interval.has (iv : Interval) (t : Inst) : Bool :=
  decide (iv.start ≤ t) && (match iv.stop with | none => true | some e => decide (t < e))

/-- One sample enters an interval (R232, R233). -/
def Interval.add (iv : Interval) (y : Int) (fl : BitVec 8) : Interval :=
  { iv with count := iv.count + 1, min := if iv.count = 0 then y else Min.min iv.min y
            max := if iv.count = 0 then y else Max.max iv.max y, sum := iv.sum + y, sumsq := iv.sumsq + y.natAbs * y.natAbs
            flags := iv.flags ||| fl, flagged := if fl = 0#8 then iv.flagged else Min.min 65535 (iv.flagged + 1) }

/-- STATUS of a record (R233). -/
def Interval.status (iv : Interval) : Nat :=
  iv.flags.toNat + (if iv.part then 256 else 0) + (if iv.count = 0 then 512 else 0) + (if iv.isRev then 1024 else 0)
    + 65536 * iv.flagged

/-- The 40 bytes of a statistics record (R232). -/
def Interval.bytes (iv : Interval) : List Byte :=
  leInt 4 iv.min ++ leInt 4 iv.max ++ leBytes 4 iv.count ++ leBytes 4 iv.status ++ leInt 8 iv.sum ++ leBytes 16 iv.sumsq

/-- A sample that falls in an interval enters it; a REV interval that is open, or that a change has cut, holds it until the zero that
ends it is known (R231). -/
def Interval.put (iv : Interval) (t : Inst) (y : Int) (fl : BitVec 8) : Interval :=
  if !iv.has t then iv
  else if iv.isRev && (iv.stop.isNone || iv.cut) then { iv with held := { t := t, y := y, fl := fl } :: iv.held }
  else iv.add y fl

/-- The longest time from a zero of a group to its confirmation (R195, R207, R211). -/
def zeroLag (s : State) (grp : Nat) : Nat :=
  let x := s.shaft grp
  let rev := roundDiv (1500000000 * 65536 * 4294967296) (max 1 (x.fmin.getD 1))
  nsSpan 655350 + nsSpan (x.allow * 1000) + (if x.zeroKind = 2 then rev * 26 * (s.tach (x.source.getD grp)).codeU / 4096 else 0)

/-- A sample that no REV interval has taken yet waits for the zero that may have come before it (R231, R237). -/
def StatDef.keepLoose (x : StatDef) (lag : Nat) (t : Inst) (y : Int) (fl : BitVec 8) : StatDef :=
  if x.on && x.rev && x.current.isNone then
    { x with loose := ({ t := t, y := y, fl := fl } :: x.loose).takeWhile (fun z => decide (t ≤ z.t + lag)) }
  else x

/-- A sample reaches the definitions of its chain: the interval that holds its instant takes it, flags and all. -/
def addStats (m kind : Nat) (t : Inst) (y : Int) (fl : BitVec 8) (s : State) : State :=
  each (List.range 4) (fun d s =>
    let k := statIndex m kind d
    if (s.stat k).on || !(s.stat k).ended.isEmpty then
      let lag := zeroLag s ((s.stat k).group.getD 0)
      s.modStat k (fun x => { (x.keepLoose lag t y fl) with
        seen := some t, current := x.current.map (fun iv => iv.put t y fl), ended := x.ended.map (fun iv => iv.put t y fl) })
    else s) s

/-- The definition's shaft group gives revolutions (R237). -/
def revRuns (s : State) (x : StatDef) : Bool :=
  let st := (s.shaft (x.group.getD 0)).state
  st = .locked || st = .holdover

/-- The samples that an open interval holds of instants before an end, and those of instants from it on (R231). -/
def Interval.heldBefore (iv : Interval) (t : Inst) : List StatSamp := iv.held.filter (fun x => decide (x.t < t))
/-- Samples that belong to what follows an end. -/
def StatDef.heldFrom (x : StatDef) (t : Inst) : List StatSamp :=
  match x.current with
  | some iv => iv.held.filter (fun x => decide (t ≤ x.t))
  | none => x.loose.filter (fun x => decide (t ≤ x.t))

/-- An interval with the samples that it held. -/
def Interval.folded (iv : Interval) : Interval := iv.held.reverse.foldl (fun iv x => iv.add x.y x.fl) { iv with held := [] }

/-- The open interval ends at an instant, cut short or whole, and waits for its record (R234, R236); an interval that begins there has
not been. A REV interval that is cut keeps its samples apart, for a zero from before the cut may still be confirmed (R231). -/
def endInterval (t : Inst) (cut : Bool) (x : StatDef) : StatDef :=
  match x.current with
  | none => x
  | some iv =>
    if t ≤ iv.start then { x with current := none }
    else
      let full : Interval := { iv with held := iv.heldBefore t, stop := some t }
      let full := if cut && iv.isRev then { full with cut := true } else { full.folded with part := iv.part || cut }
      { x with current := none, ended := x.ended ++ [full] }

/-- A cut REV interval as its record gives it (R236). -/
def Interval.final (iv : Interval) : Interval := if iv.cut then { iv.folded with part := true, cut := false } else iv

/-- A zero from before a cut divides the interval that the cut ended, when it starts an interval of its settings (R231). -/
def Interval.split (grp : Nat) (t : Inst) (revs : Nat) (iv : Interval) : List Interval :=
  if iv.cut && iv.grp = grp && iv.has t && decide (iv.start < t) && decide (revs % Max.max 1 iv.len = 0) then
    [{ ({ iv with held := iv.heldBefore t } : Interval).folded with stop := some t, cut := false },
     { iv with start := t, held := iv.held.filter (fun x => decide (t ≤ x.t)), part := false }]
  else [iv]

/-- A new interval of a definition under the settings in force, with the samples that came before it was known to begin. -/
def newInterval (s : State) (k : Nat) (start : Inst) (part : Bool) (held : List StatSamp) : Interval :=
  let (m, kind, _) := statParts k
  let b := bandOf kind
  let rev := (s.stat k).rev
  let iv : Interval := { start := start, part := part, isRev := rev, grp := (s.stat k).group.getD 0, len := (s.stat k).len, wait := availSpan s m b
                         period := if (bandBind s m b).isSome then 0 else bandPeriod s m b }
  if rev then { iv with held := held } else held.reverse.foldl (fun iv x => iv.add x.y x.fl) iv

/-- A definition and its chain output are on; with either off no interval runs (R236; notes/assumptions/152.md). -/
def statRuns (s : State) (k : Nat) : Bool :=
  let (m, kind, _) := statParts k
  (s.stat k).on && bandRuns s m (bandOf kind)

/-- A new interval from a boundary under the settings in force (R236): whole only when the boundary is a start of R230 or R231. After
TIME no REV interval opens before the first zero (R237). -/
def openInterval (k g : Nat) (held : List StatSamp) (s : State) : State :=
  let x := s.stat k
  let grp := s.shaft (x.group.getD 0)
  if !statRuns s k then s
  else if !x.rev then s.modStat k (fun x => { x with current := some (newInterval s k (boundary g) (decide (g % x.len ≠ 0)) held) })
  else if grp.state = .time then s.modStat k (fun x => { x with fell := true })
  else if !revRuns s x || x.fell then s
  else
    let whole := decide (grp.zeroAt = some (boundary g)) && decide (grp.revs % x.len = 0)
    s.modStat k (fun x => { x with current := some (newInterval s k (boundary g) (!whole) held) })

/-- A change at a boundary closes the open interval with PARTIAL and opens another (R236); the active member of a pair tells its partner
where (R517). -/
def cutInterval (k g : Nat) (s : State) : State :=
  let held := (s.stat k).heldFrom (boundary g)
  let s := if (s.stat k).current.isSome then sendDecision (.closeInterval k (boundary g)) s else s
  openInterval k g held (s.modStat k (endInterval (boundary g) true))

/-- Every definition of a chain output is cut at a boundary: its rate, binding or mode changes (R236). -/
def cutStats (m kind g : Nat) (s : State) : State :=
  each (List.range 4) (fun d s => if (s.stat (statIndex m kind d)).on then cutInterval (statIndex m kind d) g s else s) s

/-- SWATH intervals that end and start at a boundary (R230). -/
def turnSwathIntervals (g : Nat) (s : State) : State :=
  each s.red.stats.keys (fun k s =>
    let x := s.stat k
    if statRuns s k && !x.rev && decide (g % x.len = 0) then
      let iv := newInterval s k (boundary g) false []
      s.modStat k (fun x => { (endInterval (boundary g) false x) with current := some iv })
    else s) s

/-- A zero of a shaft group reaches the REV definitions that name it (R231): one whose count is a multiple of N ends an interval and
starts the next. The first zero after TIME starts one that carries PARTIAL (R237). One of an instant before a cut divides what the cut
ended. -/
def zeroStats (grp : Nat) (t : Inst) (revs : Nat) (s : State) : State :=
  let s := s.modShaft grp (fun x => { x with zeroAt := some t })
  each s.red.stats.keys (fun k s =>
    let s := s.modStat k (fun x => { x with ended := x.ended.flatMap (Interval.split grp t revs) })
    let x := s.stat k
    let late := match x.current with | some iv => decide (t < iv.start) | none => false
    if !(x.rev && decide (x.group = some grp)) || !statRuns s k || late then s
    else
      let starts := decide (revs % x.len = 0)
      let iv := newInterval s k t (x.current.isNone && (x.fell || !starts)) (x.heldFrom t)
      if starts || x.current.isNone then
        s.modStat k (fun x => { (endInterval t false x) with current := some iv, fell := false, loose := [] })
      else s) s

/-- A group has entered TIME: its REV definitions close with PARTIAL at the boundary (R237). -/
def fallStats (grp g : Nat) (s : State) : State :=
  each s.red.stats.keys (fun k s =>
    let x := s.stat k
    if x.rev && decide (x.group = some grp) && statRuns s k then
      s.modStat k (fun x => { (endInterval (boundary g) true x) with fell := true, loose := [] })
    else s) s

/-! ## Sample numbers (R255) -/

/-- Records of a stream that hold items, oldest first: ring, closed, open. -/
def heldRecords (st : Stream) : List Record :=
  (st.ring ++ st.closed ++ st.openRec.toList).filter (fun r => decide (r.type = 1) && !r.items.isEmpty)

/-- The last item of a stream: number and instant. -/
def lastItem (st : Stream) : Option (Nat × Inst) :=
  (heldRecords st).getLast?.bind (fun r => r.items.getLast?.map (fun it => (r.stopSeq - 1, it.t)))

/-- The oldest item that a stream still holds. -/
def firstHeld (st : Stream) : Nat := match heldRecords st with | r :: _ => r.first | [] => st.next

/-- Instant of an item that a stream holds. -/
def heldInstant (st : Stream) (n : Nat) : Option Inst :=
  ((heldRecords st).find? (fun r => decide (r.first ≤ n) && decide (n < r.stopSeq))).bind (fun r => (r.items[n - r.first]?).map (·.t))

/-- The last sample at or before an instant and the fraction of R255; samples yet to come follow the last one at the
sample period, which in angle mode is an estimate only. The flag says that the place was found among the samples held. -/
def seqAt (st : Stream) (period : Nat) (t : Inst) : Option (Nat × Nat × Bool) :=
  match lastItem st with
  | none => none
  | some (n, tn) =>
    let p := max 1 period
    if tn ≤ t then some (n + (t - tn) / p, 256 * ((t - tn) % p) / p, false)
    else
      let past := (heldRecords st).flatMap (fun r => r.items.zipIdx.map (fun x => (r.first + x.2, x.1.t)))
      match (past.filter (fun x => decide (x.2 ≤ t))).getLast? with
      | some (k, tk) =>
        let nxt := ((past.find? (fun x => decide (x.1 = k + 1))).map (·.2)).getD (tk + p)
        some (k, 256 * (t - tk) / max 1 (nxt - tk), true)
      | none => none

/-! ## Storage and admission (R260, R261, R713) -/

/-- Storage that a tussock takes. -/
def Tussock.room (x : Tussock) : Nat := x.bytes + 64

/-- A tussock is protected: not published, or not acknowledged by a REQUIRED subscription (R713). -/
def tussockKept (s : State) (x : Tussock) : Bool := !x.published || decide (freePoint s x.gsi ≤ x.seq)

/-- Retire a published tussock: its reference leaves its ring, and a BEST_EFFORT subscription that has not received it
loses it with reason POLICY (R713). -/
def retireTussock (x : Tussock) (s : State) : State :=
  let s := { s with red := { s.red with tussocks := s.red.tussocks.filter (fun y => decide (y.number ≠ x.number)) } }
  let s := each (subsOf s x.gsi) (fun p s =>
    if p.2.bestEffort && p.2.live && decide (p.2.delivered ≤ x.seq) then
      s.modSub p.1 (fun u => u.drop x.seq (x.seq + 1) 1 (some (x.trig, x.quality))) else s) s
  s.modStream x.gsi (fun st => { st with ring := st.ring.filter (fun r => decide (r.first ≠ x.seq)) })

/-- Retire unprotected tussocks, oldest admission first, until some room is free; `n` bounds them. -/
def makeRoom (need cap : Nat) : Nat → State → State
  | 0, s => s
  | n + 1, s =>
    if (s.red.tussocks.map Tussock.room).sum + need ≤ cap then s
    else match s.red.tussocks.find? (fun x => !tussockKept s x) with
      | some x => makeRoom need cap n (retireTussock x s)
      | none => s

/-- Copy rate in force in GB/s: at thermal level 2 and above at most 10 (R633). -/
def copyRate (s : State) : Nat := if 2 ≤ s.mgmt.level then min 10 s.red.rateC else s.red.rateC

/-- One source of a capture set as the fire places it: stream key, trigger sample, fraction, and whether those were found among the
samples held. -/
structure Placed where
  key  : Nat
  k    : Nat
  frac : Nat
  sure : Bool := true
  deriving DecidableEq, Repr

/-- The place of a trigger in a stream (R255). -/
def placeIn (s : State) (key : Nat) (trig : Inst) : Option Placed :=
  (seqAt (s.stream key) (bandPeriod s (sourceOf key) (bandOf (kindOf key))) trig).map (fun x => ⟨key, x.1, x.2.1, x.2.2⟩)

/-- Place the trigger in every source of a descriptor (R255); the firing stream has its own place (R241). -/
def placeSet (s : State) (d : Descriptor) (trig : Inst) (own : Option Placed) : List (Option Placed) :=
  d.gsis.map (fun gsi =>
    let key := keyOfGsi gsi
    match own with
    | some p => if p.key = key then some p else placeIn s key trig
    | none => placeIn s key trig)

/-- A source chain of a set is enabled and not held. -/
def sourceRuns (s : State) (gsi : Nat) : Bool :=
  let key := keyOfGsi gsi
  (s.stream key).exists_ && !bandHeld (s.pipe (sourceOf key)) (bandOf (kindOf key))

/-- Instant of sample n of a source: as held, or as the sample period places it. -/
def sampleInst (s : State) (key n : Nat) : Inst :=
  let st := s.stream key
  match heldInstant st n, lastItem st with
  | some t, _ => t
  | none, some (l, tl) =>
    let p := bandPeriod s (sourceOf key) (bandOf (kindOf key))
    if l ≤ n then tl + (n - l) * p else tl - (l - n) * p
  | none, none => 0

/-- Ring depth of a source as a span (R325). -/
def ringDepthOf (s : State) (key : Nat) : Nat := nsSpan (depthOf (s.stream key) (kindOf key) * 1000)

/-- The bytes of a set before packing (R260). -/
def setBytes (d : Descriptor) : Nat :=
  ((d.gsis.map (fun g => (d.pre + d.post) * sampleBytes (bandOf (kindOf (keyOfGsi g)))))).sum

/-- The instant at which the copy work of a set is booked to end (R260). -/
def bookedTo (s : State) (d : Descriptor) : Inst := max s.red.horizon s.now + setBytes d * 6442450944 / max 1 (copyRate s)

/-- The instant from which the last sample of every member of a set is available (R260). -/
def setAvail (s : State) (d : Descriptor) (set : List Placed) : Inst :=
  set.foldl (fun a p =>
    max a (sampleInst s p.key (p.k + d.post - 1) + availSpan s (sourceOf p.key) (bandOf (kindOf p.key)))) 0

/-- What admission control answers: the new horizon, or a refusal's reason code (R260, R261). A source that holds no sample at or
before the trigger has none left of the pre part. -/
def judge (s : State) (u : TrigUnit) (trig : Inst) (own : Option Placed) : Nat ⊕ (Inst × Descriptor × List Placed) :=
  match u.current.bind (fun i => (s.red.descs.get i)) with
  | none => .inl 5
  | some d =>
    if u.state = .done then .inl 5
    else if !d.gsis.all (sourceRuns s) then .inl 4
    else if 4 ≤ s.mgmt.level then .inl 3
    else
      let set := (placeSet s d trig own).filterMap id
      let bytes := setBytes d
      let booked := bookedTo s d
      let finish := max booked (setAvail s d set)
      let deadlines := set.map (fun p => sampleInst s p.key (p.k - d.pre) + ringDepthOf s p.key - nsSpan (s.red.guard * 1000))
      let need := bytes + 64 * d.gsis.length
      let kept := ((s.red.tussocks.filter (tussockKept s)).map Tussock.room).sum
      let lost := decide (set.length < d.gsis.length)
        || set.any (fun p => decide (p.k < d.pre) || decide (p.k - d.pre < firstHeld (s.stream p.key)))
      if areaGiB s 2 * 1073741824 < kept + need then .inl 1
      else if lost then .inl 2
      else if deadlines.any (fun x => decide (x < finish)) then .inl 3
      else .inr (booked, d, set)

/-- Entries of the refusal log (R261). -/
def refusalDepth : Nat := 4096

/-- A refused fire takes nothing: it is counted, logged, and tallied for the swath's journal entry (R261). -/
def refuseFire (u : Nat) (trig : Inst) (reason : Nat) (s : State) : State :=
  let e : Refusal1 := { unit := u, trig := trig, reason := reason, desc := (s.unit u).current.getD 0, quality := qualityAt s trig }
  let log := s.red.refusals ++ [e]
  let tally := s.red.tally.mod u (fun x =>
    { count := x.count + 1, first := if x.count = 0 then trig else x.first, last := trig })
  let s := { s with red := { s.red with refusals := log.drop (log.length - refusalDepth), tally := tally } }
  bump (ctrKey 9 u 2 0) (s.modUnit u (fun x => { x with rearming := true }))

/-- Key of the tussock stream of a source stream (R259). -/
def tussockStream (key : Nat) : Nat := streamKey (sourceOf key) 5 (kindOf key)

/-- Tussocks of a stream that have been admitted and are not yet items of it. -/
def unpublished (s : State) (key : Nat) : Nat :=
  (s.red.tussocks.filter (fun x => decide (x.gsi = key) && !x.published)).length

/-- Cut one tussock (R255, R256, R259): it takes the next NUMBER and the next sequence number of its stream. -/
def cutOne (u desc : Nat) (d : Descriptor) (trig : Inst) (x : Option XTrig) (dec : Nat) (finish : Inst) (p : Placed) (s : State) : State :=
  let ts := tussockStream p.key
  let t : Tussock :=
    { gsi := ts, source := p.key, number := s.red.number, seq := (s.stream ts).next + unpublished s ts, unit := u, desc := desc
      trig := trig, first := p.k - d.pre, pre := d.pre, post := d.post, frac := p.frac, pack := d.pack
      bytes := (d.pre + d.post) * sampleBytes (bandOf (kindOf p.key))
      xorigin := (x.map (·.origin)).getD 0, xcount := (x.map (·.count)).getD 0, decSeq := dec, quality := qualityAt s trig
      placed := p.sure, finish := finish }
  { s with red := { s.red with tussocks := s.red.tussocks ++ [t], number := (s.red.number + 1) % 2 ^ 32 } }

/-- An admitted set: the room is made, the tussocks are cut, the horizon moves, the set is journalled in flight, and the
decision goes to the partner (R259, R260, R345, R517). -/
def admitSet (u : Nat) (trig : Inst) (x : Option XTrig) (horizon : Inst) (d : Descriptor) (set : List Placed) (s : State) : State :=
  let need := setBytes d + 64 * d.gsis.length
  let s := makeRoom need (areaGiB s 2 * 1073741824) (s.red.tussocks.length + 1) s
  let desc := (s.unit u).current.getD 0
  let first := s.red.number
  let dec := if s.clover.state = .formed then s.clover.decSeq else 2 ^ 32
  let s := sendDecision (.taken u trig first x) s
  let finish := max horizon (setAvail s d set)
  let s := each set (fun p s => cutOne u desc d trig x dec finish p s) s
  let s := { s with red := { s.red with horizon := max s.red.horizon horizon } }
  let mine := s.red.tussocks.filter (fun t => decide (t.unit = u) && decide (t.state = 0))
  let s := { s with str := { s.str with flight := s.str.flight.set u mine } }
  bump (ctrKey 9 u 1 0) (s.modUnit u (fun y => { y with inFlight := true, rearming := false }))

/-! ## Actions (R243, R253, R262 to R265) -/

/-- Register a jump request at a unit (R253): a target named, or the JUMP field of the current descriptor; with no valid
target it is discarded and counted. -/
def registerJump (u : Nat) (target : Option Nat) (s : State) : State :=
  let own := (s.unit u).current.bind (fun i => (s.red.descs.get i).bind (·.jump))
  match target.orElse (fun _ => own) with
  | some d => s.modUnit u (fun x => { x with jumpReq := some d })
  | none => bump (ctrKey 9 u 7 0) s

/-- Cross-trigger pairs that the table holds (R263). -/
def pairDepth : Nat := 4096
/-- The least time between originations (R264). -/
def xtGap : Inst := nsSpan 16000

/-- Enter a pair in the duplicate table; when it is full the oldest is evicted and counted (R263, R265). -/
def enterPair (x : XTrig) (t : Inst) (s : State) : State :=
  let full := decide (pairDepth ≤ s.red.pairs.length)
  let old := if full then s.red.pairs.drop 1 else s.red.pairs
  let s := { s with red := { s.red with pairs := old ++ [{ origin := x.origin, count := x.count, since := t }] } }
  noteUse 12 s.red.pairs.length (when full (bump (ctrKey (clsPrivate + 3) 0 1 0)) s)

/-- Send a cross-trigger on a port: 16 blocks unacknowledged, 256 waiting, else counted in XT_OVERFLOW (R486). -/
def sendXtrig (p : Nat) (x : XTrig) (s : State) : State :=
  let q := s.port p
  if q.xtSent.length < 16 then
    s.modPort p (fun q => { q with xtSent := q.xtSent ++ [{ x with xtSeq := q.xtSeq }], xtSeq := (q.xtSeq + 1) % 256 })
  else if q.xtQueue.length < 256 then s.modPort p (fun q => { q with xtQueue := q.xtQueue ++ [x] })
  else bump (portCtr p 23) s

/-- Send a cross-trigger on every up port but one; a SEVERED member sends none (R485, R530). -/
def spreadXtrig (ingress : Option Nat) (x : XTrig) (s : State) : State :=
  if s.clover.state = .severed then s
  else each ((upPorts s).filter (fun p => decide (some p ≠ ingress))) (fun p s => sendXtrig p x s) s

/-- Originate a cross-trigger (R262, R264): counted, entered, sent; suppressed within 16 µs of the last one. -/
def originate (u cls : Nat) (trig : Inst) (s : State) : State × Option XTrig :=
  if (match s.red.xtLast with | some l => decide (s.now < l + xtGap) | none => false) then (bump (ctrKey 9 u 6 0) s, none)
  else
    let x : XTrig := { origin := s.sky.hub, count := s.red.xtCount, cls := cls, tt := ttOf trig }
    let s := { s with red := { s.red with xtCount := (s.red.xtCount + 1) % 65536, xtLast := some s.now } }
    let s := sendDecision (.xtrig x.count cls (ttOf trig)) s
    (spreadXtrig none x (enterPair x s.now s), some x)

/-- PIN drives its field pin high for the set width; a fire during a pulse restarts it (R243). -/
def startPulse (pin width : Nat) (s : State) : State :=
  (drivePin pin true s).modPin pin (fun x => { x with pulse := some (s.now + nsSpan (width * 1000)) })

/-- Handle of a trigger unit. -/
def hUnit (u : Nat) : Nat := handleOf 0x09 u

/-- The member takes no action of its own: it is the standby of a formed pair (R519). -/
def follows (s : State) : Bool := decide (s.clover.state = .formed) && decide (s.clover.role = .standby)

/-- The member acts on a fire of its own with a trigger instant: the standby of a formed pair acts on those before the
boundary at which it gave up the active role, any other member on those later than the last instant that a former active
member had decided (R519, R527, R531). -/
def acts (s : State) (trig : Inst) : Bool :=
  if follows s then decide (trig < s.clover.ceded) else decide (s.clover.decided = 0) || decide (s.clover.decided < trig)

/-- The CAPTURE action: admission control judges the fire (R260). -/
def capture (u : Nat) (trig : Inst) (own : Option Placed) (x : Option XTrig) (s : State) : State :=
  match judge s (s.unit u) trig own with
  | .inl reason => sendDecision (.refuse u trig reason) (refuseFire u trig reason s)
  | .inr (h, d, set) => admitSet u trig x h d set s

/-- A step of the member that acts, in a formed pair as its active member (R517, R519). -/
def leading {α : Type} (f : State → State × α) (s : State) : State × α :=
  if s.clover.state = .formed then
    let r := s.clover.role
    let (s, x) := f { s with clover := { s.clover with role := .active } }
    ({ s with clover := { s.clover with role := r } }, x)
  else f s

/-- Admission control judges the fires that wait, in order of trigger instant and unit (R260). -/
def judgeShots (s : State) : State :=
  let l := s.red.shots.mergeSort (fun a b => decide (a.trig < b.trig) || (decide (a.trig = b.trig) && decide (a.unit ≤ b.unit)))
  each l (fun x s => (leading (fun s =>
    (capture x.unit x.trig (x.place.map (fun p => ⟨p.1, p.2.1, p.2.2.1, p.2.2.2⟩)) x.cross s, ())) s).1)
    { s with red := { s.red with shots := [] } }

/-- A fire's CAPTURE waits until every fire of its instant has come. -/
def askCapture (u : Nat) (trig : Inst) (own : Option Placed) (x : Option XTrig) (s : State) : State :=
  { s with red := { s.red with shots := s.red.shots ++
      [{ unit := u, trig := trig, place := own.map (fun p => (p.key, p.k, p.frac, p.sure)), cross := x, at_ := s.now }] } }

/-- A fire's actions in the order EVENT, CROSS, PIN, JUMP, CAPTURE (R243); a cross-trigger it originates is answered. -/
def actions (u : Nat) (trig : Inst) (own : Option Placed) (x : Option XTrig) (s : State) : State × Option XTrig :=
  let v := s.unit u
  let tt := ttOf trig
  let s := when (v.actions.getLsbD 4) (post pTussock 0x0501 (hUnit u) [vT tt.sec, vU tt.ns, vU tt.frac]) s
  let (s, sent) := if v.actions.getLsbD 1 then originate u (v.xcls.getD 0) trig s else (s, none)
  let s := if v.actions.getLsbD 2 then startPulse (v.pinNum.getD 0) (v.pinWidth.getD 1) s else s
  let s := if v.actions.getLsbD 3 then registerJump (v.jumpUnit.getD 0) v.jumpDesc s else s
  let s := if v.actions.getLsbD 0 then askCapture u trig own x s else s.modUnit u (fun y => { y with rearming := true })
  (s, sent)

/-- The settings of a unit. -/
def TrigUnit.settings (v : TrigUnit) : UnitSet :=
  { on := v.on, source := v.source, level := v.level, hysteresis := v.hysteresis, dir := v.dir, mask := v.mask, holdOff := v.holdOff
    src := v.src, holdQ := v.holdQ, actions := v.actions, head := v.head, xcls := v.xcls, pinNum := v.pinNum, pinWidth := v.pinWidth
    jumpUnit := v.jumpUnit, jumpDesc := v.jumpDesc, jumpIn := v.jumpIn }

/-- A unit with other settings. -/
def TrigUnit.under (v : TrigUnit) (k : UnitSet) : TrigUnit :=
  { v with
    on := k.on, source := k.source, level := k.level, hysteresis := k.hysteresis, dir := k.dir, mask := k.mask, holdOff := k.holdOff
    src := k.src, holdQ := k.holdQ, actions := k.actions, head := k.head, xcls := k.xcls, pinNum := k.pinNum, pinWidth := k.pinWidth
    jumpUnit := k.jumpUnit, jumpDesc := k.jumpDesc, jumpIn := k.jumpIn }

/-- A unit as its settings before a boundary make it. -/
def TrigUnit.asOf (v : TrigUnit) (b : Before) : TrigUnit :=
  let w := { v.under b.set with state := if b.turned then b.state else v.state, before := [] }
  if b.own then { w with primeUp := b.primeUp, primeDn := b.primeDn, samples := b.samples, crossing := b.crossing } else w

/-- The changes of a unit's settings at boundaries after an instant, newest first. -/
def TrigUnit.after (v : TrigUnit) (t : Inst) : List Before := v.before.takeWhile (fun b => decide (t < b.at_))

/-- A unit as its settings make it at an instant: a new setting governs events from its boundary on (R248). -/
def TrigUnit.at_ (v : TrigUnit) (t : Inst) : TrigUnit := (v.after t).foldl TrigUnit.asOf v

/-- What a step under earlier settings has made of a unit goes back to where it came from: its state and its detector to the earliest
change that kept them; a sample to every detector of its source. The flags say whether a change kept the state and the detector. -/
def giveBack (w : TrigUnit) : List Before → List Before × Bool × Bool
  | [] => ([], false, false)
  | b :: r =>
    let (l, st, own) := giveBack w r
    let b := if b.turned && !st then { b with state := w.state } else b
    let b := if b.own && !own then { b with primeUp := w.primeUp, primeDn := w.primeDn, crossing := w.crossing } else b
    let b := if b.own && decide (b.set.source = w.source) then { b with samples := w.samples } else b
    (b :: l, st || b.turned, own || b.own)

/-- A step of a unit under the settings that govern an instant (R248). -/
def governed {α : Type} (u : Nat) (t : Inst) (f : State → State × α) (s : State) : State × α :=
  let v := s.unit u
  let l := v.after t
  if l.isEmpty then f s
  else
    let (s, r) := f (s.modUnit u (fun v => l.foldl TrigUnit.asOf v))
    let w := s.unit u
    let (l', st, own) := giveBack w l
    let y := { w.under v.settings with state := if st then v.state else w.state, before := l' ++ v.before.drop l.length }
    let y := if own then { y with primeUp := v.primeUp, primeDn := v.primeDn, crossing := v.crossing
                                  samples := if v.source = w.source then w.samples else v.samples } else y
    (s.modUnit u (fun _ => y), r)

/-- An event of a unit by the settings in force (R244 to R246): not ARMED, counted when BUSY; held off, counted; otherwise it fires,
BUSY, with its actions. -/
def judgeEvent (u : Nat) (trig : Inst) (own : Option Placed) (x : Option XTrig) (s : State) : State × Option XTrig :=
  let v := s.unit u
  match v.state with
  | .busy => (bump (ctrKey 9 u 3 0) s, none)
  | .off => (s, none)
  | .done => (s, none)
  | .armed =>
    let held := match v.holdOff with
      | .none => false
      | .time ns => (match v.lastFire with | some l => decide (trig < l + nsSpan ns) | none => false)
      | .count n => decide (v.sinceArm < n)
    let s := s.modUnit u (fun y => { y with sinceArm := y.sinceArm + 1 })
    if held then (bump (ctrKey 9 u 4 0) s, none)
    else
      let s := bump (ctrKey 9 u 0 0) (s.modUnit u (fun y => { y with state := .busy, lastFire := some trig }))
      if acts s trig then leading (actions u trig own x) s
      else
        let s := when (follows s) (fun s => { s with clover := { s.clover with
          fires := s.clover.fires ++ [{ unit := u, at_ := trig, place := own.map (fun p => (p.key, p.k, p.frac)), cross := x }] } }) s
        (s.modUnit u (fun y => { y with rearming := true }), none)

/-- An event of a unit, under the settings that govern its trigger instant (R248). -/
def unitEvent (u : Nat) (trig : Inst) (own : Option Placed) (x : Option XTrig) (s : State) : State × Option XTrig :=
  governed u trig (judgeEvent u trig own x) s

/-- Units in order whose settings at an instant meet a condition. -/
def unitsWith (s : State) (t : Inst) (f : TrigUnit → Bool) : List Nat :=
  (s.red.units.filter (fun p => (p.2.at_ t).on && f (p.2.at_ t))).map (·.1)

/-- A cross-trigger fires every unit whose source is CROSS with its class (R263), with what these originate. -/
def crossOnce (x : XTrig) (s : State) : State × List XTrig :=
  (unitsWith s (instOf x.tt) (fun v => decide (v.source = .cross x.cls))).foldl (fun (a : State × List XTrig) u =>
    let (s, y) := unitEvent u (instOf x.tt) none (some x) a.1
    (s, a.2 ++ y.toList)) (s, [])

/-- A cross-trigger fires the hub's CROSS units of its class, and so does one that such a unit originates (R263); within 16 µs of that
none is originated any more (R264). -/
def crossFires (x : XTrig) (s : State) : State :=
  let (s, l) := crossOnce x s
  each l (fun y s => (crossOnce y s).1) s

/-- An event of a unit, with the units that its cross-trigger fires in turn. -/
def fireUnit (u : Nat) (trig : Inst) (own : Option Placed) (s : State) : State :=
  match unitEvent u trig own none s with
  | (s, none) => s
  | (s, some x) => crossFires x s

/-! ## CHAIN sources (R240 to R242) -/

/-- The Lagrange cubic at j / 256, times 6 × 2^24 (R241). -/
def cubic (a b c d j : Int) : Int :=
  -(j * (j - 256) * (j - 512)) * a + 3 * ((j + 256) * (j - 256) * (j - 512)) * b
    - 3 * ((j + 256) * j * (j - 512)) * c + ((j + 256) * j * (j - 256)) * d

/-- The least j from 1 to 256 at which the cubic has reached the level (R241). -/
def crossingAt (a b c d level : Int) (falling : Bool) : Nat :=
  (((List.range 256).map (· + 1)).find? (fun (j : Nat) =>
    let v := cubic a b c d (j : Int)
    if falling then decide (v ≤ level * 100663296) else decide (level * 100663296 ≤ v))).getD 256

/-- The place of a crossing: trigger sample, fraction, trigger instant (R241). `l` is x[n], x[n−1], x[n−2]; d is x[n+1]. -/
def placeCrossing (l : List TrigSamp) (d : TrigSamp) (level : Int) (falling : Bool) : Nat × Nat × Inst :=
  match l with
  | c :: rest =>
    let b := rest.head?.getD c
    let a := (rest.drop 1).head?.getD b
    let j := crossingAt a.y b.y c.y d.y level falling
    if j = 256 then (c.seq, 0, c.t) else (c.seq - 1, j, b.t + j * (c.t - b.t) / 256)
  | [] => (d.seq, 0, d.t)

/-- What the detectors of a unit make of a sample: the primes after it, and a crossing (R240). -/
def detect (v : TrigUnit) (y : Int) : Bool × Bool × Option Crossing :=
  let rise := decide (v.dir ≠ 1)
  let fall := decide (v.dir ≠ 0)
  let up := v.primeUp || (rise && decide (y ≤ v.level - v.hysteresis))
  let dn := v.primeDn || (fall && decide (v.level + v.hysteresis ≤ y))
  let fireUp := rise && v.primeUp && decide (v.level ≤ y)
  let fireDn := fall && v.primeDn && decide (y ≤ v.level)
  (up && !fireUp, dn && !fireDn, if fireUp then some {} else if fireDn then some { falling := true } else none)

/-- A unit watches a stream. -/
def TrigUnit.watches (v : TrigUnit) (key : Nat) : Bool :=
  match v.source with
  | .chain g => decide (keyOfGsi g = key)
  | _ => false

/-- The detectors of a unit run on a sample (R240), whether it is ARMED or not, or even OFF. -/
def unitSample (u : Nat) (x : TrigSamp) (fl : BitVec 8) (s : State) : State :=
  let v := s.unit u
  let s := s.modUnit u (fun y => { y with samples := (x :: y.samples).take 3 })
  if anyFlag fl v.mask then s
  else
    let (up, dn, c) := detect v x.y
    let s := s.modUnit u (fun y => { y with primeUp := up, primeDn := dn })
    match c with
    | none => s
    | some _ =>
      if v.state = .armed then s.modUnit u (fun y => { y with crossing := c })
      else if v.state = .busy then bump (ctrKey 9 u 3 0) s else s

/-- A fire that a sample places: trigger instant, unit, trigger sample, fraction. -/
structure Fire where
  trig : Inst
  u    : Nat
  k    : Nat
  frac : Nat
  deriving DecidableEq, Repr

/-- The views of a unit that keep a detector of their own: as it is, and as it was before each change of what it watches. -/
def TrigUnit.views (v : TrigUnit) : List Before → List TrigUnit
  | [] => []
  | b :: r => (if b.own then [v.asOf b] else []) ++ (v.asOf b).views r

/-- The crossings of a unit that wait for the next sample of a stream, placed with it (R241): under its present settings, or under
those that governed the sample before. -/
def pendingFires (s : State) (key : Nat) (x : TrigSamp) (u : Nat) : List Fire :=
  let v := s.unit u
  (v :: v.views v.before).flatMap (fun w =>
    match w.crossing with
    | some c => if w.watches key then (let (k, f, t) := placeCrossing w.samples x w.level c.falling; [⟨t, u, k, f⟩]) else []
    | none => [])

/-- The crossings that waited for a sample of a stream are over. -/
def clearCrossing (key u : Nat) (s : State) : State :=
  s.modUnit u (fun v =>
    { v with crossing := if v.watches key then none else v.crossing
             before := v.before.map (fun b => if (v.asOf b).watches key then { b with crossing := none } else b) })

/-- A sample of a stream reaches every unit that watches it: crossings that waited for it are placed and fire in order of trigger instant
and unit (R241, R260), then the detectors run on it. The fires of samples that become available at one instant are judged together. -/
def trigSample (key : Nat) (x : TrigSamp) (fl : BitVec 8) (s : State) : State :=
  let s := if s.red.shots.any (fun y => decide (y.at_ < s.now)) then judgeShots s else s
  let all := s.red.units.map (·.1)
  let fires := (all.flatMap (pendingFires s key x)).mergeSort
    (fun a b => decide (a.trig < b.trig) || (decide (a.trig = b.trig) && decide (a.u ≤ b.u)))
  let s := each (fires.map (·.u)) (fun u s => clearCrossing key u s) s
  let s := each fires (fun f s => fireUnit f.u f.trig (some ⟨key, f.k, f.frac, true⟩) s) s
  each (all.filter (fun u => ((s.unit u).at_ x.t).watches key))
    (fun u s => (governed u x.t (fun s => (unitSample u x fl s, ())) s).1) s

/-! ## Other rows -/

/-- A unit number. -/
def isUnit (u : Nat) : Bool := decide (u < 1024)
/-- A field pin number. -/
def isPin (p : Nat) : Bool := decide (p < 16)

/-- A zero fires the units whose source is the group (R239). -/
def zeroFires (g : Nat) (t : Inst) (s : State) : State :=
  judgeShots (each (unitsWith s t (fun v => decide (v.source = .rev g))) (fun u s => fireUnit u t none s) s)

/-- Events of a TIME source before an instant (R239). -/
def TrigUnit.eventsBefore (v : TrigUnit) (t : Inst) : Nat :=
  match v.source with
  | .time t0 period =>
    if t ≤ instOf t0 then 0 else if period = 0 then 1 else ceilDiv (t - instOf t0) (nsSpan period)
  | _ => 0

/-- TRIGGER_TIME_EXPIRY (R239): T0, then T0 + k × P. -/
def execTriggerTimeExpiry (u : Nat) (s : State) : Out :=
  event (isUnit u) <|
    let v := s.unit u
    match v.source with
    | .time t0 period =>
      if !v.on || (decide (period = 0) && decide (0 < v.timeK)) then s
      else
        let trig := instOf t0 + v.timeK * nsSpan period
        judgeShots (fireUnit u trig none ((touch trig s).modUnit u (fun y => { y with timeK := y.timeK + 1 })))
    | _ => s

/-- FIELD_PIN_EDGE (R239, R253): a confirmed input edge, at a time-counter tick, feeds PIN units and jump inputs. -/
def execFieldPinEdge (pin : Nat) (rising : Bool) (t : Inst) (s : State) : Out :=
  let s := touch t s
  event (isPin pin) <|
    if (s.pin pin).driven then s
    else
      let s := s.modPin pin (fun x => { x with level := rising })
      let s := each (unitsWith s t (fun v => decide (v.source = .pin pin (!rising)))) (fun u s => fireUnit u (tickAt t) none s) s
      let s := judgeShots s
      let jumps := (s.red.units.filter (fun p => decide ((p.2.at_ t).jumpIn = some (pin, !rising)))).map (·.1)
      each jumps (fun u s => registerJump u none s) s

/-- PIN_PULSE_END (R243). -/
def execPinPulseEnd (pin : Nat) (s : State) : Out :=
  event (isPin pin) <|
    if (s.pin pin).pulse.isSome then s.modPin pin (fun x => { x with level := false, pulse := none }) else s

/-- TRIGGER_REARM (R244): a unit without an admitted capture re-arms. -/
def execTriggerRearm (u : Nat) (s : State) : Out :=
  event (isUnit u) <|
    let s := judgeShots s
    if (s.unit u).state = .busy && (s.unit u).rearming then
      s.modUnit u (fun x => { x with state := .armed, rearming := false, sinceArm := 0 })
    else s

/-- TUSSOCK_SET_WRITTEN (R244, R252, R254): the pointer moves by the registered jump, by NEXT, or the unit is DONE; the
unit re-arms. A set of a unit that has been disabled meanwhile moves nothing of it. -/
def execTussockSetWritten (u : Nat) (s : State) : Out :=
  event (isUnit u) <|
    let v := s.unit u
    if 0 < v.orphans then
      let left := (s.str.flight.get u).filter (fun x => s.red.tussocks.any (fun y => decide (y.number = x.number) && decide (y.state = 0)))
      { s with str := { s.str with flight := s.str.flight.set u left } }.modUnit u (fun x => { x with orphans := x.orphans - 1 })
    else if !v.inFlight then s
    else
      let s := { s with str := { s.str with flight := s.str.flight.set u [] } }
      let s := s.modUnit u (fun x => { x with inFlight := false, jumpReq := none, sinceArm := 0 })
      if follows s then s.modUnit u (fun x => { x with rearming := true })
      else match v.jumpReq with
      | some d =>
        let s := s.modUnit u (fun x => { x with current := some d, state := .armed })
        bump (ctrKey 9 u 5 0) (sendDecision (.pointer u d true false) s)
      | none =>
        match v.current.bind (fun i => s.red.descs.get i) with
        | some d =>
          if d.fin then sendDecision (.pointer u (v.current.getD 0) false true) (s.modUnit u (fun x => { x with state := .done }))
          else sendDecision (.pointer u d.next false false) (s.modUnit u (fun x => { x with current := some d.next, state := .armed }))
        | none => s.modUnit u (fun x => { x with state := .armed })

/-- XTRIG (R263, R265, R266, R268, R484 to R486): a duplicate is discarded and counted; a new one is entered, forwarded
below 15 hops, and fires the units of its class. -/
def execXtrig (p : Nat) (x : XTrig) (t : Inst) (s : State) : Out :=
  let s := touch t s
  event (isPort p) <|
    if (s.port p).state ≠ .up then s
    else
      let s := s.modPort p (fun q => { q with xtRx := if x.xtSeq = (q.xtRx + 1) % 256 then x.xtSeq else q.xtRx })
      if s.red.pairs.any (fun y => decide (y.origin = x.origin) && decide (y.count = x.count)) then
        bump (ctrKey (clsPrivate + 3) 0 0 0) s
      else
        let s := enterPair x t (bump (portCtr p 22) s)
        let s := if x.hops < 15 then spreadXtrig (some p) { x with hops := x.hops + 1 } s else s
        judgeShots (crossFires x s)

/-- DUPLICATE_PAIR_EXPIRY (R263). -/
def execDuplicatePairExpiry (origin count : Nat) (s : State) : Out :=
  let keep := s.red.pairs.filter (fun x => !(decide (x.origin = origin) && decide (x.count = count)))
  .next { s with red := { s.red with pairs := keep } }

/-- One journal entry for each unit that refused during the swath (R261). -/
def tallyRefusals (s : State) : State :=
  let s' := each s.red.tally (fun p s =>
    let a := ttOf p.2.first
    let b := ttOf p.2.last
    post pTussock 0x0502 (hUnit p.1) [vU p.2.count, vT a.sec, vU (a.ns + b.ns * 4294967296), vT b.sec] s) s
  { s' with red := { s'.red with tally := [] } }

end Sys2Proof.Machine
end

