-- ==== Sys2Proof/Machine/Packing.lean ====
section
/-! DEFINITION. Records and tussocks as they are written, and the SPK jobs (R256 to R259 of 06, R314, R365, R370 to R381 of
08 and 09). -/

namespace Sys2Proof.Machine

/-! ## RECORD_WRITE -/

/-- A WB record of a packed ring, packed from a reset context when that is smaller (R317, R363, R365). -/
def packRecord (key : Nat) (r : Record) (s : State) : Record × State :=
  let st := s.stream key
  if !st.packed || kindOf key ≠ 2 || r.type ≠ 1 || r.items.isEmpty then (r, s)
  else
    let gen := match st.gen with | some g => (g + 1) % 2 ^ 31 | none => 0
    let (bytes, _) := packItems 2 (spkItems r) r.first (resetCtx 2 gen r.first true)
    if r.payload - r.desc.length ≤ bytes.length then (r, s)
    else
      ({ r with packed := bytes, flags := r.flags ||| flagPacked, spkTag := 2 ^ 31 + gen },
       s.modStream key (fun st => { st with gen := some gen }))

/-- RECORD_WRITE (R314, R323, R336): the oldest closed record of a stream is written to its ring. -/
def execRecordWrite (gsi : Nat) (s : State) : Out :=
  let key := keyOfGsi gsi
  .next <|
    match (s.stream key).closed with
    | [] => s
    | r :: rest =>
      let s := s.modStream key (fun st => { st with closed := rest })
      let (r, s) := packRecord key r s
      ringWrite key r s

/-! ## Tussocks (R256 to R259, R380, R381) -/

/-- The samples of a tussock as its source still holds them; one that it no longer holds, or whose read was poisoned, is 0 with SUB, and
they are counted (R258, R322). -/
def copySamples (st : Stream) (first n : Nat) (holes : List Nat) : List SpkItem × Nat :=
  let all := (heldRecords st).flatMap (fun r => r.items.zipIdx.map (fun p => (r.first + p.2, p.1)))
  let got := (List.range n).map (fun (i : Nat) =>
    if holes.contains (first + i) then none else (all.find? (fun q => decide (q.1 = first + i))).map (·.2))
  (got.map (fun o => match o with | some it => { x := it.v, st := it.fl.toNat } | none => { x := 0, st := flSUB.toNat }),
   (got.filter Option.isNone).length)

/-- Unpacked payload of samples in the format of the source ring (R256, R319, R321). -/
def plainPayload (kind first : Nat) (l : List SpkItem) : List Byte :=
  if kind = 2 then
    let n := wbBlocks first l.length
    let status (b : Nat) : Byte := (l.zipIdx.filter (fun p => (first + p.2) / 256 == first / 256 + b)).foldl
      (fun a p => a ||| BitVec.ofNat 8 p.1.st) 0
    l.flatMap (fun i => leInt 3 i.x) ++ (List.range n).map status ++ List.replicate (roundUp n 8 - n) 0
  else l.flatMap (fun i => BitVec.ofNat 8 i.st :: leInt 3 i.x)

/-- The 64-byte header of a tussock (R256). -/
def Tussock.header (x : Tussock) (gsi : Nat) (q : BitVec 16) : List Byte :=
  let b := leBytes 4 gsi ++ leBytes 4 x.number ++ ttBytes (ttOf x.trig) q ++ leBytes 8 x.first ++ leBytes 4 x.pre
    ++ leBytes 4 x.post ++ leBytes 2 x.frac ++ leBytes 1 x.state ++ leBytes 1 (if x.pack then 1 else 0)
    ++ leBytes 2 x.desc ++ leBytes 2 x.unit ++ leBytes 4 x.bytes ++ leBytes 4 x.flags.toNat
    ++ leBytes 2 (x.xorigin % 1024) ++ leBytes 2 x.xcount
  b ++ leBytes 4 (crc32c b).toNat

/-- A tussock is an item of its stream from now on. -/
def markPublished (x : Tussock) (s : State) : State :=
  { s with red := { s.red with tussocks := s.red.tussocks.map (fun y =>
      if y.number = x.number then { y with published := true } else y) } }

/-- A tussock becomes an item of its stream. Its copy lies in the tussock area, so staging holds none of it. -/
def publishTussock (x : Tussock) (body : List Byte) (s : State) : State :=
  let s := startStream x.gsi s
  markPublished x (s.modStream x.gsi (fun st => st.add (gsiOf s x.gsi) { t := x.trig, fl := x.flags, body := body } [] false x.quality))

/-- The job engine's queue is full (R381). -/
def jobsFull (s : State) : Bool := decide (Config.jobDepth ≤ s.str.jobs.length)

/-- Payload of a tussock from its source, packed when its descriptor asks for that, the job engine has room and it gains by it (R365,
R380, R381). -/
def tussockPayload (s : State) (x : Tussock) : List Byte × Bool × BitVec 8 × Nat :=
  let kind := kindOf x.source
  let (l, lost) := copySamples (s.stream x.source) x.first (x.pre + x.post) x.holes
  let plain := plainPayload kind x.first l
  let fl := l.foldl (fun a i => a ||| BitVec.ofNat 8 i.st) 0#8
  let (bytes, _) := packItems kind l x.first (resetCtx kind 0 x.first true)
  if x.pack && !jobsFull s && decide (bytes.length < plain.length) then (bytes, true, fl, lost) else (plain, false, fl, lost)

/-- The tussocks of a stream whose turn has come are published in sequence order (R259), none before the partner's DEC_SEQ
covers its admission (R518); `n` bounds them. -/
def publishReady (key : Nat) : Nat → State → State
  | 0, s => s
  | n + 1, s =>
    match s.red.tussocks.find? (fun x => decide (x.gsi = key) && !x.published && decide (x.seq = (s.stream key).next)
        && decide (x.state ≠ 0) && !(s.clover.sent.any (fun d => decide (d.1 = x.decSeq)))) with
    | none => s
    | some x =>
      publishReady key n (publishTussock x (x.header (gsiOf s x.source) x.quality ++ x.data) s)

/-- The trigger sample and the fraction of a tussock, found among the samples of its source where they had not yet come when it was
admitted (R255): in angle mode the sample instants are unequal (R214). -/
def Tussock.resolve (x : Tussock) (s : State) : Tussock :=
  if x.placed then x
  else match placeIn s x.source x.trig with
    | some p => if p.sure then { x with first := p.k - x.pre, frac := p.frac, placed := true } else x
    | none => x

/-- TUSSOCK_COMPLETE (R257 to R259, R381): the copy of a tussock has ended and is kept; samples that the ring no longer held were
replaced; every tussock whose turn has come is published. -/
def execTussockComplete (gsi number : Nat) (s : State) : Out :=
  let key := keyOfGsi gsi
  .next <|
    match s.red.tussocks.find? (fun x => decide (x.gsi = key) && decide (x.number = number) && decide (x.state = 0)) with
    | none => s
    | some x =>
      let x := x.resolve s
      let (body, packed, fl, lost) := tussockPayload s x
      let replaced := lost
      let y := { x with state := if replaced = 0 then 1 else 2, bytes := body.length, pack := packed, flags := fl, missing := replaced, data := body }
      let s := { s with red := { s.red with tussocks := s.red.tussocks.map (fun z => if z.number = number then y else z) } }
      let s := when (decide (0 < replaced))
        (post pTussock 0x0503 (handleOf 0x0B key) [vU number, vU replaced, vU (if x.holes.isEmpty then 2 else 1)]) s
      publishReady key (s.red.tussocks.length) s

/-! ## Jobs (R370 to R375) -/

/-- Body of SPK_JOB (0x0607): the job is accepted. Without RESUME it starts from a reset context whose generation follows
that of the last context the tenant reset (R371). -/
def bodySpkJob (c : Cmd) (dmaq : Nat) (j : JobIn) (ctx : SpkCtx) (s : State) : Reply × State :=
  checked [(decide (dmaq < 4) && (s.queue c.tenant (4 + dmaq)).made, .badParam), (dramServes s, .state)] s (fun s =>
    let gen := match s.str.gens.get c.tenant with | some g => (g + 1) % 2 ^ 31 | none => 0
    let (k, s) := if j.resume || !JobInOk j then (ctx, s)
      else (resetCtx j.kind gen j.firstSeq (j.op = 1), { s with str := { s.str with gens := s.str.gens.set c.tenant (some gen) } })
    let job : Job := { tenant := c.tenant, queue := c.queue, dmaq := dmaq, tag := c.tag, job := j, ctx := k }
    ({ status := .accepted }, { s with str := { s.str with jobs := s.str.jobs ++ [job] } }))

/-- SPK_JOB_COMPLETE (R374, R634): the job's output, its context when it saves one, and its final completion. A tenant job held
by thermal shedding has stopped at a block boundary, which a free value names, with PARTIAL. -/
def execSpkJobComplete (tenant : Nat) (tag : BitVec 32) (s : State) : Out :=
  .next <|
    match s.str.jobs.find? (fun x => decide (x.tenant = tenant) && decide (x.tag = tag)) with
    | none => s
    | some x =>
      let (n, s) := if 1 ≤ s.mgmt.level then drawn s else (0, s)
      let o := runJob x (if 1 ≤ s.mgmt.level then some (Config.draw n % jobBlocks x.job) else none)
      let s := { s with str := { s.str with jobs := s.str.jobs.filter (fun y => !(decide (y.tenant = tenant) && decide (y.tag = tag))) } }
      let saved := if x.job.save && decide (o.reason ≠ 5) && decide (o.reason ≠ 6) then ctxBytes o.ctx else []
      let buf : OutBuf := { tenant := tenant, tag := tag, bytes := o.out, stats := o.stats, ctx := saved }
      let s := writeOut buf s
      let s := drawBytes tenant (x.job.input.length + o.out.length) (s.modTenant tenant (Tenant.fill s.now))
      finishLater tenant x.queue tag { status := o.status, progress := o.items, result := jobResult x.job o } none s

/-- SPK_JOB (0x0607, R370). -/
def execSpkJob (c : Cmd) (queue : Nat) (j : JobIn) (ctx : SpkCtx) (s : State) : Out :=
  command 0x0607 (.spkJob c queue j ctx) c (fun s => bodySpkJob c queue j ctx s) s

end Sys2Proof.Machine
end

