-- ==== Sys2Proof/Machine/Blocks.lean ====
section
/-! DEFINITION. The blocks of a lane as its bits (R434 to R439 of 11): the sync header, the order of the bits, the scrambler and the
reading of a received block. Bit i of a block is the bit sent i-th. -/

namespace Sys2Proof.Machine

/-- Bits of a block: the sync header and 128 payload bits (R434). -/
abbrev BlockBits := BitVec 130

/-- The sync header as it is sent: 0 then 1 for a data block, 1 then 0 for a control block (R435). -/
def headerOf (ctl : Bool) : BitVec 2 := if ctl then 0b01#2 else 0b10#2

/-- 16 payload bytes, byte 0 and each byte's least significant bit first (R12, R435). -/
def payloadBits (payload : List Byte) : BitVec 128 := BitVec.ofNat 128 (ofLe (payload.take 16))

/-- A block as it is sent: header first, then the payload (R435). -/
def sendBlock (ctl : Bool) (payload : BitVec 128) : BlockBits := payload ++ headerOf ctl

/-- The kind and the payload of a received block; none where the header is 00 or 11, a sync header error (R435). -/
def readBlock (b : BlockBits) : Option (Bool × BitVec 128) :=
  let h := b.extractLsb' 0 2
  if h = headerOf true then some (true, b.extractLsb' 2 128)
  else if h = headerOf false then some (false, b.extractLsb' 2 128)
  else none

/-- The seed of logical lane `lane` (R436). -/
def laneSeed (lane : Nat) : BitVec 31 := BitVec.ofNat 31 (0x7FFFFFE0 + lane)

/-- The payload bits of one data block through the scrambler or the descrambler, which run the same sequence, and the sequence's last
31 bits after it, the oldest in bit 0 (R436). -/
def scrambleBits : Nat → Nat → BitVec 31 → BitVec 128 → BitVec 128 × BitVec 31
  | 0, _, w, p => (p, w)
  | n + 1, k, w, p =>
    let b := w.getLsbD 0 != w.getLsbD 3
    scrambleBits n (k + 1) (BitVec.cons b (w.extractLsb' 1 30)) (if b then p ^^^ BitVec.twoPow 128 k else p)

/-- A data block's payload scrambled, and the sequence after it. -/
def scramble (w : BitVec 31) (p : BitVec 128) : BitVec 128 × BitVec 31 := scrambleBits 128 0 w p

/-- Byte k of a payload. -/
def payloadByte (p : BitVec 128) (k : Nat) : Byte := p.extractLsb' (8 * k) 8

/-- A control block: type in byte 0, content in bytes 1 to 14, CRC-8 over them in byte 15 (R438). -/
def controlBlock (type : Byte) (content : List Byte) : BlockBits :=
  let l := (type :: content).take 15 ++ List.replicate (14 - content.length) 0#8
  sendBlock true (payloadBits (l ++ [crc8 l]))

/-- The types of R439 and R466 that are not reserved. -/
def blockTypes : List Nat :=
  [0x00, 0x1E, 0x2D, 0x4B, 0x55, 0x66, 0x78, 0x87, 0x96, 0xA5, 0xB4, 0xC3, 0xD0, 0xD1, 0xD2, 0xD8]

/-- A control block that the receiver keeps: its CRC holds and its type is not reserved (R438, R439). -/
def controlOk (p : BitVec 128) : Bool :=
  let l := (List.range 15).map (payloadByte p)
  decide (crc8 l = payloadByte p 15) && blockTypes.contains (payloadByte p 0).toNat

/-- Eight or more of some block numbers, given newest first, lie within 64 consecutive blocks (R452). -/
def eightIn64 (l : List Nat) : Bool :=
  (List.range l.length).any (fun i => match l[i + 7]? with
    | some o => decide (l.getD i 0 < o + 64)
    | none => false)

/-- What a lane received in slot `n` of a SKIP interval, as its bits: a sync header error is counted and its block number kept, and a
control block that R438 discards is counted (R457). -/
def receiveRaw (p : Nat) (x : Nat × Nat × BlockBits) (s : State) : State :=
  let (i, n, b) := x
  match readBlock b with
  | none => bump (laneCtr s p i 0) (s.modPort p (fun q => { q with hdrErr := q.hdrErr.mod i (fun l => (q.rxSlots + n) :: l) }))
  | some (ctl, d) => when (ctl && !controlOk d) (bump (laneCtr s p i 1)) s

/-- Active lanes with eight sync header errors in 64 consecutive blocks (R452), as a mask. -/
def headerFaults (s : State) (p : Nat) : Nat :=
  ((lanesOf (s.port p).rx.mask).filter (fun i => eightIn64 ((s.port p).hdrErr.get i))).foldl (fun m i => m ||| 2 ^ i) 0

/-- A SKIP interval of 256 slots ends; the last seven errors of a lane may still fall in one window with the next ones. -/
def endInterval256 (p : Nat) (s : State) : State :=
  s.modPort p (fun q => { q with rxSlots := q.rxSlots + 256, hdrErr := Tab.keep (fun l => l.take 7) q.hdrErr })

end Sys2Proof.Machine
end

