-- ==== Sys2Proof/Machine/SkecyLanes.lean ====
section
/-! DEFINITION. Skecy lanes and link bring-up (11 of the spec): the rows from IDLE_EXPIRY to LOOP and the PRBS checker. -/

namespace Sys2Proof.Machine

/-- IDLE_EXPIRY (R442): from IDLE the port enters RATE. A port in a test or loop, and one that is disabled, stays. -/
def execIdleExpiry (p : Nat) (s : State) : Out :=
  event (isPort p) <|
    if (s.port p).state = .idle && portOn s p && decide ((s.port p).loop = .none) && !inTest s p
        && decide (startupCode s.mgmt.startup ≥ 3) then
      s.modPort p (fun q => { q with state := .rate, slowIdle := false, classed := 0, parRate := 2 })
    else s

/-- A measured run length as the rate code it is classed to: 16, 32, 64 for 12, 24, 48 Gbit/s (R443). -/
def classRun (n : Nat) : Option Nat :=
  if 12 ≤ n && n ≤ 20 then some 0 else if 24 ≤ n && n ≤ 40 then some 1 else if 48 ≤ n && n ≤ 80 then some 2 else none

/-- The lanes that a list names, as a mask. -/
def maskOf (l : List Nat) : Nat := (l.filter (· < 4)).foldl (fun m i => m ||| 2 ^ i) 0

/-- LOCK begins on a set of lanes at the lower of the two maxima (R443). -/
def enterLock (p mask : Nat) (s : State) : State :=
  s.modPort p (fun q => { q with
    state := .lock, rate := min q.parRate (advertised s p), ts1Run := 0, agreed := 0, tx := { mask := mask }, rx := { mask := mask } })

/-- RATE_SIGNAL_CLASSED (R442, R443): the agreed rate is the lower of the two maxima, and with the partner's signal classed on every
lane the port enters LOCK. `runs` holds the run length measured on each lane for 64 consecutive runs; lengths outside the classes are
ignored. -/
def execRateSignalClassed (p : Nat) (runs : List Nat) (s : State) : Out :=
  event (isPort p) <|
    if (s.port p).state ≠ .rate then s
    else
      let seen := (runs.zipIdx.filter (fun x => decide (x.2 < portWidth s p))).filterMap (fun x => (classRun x.1).map (fun c => (c, x.2)))
      let s := s.modPort p (fun q => { q with
        classed := q.classed ||| maskOf (seen.map (·.2)), parRate := (seen.map (·.1)).foldl min q.parRate })
      let full := fullMask (portWidth s p)
      if (s.port p).classed = full && decide (0 < full) then enterLock p full s else s

/-- TS1 fields of one slot are consistent in LANE and WIDTH (R442): every lane the same WIDTH. -/
def tsConsistent (lanes : List TsFields) : Bool :=
  match lanes with
  | [] => false
  | a :: r => r.all (fun b => decide (b.width = a.width))

/-- Lane order on the logical lanes below the width, each beside its number: kept, reversed, or any other pattern (R445). -/
def laneOrder (w : Nat) (lanes : List (TsFields × Nat)) : Option Bool :=
  let l := lanes.filter (fun x => decide (x.2 < w))
  if l.all (fun x => decide (x.1.lane = x.2)) then some false
  else if l.all (fun x => decide (x.1.lane + x.2 + 1 = w)) then some true
  else none

/-- A CLOVER port whose partner reports role NETWORK, or the same MEMBER, fails with cause ROLE (R446). -/
def roleFails (s : State) (p : Nat) (a : TsFields) : Bool :=
  (s.port p).clover && (!a.clover || decide (a.member = if s.mgmt.memberB then 1 else 0))

/-- LOCK is passed on these lanes: those of the agreed width that form the largest legal set go on (R446, R449). -/
def enterAdapt (p mask : Nat) (s : State) : State :=
  let w := (s.port p).agreed
  match bestSet w (mask &&& fullMask w) 0 with
  | none => trainFail p 1 s
  | some m => s.modPort p (fun q => { q with state := .adapt, ts1Run := 0, tx := { mask := m }, rx := { mask := m } })

/-- TS1 (R442, R444 to R447): eight consecutive valid sets of one order and width move LOCK to ADAPT; ADAPT_DONE of both ends moves ADAPT to
DESKEW. `lanes` holds the fields received on the lanes that passed RATE, the lowest lane first. -/
def execTs1 (p : Nat) (lanes : List TsFields) (s : State) : Out :=
  event (isPort p) <|
    match lanes with
    | [] => s
    | a :: _ =>
      let q := s.port p
      let mine := lanesOf q.rx.mask
      let on := lanes.zip mine
      let inv := maskOf ((on.filter (·.1.inverted)).map (·.2))
      let w := min (portWidth s p) a.width
      if q.state = .lock then
        if !tsConsistent lanes || decide (lanes.length ≠ mine.length) then s.modPort p (fun q => { q with ts1Run := 0 })
        else match laneOrder w on with
          | none => trainFail p 2 s
          | some rev =>
            if roleFails s p a then trainFail p 3 s
            else
              let n := (if q.agreed = w && q.rxRev = rev then q.ts1Run else 0) + 1
              let s := s.modPort p (fun q => { q with
                ts1Run := n, rxRev := rev, agreed := w, parHub := a.hub, parPort := a.port
                rxInv := ((List.range 4).map (fun i =>
                  let pol := q.rxPol.get i
                  if pol = 2 || (pol = 0 && inv.testBit i) then 2 ^ i else 0)).sum })
              if 8 ≤ n then enterAdapt p q.rx.mask s else s
      else if q.state = .adapt then
        let par := lanes.all (·.adaptDone)
        let s := s.modPort p (fun q => { q with parAdapt := par })
        if par && q.ownAdapt then s.modPort p (fun q => { q with state := .deskew, ts2Run := 0 }) else s
      else s

/-- ADAPT_DONE (R447): CTLE, DFE and eye figures of each lane are kept for PORT_STATUS. -/
def execAdaptDone (p : Nat) (ctle : List Nat) (dfe : List Int) (eyes : List (Nat × Nat)) (s : State) : Out :=
  event (isPort p) <|
    let q := s.port p
    if q.state = .adapt then
      let s := s.modPort p (fun q => { q with ownAdapt := true, ctle := ctle, dfe := dfe, eyes := eyes })
      if q.parAdapt then s.modPort p (fun q => { q with state := .deskew, ts2Run := 0 }) else s
    else if q.state = .up then s.modPort p (fun q => { q with ctle := ctle, dfe := dfe, eyes := eyes })
    else s

/-- TS2 (R442, R448): lanes within 16 blocks of skew are aligned, others excluded; eight aligned slots and DESKEW_DONE
from the partner lead to UP. `skew` holds the skew of each active lane, the lowest lane first. -/
def execTs2 (p : Nat) (lanes : List TsFields) (skew : List Nat) (s : State) : Out :=
  event (isPort p) <|
    let q := s.port p
    if q.state ≠ .deskew then s
    else
      let good := maskOf ((skew.zip (lanesOf q.rx.mask)).filterMap (fun x => if x.1 ≤ 16 then some x.2 else none))
      match bestSet q.agreed good 0 with
      | none => trainFail p 1 s
      | some m =>
        let n := q.ts2Run + 1
        let par := lanes.all (·.deskewDone)
        let s := s.modPort p (fun q => { q with
          ts2Run := n, ownSkew := decide (8 ≤ n), parSkew := par, rx := { q.rx with mask := m } })
        if 8 ≤ n && par then portUp p s else s

/-- TRAINING_TIMEOUT (R442, R449): the lanes that have passed carry on as the largest legal set, preferring logical
lane 0; the port returns to IDLE only when none remains. In RATE a lane has passed when its signal has been classed. -/
def execTrainingTimeout (p : Nat) (passing : List Nat) (s : State) : Out :=
  event (isPort p) <|
    let q := s.port p
    let w := if q.agreed = 0 || q.state = .rate then portWidth s p else q.agreed
    let mask := maskOf passing &&& (if q.state = .rate then q.classed else q.rx.mask)
    if q.state = .rate || q.state = .lock || q.state = .adapt || q.state = .deskew then
      match bestSet w (mask &&& fullMask w) 0 with
      | none => trainFail p 1 s
      | some m =>
        match q.state with
        | .rate => enterLock p m s
        | .lock => enterAdapt p m (s.modPort p (fun q => { q with agreed := w }))
        | .adapt => s.modPort p (fun q => { q with state := .deskew, ts2Run := 0, tx := { mask := m }, rx := { mask := m } })
        | _ => portUp p (s.modPort p (fun q => { q with tx := { mask := m }, rx := { mask := m } }))
    else s

/-- Traffic begins: the descrambler is seeded, and what waits is sent (R436, R451). -/
def startTraffic (p lane width : Nat) (s : State) : State :=
  let s := s.modPort p (fun q => { q with seeded := true, skips := 0, lateSkip := 0, rxSlots := 0, hdrErr := [] })
  let _ := (lane, width)
  pump p (s.port p).egress.length s

/-- Lanes found faulty by the receiver of a port: it stops taking blocks from them at once, LANE_FAULT is answered later by WIDTH, and
with no legal set left the link is down (R452, R453, R456). A quiet direction whose lead lane fails keeps its sleeping lanes for the
wake that the transmitter then starts (R455). -/
def rxFaults (p mask : Nat) (s : State) : State :=
  let q := s.port p
  if q.state ≠ .up then s
  else
    let bad := q.rx.mask &&& mask
    if bad = 0 then s
    else
      let s := each (lanesOf bad) (fun i s => bump (laneCtr s p i 4) s) s
      let avail := maskMinus (q.rx.mask ||| q.rx.sleep) bad
      match bestSet q.agreed avail (leadLane q.rx.mask) with
      | none => linkDown p s
      | some _ => s.modPort p (fun q => { q with rx := { q.rx with mask := maskMinus q.rx.mask bad, due := true } })

/-- The transmitter of a direction reduces to the largest legal set without the lanes named (R453), counting
WIDTH_REDUCE. In quiet the lead lane is the only active one: without it the sleeping lanes are woken first (R455, R461). -/
def txReduce (p mask : Nat) (s : State) : State :=
  let q := s.port p
  match bestSet q.agreed (maskMinus (q.tx.mask ||| q.tx.sleep) mask) (leadLane q.tx.mask) with
  | none => linkDown p s
  | some m =>
    if m = q.tx.mask then s
    else if q.tx.sleep = 0 then bump (dirCtr p 7 0) (s.modPort p (fun q => { q with tx := { q.tx with mask := m } }))
    else s.modPort p (fun q => { q with
      tx := { q.tx with mask := maskMinus q.tx.mask mask, sleep := maskMinus q.tx.sleep mask, quiet := .waking } })

/-- SKIP (R435, R436, R438, R452): the slot is removed and reseeds the descrambler; a lane late in two consecutive SKIP intervals, and
one with eight sync header errors in 64 consecutive blocks, is faulty. `late` names the lanes on which the slot arrived out of line
with the lead lane; `raw` holds blocks received since the last SKIP slot, as lane, slot and bits. -/
def execSkipBlock (p count : Nat) (x : SkipIn) (s : State) : Out :=
  event (isPort p) <|
    let q := s.port p
    if q.state ≠ .up then s
    else
      let mask := maskOf x.late
      let again := mask &&& q.lateSkip
      let s := each (x.raw.filter (fun x => q.rx.mask.testBit x.1 && decide (x.2.1 < 256))) (receiveRaw p) s
      let again := again ||| headerFaults s p
      let s := endInterval256 p (each (lanesOf mask) (fun i s => bump (laneCtr s p i 3) s) s)
      let s := s.modPort p (fun q => { q with seeded := true, skips := count % 65536, lateSkip := mask })
      rxFaults p again s

/-- LANE_FAULT (R453): the transmitter of the failed direction answers with WIDTH and stripes over the reduced set. -/
def execLaneFault (p mask : Nat) (s : State) : Out :=
  event (isPort p) <|
    let q := s.port p
    if q.state ≠ .up || q.tx.mask &&& mask = 0 then s
    else txReduce p mask (each (lanesOf (q.tx.mask &&& mask)) (fun i s => bump (laneCtr s p i 4) s) s)

/-- WIDTH (R453): from the next slot both ends stripe over the named legal set, and the width reduction counts (R457). -/
def execWidthBlock (p mask : Nat) (s : State) : Out :=
  event (isPort p) <|
    let q := s.port p
    if q.state = .up && (legalSets q.agreed).contains mask && (q.rx.due || decide (mask ≠ q.rx.mask)) then
      bump (dirCtr p 7 1) (s.modPort p (fun q => { q with rx := { mask := mask } }))
    else s

/-- LOSS_OF_SIGNAL (R452, R456, R465): the lanes are faulty; when every lane of the port is lost the link is down. A port
that loops for its partner leaves the loop and enters IDLE. -/
def execLossOfSignal (p : Nat) (lanes : List Nat) (s : State) : Out :=
  event (isPort p) <|
    let q := s.port p
    let mask := maskOf lanes
    let s := each (lanesOf mask) (fun i s => bump (laneCtr s p i 2) s) s
    if q.farEnd then toIdle p s
    else if q.state ≠ .up then s
    else if (fullMask q.agreed) &&& mask = fullMask q.agreed then linkDown p s
    else rxFaults p mask s

/-- QUIET_IDLE_EXPIRY (R458): a direction of a port of width 2 or 4 with quiet policy ON sends QUIET_REQ. -/
def execQuietIdleExpiry (p : Nat) (s : State) : Out :=
  event (isPort p) <|
    let q := s.port p
    let policy := q.quietOn || (decide (2 ≤ s.mgmt.level) && !q.clover)
    if q.state = .up && policy && decide (2 ≤ laneCount q.tx.mask) && q.tx.quiet = .awake then
      s.modPort p (fun q => { q with tx := { q.tx with quiet := .requested } })
    else s

/-- QUIET_REQ (R459): the receiver answers with QUIET_ACK. -/
def execQuietReq (p : Nat) (s : State) : Out :=
  event (isPort p) <|
    if (s.port p).state = .up && (s.port p).rx.quiet = .awake then
      s.modPort p (fun q => { q with rx := { q.rx with quiet := .acked } })
    else s

/-- Start of a wake: the idle-exit pattern runs on the quiet lanes (R461). -/
def startWake (p : Nat) (s : State) : State :=
  s.modPort p (fun q => { q with tx := { q.tx with quiet := .waking, late := false } })

/-- QUIET_ACK (R459, R460): the transmitter is committed: QUIET_ENTER, the lead lane alone from the next slot. The entry
is complete at the next swath boundary unless a wake need comes before (notes/assumptions/9.md). A withdrawn request
ignores it. -/
def execQuietAck (p : Nat) (s : State) : Out :=
  event (isPort p) <|
    let q := s.port p
    if q.state = .up && q.tx.quiet = .requested then
      let lead := 2 ^ leadLane q.tx.mask
      s.modPort p (fun q => { q with
        tx := { q.tx with quiet := .acked, mask := lead, sleep := maskMinus q.tx.mask lead } })
    else s

/-- Entries that have been committed are complete: QUIET_ENTRIES counts them (R457, R459). -/
def finishEntries (s : State) : State :=
  each (List.range 16) (fun p s =>
    if (s.port p).tx.quiet = .acked then
      bump (dirCtr p 9 0) (s.modPort p (fun q => { q with tx := { q.tx with quiet := .quiet } })) else s) s

/-- QUIET_ENTER (R459): the receiver's direction moves to the named lead lane. -/
def execQuietEnter (p mask : Nat) (s : State) : Out :=
  event (isPort p) <|
    let q := s.port p
    if q.state = .up && q.rx.quiet = .acked then
      bump (dirCtr p 9 1) (s.modPort p (fun q => { q with
        rx := { q.rx with quiet := .quiet, mask := mask, sleep := maskMinus q.rx.mask mask } }))
    else s

/-- QUIET_ENTRY_WITHDRAWN (R460): no QUIET_ENTER within 2 µs of QUIET_ACK, so the lanes stay awake. -/
def execQuietEntryWithdrawn (p : Nat) (s : State) : Out :=
  event (isPort p) <|
    if (s.port p).rx.quiet = .acked then s.modPort p (fun q => { q with rx := { q.rx with quiet := .awake } }) else s

/-- WAKE_NEED (R460, R461): before QUIET_ACK the request is withdrawn; after it the entry completes and the wake starts
at once, counted in WAKE_IN_ENTRY while the entry runs; in quiet the wake starts. -/
def wakeNeed (p : Nat) (s : State) : State :=
  match (s.port p).tx.quiet with
  | .requested => s.modPort p (fun q => { q with tx := { q.tx with quiet := .awake } })
  | .acked => bump (dirCtr p 11 0) (bump (dirCtr p 9 0) (startWake p s))
  | .quiet => startWake p s
  | _ => s

/-- WAKE_NEED. -/
def execWakeNeed (p : Nat) (s : State) : Out := event (isPort p) (wakeNeed p s)

/-- IDLE_EXIT_END (R461): a WAKE slot on all lanes; striping over the full set, or over the largest legal set when the lead lane was
lost (R455), begins after it. -/
def execIdleExitEnd (p : Nat) (s : State) : Out :=
  event (isPort p) <|
    let q := s.port p
    if q.tx.quiet = .waking then
      let all := q.tx.mask ||| q.tx.sleep
      bump (dirCtr p 10 0) (s.modPort p (fun q => { q with
        tx := { mask := (bestSet q.agreed all (leadLane all)).getD all } }))
    else s

/-- WAKE (R461): the receiver deskews the woken lanes; one that is not aligned is faulty. -/
def execWakeBlock (p : Nat) (aligned : List Nat) (s : State) : Out :=
  event (isPort p) <|
    let q := s.port p
    if q.rx.quiet = .quiet then
      let bad := maskMinus q.rx.sleep (maskOf aligned)
      let s := bump (dirCtr p 10 1) (s.modPort p (fun q => { q with
        rx := { mask := q.rx.mask ||| q.rx.sleep } }))
      rxFaults p bad s
    else s

/-- LOOP (R465): 1 a request, answered by the far-end loop permit; 2 accepts and 3 refuses this hub's own request, which
completes its command. -/
def execLoopBlock (p code : Nat) (s : State) : Out :=
  event (isPort p) <|
    let q := s.port p
    match code with
    | 1 => if q.state = .up && q.loopOk then failPort p 4 (s.modPort p (fun q => { q with farEnd := true })) else s
    | 2 =>
      (match q.loopTag with
       | none => s
       | some (t, k, g) =>
         let s := failPort p 4 (s.modPort p (fun q => { q with loop := .farEnd, loopTag := none }))
         finishLater t k g {} (some 3) s)
    | 3 =>
      (match q.loopTag with
       | none => s
       | some (t, k, g) => finishLater t k g { status := .state } none (s.modPort p (fun q => { q with loopTag := none })))
    | _ => s

/-- The tap beside the last of a pattern: b(n) = b(n - poly) xor b(n - tap) (R463). -/
def prbsTap (poly : Nat) : Nat := if poly = 7 then 6 else if poly = 15 then 14 else 28

/-- The first `n` bits of a pattern after the `poly` bits that stand in `last`, the oldest first (R463). -/
def prbsBits (poly : Nat) : Nat → List Bool → List Bool
  | 0, _ => []
  | n + 1, last =>
    let b := last.getD 0 false != last.getD (poly - prbsTap poly) false
    b :: prbsBits poly n (last.drop 1 ++ [b])

/-- What the generator sends: it starts from all ones (R463). -/
def prbsSent (poly n : Nat) : List Bool := (List.replicate poly true ++ prbsBits poly n (List.replicate poly true)).take n

/-- The checker seeds itself from the first bits it has received and locks on 1,024 bits without an error after them (R463). -/
def prbsLocks (poly : Nat) (received : List Bool) : Bool :=
  decide (prbsBits poly 1024 (received.take poly) = (received.drop poly).take 1024)

/-- PRBS_CHECKER_LOCK (R463): the checker locks on the bits received, or relocks and counts it; the bits compared and the errors found
since the last lock are counted. -/
def execPrbsCheckerLock (lane : Nat) (received : List Bool) (bits errors : Nat) (s : State) : Out :=
  event (decide (lane < 32)) <|
    let x := s.lane lane
    if x.chk && prbsLocks x.poly received && (!x.locked || decide (64 ≤ errors)) then
      s.modLane lane (fun x => { x with
        locked := true, relocks := if x.locked then x.relocks + 1 else x.relocks
        bits := x.bits + BitVec.ofNat 64 bits, errors := min (x.errors + errors) (2 ^ 32 - 1) })
    else s

end Sys2Proof.Machine
end

