-- ==== Sys2Proof/Machine/SkecyNet.lean ====
section
/-! DEFINITION. Skecy frames, routing, addresses and time transfer (12 and 07 of the spec): the rows from FRAME_RECEIVE
to TIME_RESP_TIMEOUT, but for those of cross-triggers and of the clover pair. -/

namespace Sys2Proof.Machine

/-! ## Reception and forwarding (R476 to R482) -/

/-- Coded payload of a port's direction, in lane-steps: lanes x 2^rate (R434, R479). -/
def portP (q : Port) (d : PortDir) : Nat := laneCount d.mask * 2 ^ q.rate

/-- A receiver NAKs once, then discards until the expected frame arrives (R476). -/
def nak (p : Nat) (s : State) : State :=
  if (s.port p).nakSent then s
  else bump (portCtr p 17) (s.modPort p (fun q => { q with nakSent := true }))

/-- Ports that get a copy of a multicast frame: those of its group but the ingress, a failed one replaced by its alternate (R482,
R502); none stands for a copy without a port. -/
def copyPorts (s : State) (p : Nat) (f : Frame) : List (Option Nat) :=
  let g := s.sky.mcast.get f.dest
  ((List.range 16).filter (fun a => g.mask.testBit a && decide (a ≠ p))).map (fun a =>
    if usable s a then some a
    else match g.alts.getD a 255 with
      | 255 => none
      | b => if usable s b then some b else none)

/-- Copy a multicast frame on, but for one that has crossed 15 links (R480, R482, R502). -/
def forwardMcast (p : Nat) (f : Frame) (s : State) : State :=
  if f.hops = 15 then (if (s.sky.mcast.get f.dest).loc then s else bump (portCtr p 20) s)
  else each (copyPorts s p f) (fun a s => match a with
    | some a => forwardOn p a (some (p, f.seq % 4096)) f s
    | none => bump (portCtr p 21) s) s

/-- A frame for another hub: counted and discarded at 15 hops (R480) or without a route (R495), else forwarded. -/
def forwardUni (p : Nat) (f : Frame) (s : State) : State :=
  if f.hops = 15 then bump (portCtr p 20) s
  else match egressOf s f.dest with
    | none => bump (portCtr p 21) s
    | some a => forwardOn p a (some (p, f.seq % 4096)) f s

/-- The hub takes a frame for itself: DEST 0, its own address, a flood, or a group with LOCAL (R469, R482). -/
def isMine (s : State) (f : Frame) : Bool :=
  if f.mcast then (s.sky.mcast.get f.dest).loc
  else decide (f.dest = 0) || decide (f.dest = 1023) || (decide (s.sky.hub ≠ 0) && decide (f.dest = s.sky.hub))

/-- A frame that has passed its checks goes on its way. A flooded frame is forwarded by the rule of its own row (R492). -/
def accept (p : Nat) (f : Frame) (s : State) : State :=
  if badFrame f then bump (portCtr p 19) s
  else if f.mcast then forwardMcast p f s
  else if isMine s f then s
  else forwardUni p f s

/-- The copies of a cut-through frame whose CRC fails at ingress are stomped (R479, R481). -/
def stompCopy (p : Nat) (f : Frame) (s : State) : State :=
  if badFrame f || f.hops = 15 || (!f.mcast && isMine s f) then s
  else
    let ports := (if f.mcast then copyPorts s p f else [egressOf s f.dest]).filterMap id
    each (ports.filter (fun a => decide (portP (s.port a) (s.port a).tx ≤ portP (s.port p) (s.port p).rx))) (fun a s =>
      bump (portCtr a 16) (forwardOn p a none { f with crc := frameCrc f ^^^ 0xFFFFFFFF#32 } s)) s

/-- FRAME_RECEIVE (R476). A stomped frame in sequence is discarded without a NAK and its sequence is passed
(notes/assumptions/10.md). -/
def execFrameReceive (p : Nat) (f : Frame) (t : Inst) (s : State) : Out :=
  let s := touch t s
  event (isPort p) <|
    let q := s.port p
    if q.state ≠ .up || q.farEnd then s
    else match f.cross with
    | some (lane, dropped) => nak p (bump (portCtr p 14) (harmWord 1 lane dropped s))
    | none =>
    if f.seq % 4096 ≠ q.rxSeq then nak p s
    else
      let good := frameCrc f
      let next (s : State) : State := s.modPort p (fun q => { q with
        rxSeq := (q.rxSeq + 1) % 4096, nakSent := false, ackDue := true
        buf := q.buf ++ [(f.seq % 4096, f.vc, frameBlocks f)] })
      if f.crc = good ^^^ 0xFFFFFFFF#32 then release p (bump (portCtr p 15) (next s))
      else if f.crc ≠ good then stompCopy p f (nak p (bump (portCtr p 14) s))
      else release p (accept p f (bump (portCtr p 13) (next s)))

/-- Frames up to and including a sequence are acknowledged (R475). -/
def ackFrames (ack : Nat) : List Sent → List Sent
  | [] => []
  | x :: r => if (x.seq + 4096 - (ack + 1) % 4096) % 4096 < 2048 then x :: r else ackFrames ack r

/-- Every unacknowledged frame is sent again, in order; the replay is counted (R477). -/
def replay (p : Nat) (s : State) : State :=
  let n := (s.port p).retry.length
  let s := bump (portCtr p 18) (s.modPort p (fun q => { q with replays := q.replays + 1 }))
  bumpBy (portCtr p 12) n s

/-- Release XTRIG blocks acknowledged in order, and send those that wait (R486). -/
def ackXtrigs (p xtAck : Nat) (s : State) : State :=
  s.modPort p (fun q =>
    let out := q.xtSent.length
    let base := (q.xtSeq + 256 - out) % 256
    let k := (xtAck + 1 + 256 - base) % 256
    let rest := if k ≤ out then q.xtSent.drop k else q.xtSent
    let room := 16 - rest.length
    { q with xtSent := rest ++ q.xtQueue.take room, xtQueue := q.xtQueue.drop room
             xtSeq := (q.xtSeq + min room q.xtQueue.length) % 256 })

/-- A port whose replays bring no progress has failed, and restarts as at link down (R477). -/
def replayFail (p : Nat) (s : State) : State :=
  toIdle p (failPort p 2 s)

/-- ACK block (R477, R486): acknowledged frames are released; a NAK replays the rest, and four replays without progress
fail the port. -/
def execAckBlock (p ack : Nat) (nak : Bool) (xtAck : Nat) (s : State) : Out :=
  event (isPort p) <|
    let q := s.port p
    if q.state ≠ .up || q.failed then s
    else
      let rest := ackFrames ack q.retry
      let progress := decide (rest.length < q.retry.length)
      let s := s.modPort p (fun q => { q with retry := rest, replays := if progress then 0 else q.replays })
      let s := ackXtrigs p xtAck s
      let s := if nak then (if 4 ≤ (s.port p).replays then replayFail p s else replay p s) else s
      pump p (s.port p).egress.length s

/-- CREDIT block (R474): cumulative counts per VC. -/
def execCreditBlock (p : Nat) (counts : List Nat) (s : State) : Out :=
  event (isPort p) <|
    if (s.port p).state ≠ .up then s
    else
      let s := s.modPort p (fun q => { q with
        granted := (List.range 8).foldl (fun g v => Tab.set g v ((counts.getD v (Tab.get g v)) % 4096)) q.granted })
      pump p (s.port p).egress.length s

/-- REPLAY_TIMEOUT (R477, R486): every unacknowledged frame and XTRIG is sent again; the fifth attempt finds four fruitless
replays and fails the port. A receiver that has sent a NAK may send another (R476). -/
def execReplayTimeout (p : Nat) (s : State) : Out :=
  event (isPort p) <|
    let q := s.port p
    let s := s.modPort p (fun q => { q with nakSent := false })
    if q.state ≠ .up || q.retry.isEmpty then s
    else if 4 ≤ q.replays then replayFail p s
    else replay p s

/-- ACK_TIMER (R476): an ACK goes out while frames are unacknowledged. -/
def execAckTimer (p : Nat) (s : State) : Out :=
  event (isPort p) (s.modPort p (fun q => { q with ackDue := false }))

/-- CREDIT_TIMER (R474): a CREDIT block returns the cumulative counts, which stand as they are. -/
def execCreditTimer (p : Nat) (s : State) : Out := event (isPort p) s

/-- LATE_LAUNCH (R285). -/
def lateLaunch : Nat := ctrKey 0 0 0 0

/-- Span of a 128b/130b block at 12, 24 or 48 Gbit/s, rounded up (R284). -/
def blockSpan (rate : Nat) : Inst := ceilDiv (nsSpan 130) (12 * 2 ^ rate)

/-- TIMED_LAUNCH (R284, R285, R498, R499): the oldest pending timed frame is sent at its TT, or late with LATE set and counted. -/
def execTimedLaunch (p : Nat) (t : Inst) (s : State) : Out :=
  let s := touch t s
  event (isPort p) <|
    match (s.port p).timed with
    | [] => s
    | x :: r =>
      if t < x.at_.getD 0 then s
      else
        let late := decide (x.at_.getD 0 + blockSpan (s.port p).rate < t)
        let s := s.modPort p (fun q => { q with timed := r })
        enqueue p { x with frame := sealFrame { x.frame with timed := true, late := late } } (when late (bump lateLaunch) s)

/-! ## Records of other hubs (R472, R523) -/

/-! ## Discovery, root and parent (R491 to R494) -/

/-- A candidate ranks before another: (priority, CLASS, ERR, hub address), lowest first (R293). -/
def ranksBefore (a b : Cand) : Bool :=
  decide (a.prio < b.prio) || (decide (a.prio = b.prio) && (decide (a.cls < b.cls) || (decide (a.cls = b.cls) &&
    (decide (a.err < b.err) || (decide (a.err = b.err) && decide (a.hub < b.hub))))))

/-- CLASS of the declared reference grade: 2 REF_OCXO, 3 REF_TCXO (R270, R301). -/
def gradeClass (s : State) : Nat := if s.time.tcxo then 3 else 2

/-- The hub is its own time root. -/
def isRoot (s : State) : Bool := s.time.parent.isNone && decide ((s.time.root.map (·.hub)).getD s.sky.hub = s.sky.hub)

/-- CLASS of the hub's own source (R287, R289): PTP, PPS with time of day, the former CLASS of a root in HOLDOVER (R295),
the reference of a free-running master (R49) or of a hub that no path leads to a root any more, or none. -/
def ownClass (s : State) : Nat :=
  if s.time.ptp.on && s.time.ptp.usable then 0
  else if s.time.ppsSec.isSome then 1
  else if isRoot s && decide (s.time.state = .holdover) then s.time.cls
  else if s.time.free || (decide (s.time.state = .holdover) && s.time.parent.isNone) then gradeClass s
  else 7

/-- The hub has a source of its own. -/
def ownsSource (s : State) : Bool := (s.time.ptp.on && s.time.ptp.usable) || s.time.ppsSec.isSome

/-- The hub's own candidate: its own source, whatever root it follows (R293). -/
def ownCand (s : State) : Cand :=
  if isRoot s then { prio := s.time.prio, cls := ownClass s, err := s.time.err, hub := s.sky.hub
                     qual := qualOf s.time.state s.time.tai (ownClass s) 0 s.time.err }
  else
    let err := if ownsSource s then s.time.srcErr else 31
    let tai := decide (ownClass s = 0) && s.time.ptp.tai
    { prio := s.time.prio, cls := ownClass s, err := err, hub := s.sky.hub, qual := qualOf s.time.state tai (ownClass s) 0 err }

/-- The best of the roots heard and the hub itself (R293). What is heard of a root counts as its nearest neighbour says it: a claim from
further away may be an echo of what the root no longer announces (R295; log entry 176). -/
def bestRoot (s : State) : Cand :=
  (claims s).foldl (fun b p =>
    if decide (portTo s p.2.hub none = some p.1) && ranksBefore p.2 b then p.2 else b) (ownCand s)

/-- The hub allocates addresses: it is the time root (R488). -/
def isAllocator (s : State) : Bool := s.time.parent.isNone && decide (s.sky.hub ≠ 0)

/-- Payload of a HELLO (R491): it relays the best root known (R293). -/
def helloBytes (s : State) (p : Nat) : List Byte :=
  let root := bestRoot s
  leBytes 8 Config.uid.toNat ++ leBytes 2 s.sky.hub
    ++ [BitVec.ofNat 8 p, BitVec.ofNat 8 ((if s.clover.state = .unpaired then 0 else 1) + (if isAllocator s then 2 else 0)),
        BitVec.ofNat 8 s.time.prio]
    ++ leBytes 2 (quality s).toNat ++ [0] ++ leBytes 2 root.hub ++ [BitVec.ofNat 8 root.prio, 0]
    ++ leBytes 2 root.qual.toNat ++ leBytes 4 s.sky.lsaSeq ++ leBytes 2 (s.port p).hseq ++ [0, 0, 0, 0]

/-- The parent is the neighbour on a path to the root with the fewest hops (R294); the standby of a pair keeps its partner (R511). -/
def chooseParent (s : State) : State :=
  match s.time.parent, s.time.root with
  | some p, some r =>
    if (s.port p).clover then s
    else match portTo s r.hub none with
      | some q => withAlt (if q = p then s else changeParent (some q) s)
      | none => s
  | _, _ => s

/-- One discovery period of the ranking: the parent by fewest hops, and the run of the leading candidate (R294). -/
def rankPeriod (s : State) : State :=
  let s := chooseParent s
  let b := bestRoot s
  let same := match s.time.lead with
    | some l => decide (l.hub = b.hub)
    | none => false
  { s with time := { s.time with lead := some b, leadRun := if same then s.time.leadRun + 1 else 1 } }

/-- HELLO_TIMER (R491): an up NETWORK port sends a HELLO; a SEVERED member sends none (R530). The lowest such port counts the
discovery period. -/
def execHelloTimer (p : Nat) (s : State) : Out :=
  event (isPort p) <|
    if !(netPorts s).contains p || s.clover.state = .severed then s
    else
      let s := when (decide ((netPorts s).head? = some p)) rankPeriod s
      let f : Frame := { ftype := 5, vc := 0, dest := 0, src := s.sky.hub, body := helloBytes s p }
      sendFrame p f (s.modPort p (fun q => { q with hseq := (q.hseq + 1) % 65536 }))

/-- Send an address request with the identifier and the address held before (R488). -/
def askAddress (s : State) : State :=
  let s := { s with sky := { s.sky with asking := true } }
  let body := leBytes 8 Config.uid.toNat ++ leBytes 2 s.sky.former
  each (netPorts s) (fun p s => sendFrame p { ftype := 7, vc := 0, dest := 0, src := 0, aux := 2, body := body } s) s

/-- The hub gives up its address and asks for another (R490). -/
def giveUpAddress (other : Nat) (s : State) : State :=
  let s := postAt s.now pSkecy 0x0801 0 [vU s.sky.hub, vU Config.uid.toNat, vU other] s
  askAddress { s with sky := { s.sky with hub := 0, next := none } }

/-- The root has seen an identifier to which it has granted an address (R489). -/
def seeUid (uid : Nat) (s : State) : State :=
  { s with sky := { s.sky with grants := s.sky.grants.map (fun g => if g.uid = uid then { g with seen := max g.seen s.now } else g) } }

/-- Another hub, with another identifier and not the partner, announces this hub's address: the greater identifier gives it up
(R490). -/
def addrClash (hub uid : Nat) (s : State) : State :=
  let clash := decide (s.sky.hub ≠ 0) && decide (hub = s.sky.hub) && decide (uid ≠ s.clover.partner)
  if clash && decide (uid < Config.uid.toNat) then giveUpAddress uid s else s

/-- HELLO (R490 to R493): the neighbour, its root, an address conflict, and an LSA when the neighbour set has changed. -/
def execHello (p : Nat) (m : HelloMsg) (s : State) : Out :=
  event (isPort p) <|
    if (s.port p).state ≠ .up then s
    else
      let old := (s.port p).neigh.map (fun n => (n.uid, n.hub))
      let s := s.modPort p (fun q => { q with
        missed := 0, neigh := some { uid := m.uid, hub := m.hub, port := m.port, clover := m.clover, alloc := m.alloc } })
      let c : Cand := { prio := m.rprio, cls := m.rqual.toNat / 8 % 8, err := m.rqual.toNat / 2048, hub := m.root
                        hops := m.qual.toNat / 128 % 16, qual := m.rqual }
      let s := { s with time := { s.time with heard := s.time.heard.set p (some c) } }
      let s := addrClash m.hub m.uid (seeUid m.uid s)
      if old = some (m.uid, m.hub) then s else sendLsa s

/-- LSA_TIMER (R492): an addressed hub floods its LSA once per second. -/
def execLsaTimer (s : State) : Out := .next (sendLsa s)

/-- NEIGHBOUR_LOSS (R491, R500): counted, and the port fails for routing. -/
def execNeighbourLoss (p : Nat) (s : State) : Out :=
  event (isPort p) <|
    if (s.port p).neigh.isNone then s
    else
      let s := bump (portCtr p 24) (s.modPort p (fun q => { q with neigh := none, missed := 3 }))
      failPort p 3 s

/-- A received LSA is newer than the one held for its origin (R492). -/
def lsaNewer (s : State) (origin uid seq : Nat) : Bool :=
  match s.sky.lsas.find? (fun x => decide (x.origin = origin ∧ x.uid = uid)) with
  | some x => decide (x.seq < seq)
  | none => true

/-! ## Re-acquisition (R303) and the choice of root (R294, R297) -/

/-- A source returns or a root changes with an offset in ns: the policy of R303. Before streams run the hub pulls in under
SYNC. -/
def reacquire (off : Int) (s : State) : State :=
  if !s.ready then { s with time := { s.time with state := .acquire } }
  else
    let slew (s : State) : State := { s with time := { s.time with
      state := .acquire, slewing := off, holdFrom := none, err := if s.mgmt.refLost then 31 else errCode (4 * off.natAbs) } }
    match s.time.policy with
    | .slew => slew s
    | .step => if off.natAbs ≤ s.time.stepUs * 1000 then slew s else { s with time := { s.time with restart := some off } }
    | .stay => s

/-- The time of a new root, `off` ns from the hub's own (R297, R303). Under STAY a hub whose streams run keeps its own time, in HOLDOVER
where it followed the former root; a hub that becomes root with no source runs free on its reference; where nothing differs nothing is
acquired again. -/
def followRoot (off : Int) (s : State) : State :=
  let follows := decide (s.time.state = .locked) || decide (s.time.state = .acquire)
  if s.time.parent.isNone && !ownsSource s then (if follows then holdoverEntry s else s)
  else if off = 0 && decide (s.time.state = .locked) then s
  else if s.ready && decide (s.time.policy = .stay) then (if follows then holdoverEntry s else s)
  else reacquire off { s with time := { s.time with offset := clamp32 (256 * off) } }

/-- The candidate `c` is adopted as root, with the neighbour nearest to it as parent (R294), and its CLASS and TAI (R270). -/
def adoptRoot (c : Cand) (s : State) : State :=
  let par := portTo s c.hub none
  let hops := match par with
    | some p => min 15 (((s.time.heard.get p).map (·.hops)).getD 0 + 1)
    | none => 0
  withAlt { s with time := { s.time with
    root := some c, parent := par, hops := hops, cls := c.cls, tai := decide (c.qual.toNat / 4 % 2 = 1) } }

/-- ROOT_CHANGE (R294, R297): the candidate that has led for 16 periods is adopted; the difference of time, `offset` ns, is handled by
the re-acquisition policy. -/
def execRootChange (offset : Int) (s : State) : Out :=
  .next <|
    match s.time.lead with
    | none => s
    | some c =>
      if s.time.leadRun < 16 || s.time.root.map (·.hub) = some c.hub then s
      else
        let old := (s.time.root.map (·.hub)).getD 0
        followRoot offset (postAt s.now pTime 0x0702 0 [vU old, vU c.hub, vU c.cls] (adoptRoot c s))

/-! ## Addresses (R487 to R490) -/

/-- An address is free for an identifier: it is not this hub's, not granted, and no other hub announces it (R488, R492). -/
def addrFree (s : State) (uid a : Nat) : Bool :=
  decide (a ≠ s.sky.hub) && s.sky.grants.all (fun g => decide (g.addr ≠ a))
    && s.sky.lsas.all (fun l => decide (l.origin ≠ a) || decide (l.uid = uid))

/-- The grant to be reclaimed: the one unseen for longest, if unseen for the reclaim age (R489). -/
def reclaim (s : State) (t : Inst) : Option Grant :=
  let old := s.sky.grants.filter (fun g => decide (g.seen + nsSpan (s.sky.ageH * 3600000000000) ≤ t))
  old.foldl (fun b g => match b with
    | none => some g
    | some x => if g.seen < x.seen then some g else some x) none

/-- Record a grant and answer it over the port. -/
def grantAddr (p uid a : Nat) (t : Inst) (s : State) : State :=
  let old := s.sky.grants.filter (fun g => !(decide (g.uid = uid) || decide (g.addr = a)))
  let s := { s with sky := { s.sky with grants := { uid := uid, addr := a, seen := t } :: old } }
  let s := noteUse 5 s.sky.grants.length s
  sendFrame p { ftype := 7, vc := 0, dest := 0, src := s.sky.hub, aux := 3, body := leBytes 8 uid ++ leBytes 2 a } s

/-- ADDR_REQ (R488, R489): the root grants; another hub relays the request towards the root and notes the port. -/
def execAddrReq (p uid held : Nat) (t : Inst) (s : State) : Out :=
  let s := touch t s
  event (isPort p) <|
    if !isAllocator s then
      match s.time.parent with
      | none => s
      | some a =>
        let s := { s with sky := { s.sky with relays := (uid, p) :: s.sky.relays.filter (fun r => decide (r.1 ≠ uid)) } }
        sendFrame a { ftype := 7, vc := 0, dest := 0, src := 0, aux := 2, body := leBytes 8 uid ++ leBytes 2 held } s
    else
      match s.sky.grants.find? (fun g => decide (g.uid = uid)) with
      | some g => grantAddr p uid g.addr t s
      | none =>
        if 1 ≤ held && held ≤ 1022 && addrFree s uid held then grantAddr p uid held t s
        else match ((List.range 1022).map (· + 1)).find? (addrFree s uid) with
          | some a => grantAddr p uid a t s
          | none => match reclaim s t with
            | some g => grantAddr p uid g.addr t s
            | none => postAt t pSkecy 0x0802 0 [vU uid] s

/-- ADDR_GRANT (R488): the hub's own address waits for the boundary of R307; another's is relayed back. -/
def execAddrGrant (p uid addr : Nat) (s : State) : Out :=
  event (isPort p) <|
    if uid = Config.uid.toNat then
      if 1 ≤ addr && addr ≤ 1022 then { s with sky := { s.sky with next := some addr, former := addr, asking := false } } else s
    else match s.sky.relays.find? (fun r => decide (r.1 = uid)) with
      | none => s
      | some r =>
        let s := { s with sky := { s.sky with relays := s.sky.relays.filter (fun x => decide (x.1 ≠ uid)) } }
        sendFrame r.2 { ftype := 7, vc := 0, dest := 0, src := s.sky.hub, aux := 3, body := leBytes 8 uid ++ leBytes 2 addr } s

/-- Member B of a pair sends no request before it has entered SOLO (R510). -/
def mayAsk (s : State) : Bool :=
  !(s.mgmt.memberB && (decide (s.clover.state = .search) || decide (s.clover.state = .joining) || decide (s.clover.state = .formed)))

/-- ADDR_REQ_RETRY (R489): an UNADDRESSED hub asks again. -/
def execAddrReqRetry (s : State) : Out :=
  .next (if s.sky.hub = 0 && s.sky.next.isNone && mayAsk s then askAddress s else s)

/-! ## Time transfer (R291, R292, R496, R497) -/

/-- Change the exchange of a port. -/
def modXchg (p : Nat) (f : Xchg → Xchg) (s : State) : State :=
  { s with time := { s.time with xchg := s.time.xchg.mod p f } }

/-- The first 12 bytes of a TT. -/
def tt12 (t : Inst) : List Byte := (ttBytes (ttOf t) 0).take 12

/-- TIME_REQUEST_TIMER (R496): an up port sends a request with the next exchange number. -/
def execTimeRequestTimer (p : Nat) (t : Inst) (s : State) : Out :=
  let s := touch t s
  event (isPort p) <|
    if !usable s p then s
    else
      let x := s.time.xchg.get p
      let s := modXchg p (fun x => { x with xseq := (x.xseq + 1) % 65536, open_ := some (x.xseq, t) }) s
      sendFrame p { ftype := 6, vc := 0, dest := 0, src := s.sky.hub
                    body := [1, 0] ++ leBytes 2 x.xseq ++ leBytes 2 (quality s).toNat ++ List.replicate 42 0 } s

/-- TIME_REQ (R497, R498): the RESP is launched at a time 1 µs after T2, which T3 names; with 16 frames pending it is
refused. -/
def execTimeReq (p xseq : Nat) (qual : BitVec 16) (t : Inst) (s : State) : Out :=
  let s := touch t s
  event (isPort p) <|
    let s := modXchg p (fun x => { x with qual := qual }) s
    if !usable s p || 16 ≤ (s.port p).timed.length then s
    else
      let t3 := t + nsSpan 1000
      let f : Frame := { ftype := 6, vc := 0, timed := true, dest := 0, src := s.sky.hub
                         body := [2, 0] ++ leBytes 2 xseq ++ leBytes 2 (quality s).toNat ++ [0, 0] ++ tt12 t ++ tt12 t3
                                 ++ List.replicate 16 0 }
      let s := s.modPort p (fun q => { q with timed := q.timed ++ [{ frame := f, at_ := some t3 }] })
      noteUse 11 (s.port p).timed.length s

/-- A span of `Inst`, signed, in 1/256 ns. -/
def to256 (d : Int) : Int := d * 256 / 6442450944

/-- The replay timeout in ns that firmware sets from a link's delay in 1/256 ns: twice it and 2 µs, from 1 µs to 1 ms (R477). -/
def replayTimeout (delay : Int) : Nat := max 1000 (min 1000000 (2 * delay / 256 + 2000).toNat)

/-- TIME_RESP (R291, R477, R497): a RESP in time and not LATE completes the exchange; its offset enters the filter of 64, whose
mean is the link's offset (notes/assumptions/12.md); TIME_OFFSET is that of local time from the parent's. -/
def execTimeResp (p xseq : Nat) (qual : BitVec 16) (t2 t3 t4 : Inst) (late : Bool) (s : State) : Out :=
  let s := touch t4 s
  event (isPort p) <|
    match (s.time.xchg.get p).open_ with
    | none => s
    | some (n, t1) =>
      if n ≠ xseq then s
      else if late || decide (t1 + nsSpan 1000000 < t4) then modXchg p (fun x => { x with open_ := none }) s
      else
        let x := s.time.xchg.get p
        let fwd : Int := (t2 : Int) - t1
        let back : Int := (t4 : Int) - t3
        let off := to256 ((fwd - back) / 2) - x.asym * 256 / 2000
        let offs := (off :: x.offs).take 64
        let mean := offs.sum / offs.length
        let s := modXchg p (fun x => { x with
          open_ := none, offs := offs, offset := mean, delay := to256 ((fwd + back) / 2), qual := qual }) s
        let s := s.modPort p (fun q => { q with timeout := replayTimeout (s.time.xchg.get p).delay })
        if s.time.parent = some p then { s with time := { s.time with offset := clamp32 (-mean) } } else s

/-- TIME_RESP_TIMEOUT (R497). -/
def execTimeRespTimeout (p : Nat) (s : State) : Out :=
  event (isPort p) (modXchg p (fun x => { x with open_ := none }) s)

end Sys2Proof.Machine
end

