-- ==== Sys2Proof/Machine/Bounds.lean ====
section
/-! DEFINITION. The conditions under which the latency bound of R555 holds (R556, R557, R560 of 14). -/

namespace Sys2Proof.Machine

/-- Bytes that a cap of c units of 16 MB/s gives in one swath, with the bucket (R554, R556). -/
def capBytes (c : Nat) : Nat := 2000 * c + bucketMax

/-- Tenants with an open session that have created a DMA queue. -/
def countedTenants (s : State) : List (Nat × Tenant) := s.host.tenants.filter (fun p => p.2.used && p.2.hasDma)

/-- The live LATENCY subscriptions of a tenant. -/
def latencySubs (s : State) (t : Nat) : List Sub :=
  s.str.subs.filterMap (fun p => match p.2 with
    | some u => if decide (u.tenant = t) && !u.bulk && decide (u.state ≠ .closed) then some u else none
    | none => none)

/-- The conditions bind: some LATENCY subscription exists (R556). -/
def boundBinds (s : State) : Bool :=
  s.str.subs.any (fun p => match p.2 with | some u => !u.bulk && decide (u.state ≠ .closed) | none => false)

/-- Sustained payload of a port's transmit direction in MB/s: the coded payload of its active lanes less SKIP slots, and at
most 8,192 B in twice the one-way delay plus 0.25 µs (R434, R478). -/
def portPayload (s : State) (p : Nat) : Nat :=
  let q := s.port p
  let coded := portP q q.tx * 1500 * 128 * 255 / (130 * 256)
  let ns := 2 * (s.time.xchg.get p).delay.toNat / 256 + 250
  min coded (8192 * 1000 / ns)

/-- Condition (1) for the PCIe tenants at D_P and, per egress port, for the remote tenants behind it (R556, R560). -/
def bound1 (s : State) : Bool :=
  let need (l : List (Nat × Tenant)) : Nat := (l.map (fun p => capBytes p.2.cap)).sum + 64512
  let (far, near) := (countedTenants s).partition (fun p => decide (p.2.kind = 2))
  (near.isEmpty || decide (need near ≤ dmaPlan s * 125)) &&
    (List.range 16).all (fun p =>
      let l := far.filter (fun x => decide (egressOf s x.2.hub = some p))
      l.isEmpty || decide (need l ≤ portPayload s p * 125))

/-- Condition (2): the largest records of each tenant's LATENCY subscriptions. -/
def bound2 (s : State) : Bool :=
  s.host.tenants.all (fun p => !p.2.used ||
    decide (((latencySubs s p.1).map (fun u => largestOf s u.gsi)).sum ≤ capBytes p.2.cap))

/-- Condition (3): the caps of all counted tenants, those of remote deliveries among them, within what the fixed load leaves. -/
def bound3 (s : State) : Bool :=
  decide (((countedTenants s).map (fun p => 16000000 * p.2.cap)).sum + fixedLoad s + 2 * s.red.rateC * 1000000000
    ≤ sustained s * 1000000)

/-- R556. -/
def boundHolds (s : State) : Bool := bound1 s && bound2 s && bound3 s

/-- A change that R557 judges only while R556 binds. -/
def boundAllows (s : State) : Bool := !boundBinds s || boundHolds s

end Sys2Proof.Machine
end

