-- ==== Sys2Proof/Machine/Filters.lean ====
section
/-! DEFINITION. The taps and the arithmetic of the stages (R141 to R143, R147 to R150, R157, R162, R166 of 04; R187 and R188
of 05). Taps that the spec computes in binary64 are computed in `Float` (notes/assumptions/13.md). -/

namespace Sys2Proof.Machine

/-! ## Shift and saturation (R142, R143) -/

/-- The arithmetic shift with rounding. -/
def rshift (v : Int) (n : Nat) : Int := if n = 0 then v else (v + 2 ^ (n - 1)) / 2 ^ n

/-- Saturate to the output word of w bits; the flag says whether a bound replaced the value. -/
def saturate (w : Nat) (v : Int) : Int × Bool :=
  let top : Int := 2 ^ (w - 1) - 1
  if top < v then (top, true) else if v < -top then (-top, true) else (v, false)

/-- A stage's result: shifted, saturated, with the flags of its inputs and SAT (R141 to R145). -/
def stageWord (w n : Nat) (idx v : Int) (fl : BitVec 8) : Samp :=
  let (y, sat) := saturate w (rshift v n)
  { idx := idx, v := y, fl := fl ||| flagIf sat flSAT }

/-! ## Integer taps -/

/-- Convolution of two tap lists. -/
def conv (a b : List Int) : List Int :=
  (List.range (a.length + b.length - 1)).map (fun (n : Nat) =>
    ((List.range a.length).map (fun (i : Nat) => if i ≤ n then a.getD i 0 * b.getD (n - i) 0 else 0)).sum)

/-- K moving averages of length L, every tap 1 (R147). -/
def movingAverage (k len : Nat) : List Int := (List.range k).foldl (fun a _ => conv a (List.replicate len 1)) [1]

/-- A symmetric filter from its centre tap and the taps of one side. -/
def symmetric (h0 : Int) (side : List Int) : List Int := side.reverse ++ [h0] ++ side

/-- A half-band filter from its odd taps: every even tap but the centre is 0 (R150). -/
def halfBand (odd : List Int) : List Int := symmetric 65536 ((odd.flatMap (fun x => [x, 0])).dropLast)

/-- HB91, HB59, HB47A, HB47B (R150). -/
def hb91 : List Int := halfBand [41639, -13658, 7935, -5400, 3935, -2966, 2272, -1751, 1348, -1032, 782, -585, 431, -311, 219,
  -150, 99, -63, 38, -22, 11, -5, 2]
/-- HB59. -/
def hb59 : List Int := halfBand [41547, -13395, 7515, -4849, 3286, -2256, 1537, -1026, 664, -411, 241, -131, 64, -26, 8]
/-- HB47A. -/
def hb47A : List Int := halfBand [41491, -13218, 7237, -4496, 2889, -1847, 1147, -678, 376, -187, 79, -25]
/-- HB47B. -/
def hb47B : List Int := halfBand [41379, -12910, 6777, -3948, 2323, -1325, 713, -352, 155, -58, 17, -3]
/-- The compensators gW and gL (R150). -/
def gW : List Int := symmetric 103380 [-21696, 2774]
/-- gL. -/
def gL : List Int := symmetric 103732 [-21901, 2803]
/-- C1 (R147), W1, W2, L1, L2, L3 (R148, R151). -/
def tapsC1 : List Int := movingAverage 4 8
/-- W1. -/
def tapsW1 : List Int := movingAverage 4 2
/-- W2: 95 taps. -/
def tapsW2 : List Int := conv gW hb91
/-- L1. -/
def tapsL1 : List Int := movingAverage 5 16
/-- L2. -/
def tapsL2 : List Int := movingAverage 4 8
/-- L3: 63 taps. -/
def tapsL3 : List Int := conv gL hb59

/-! ## Computed taps -/

/-- π in binary64. -/
def piF : Float := 3.141592653589793

/-- The modified Bessel function of order 0, by its power series. -/
def besselI0 (x : Float) : Float :=
  let q := x * x / 4
  ((List.range 80).foldl (fun (a : Float × Float) (k : Nat) =>
    let term := a.1 * q / (Float.ofNat (k + 1) * Float.ofNat (k + 1))
    (term, a.2 + term)) (1.0, 1.0)).2

/-- sin(πx) / (πx). -/
def sincF (x : Float) : Float := if x == 0 then 1 else Float.sin (piF * x) / (piF * x)

/-- Round half away from zero to an integer. -/
def roundF (x : Float) : Int := x.round.toInt64.toInt

/-- A Kaiser window value: i0(beta × sqrt(1 - r²)) / i0(beta). -/
def kaiser (beta r : Float) : Float := besselI0 (beta * Float.sqrt (1 - r * r)) / besselI0 beta

/-- Taps of m from 0 to n by a function, as a symmetric filter. -/
def fromSide (n : Nat) (f : Nat → Int) : List Int := symmetric (f 0) ((List.range n).map (fun (k : Nat) => f (k + 1)))

/-- E1 for a band of edges f1 and f2 Hz at a tap point (R162). -/
def e1Taps (tap f1 f2 : Nat) : List Int :=
  let ft := 1.5e9 / Float.ofNat (tapPeriod tap)
  let a := Float.ofNat f1 / ft
  let b := Float.ofNat f2 / ft
  fromSide 127 (fun (m : Nat) =>
    let x := Float.ofNat m
    let u := 2 * b * sincF (2 * b * x) - 2 * a * sincF (2 * a * x)
    roundF (131072 * kaiser 7.857 (x / 128) * u))

/-- The E1 taps of a band setting (R163 to R165). -/
def bandTaps (b : BandSel) : List Int :=
  if b.preset = 9 then fromSide 127 (fun (m : Nat) => b.taps.getD m 0)
  else
    let (tap, f1, f2) := bandTap b
    e1Taps tap f1 f2

/-- The Hilbert taps of E2, m from -63 to 63 (R166). -/
def hilbert : List Int :=
  let side := (List.range 63).map (fun (k : Nat) =>
    let m := k + 1
    if m % 2 = 0 then 0
    else roundF (131072 * kaiser 6 (Float.ofNat m / 64) * 2 / (piF * Float.ofNat m)))
  (side.map (fun x => -x)).reverse ++ [0] ++ side

/-- One elimination step of R157's linear system: the row of largest pivot in column k goes first. -/
def eliminate (k : Nat) (rows : List (List Float)) : List (List Float) :=
  let col (r : List Float) : Float := Float.abs (r.getD k 0)
  let rest := rows.drop k
  let best := rest.zipIdx.foldl (fun (a : Nat × Float) p => if a.2 < col p.1 then (p.2, col p.1) else a) (0, -1)
  let piv := rest.getD best.1 []
  let others := rest.eraseIdx best.1
  let done := others.map (fun r =>
    let f := r.getD k 0 / piv.getD k 1
    r.zipIdx.map (fun p => p.1 - f * piv.getD p.2 0))
  rows.take k ++ [piv] ++ done

/-- Solve a system given as rows with the right side last (R157). -/
def solve (n : Nat) (rows : List (List Float)) : List Float :=
  let tri := (List.range n).foldl (fun rs k => eliminate k rs) rows
  (List.range n).reverse.foldl (fun (x : List Float) (k : Nat) =>
    let r := tri.getD k []
    let s := ((List.range x.length).map (fun (j : Nat) => r.getD (k + 1 + j) 0 * x.getD j 0)).foldl (· + ·) 0
    ((r.getD n 0 - s) / r.getD k 1) :: x) []

/-- The notch taps for an LB rate in thousandths of S/s (R157). -/
def notchTaps (rate line h tn : Nat) : List Int :=
  let half := notchHalf rate tn
  let r := Float.ofNat rate / 1000
  let fl := Float.ofNat line
  let hmax := h + 1
  let win (m : Nat) : Float := kaiser 6 (Float.ofNat m / Float.ofNat (half + 1))
  let cosm (h m : Nat) : Float := Float.cos (2 * piF * Float.ofNat h * fl * Float.ofNat m / r)
  let both (f : Nat → Float) : Float := f 0 + ((List.range half).map (fun (k : Nat) => 2 * f (k + 1))).foldl (· + ·) 0
  let rows := (List.range hmax).map (fun (i : Nat) =>
    (List.range hmax).map (fun (j : Nat) => both (fun m => win m * 2 * cosm (j + 1) m * cosm (i + 1) m)) ++ [1.0])
  let a := solve hmax rows
  let b (m : Nat) : Float := win m * ((List.range hmax).map (fun (i : Nat) => a.getD i 0 * 2 * cosm (i + 1) m)).foldl (· + ·) 0
  fromSide half (fun (m : Nat) => if m = 0 then 131072 - roundF (131072 * b 0) else -roundF (131072 * b m))

/-- The taps of LN, its default shift and its multiplier (R156, R157). -/
def lnTaps (c : ChainCfg) : Option (List Int × Nat) :=
  let average (line : Nat) : Option (List Int × Nat) := (avgLen c.lbRate line).map (fun n =>
    (List.replicate n ((roundDiv 4294967296 n : Nat) : Int), 32))
  match c.mains with
  | .off => none
  | .avg50 => average 50
  | .avg60 => average 60
  | .notch50 h tn => some (notchTaps c.lbRate 50 h tn, 17)
  | .notch60 h tn => some (notchTaps c.lbRate 60 h tn, 17)

/-! ## The resampler (R186 to R188) -/

/-- One phase of the prototype table, k from -23 to 24, corrected to sum to 2^17 at the tap of largest magnitude, the lower
k where two tie (R187). -/
def phaseTaps (p : Nat) : List Int :=
  let raw := (List.range 48).map (fun (i : Nat) =>
    let x := Float.ofInt ((i : Int) - 23) - Float.ofNat p / 256
    roundF (131072 * 0.5 * sincF (0.5 * x) * kaiser 10 (x / 24)))
  let k0 := (raw.zipIdx.foldl (fun (a : Nat × Nat) q => if a.2 < q.1.natAbs then (q.2, q.1.natAbs) else a) (0, 0)).1
  raw.set k0 (raw.getD k0 0 + 131072 - raw.sum)

/-- The coefficients at an accumulator value (R188). -/
def resampleTaps (a : Nat) : List Int :=
  let p := a / 16777216 % 256
  let v : Int := (a / 256 % 65536 : Nat)
  let c := phaseTaps p
  let nxt := if p < 255 then phaseTaps (p + 1) else (0 : Int) :: (phaseTaps 0).dropLast
  (c.zip nxt).map (fun q => q.1 + (((q.2 - q.1) * v + 32768) / 65536))

/-! ## Stage O (R169, R170) -/

/-- The 24-bit sample from a chain's last word at level exponent p. -/
def outputStage (p : Nat) (gm : Nat) (om v : Int) : Int × Bool :=
  let a := v * 11184811 * gm
  let y8 := a / 2 ^ (p + 20) + om
  let y := (y8 + 128) / 256
  if 8388607 < y then (8388607, true) else if y < -8388607 then (-8388607, true) else (y, false)

/-- floor(sqrt(n) + 0.5) (R167). -/
def rootRound (n : Nat) : Nat :=
  let r := Nat.sqrt n
  if r * r + r < n then r + 1 else r

end Sys2Proof.Machine
end

