-- ==== Sys2Proof/Machine/Tach.lean ====
section
/-! DEFINITION. Tach inputs, marker codes, shaft groups, interpolation and prediction of angle (05 of the spec). -/

namespace Sys2Proof.Machine

/-! ## Interpolation (R204) and prediction (R219) -/

/-- One tooth position in the unit of the angle labels. -/
def tooth1 : Int := 4294967296
/-- One revolution of a group in the unit of the angle labels. -/
def revAngle (x : Shaft) : Int := (max 1 x.teeth : Nat) * tooth1

/-- The quadratic in angle through the edges a (oldest), b, c (newest): t(theta) as numerator over a positive denominator,
relative to the edge b (R204). -/
def quadParts (a b c : Edge) : Int × Int × Int :=
  let d0 := b.angle - a.angle
  let d1 := c.angle - b.angle
  let t0 := (b.t : Int) - a.t
  let t1 := (c.t : Int) - b.t
  (t1 * d0 * (c.angle - a.angle), t1 * d0 - t0 * d1, d0 * d1 * (c.angle - a.angle))

/-- t(theta) of the newest labelled edges: the quadratic, or the line through two, floored to 2^-32 cycle. -/
def interpAt (l : List Edge) (th : Int) : Int :=
  match l with
  | c :: b :: a :: _ =>
    let (n1, n2, d) := quadParts a b c
    b.t + ((th - b.angle) * n1 + (th - b.angle) * (th - c.angle) * n2) / d
  | [c, b] => b.t + (th - b.angle) * ((c.t : Int) - b.t) / (c.angle - b.angle)
  | [c] => c.t
  | [] => 0

/-- The slope of the interpolation at an angle, as numerator and denominator. -/
def slopeAt (l : List Edge) (th : Int) : Int × Int :=
  match l with
  | c :: b :: a :: _ =>
    let (n1, n2, d) := quadParts a b c
    (n1 + (2 * th - b.angle - c.angle) * n2, d)
  | [c, b] => ((c.t : Int) - b.t, c.angle - b.angle)
  | _ => (0, 1)

/-- The prediction from the last accepted edges (R219). -/
def predictAt (l : List Edge) (rev th : Int) : Int :=
  match l with
  | [] => 0
  | c :: _ =>
    let (s0, d) := slopeAt l c.angle
    let stop := c.angle + rev
    let (s1, _) := slopeAt l stop
    if s0 ≤ 2 * s1 && s1 ≤ 2 * s0 then
      if th ≤ stop then interpAt l th else interpAt l stop + (th - stop) * s1 / d
    else c.t + (th - c.angle) * s0 / d

/-- The instant of an angle inside a span. -/
def Seg.at_ (g : Seg) (rev th : Int) : Int := if g.pred then predictAt g.edges rev th else interpAt g.edges th

/-- The instant of an angle, whether it carries HOLD, and whether a rule for it is known yet (R214, R220). -/
def angleInstant (x : Shaft) (th : Int) : Option (Inst × Bool) :=
  (x.segs.find? (fun g => decide (g.start ≤ th) && (match g.stop with | some e => decide (th < e) | none => true))).map
    (fun g => ((g.at_ (revAngle x) th).toNat, g.hold))

/-- The largest angle from `lo` on that the prediction reaches by an instant, by bisection over `n` halvings. -/
def angleBy (l : List Edge) (rev : Int) (t : Inst) : Nat → Int → Int → Int
  | 0, lo, _ => lo
  | n + 1, lo, step =>
    let mid := lo + step
    angleBy l rev t n (if predictAt l rev mid ≤ (t : Int) then mid else lo) (step / 2)

/-- The predicted angle at an instant (R221): up to 128 revolutions past the last accepted edge. -/
def predictedAngle (l : List Edge) (rev : Int) (t : Inst) : Int :=
  match l with
  | [] => 0
  | c :: _ => angleBy l rev t 52 c.angle (rev * 64)

/-- Spans that a group keeps. -/
def segDepth : Nat := 65536

/-- A new span; the newest is first. -/
def Shaft.addSeg (x : Shaft) (g : Seg) : Shaft := { x with segs := (g :: x.segs).take segDepth }

/-- End the open prediction span at an angle. -/
def Shaft.endPred (x : Shaft) (th : Int) : Shaft :=
  match x.segs with
  | g :: r => if g.stop.isNone then { x with segs := { g with stop := some th } :: r } else x
  | [] => x

/-- Prediction runs from the last accepted edge onward (R218, R219). -/
def Shaft.predict (x : Shaft) : Shaft :=
  match x.labels with
  | c :: _ => (x.endPred c.angle).addSeg { start := c.angle, edges := x.labels.take 3, pred := true, hold := true }
  | [] => x

/-! ## Judging edges -/

/-- Missing teeth of the wheel. -/
def Shaft.gap (x : Shaft) : Nat := if x.zeroKind = 1 then x.gapOrIn else 0
/-- Edges of one revolution (R200, R202). -/
def Shaft.expected (x : Shaft) : Nat := max 1 x.teeth - x.gap

/-- An interval lies within X of k times the previous one (R202); the first interval has none before it. -/
def Shaft.inside (x : Shaft) (d k : Nat) : Bool :=
  x.lastGap = 0 || (decide ((100 - x.tol) * (k * x.lastGap) ≤ 100 * d) && decide (100 * d ≤ (100 + x.tol) * (k * x.lastGap)))

/-- Speed in 2^-16 rev/s from k tooth positions in a span of time. -/
def speedOf (teeth k d : Nat) : Nat := if d = 0 then 0 else k * 65536 * 1500000000 * 4294967296 / (max 1 teeth * d)

/-- One edge in a state that counts good revolutions (R202): the group after it, and whether the edge is a zero. The
tooth position restarts at a zero. -/
def Shaft.count (x : Shaft) (t : Inst) : Shaft × Bool :=
  let d := match x.lastT with | some l => t - l | none => 0
  let first := x.lastT.isNone
  let gapped := decide (x.zeroKind = 1) && !first && decide (x.lastGap ≠ 0) && x.inside d (x.gap + 1)
    && (decide (x.edges = x.expected) || !x.inside d 1)
  let zero := match x.zeroKind with
    | 0 => true
    | 1 => gapped
    | 2 => true
    | _ => x.zeroArm
  let k := if gapped then x.gap + 1 else 1
  let fits := first || x.inside d k
  let y := { x with lastT := some t, lastGap := if first then 0 else d / k
                    speed := if first then x.speed else speedOf x.teeth k d }
  if zero then
    let good := decide (0 < x.edges) && x.okRev && fits && decide (x.edges = x.expected)
    ({ y with good := if good then x.good + 1 else 0, edges := 1, okRev := true, tooth := 0, zeroArm := false, marked := false },
     true)
  else ({ y with edges := if x.edges = 0 then 0 else x.edges + 1, okRev := x.okRev && fits, tooth := x.tooth + k }, false)

/-- What an edge did to a group, for the counters, the events and the stream entry. -/
structure Verdict where
  /-- R203: rejected, or accepted at a tooth position. -/
  rejected : Bool := false
  tooth    : Option Nat := none
  /-- A zero, with whether it carries HOLD. -/
  zero     : Option Bool := none
  /-- A deadline had passed, a revolution is missing, HOLDOVER is entered, the group returns from TIME. -/
  missEdge : Bool := false
  missRev  : Bool := false
  hold     : Bool := false
  back     : Bool := false
  deriving DecidableEq, Repr, Inhabited

/-- Tooth positions to the next edge (R203). -/
def Shaft.stride (x : Shaft) : Nat := if x.zeroKind = 1 && decide (x.tooth + x.gap + 1 = max 1 x.teeth) then x.gap + 1 else 1

/-- Label of the next edge: R + k/P, or that of the blend revolution (R204, R221). -/
def Shaft.nextLabel (x : Shaft) : Int :=
  let p : Nat := max 1 x.teeth
  let k := x.tooth + x.stride
  match x.blend with
  | some e => x.blendRev * revAngle x + k * tooth1 + e * ((p : Int) - k) / p
  | none => x.revs * revAngle x + k * tooth1

/-- Predicted time of the next edge and the predicted interval (R203). -/
def Shaft.nextEdge (x : Shaft) : Int × Int :=
  let tp := interpAt x.labels x.nextLabel
  let last : Int := match x.labels with | c :: _ => c.t | [] => 0
  (tp, tp - last)

/-- The group leaves LOCKED, or the blend revolution, for prediction (R218, R221). -/
def Shaft.lose (x : Shaft) : Shaft :=
  { x.predict with state := .holdover, good := 0, edges := 0, okRev := false, blend := none
                   predRevs := if x.state = .locked then 0 else x.predRevs }

/-- A revolution is marked missing, once (R198, R209). -/
def Shaft.miss (x : Shaft) (v : Verdict) : Shaft × Verdict :=
  let y := { x with okRev := false, marked := true }
  let v := { v with missRev := v.missRev || !x.marked }
  if x.state = .locked then (y.lose, { v with hold := true })
  else if x.blend.isSome then (y.lose, v)
  else (y, v)

/-- An edge within the window of a group that is LOCKED or in its blend revolution (R203, R204, R221). With the zero source INPUT the
zero is the first accepted edge after one of the second input (R200): at another tooth than the one due it begins a revolution, and the one
before it is missing. -/
def Shaft.accept (x : Shaft) (t : Inst) (hi : Int) : Shaft × Verdict :=
  let k := x.stride
  let lab := x.nextLabel
  let blending := x.blend.isSome
  let last := x.labels.head?.getD {}
  let newTooth := x.tooth + k
  let due := decide (max 1 x.teeth ≤ newTooth)
  let isZero := due && (decide (x.zeroKind ≠ 3) || x.zeroArm)
  let speed := speedOf x.teeth k (t - last.t)
  let labels := ({ angle := lab, t := t } :: x.labels).take 3
  let seg : Seg := { start := last.angle, stop := some lab, edges := labels, hold := blending }
  let base := x.addSeg seg
  let y := { base with labels := labels, winEnd := hi.toNat, lastT := some t, lastGap := (t - last.t) / k, speed := speed }
  let y := if isZero then
      { y with tooth := 0, revs := if blending then x.blendRev + 1 else x.revs + 1, blend := none, state := .locked
               zeroArm := false, marked := false }
    else { y with tooth := newTooth }
  let v : Verdict := { tooth := some y.tooth, zero := if isZero then some false else none }
  let slow := match x.fmin with | some f => decide (speed < f) | none => false
  let fast := match x.fmax with | some f => decide (f < speed) | none => false
  if decide (x.zeroKind = 3) && (x.zeroArm != due) then
    let (z, w) := y.miss v
    (if x.zeroArm then { z with tooth := 0, edges := 1, okRev := true, zeroArm := false, marked := false } else z, w)
  else if slow || fast then y.miss v
  else (y, v)

/-- Tooth position of an edge in HOLDOVER (R206; log entry 175): that since the last zero, or before one has come that of the predicted
angle. -/
def Shaft.heldTooth (x : Shaft) (th : Int) : Nat :=
  if x.edges = 0 then ((th + tooth1 / 2) / tooth1).toNat % max 1 x.teeth else x.tooth % max 1 x.teeth

/-- An edge in HOLDOVER (R221): it is labelled with the predicted angle, and the zero that ends the third good
revolution begins the blend revolution. -/
def Shaft.heldEdge (x : Shaft) (t : Inst) : Shaft × Verdict :=
  let src := match x.segs with | g :: _ => g.edges | [] => x.labels
  let th := predictedAngle src (revAngle x) t
  let (y, zero) := x.count t
  let y := { y with labels := ({ angle := th, t := t } :: y.labels).take 3 }
  if zero && decide (3 ≤ y.good) then
    let rev := revAngle x
    let r := (th + rev / 2) / rev
    let y := { (y.endPred th) with blend := some (th - r * rev), blendRev := r.toNat, tooth := 0, good := 0, winEnd := 0 }
    (y, { tooth := some 0 })
  else (y, { tooth := some (y.heldTooth th) })

/-- Accepted edges of the revolution that has just ended keep their labels (R204). -/
def Shaft.keepRev (x : Shaft) : Shaft :=
  { x with labels := x.labels.filter (fun e => decide (((x.revs : Int) - 1) * revAngle x ≤ e.angle)) }

/-- An edge in ACQUIRE: the third good revolution locks the group with the revolution count 0 (R202, R204). -/
def Shaft.acquireEdge (x : Shaft) (t : Inst) : Shaft × Verdict :=
  let (y, zero) := x.count t
  let shifted := if zero then x.labels.map (fun e => { e with angle := e.angle - revAngle x }) else x.labels
  let y := { y with labels := ({ angle := y.tooth * tooth1, t := t } :: shifted).take 3 }
  if zero && decide (3 ≤ y.good) then
    let z := ({ y with revs := 0 } : Shaft).keepRev
    ({ z with state := .locked, good := 0, winEnd := 0, segs := [] }, { zero := some false })
  else (y, {})

/-- An edge in TIME (R223): zeros go on counting revolutions; three good ones lock the group under AUTO, and allow the
return under COMMAND. -/
def Shaft.timeEdge (x : Shaft) (t : Inst) : Shaft × Verdict :=
  let (y, zero) := x.count t
  let revs := if zero then x.revs + 1 else x.revs
  let y := { y with revs := revs, labels := ({ angle := revs * revAngle x + y.tooth * tooth1, t := t } :: x.labels).take 3 }
  if zero && decide (3 ≤ y.good) then
    if x.command then ({ y with mayReturn := true }, {})
    else
      let z := y.keepRev
      ({ z with state := .locked, good := 0, winEnd := 0, segs := [], returnAt := true }, { zero := some false, back := true })
  else (y, {})

/-- A confirmed edge reaches a shaft group. In LOCKED and in the blend revolution R203 judges it: before the window, or in
the window of the last accepted edge, it is rejected; after it, its deadline has passed. -/
def Shaft.edge (x : Shaft) (t : Inst) : Shaft × Verdict :=
  match x.state with
  | .off => (x, {})
  | .acquire => x.acquireEdge t
  | .time => x.timeEdge t
  | .holdover =>
    if x.blend.isNone then x.heldEdge t
    else
      let (tp, d) := x.nextEdge
      let hi := tp + d * x.tol / 100
      if (t : Int) * 100 < tp * 100 - d * x.tol || t ≤ x.winEnd then (x, { rejected := true })
      else if hi < t then
        let (y, v) := x.lose.heldEdge t
        (y, { v with missEdge := true })
      else x.accept t hi
  | .locked =>
    let (tp, d) := x.nextEdge
    let hi := tp + d * x.tol / 100
    if (t : Int) * 100 < tp * 100 - d * x.tol || t ≤ x.winEnd then (x, { rejected := true })
    else if hi < t then
      let (y, v) := x.lose.heldEdge t
      (y, { v with missEdge := true, hold := true })
    else x.accept t hi

/-! ## Streams and events -/

/-- Key of the tach stream of input or group n: instance 0 the edges, 1 the zeros (R205). -/
def tachStream (n inst : Nat) : Nat := streamKey (896 + n) 6 inst

/-- Short time and fraction of an entry (R206). -/
def tachTime (t : Inst) : List Byte := leBytes 4 (shortTime t) ++ leBytes 2 (ttOf t).frac

/-- A once-per-revolution event (R205): stream entry, triggers, statistics. `code` is the identity that decoded. -/
def zeroEvent (g : Nat) (t : Inst) (hold : Bool) (code : Option Nat) (s : State) : State :=
  let x := s.shaft g
  let fl := (if hold then 1 else 0) + (match code with | some i => 2 + 4 * i | none => 0)
  let body := tachTime t ++ leBytes 2 fl ++ leBytes 4 x.revs ++ leBytes 4 x.speed
  let item : Item := { t := t, fl := if hold then flHOLD else 0, body := body }
  zeroStats g t x.revs (zeroFires g t (emitItem (tachStream g 1) item [] false s))

/-- Handle of a shaft group. -/
def hShaft (g : Nat) : Nat := handleOf 0x08 g

/-- Order of a shaft state in R201. -/
def shaftCode : ShaftState → Nat
  | .off => 0 | .acquire => 1 | .locked => 2 | .holdover => 3 | .time => 4

/-- The counters and events that a verdict brings. -/
def shaftResult (g : Nat) (t : Inst) (code : Option Nat) (x : Shaft) (v : Verdict) (s : State) : State :=
  let old := (s.shaft g).state
  let broken := (s.shaft g).blend.isSome && x.blend.isNone && decide (x.state = .holdover)
  let s := s.modShaft g (fun _ => x)
  let s := when v.rejected (bump (ctrKey 8 g 5 0)) s
  let s := when v.missEdge (bump (ctrKey 8 g 6 0)) s
  let s := when v.missRev (bump (ctrKey 8 g 7 0)) s
  let s := when v.hold (bump (ctrKey 8 g 8 0)) s
  let s := when v.back (post pApp 0x0401 (hShaft g) [vU (shaftCode old), vU (shaftCode x.state), vU x.revs]) s
  let s := match v.zero with | some h => zeroEvent g t h code s | none => s
  if decide (x.state ≠ old) || broken then sendDecision (.shaft g x.state x.revs x.okRev) s else s

/-- A group judges an edge; the active member of a pair first sends its partner an accepted one, with the identity decoded and whether
the second input makes it a zero (R227). -/
def shaftEdge (g : Nat) (t : Inst) (code : Option Nat) (s : State) : State × Verdict :=
  let x := s.shaft g
  let (y, v) := x.edge t
  let s := if v.rejected || decide (x.state = .off) then s else sendDecision (.tachEdge g t code x.zeroArm) s
  (shaftResult g t code y v s, v)

/-- Mark the revolution of a group missing (R209, R210). -/
def missRevolution (g : Nat) (s : State) : State :=
  let x := s.shaft g
  if x.state = .off then s
  else
    let (y, v) := x.miss {}
    let s := shaftResult g s.now none y v s
    if y.state = x.state then sendDecision (.shaft g y.state y.revs y.okRev) s else s

/-- The window of the next edge is over, the transport allowance included (R203, R207). -/
def Shaft.deadline (x : Shaft) : Nat :=
  let (tp, d) := x.nextEdge
  (tp + d * x.tol / 100).toNat + nsSpan (x.allow * 1000)

/-- A group predicts its next edge (R203, R221). -/
def Shaft.awaits (x : Shaft) : Bool := x.state = .locked || (x.state = .holdover && x.blend.isSome)

/-- An edge that a group awaits is missing (R203, R218); one in CODE mode breaks the run of like identities of its input (R209). -/
def loseEdge (g : Nat) (s : State) : State :=
  let x := s.shaft g
  let s := shaftResult g (x.deadline - nsSpan (x.allow * 1000)) none x.lose { missEdge := true, hold := decide (x.state = .locked) } s
  if x.zeroKind = 2 then s.modTach (x.source.getD g) (fun y => { y with lastId := 128, idRun := 0 }) else s

/-- The tach input from which a group takes its edges; none for a remote stream (R199). -/
def sourceInput (s : State) (g : Nat) : Option Nat :=
  match (s.shaft g).source with
  | none => some g
  | some n => if n < 32 then some n else none

/-- The groups in order that meet a condition. -/
def groupsWith (f : Nat → Bool) : List Nat := (List.range 32).filter f

/-- The groups that judge the edges of an input. -/
def groupsOf (s : State) (n : Nat) : List Nat :=
  groupsWith (fun g => (s.shaft g).on && decide (sourceInput s g = some n))

/-! ## Marker codes (R208 to R210) -/

/-- The groups in CODE mode of an input. -/
def codeGroups (s : State) (n : Nat) : List Nat := (groupsOf s n).filter (fun g => decide ((s.shaft g).zeroKind = 2))

/-- Time of one unit u at the speed of the preceding zero (R208); 0 when no group of the input has a speed. -/
def codeUnit (s : State) (n : Nat) : Nat :=
  let f := ((codeGroups s n).map (fun g => (s.shaft g).speed)).headD 0
  if f = 0 then 0 else (s.tach n).codeU * 16 * 1500000000 * 4294967296 / f

/-- The instance-0 entry of a confirmed active edge (R206). -/
def emitEdge (n : Nat) (e : Inst × Bool × Nat) (v : Verdict) (s : State) : State :=
  let fl := (if (s.tach n).falling then 0 else 1) + (if v.rejected then 2 else 0) + (if e.2.1 then 4 else 0)
  let body := tachTime e.1 ++ leBytes 2 fl ++ leBytes 4 e.2.2 ++ leBytes 4 (v.tooth.getD 0xFFFFFFFF)
  emitItem (tachStream n 0) { t := e.1, body := body } [] false s

/-- The entries that waited for a code are written: the start stripe's with its verdict, and those of edges that no group judges
(R206, R211). -/
def flushEdges (n : Nat) (v : Verdict) (s : State) : State :=
  let l := (s.tach n).waiting
  let s := s.modTach n (fun x => { x with waiting := [] })
  match l with
  | [] => s
  | e :: r => each r (fun e s => emitEdge n e {} s) (emitEdge n e v s)

/-- The entry of an active edge: at once, or once the code that it may begin has been read (R206, R211). -/
def edgeEntry (n : Nat) (t : Inst) (near : Bool) (v : Verdict) (s : State) : State :=
  let x := s.tach n
  let e := (t, near, x.edgeCount)
  if x.decoder.isSome && (codeGroups s n).contains n then s.modTach n (fun x => { x with waiting := x.waiting ++ [e] })
  else emitEdge n e v s

/-- A code aborts: counted, and the revolution is missing (R209), so that it breaks a run of like identities. -/
def abortCode (n : Nat) (s : State) : State :=
  let s := bump (ctrKey 7 n 2 0) (s.modTach n (fun x => { x with decoder := none, lastId := 128, idRun := 0 }))
  let s := flushEdges n {} s
  if follows s then s else each (codeGroups s n) missRevolution s

/-- Groups in CODE mode judge the leading edge of a start stripe; the verdict of the input's own group (R206). -/
def judgeCode (n : Nat) (t : Inst) (code : Nat) (s : State) : State × Verdict :=
  (codeGroups s n).foldl (fun (a : State × Verdict) g =>
    let judged := decide ((a.1.shaft g).state = .locked) || decide ((a.1.shaft g).state = .holdover)
    let (s, v) := shaftEdge g t (some code) a.1
    (s, if g = n && judged then v else a.2)) (s, {})

/-- A code is not read on, because a setting of its input has changed (R226): a zero edge whose deadline has passed while it was
provisional is missing then (R203). -/
def dropCode (n : Nat) (s : State) : State :=
  if (s.tach n).decoder.isNone then s
  else
    let s := flushEdges n {} (s.modTach n (fun x => { x with decoder := none, lastId := 128, idRun := 0 }))
    if follows s then s
    else each (codeGroups s n) (fun g s => if (s.shaft g).awaits && decide ((s.shaft g).deadline < s.now) then loseEdge g s else s) s

/-- Some group of an input has waited in vain for the zero of a code that starts at an instant (R203, R209). -/
def codeLate (s : State) (n : Nat) (t : Inst) : Bool :=
  (codeGroups s n).any (fun g => (s.shaft g).awaits &&
    (let (tp, d) := (s.shaft g).nextEdge
     decide (tp + d * (s.shaft g).tol / 100 < (t : Int))))

/-- An identity decoded: the expected one gives the zero, at the leading edge of the start stripe; another is counted
and marks the revolution missing. ANY is replaced after three alike (R209). -/
def codeDone (n : Nat) (d : Decoder) (s : State) : State :=
  let x := s.tach n
  let run := if x.lastId = d.bits && !codeLate s n d.start then x.idRun + 1 else 1
  let learn := if x.expect = 128 && x.learned.isNone && decide (3 ≤ run) then some d.bits else x.learned
  let s := s.modTach n (fun y => { y with decoder := none, lastId := d.bits, idRun := run, learned := learn })
  let want := if x.expect < 128 then some x.expect else x.learned
  let wrong := match want with | some w => decide (w ≠ d.bits) | none => false
  if wrong then
    let s := flushEdges n {} (bump (ctrKey 7 n 4 0) s)
    if follows s then s else each (codeGroups s n) missRevolution s
  else if follows s then flushEdges n {} s
  else
    let (s, v) := judgeCode n d.start d.bits s
    flushEdges n v s

/-- A stripe begins that may be a start stripe (R208). -/
def startCode (n : Nat) (t : Inst) (s : State) : State :=
  let d : Decoder := { start := t, elemAt := t, unit := codeUnit s n }
  s.modTach n (fun x => { x with decoder := some d })

/-- One confirmed transition, to a stripe or to a gap, through the decoder (R208); stripe level is the level that the active edge leads
to (log entry 149). A stripe after a gap that aborts the code may begin the next one (R210). -/
def decode1 (n : Nat) (stripe : Bool) (t : Inst) (s : State) : State :=
  match (s.tach n).decoder with
  | none => if stripe then startCode n t s else s
  | some d =>
    let w := t - d.elemAt
    let u := if d.unit = 0 then w / 3 else d.unit
    if stripe then
      if u ≤ 2 * w && 2 * w < 3 * u && t - d.start ≤ 26 * u then
        s.modTach n (fun x => { x with decoder := some { d with elemAt := t, stripe := true } })
      else startCode n t (abortCode n s)
    else if d.stripes = 0 then
      if d.unit = 0 || (5 * u ≤ 2 * w && 2 * w < 7 * u) then
        s.modTach n (fun x => { x with decoder := some { d with elemAt := t, stripe := false, stripes := 1, unit := u } })
      else abortCode n s
    else if u ≤ 2 * w && 2 * w < 5 * u && t - d.start ≤ 26 * u then
      let bits := d.bits + (if 3 * u ≤ 2 * w then 2 ^ (d.stripes - 1) else 0)
      let d := { d with elemAt := t, stripe := false, stripes := d.stripes + 1, bits := bits }
      if d.stripes = 8 then codeDone n d s else s.modTach n (fun x => { x with decoder := some d })
    else abortCode n s

/-! ## Inputs -/

/-- A tach input or shaft group number. -/
def isTach (n : Nat) : Bool := decide (n < 32)

/-- A timestamp: the instant to 8 fraction bits of a cycle (R196). -/
def stamp8 (t : Inst) : Inst := t / 16777216 * 16777216

/-- An active edge feeds the groups: it arms those whose second input this is, and the groups it sources judge it; the
verdict of group n goes into the stream entry (R200, R206). A standby member has all this from the active one (R227). -/
def feedGroups (n : Nat) (t : Inst) (s : State) : State × Verdict :=
  if follows s || (s.tach n).flooded then (s, {})
  else
    let s := each (groupsWith (fun g => (s.shaft g).on && decide ((s.shaft g).zeroKind = 3) && decide ((s.shaft g).gapOrIn = n)))
      (fun g s => s.modShaft g (fun x => { x with zeroArm := true })) s
    ((groupsOf s n).filter (fun g => decide ((s.shaft g).zeroKind ≠ 2))).foldl (fun (a : State × Verdict) g =>
      let judged := decide ((a.1.shaft g).state = .locked) || decide ((a.1.shaft g).state = .holdover)
      let (s, v) := shaftEdge g t none a.1
      (s, if g = n && judged then v else a.2)) (s, {})

/-- The settings of a tach input (R193). -/
def Tach.settings (x : Tach) : TachSet :=
  { falling := x.falling, glitch := x.glitch, codeOn := x.codeOn, codeU := x.codeU, expect := x.expect, pin := x.pin }
/-- A tach input with other settings. -/
def Tach.under (x : Tach) (k : TachSet) : Tach :=
  { x with falling := k.falling, glitch := k.glitch, codeOn := k.codeOn, codeU := k.codeU, expect := k.expect, pin := k.pin }

/-- Two settings read codes alike. -/
def TachSet.readsAs (a b : TachSet) : Bool := a.codeOn = b.codeOn && a.codeU = b.codeU && a.falling = b.falling

/-- What becomes of the open pulse is judged by the settings under which it opened, and a code that it begins under others is not read
on (R226); the field pin is that of the routing in force (R197). -/
def asOpened (n : Nat) (f : State → State) (s : State) : State :=
  let x := s.tach n
  match x.before with
  | none => f s
  | some k =>
    let k := { k with pin := x.pin }
    let s := f (s.modTach n (fun x => { x.under k with before := none }))
    let s := if k.readsAs x.settings then s else dropCode n s
    s.modTach n (fun y => if y.opened = x.opened && x.opened.isSome then { y.under x.settings with before := some k } else y.under x.settings)

/-- The open pulse is confirmed (R195 to R198). -/
def confirmPulse (n : Nat) (s : State) : State :=
  match (s.tach n).opened with
  | none => s
  | some t0 =>
    let x := s.tach n
    let t := stamp8 t0
    let active := x.level != x.falling
    let s := s.modTach n (fun y => { y with confirmed := y.level, opened := none, glitchAdj := false,
                                            flooded := y.flooded && active })
    let s := match x.pin with | some p => drivePin p x.level s | none => s
    let s := if x.codeOn && !(s.tach n).flooded then decode1 n active t s else s
    if active then
      let s := bump (ctrKey 7 n 0 0) (s.modTach n (fun y => { y with edgeCount := (y.edgeCount + 1) % 2 ^ 32 }))
      let (s, v) := feedGroups n t s
      edgeEntry n t x.glitchAdj v s
    else s

/-- The glitch filter W of an input as a span. -/
def glitchSpan (x : Tach) : Nat := nsSpan (10 * x.glitch)

/-- Output of the comparator of an input at a difference V(TACH_P) − V(TACH_N) in µV (R194): threshold and hysteresis are held in steps
of 5 mV. -/
def Tach.compare (x : Tach) (uv : Int) : Bool :=
  if x.level then decide (5000 * x.threshold - 2500 * (x.hysteresis : Int) ≤ uv)
  else decide (5000 * x.threshold + 2500 * (x.hysteresis : Int) < uv)

/-- The comparator changes to a level: that opens a pulse; a pulse shorter than W is removed and counted (R195). -/
def openPulse (n : Nat) (t : Inst) (high : Bool) (s : State) : State :=
  match (s.tach n).opened with
  | none => s.modTach n (fun x => { x with level := high, opened := some t })
  | some t0 =>
    if t - t0 < glitchSpan (s.tach n) then
      bump (ctrKey 7 n 1 0) (s.modTach n (fun x => { x with level := high, opened := none, glitchAdj := true }))
    else (confirmPulse n s).modTach n (fun x => { x with level := high, opened := some t })

/-- TACH_TRANSITION (R194, R195): the input's difference at an instant, in µV, takes the comparator over its threshold or not. -/
def execTachTransition (n : Nat) (uv : Int) (t : Inst) (s : State) : Out :=
  let s := touch t s
  event (isTach n) <|
    let high := (s.tach n).compare uv
    if (s.tach n).level = high then s else asOpened n (openPulse n t high) s

/-- TACH_EDGE_CONFIRMED (R195): W after its opening transition, a pulse is confirmed. -/
def execTachEdgeConfirmed (n : Nat) (s : State) : Out :=
  event (isTach n) <|
    match (s.tach n).opened with
    | some t0 => asOpened n (fun s => confirmPulse n (touch (t0 + glitchSpan (s.tach n)) s)) s
    | none => s

/-- EDGE_DEADLINE (R203, R207, R211, R218): the window has ended without an acceptable edge; a code in progress that began
in the window keeps its zero edge provisional. -/
def execEdgeDeadline (g : Nat) (s : State) : Out :=
  event (isTach g) <|
    let x := s.shaft g
    if follows s || !x.awaits then s
    else
      let (tp, d) := x.nextEdge
      let inCode := decide (x.zeroKind = 2) && (match (sourceInput s g).bind (fun n => (s.tach n).decoder) with
        | some c => decide (tp * 100 - d * x.tol ≤ (c.start : Int) * 100)
        | none => false)
      if inCode then s else loseEdge g (touch x.deadline s)

/-- CODE_TIMEOUT (R209): a code not complete within 26 u aborts. -/
def execCodeTimeout (n : Nat) (s : State) : Out :=
  event (isTach n) <| if (s.tach n).decoder.isSome then abortCode n s else s

/-- CODE_FLOOD (R210): counted, a code in progress aborts, the revolution is missing, the group enters HOLDOVER, and no
edge is accepted while the input stays flooded. -/
def execCodeFlood (n : Nat) (s : State) : Out :=
  event (isTach n) <|
    if !(s.tach n).codeOn then s
    else
      let s := if (s.tach n).decoder.isSome then abortCode n s else s
      let s := bump (ctrKey 7 n 3 0) (s.modTach n (fun x => { x with flooded := true, lastId := 128, idRun := 0 }))
      if follows s then s else each (codeGroups s n) missRevolution s

/-- SHAFT_FALLBACK (R222): after 64 predicted revolutions the group enters TIME; its chains change at the next boundary. -/
def execShaftFallback (g : Nat) (s : State) : Out :=
  event (isTach g) <|
    let x := s.shaft g
    if follows s || x.state ≠ .holdover || x.predRevs < 64 then s
    else
      let s := s.modShaft g (fun x => { x with state := .time, good := 0, edges := 0, blend := none, fellBack := true, mayReturn := false })
      let s := bump (ctrKey 8 g 9 0) s
      let s := post pApp 0x0401 (hShaft g) [vU 3, vU 4, vU x.revs] s
      sendDecision (.shaft g .time x.revs false) s

/-- In HOLDOVER the prediction, or the blend revolution, reaches the angle of the next zero: a predicted revolution is over (R205, R220,
R222; log entry 151). -/
def predictedZero (g : Nat) (s : State) : State :=
  let x := s.shaft g
  let due := decide (x.state = .holdover) && (x.blend.isNone || decide (x.revs < x.blendRev))
  if !due then s
  else
    let th := ((x.revs : Int) + 1) * revAngle x
    let t := match angleInstant x th with
      | some (t, _) => t
      | none => (interpAt x.labels th).toNat
    let s := touch t s
    let s := s.modShaft g (fun x => { x with revs := x.revs + 1, predRevs := x.predRevs + 1, marked := false })
    sendDecision (.zero g) (zeroEvent g t true none s)

/-- PREDICTED_ZERO (R205, R220, R227): a standby member has its zeros from the active one. -/
def execPredictedZero (g : Nat) (s : State) : Out :=
  event (isTach g) <| if follows s then s else predictedZero g s

/-- Edges of a remote tach stream reach the groups whose source it is (R207). -/
def remoteEdges (gsi : Nat) (ts : List Inst) (s : State) : State :=
  if follows s then s
  else each (groupsWith (fun g => (s.shaft g).on && decide ((s.shaft g).source = some gsi)))
    (fun g s => each ts (fun t s => (shaftEdge g t none s).1) s) s

/-- The context from which a packed record of another hub is unpacked: a reset one where it is INDEPENDENT, else the one left by the record
before it, of the same generation (R378). -/
def rxStart (s : State) (gsi : Nat) (p : PackedIn) : Option SpkCtx :=
  let gen := p.tag % 2 ^ 31
  if 2 ^ 31 ≤ p.tag then some (resetCtx (kindOf gsi) gen p.first false)
  else match s.str.rxCtx.get gsi with
    | some c => if c.nextSeq = p.first && decide (c.generation = gen) then some c else none
    | none => none

/-- The job that unpacks a packed record (R380). -/
def rxJob (gsi : Nat) (p : PackedIn) : JobIn :=
  { op := 2, kind := kindOf gsi, count := p.count, firstSeq := p.first, input := p.payload, outBytes := 4 * p.count, outLimit := p.count }

/-- A packed record of another hub is unpacked and its context kept, or refused with reason CONTEXT (R378, R380). -/
def takePacked (gsi seqLo : Nat) (p : PackedIn) (s : State) : State :=
  match rxStart s gsi p with
  | none => { s with str := { s.str with rxRefused := s.str.rxRefused + 1 } }
  | some c =>
    let o := unpackJob (rxJob gsi p) (blockLens p.count p.first p.count) (bitsOfBytes p.payload) 0 0 [] [] c
    let s := { s with str := { s.str with received := (gsi, seqLo) :: s.str.received } }
    if o.status = .done then
      { s with str := { s.str with rxCtx := s.str.rxCtx.set gsi (some o.ctx), rxData := s.str.rxData.set gsi (o.out ++ o.stats) } }
    else { s with str := { s.str with rxRefused := s.str.rxRefused + 1 } }

/-- A complete record that has not been received before. -/
def takeRecord (gsi seqLo : Nat) (x : DataIn) (s : State) : State :=
  match x.packed with
  | some p => takePacked gsi seqLo p s
  | none => remoteEdges gsi x.edges { s with str := { s.str with received := (gsi, seqLo) :: s.str.received } }

/-- DATA (R472): segments of one record in order; anything else discards the record so far and counts it. The first copy
of each (GSI, FIRST_SEQ) is kept (R341, R523). -/
def execDataFrame (src gsi sub : Nat) (first last : Bool) (offset seqLo bytes : Nat) (x : DataIn) (s : State) : Out :=
  let k := (src * 65536 + sub) * 4294967296 + gsi
  let have_ := s.str.partials.get k
  let expected := if first then 0 else have_
  .next <|
    if offset ≠ expected || (!first && (have_ = 0 || s.str.partSeq.get k ≠ seqLo)) then
      { s with str := { s.str with partials := s.str.partials.set k 0, discarded := s.str.discarded + 1 } }
    else if last then
      let s := { s with str := { s.str with partials := s.str.partials.set k 0 } }
      if s.str.received.contains (gsi, seqLo) then s else takeRecord gsi seqLo x s
    else { s with str := { s.str with partials := s.str.partials.set k (offset + bytes), partSeq := s.str.partSeq.set k seqLo } }

end Sys2Proof.Machine
end

