-- ==== Sys2Proof/Machine/Chains.lean ====
section
/-! DEFINITION. The tile links and the chains (R101 to R109, R129, R130 of 03; 04; R186 to R191, R214 to R216 of 05):
codes enter C1, words move through the stages, and finished samples reach the streams, statistics and triggers. -/

namespace Sys2Proof.Machine

/-! ## Stages -/

/-- The shift in use at a stage (order of R140: C1 0, W1 1, W2 2, W3 3, L1 4, L2 5, L3 6, LH 7, LR 8, LT 9, LN 10, E1 11,
E2 12, E3 13, ER 14). -/
def shiftAt (c : ChainCfg) (stage dflt : Nat) : Nat := (c.shifts.get stage).getD dflt

/-- The sum of taps and words, newest first; missing words are 0. -/
def dot (taps : List Int) (h : List Samp) : Int := ((taps.zip h).map (fun p => p.1 * p.2.v)).sum

/-- Words that a stage of a pipe holds. -/
def Pipe.words (p : Pipe) (key : Nat) : List Samp := p.hist.get key

/-- A word enters a stage of n taps: its history after it. -/
def Pipe.push (p : Pipe) (key n : Nat) (x : Samp) : Pipe := { p with hist := p.hist.set key ((x :: p.words key).take n) }

/-- A word enters a decimating FIR stage: `half` is half its span and `pout` its output period in cycles; the output, if
one falls here, lies at the centre of the taps (R27, R141, R173). -/
def Pipe.fir (p : Pipe) (key : Nat) (taps : List Int) (w shift half pout : Nat) (x : Samp) : Pipe × Option Samp :=
  let p := p.push key taps.length x
  let e := x.idx - half
  if e % (pout : Int) = 0 then
    let h := p.words key
    (p, some (stageWord w shift e (dot taps h) (orFlags h)))
  else (p, none)

/-- Words that LR keeps, `cap` at least: those that its next output still needs stay (R189). -/
def keepIn (need : Option Int) (cap : Nat) (l : List Samp) : List Samp :=
  l.take cap ++ (match need with
    | none => []
    | some n => (l.drop cap).takeWhile (fun x => decide (n ≤ x.idx)))

/-- Instant, on LR's or ER's input, before which the next output in time mode needs no word. -/
def needFrom (j : Option Nat) (span d : Nat) : Option Int := j.map (fun j => ((j * span / 4294967296 : Nat) : Int) - 26 * (d : Int))

/-- E1, E2 and E3 on a word of the tap point (R160 to R168). -/
def envelope (s : State) (m : Nat) (c : ChainCfg) (p : Pipe) (x : Samp) : Pipe :=
  let tap := (bandTap c.band).1
  let per := tapPeriod tap
  match p.fir 18 (bandTaps c.band) 32 (shiftAt c 11 17) (127 * per) per x with
  | (p, none) => p
  | (p, some a) =>
    let p := p.push 19 127 a
    let h := p.words 19
    let i := (h.getD 63 {}).v
    let q := rshift (dot hilbert h) 17
    let e2 := stageWord 32 (shiftAt c 12 0) (a.idx - 63 * per) (rootRound (i.natAbs * i.natAbs + q.natAbs * q.natAbs) : Nat) (orFlags h)
    let me := ebExp s m
    let len := 2 ^ me
    let half := ((3 * (len - 1)) / 2) * per
    match p.fir 20 (movingAverage 3 len) 32 (shiftAt c 13 (3 * me)) half (per * len) e2 with
    | (p, none) => p
    | (p, some y) => { p with erIn := keepIn (needFrom p.erJ (erSpan s m) (erRatio s m)) (max 128 ((c.ebBind.map (·.words)).getD 0)) (y :: p.erIn) }

/-- A word of the LB path at tap point `tap` feeds the envelope when the band uses it. -/
def tapTo (s : State) (m : Nat) (c : ChainCfg) (tap : Nat) (x : Samp) (p : Pipe) : Pipe :=
  if c.ebOn then (if (bandTap c.band).1 = tap then envelope s m c p x else p) else p

/-- LH stages k to 10 on a word of stage k - 1; the chain's own count gives the input of LR, and stages 1 to 3 the tap
points H1 to H3 (R152, R160, R161). -/
def halveFrom (s : State) (m : Nat) (c : ChainCfg) : Nat → Nat → Samp → Pipe → Pipe
  | 0, _, _, p => p
  | n + 1, k, x, p =>
    match p.fir (7 + k) hb47B 32 (shiftAt c 7 17) (23 * 2 ^ (10 + k)) (2 ^ (11 + k)) x with
    | (p, none) => p
    | (p, some y) =>
      let p := if k ≤ 3 then tapTo s m c (k + 1) y p else p
      let p := if k = lhCount s m then { p with lrIn := keepIn (needFrom p.lrJ (lrSpan s m) (lrRatio s m)) (max 128 ((c.lbBind.map (·.words)).getD 0)) (y :: p.lrIn) } else p
      halveFrom s m c n (k + 1) y p

/-- A C1 word of the LB path through L1, L2, L3 and LH (R151, R152). -/
def lowPath (s : State) (m : Nat) (c : ChainCfg) (x : Samp) (p : Pipe) : Pipe :=
  match p.fir 5 tapsL1 32 (shiftAt c 4 8) 300 128 x with
  | (p, none) => p
  | (p, some a) =>
    let p := tapTo s m c 0 a p
    match p.fir 6 tapsL2 32 (shiftAt c 5 12) 1792 1024 a with
    | (p, none) => p
    | (p, some b) =>
      match p.fir 7 tapsL3 32 (shiftAt c 6 33) 31744 2048 b with
      | (p, none) => p
      | (p, some y) => halveFrom s m c 10 1 y (tapTo s m c 1 y p)

/-- Outputs of WB that may wait. -/
def wbDepth : Nat := 128

/-- A WB word finished at its chain's rate waits until it is available (R176). -/
def Pipe.wbDone (p : Pipe) (x : Samp) : Pipe := { p with wbOut := (p.wbOut ++ [x]).drop (p.wbOut.length + 1 - wbDepth) }

/-- A C1 word of the WB path through W1, W2 and the W3 stages of the WB rate (R148, R149). -/
def widePath (c : ChainCfg) (x : Samp) (p : Pipe) : Pipe :=
  match p.fir 1 tapsW1 32 (shiftAt c 1 0) 16 16 x with
  | (p, none) => p
  | (p, some a) =>
    match p.fir 2 tapsW2 32 (shiftAt c 2 33) 752 32 a with
    | (p, none) => p
    | (p, some b) =>
      if c.wbRate = 0 then p.wbDone b
      else
        match p.fir 3 hb47A 32 (shiftAt c 3 17) 736 64 b with
        | (p, none) => p
        | (p, some d) =>
          if c.wbRate = 1 then p.wbDone d
          else
            match p.fir 4 hb47A 32 (shiftAt c 3 17) 1472 128 d with
            | (p, none) => p
            | (p, some y) => p.wbDone y

/-- Codes that C1 holds: its 29 taps and 7 more, so that an overload run is known before its first code is used. -/
def c1Depth : Nat := 36

/-- A C1 output at grid cycle E: 29 codes centred on the code cycle E + 4, newest first from the 8th (R147, R173). Codes
are held in 1/4,096 of a level. -/
def c1Out (c : ChainCfg) (p : Pipe) (e : Int) : Samp :=
  let h := (p.words 0).drop 7
  stageWord 17 (shiftAt c 0 0) e (rshift (dot tapsC1 h) 12) (orFlags (h.take 29))

/-- The chain settings at a cycle: those before the first change after it (R178). -/
def Pipe.cfgAt (p : Pipe) (c : ChainCfg) (cyc : Nat) : ChainCfg :=
  ((p.former.reverse.find? (fun f => decide (cyc < f.at_))).map (·.cfg)).getD c

/-- The stages that a change at a boundary cleared stay clear of words from before the boundary (R178): 100 and 101 are the inputs of
LR and ER. -/
def Pipe.clearStale (l : List Nat) (p : Pipe) : Pipe :=
  { p with hist := l.foldl (fun h k => h.set k []) p.hist
           lrIn := if l.contains 100 then [] else p.lrIn, erIn := if l.contains 101 then [] else p.erIn }

/-- A code enters C1 (R147); C1's output feeds the WB path at cycles 8n and the LB path at cycles 8n + 4, which is where
the delays of R174 place it (notes/assumptions/14.md). -/
def codeTo (s : State) (m : Nat) (x : Samp) (loaded : Bool) (p : Pipe) : Pipe :=
  let c := s.chain m
  let l := (x :: p.words 0).take c1Depth
  let l := if loaded then (l.take 8).map (fun y => { y with fl := y.fl ||| flOVR }) ++ l.drop 8 else l
  let p := { p with hist := p.hist.set 0 l }
  let e := x.idx - 25
  if e % 8 = 0 then
    let y := c1Out c p e
    let p := if anyFlag y.fl flXCAL then p else { p with c1Hold := rshift y.v 0 }
    widePath c y p
  else if e % 8 = 4 then lowPath s m c (c1Out c p e) p
  else p

/-- A code enters the chains under the settings of its own cycle: the words that C1's look-ahead of 7 codes holds back from before a
change still go by the settings before it, and to no stage that the change has cleared (R178). -/
def codeIn (s : State) (m : Nat) (x : Samp) (loaded : Bool) (p : Pipe) : Pipe :=
  match p.former with
  | [] => codeTo s m x loaded p
  | f :: _ =>
    if x.idx - 7 < (f.at_ : Int) then
      (codeTo (s.modChain m (fun _ => p.cfgAt (s.chain m) (x.idx - 7).toNat)) m x loaded p).clearStale f.stale
    else codeTo s m x loaded p

/-! ## Tile-link words (R101 to R105, R107, R109) -/

/-- The gain stage settles at the cycle of a code (R71): from a range change's boundary for 2 µs of the input, whose codes come four
cycles later (R172). -/
def gainSettles (c : Channel) (cycle : Nat) : Bool := decide (c.gainTo ≤ cycle + 3000) && decide (cycle < c.gainTo)

/-- The flags of the analogue instant at a modulator's input: span (R52), reference (R98, R99), excitation (R77, R79). -/
def analogFlags (s : State) (m : Nat) : BitVec 8 :=
  let t := s.tile (tileOf m)
  flagIf (t.settling || t.refFault) flSETL |||
    match channelOf s m with
    | none => 0
    | some ch => flagIf ((s.chan ch).outP || (s.chan ch).outN) flOVR ||| flagIf (s.group (groupOf ch)).extNow flEXT

/-- The analogue flags of four cycles before a cycle, of which `now` are those at it (R172). -/
def Modulator.flagsAt (x : Modulator) (cycle : Nat) (now : BitVec 8) : BitVec 8 :=
  ((x.line.find? (fun p => decide (p.1 + 4 ≤ cycle))).map (·.2)).getD now

/-- The flags that a code of a modulator brings into the chains at a cycle: those of the analogue instant, four cycles earlier (R172),
and those of the code itself. `held` says that an interrupted stop replaces the input (R129), so that a setting which changes in it
changes no sample (R131). -/
def codeFlags (s : State) (m cycle : Nat) (poisoned held : Bool) : BitVec 8 :=
  let x := s.modu m
  x.flagsAt cycle (analogFlags s m) ||| flagIf x.resetting flOVR |||
    match channelOf s m with
    | none => flagIf (poisoned || (s.spare m).state = .failed) flSUB
    | some ch => flagIf (poisoned || (s.chan ch).resetSub) flSUB ||| flagIf (!held && gainSettles (s.chan ch) cycle) flSETL

/-- The last interrupted stop of the channel whose modulator this is takes in a cycle (R129, R136): from B to B + 250 µs of the
input. -/
def inStop (s : State) (m cycle : Nat) : Bool :=
  match channelOf s m with
  | some ch =>
    decide (mainMod s ch = m) && (match (s.chan ch).lastStop with
      | some b => decide (b * Config.swathCycles + 4 ≤ cycle) && decide (cycle < (b + 2) * Config.swathCycles + 4)
      | none => false)
  | none => false

/-- A chain of a modulator that still delivers by earlier settings is the chain in force, with its shaft group as it was, as its own
samples are formed. -/
def asTail (m : Nat) (t : Tail) (s : State) : State :=
  let s := (s.modChain m (fun _ => t.cfg)).modPipe m (fun _ => t.pipe)
  match t.shaft with
  | some (g, x) => s.modShaft g (fun _ => x)
  | none => s

/-- A code enters the chains of a modulator, and those that still deliver by earlier settings. -/
def feedCode (m : Nat) (w : Samp) (loaded : Bool) (s : State) : State :=
  let s' := s.modPipe m (codeIn s m w loaded)
  let l := s.front.tails.get m
  if l.isEmpty then s'
  else { s' with front := { s'.front with
    tails := s'.front.tails.set m (l.map (fun t => { t with pipe := codeIn (asTail m t s) m w loaded t.pipe })) } }

/-- The estimator's view of a code (R120, R122): it is counted, and an overload run, a poisoned code or SETL spoils the run. -/
def Modulator.observe (x : Modulator) (code cycle : Nat) (bad : Bool) : Modulator :=
  match x.estFrom with
  | some g =>
    if g * Config.swathCycles + 4 ≤ cycle then { x with dirty := x.dirty || bad, codes := x.codes.mod code (· + 1) } else x
  | none => x

/-- One code of a modulator: overload run, unchanged-code run, and C1 (R94, R101 to R103, R105, R129, R133). -/
def codeWord (m code cycle : Nat) (poisoned : Bool) (s : State) : State :=
  let lev : Int := if poisoned then 0 else (code : Int) - 15
  let full := !poisoned && (decide (code = 0) || decide (code = 30))
  let x := s.modu m
  let run := if full then x.overRun + 1 else 0
  let same := if code = x.lastCode then x.sameRun + 1 else 1
  let held := inStop s m cycle
  let fl := codeFlags s m cycle (poisoned && !held) held
  let now := analogFlags s m
  let s := s.modModu m (fun y =>
    { y.observe code cycle (poisoned || decide (8 ≤ run) || anyFlag fl flSETL) with
      overRun := run, lastCode := code, sameRun := same, line := (cycle, now) :: y.line.take 4 })
  let s := when (decide (run = 8)) (bump (ovrCtr m)) s
  let w : Samp :=
    if held then { idx := cycle, v := (s.pipe m).c1Hold, fl := fl ||| flXCAL }
    else { idx := cycle, v := 4096 * lev, fl := fl }
  feedCode m w (decide (8 ≤ run)) s

/-- Odd parity of a slice (R105). -/
def oddParity (b : BitVec 16) : Bool := (List.range 16).foldl (fun a i => a != b.getLsbD i) false

/-- The word that a wire group carries (R104): its 32 data wires in three unit intervals, with the bits of the repair wire in the
place of wire `w` (R106, R108). -/
def groupWord (x : LinkIn) (g : Nat) (w : Option Nat) : Nat :=
  ((List.range 3).map (fun (u : Nat) =>
    let f := (x.bits.extractLsb' (128 * u + 32 * g) 32).toNat
    let f := match w with
      | some k =>
        let i := k - 32 * g
        let bit := if x.repair.getLsbD (g + 4 * u) then 1 else 0
        f - (f / 2 ^ i % 2) * 2 ^ i + bit * 2 ^ i
      | none => f
    f * 2 ^ (32 * u))).sum

/-- Slice 2g + 8u + h of a group's word (R104). -/
def groupSlice (word u h : Nat) : BitVec 16 := BitVec.ofNat 16 (word / 2 ^ (32 * u + 16 * h))

/-- One slice of a link word (R104, R105): no word, a poisoned word, odd parity or code 31 poisons its codes. Odd parity advances the
slice's counter, but for a slice on a failed wire that nothing covers, whose errors are no news (log entry 141). -/
def sliceWord (tile cycle sl : Nat) (b : BitVec 16) (lost : Bool) (s : State) : State :=
  let lost := lost || lostSlice s tile sl
  let odd := oddParity b
  let s := when (odd && !lost) (bump (ctrKey 4 tile sl 0)) s
  each [0, 1, 2] (fun i s =>
    let code := (b.extractLsb' (5 * i) 5).toNat
    codeWord (modOf tile (3 * sl + i)) code cycle (odd || lost || decide (code = 31)) s) s

/-- The bits of a wire under repair arrive without error on the repair wire: with them each of the wire's slices has even parity
(R108). -/
def repairClean (x : LinkIn) (g w : Nat) : Bool :=
  (List.range 3).all (fun u => !oddParity (groupSlice (groupWord x g (some w)) u (w / 16 % 2)))

/-- One wire group of a link word: its word passes the FIFO into the measurement domain (R423, R424) and its six slices reach the
chains; a group without its forwarded clock writes nothing (R109). -/
def groupIn (tile cycle : Nat) (x : LinkIn) (g : Nat) (s : State) : State :=
  let key := linkKey tile g
  let l := s.link key
  let s := match l.ordered with
    | some w => if repairClean x g w then s else s.modLink key (fun l => { l with cleanNow := false })
    | none => s
  let s := if l.clockLost then s else pushWord 0 key (groupWord x g l.repair) s
  let s := when (x.upset.getLsbD g) (fun s => s.modFifo (fifoKey 0 key) (Fifo.upset 5)) s
  let (word, s) := if x.held.getLsbD g then (none, s) else popWord 0 key s
  let lost := l.clockLost || (match word with | some p => p.2 | none => true)
  let bits := (word.map (·.1)).getD 0
  each [0, 1, 2] (fun u s => each [0, 1] (fun h s => sliceWord tile cycle (2 * g + 8 * u + h) (groupSlice bits u h) lost s) s) s

/-- TILE_LINK_WORD (R104, R105, R108, R109, R423, R424): the 24 slices of a received word. -/
def execTileLinkWord (tile : Nat) (x : LinkIn) (cycle : Nat) (s : State) : Out :=
  let s := touch (atCycle cycle) s
  event (isTile tile) (each (List.range 4) (groupIn tile cycle x) s)

/-! ## Resampling -/

/-- The input word of index i on a grid of period d, newest first in the list; a missing word is 0. -/
def inputAt (l : List Samp) (d i : Int) : Samp :=
  match l with
  | [] => {}
  | x :: _ => if i * d ≤ x.idx then l.getD ((x.idx - i * d) / d).toNat {} else {}

/-- The inputs reach far enough for an output at accumulator a (R189). -/
def inputsReach (l : List Samp) (d a : Nat) : Bool :=
  match l with
  | [] => false
  | x :: _ => decide (((a / 4294967296 + 24) * d : Nat) ≤ x.idx)

/-- The resampler's output at accumulator a (R186, R188). -/
def resample (l : List Samp) (d a shift : Nat) (j : Int) : Samp :=
  let i : Int := (a / 4294967296 : Nat)
  let c := resampleTaps (a % 4294967296)
  let xs := (List.range 48).map (fun (k : Nat) => inputAt l d (i + k - 23))
  stageWord 32 shift j ((c.zip xs).map (fun q => q.1 * q.2.v)).sum (orFlags xs)

/-- First grid index of a time-mode resampler at or after an instant (R191). -/
def firstIndex (step : Nat) (t : Inst) : Nat := ceilDiv t (max 1 step)

/-- Angle of output j of a chain with N samples a revolution, in the unit of the labels (R214). -/
def angleOf (x : Shaft) (nrev j : Nat) : Int := (j : Int) * revAngle x / (nrev : Int)

/-- First output of an angle-mode chain at or after an instant, by bisection over `n` halvings of a range of indices. -/
def angleIndex (x : Shaft) (nrev : Nat) (t : Inst) : Nat → Nat → Nat → Nat
  | 0, _, hi => hi
  | n + 1, lo, hi =>
    let mid := (lo + hi) / 2
    match angleInstant x (angleOf x nrev mid) with
    | some (u, _) => if u < t then angleIndex x nrev t n mid hi else angleIndex x nrev t n lo mid
    | none => angleIndex x nrev t n lo mid

/-- First and last revolutions whose angles a group still knows. -/
def angleRange (x : Shaft) : Int × Int :=
  match x.segs.getLast?, x.segs.head? with
  | some a, some b => (a.start, (b.stop.getD (b.start + 128 * revAngle x)))
  | _, _ => (0, 0)

/-- Where an angle-mode chain starts on its grid: the first angle grid instant at or after t (R214, R223). -/
def angleStart (x : Shaft) (nrev : Nat) (t : Inst) : Nat :=
  let (lo, hi) := angleRange x
  let idx (a : Int) : Nat := ceilDiv (a * nrev).toNat (revAngle x).toNat
  match angleInstant x lo with
  | some (u, _) => if t ≤ u then idx lo else angleIndex x nrev t 40 (idx lo) (idx hi + 1)
  | none => 0

/-- The chain settings by which LR, LT, LN and ER form a word that they compute at an instant (R178). -/
def cfgFor (s : State) (m : Nat) (t : Inst) : ChainCfg := (s.pipe m).cfgAt (s.chain m) (cyclesOf t + 4)

/-- The latest change of a chain at a boundary, or the boundary at which it was enabled, as a cycle. -/
def placedFrom (p : Pipe) (b : Band) : Nat :=
  match b with
  | .wb => p.fromWb
  | .lb => max p.fromLb (p.setlLb.headD 0)
  | .eb => max p.fromEb (p.setlEb.headD 0)

/-- Grid index, input position and instant of the next output of LR or ER, with the HOLD of R220; none when the angle is
not known yet. -/
def nextOutput (s : State) (m : Nat) (b : Band) : Option (Nat × Nat × Inst × Bool) :=
  let p := s.pipe m
  let (d, j, l) := match b with
    | .eb => (erRatio s m, p.erJ, p.erIn)
    | _ => (lrRatio s m, p.lrJ, p.lrIn)
  let from_ := atCycle (placedFrom p b)
  match bandBind s m b with
  | some x =>
    let g := s.shaft x.group
    let j := j.getD (angleStart g x.nrev from_)
    (angleInstant g (angleOf g x.nrev j)).map (fun q => (j, q.1 / d, q.1, q.2))
  | none =>
    let step := match b with | .eb => erSpan s m | _ => lrSpan s m
    let newest : Nat := match l with | x :: _ => (x.idx - 24 * d).toNat | [] => 0
    let j := j.getD (firstIndex step (if placedFrom p b = 0 then atCycle newest else from_))
    some (j, j * step / d, j * step, false)

/-- Advance the grid index of LR or ER. -/
def setIndex (m : Nat) (b : Band) (j : Nat) (s : State) : State :=
  s.modPipe m (fun p => match b with | .eb => { p with erJ := some j } | _ => { p with lrJ := some j })

/-- LT stages on an LR output; a stage keeps the indices that are multiples of its power of two (R154). -/
def lineStages (c : ChainCfg) : Nat → Nat → Samp → Pipe → Pipe × Option Samp
  | 0, _, x, p => (p, some x)
  | n + 1, k, x, p =>
    match p.fir (21 + k) hb47B 32 (shiftAt c 9 17) (23 * 2 ^ (k - 1)) (2 ^ k) x with
    | (p, none) => (p, none)
    | (p, some y) => lineStages c n (k + 1) y p

/-- LN on an LT output (R156, R157): the word, and its place in half steps of the LR grid. Its history begins anew with its setting
(R178); its first words lie by half its length before those of the setting before it (log entry 178). -/
def lineFilter (c : ChainCfg) (angle : Bool) (t : Nat) (x : Samp) (p : Pipe) : Pipe × Samp × Int :=
  let p := if p.lnMains = c.mains then p else { p with lnMains := c.mains, hist := p.hist.set 25 [] }
  match (if angle then none else lnTaps c) with
  | none => (p, x, 2 * x.idx)
  | some (taps, dflt) =>
    let p := p.push 25 taps.length x
    let h := p.words 25
    (p, stageWord 32 (shiftAt c 10 dflt) x.idx (dot taps h) (orFlags h), 2 * x.idx - ((taps.length : Int) - 1) * 2 ^ t)

/-! ## Delivery -/

/-- A finished chain word: value at the last filter, flags, instant, half its computation window (R144). -/
structure Word where
  v  : Int
  fl : BitVec 8
  t  : Inst
  d  : Nat
  deriving DecidableEq, Repr

/-- The channel under whose number a modulator's chain emits at an instant, and whether a spare serves it: the primary's
channel unless a spare is its source then; a spare's channel where it is the source; otherwise none, and a spare emits
under its own number (R111, R113). -/
def emitsUnder (s : State) (m : Nat) (t : Inst) : Option (Nat × Bool) :=
  if m < 768 then (if (s.chan m).sourceAt t = none then some (m, false) else none)
  else
    match (chansOf (tileOf m)).find? (fun ch => decide ((s.chan ch).sourceAt t = some m)) with
    | some ch => some (ch, true)
    | none => some (m, false)

/-- The window of a sample spans one of the cycles (R146, R178). -/
def spans (l : List Nat) (t d : Nat) : Bool := l.any (fun b => decide (t < atCycle b + d) && decide (atCycle b ≤ t + d))

/-- The cycles of changes of a band. -/
def setlOf (p : Pipe) : Band → List Nat
  | .lb => p.setlLb | .wb => p.setlWb | .eb => p.setlEb
/-- The cycle from which a band delivers. -/
def fromOf (p : Pipe) : Band → Nat
  | .lb => p.fromLb | .wb => p.fromWb | .eb => p.fromEb
/-- The last word of a band outside a stop. -/
def heldOf (p : Pipe) : Band → Int
  | .lb => p.heldLb | .wb => p.heldWb | .eb => p.heldEb
/-- Keep the last word of a band. -/
def Pipe.keep (p : Pipe) (b : Band) (y : Int) : Pipe :=
  match b with
  | .lb => { p with heldLb := y } | .wb => { p with heldWb := y } | .eb => { p with heldEb := y }
/-- The stream descriptor (R318). -/
def descriptor (s : State) (m : Nat) (b : Band) : List Byte :=
  let ch := (channelOf s m).getD 0
  let c := s.chan ch
  let k := s.chain m
  let bind := bandBind s m b
  let mode := (match c.mode with | .iepe => 1 | _ => 0) + (if c.ratiometric then 4 else 0)
    + 8 * (match b, k.mains with
      | .lb, .avg50 => 1 | .lb, .avg60 => 2 | .lb, .notch50 .. => 3 | .lb, .notch60 .. => 4 | _, _ => 0)
  let body := leBytes 8 (if bind.isSome then 0 else bandPeriod s m b)
    ++ leBytes 2 ((bind.map (·.nrev)).getD 0) ++ [BitVec.ofNat 8 ((bind.map (·.group)).getD 0xFF), BitVec.ofNat 8 c.range]
    ++ leBytes 4 (bandDelay s m b / cycle1 + 4)
    ++ [BitVec.ofNat 8 mode, if b = .eb then BitVec.ofNat 8 k.band.preset else 0xFF] ++ List.replicate 10 0
  body ++ leBytes 4 (crc32c body).toNat

/-- The interval of a channel that an instant falls in: one of zeros before one that holds a value (R64, R135). -/
def Channel.patchAt (c : Channel) (t : Inst) : Option Patch :=
  let l := c.patches.filter (fun p => decide (p.start ≤ t) && (match p.stop with | some e => decide (t < e) | none => true))
  (l.find? (·.zero)).or l.head?

/-- Ratiometric was on at an instant (R83, R85). -/
def Channel.ratioAt (c : Channel) (t : Inst) : Bool :=
  ((c.ratioWas.reverse.find? (fun p => decide (t < boundary p.1))).map (·.2)).getD c.ratiometric

/-- What the channel's own state makes of a sample: held or zero intervals, a dead ratiometric reference (R64, R85, R116, R130,
R134, R135). -/
def channelWord (s : State) (ch : Nat) (b : Band) (t : Inst) (y : Int) (fl : BitVec 8) : Int × BitVec 8 × Bool :=
  let c := s.chan ch
  let (y, fl) := if c.ratioAt t && (s.group (groupOf ch)).deadAt t then
      ((if y < 0 then -8388607 else 8388607), fl ||| flEXT ||| flSAT)
    else (y, fl)
  match c.patchAt t with
  | some p => (if p.zero then 0 else heldOf (s.pipe ch) b, fl ||| flSUB ||| flagIf p.xcal flXCAL, false)
  | none => (y, fl, true)

/-- The window of a sample spans a boundary at which a setting of its channel changed (R31); the samples of an interrupted stop are
unchanged by one inside it, whose input the stop replaces (R131). -/
def shownFlag (s : State) (m : Nat) (t d : Nat) : Bool :=
  match channelOf s m with
  | some ch =>
    let c := s.chan ch
    let inside (cyc : Nat) : Bool := match c.lastStop with
      | some b => decide (b * Config.swathCycles ≤ cyc) && decide (cyc < (b + 2) * Config.swathCycles)
      | none => false
    spans (c.shownAt.filter (fun cyc => !inside cyc)) t d && !((c.patchAt t).any (·.xcal))
  | none => false

/-- A finished word of a chain becomes a sample of its stream, and reaches the statistics and the trigger units (R169,
R176). Nothing is delivered before the streams start or before the chain's first whole window (R45, R179). -/
def deliverWord (m : Nat) (b : Band) (w : Word) (s : State) : State :=
  let p := s.pipe m
  let d := w.d
  match emitsUnder s m w.t with
  | none => s
  | some (own, spare) =>
    let key := streamKey own (bandKind b) 0
    if w.t < atCycle (fromOf p b) + d && decide (0 < fromOf p b) then s
    else if w.t < atCycle (s.time.syncFrom * Config.secCycles) || !(s.stream key).exists_ then s
    else
      let x := s.modu m
      let (y, sat) := outputStage (if b = .wb then 16 else 24) x.gm (if b = .eb then 0 else x.om) w.v
      let settl := spans (setlOf p b) w.t d || shownFlag s m w.t d
      let fl := w.fl ||| flagIf sat flSAT ||| flagIf spare flSPARE ||| flagIf settl flSETL
      let (y, fl, live) := if own < 768 then channelWord s own b w.t y fl else (y, fl, true)
      let s := s.modPipe own (fun p => if live then p.keep b y else p)
      let seq := (s.stream key).next
      let s := touch (w.t + availSpan s m b) s
      let s := emitItem key { v := y, fl := fl, t := w.t } (descriptor s m b) (bandBind s m b).isSome s
      let s := addStats own (bandKind b) w.t y fl s
      trigSample key { seq := seq, y := y, t := w.t } fl s

/-- The next LB word: LR outputs until LT and LN give one; at most 16, which covers eight per word. Each is formed by the settings of
the cycle at which it is computed (R178), and after a change of rate none of an instant before the change comes (R181). -/
def nextLow (m : Nat) : Nat → State → State × Option Word
  | 0, s => (s, none)
  | n + 1, s =>
    match nextOutput s m .lb with
    | none => (s, none)
    | some (j, a, t, hold) =>
      let d := lrRatio s m
      let c := cfgFor s m (t + lrDelay s m)
      if !inputsReach (s.pipe m).lrIn d a then (s, none)
      else
        let y := resample (s.pipe m).lrIn d a (shiftAt c 8 17) j
        let y := { y with fl := y.fl ||| flagIf hold flHOLD }
        let s := setIndex m .lb (j + 1) s
        let lt := ltCount s m
        match lineStages c lt 1 y (s.pipe m) with
        | (p, none) => nextLow m n (s.modPipe m (fun _ => p))
        | (p, some z) =>
          let angle := (bandBind s m .lb).isSome
          let (p, z, at2) := lineFilter c angle lt z p
          let s := s.modPipe m (fun _ => p)
          let t' := if angle then t else (at2 * lrSpan s m / 2).toNat
          if t' < atCycle (s.pipe m).placeLb then nextLow m n s
          else (s, some { v := z.v, fl := z.fl, t := t', d := bandDelay (s.modChain m (fun _ => c)) m .lb })

/-- E3's word of index i is centred half a tap period before i × D when M is 2 or more, because 1.5 × (M − 1) is then no whole
number (R173, R174): the part of D, in 2^-32, by which ER takes its inputs later. -/
def halfTap (s : State) (m : Nat) : Nat := if ebExp s m = 0 then 0 else 2147483648 / 2 ^ ebExp s m

/-- The next EB word. -/
def nextEnv (m : Nat) (s : State) : State × Option Word :=
  match nextOutput s m .eb with
  | none => (s, none)
  | some (j, a, t, hold) =>
    let d := erRatio s m
    let a := a + halfTap s m
    if !inputsReach (s.pipe m).erIn d a then (s, none)
    else
      let y := resample (s.pipe m).erIn d a (shiftAt (cfgFor s m (t + bandDelay s m .eb)) 14 17) j
      (setIndex m .eb (j + 1) s, some { v := y.v, fl := y.fl ||| flagIf hold flHOLD, t := t, d := bandDelay s m .eb })

/-- The next WB word: one of an instant before the last change of rate is none of the new rate's (R181). -/
def nextWide (m : Nat) (s : State) : State × Option Word :=
  match (s.pipe m).wbOut.dropWhile (fun x => decide (x.idx < ((s.pipe m).placeWb : Int))) with
  | [] => (s, none)
  | x :: r => (s.modPipe m (fun p => { p with wbOut := r }), some { v := x.v, fl := x.fl, t := atCycle x.idx.toNat, d := bandDelay s m .wb })

/-- The next word of a band. -/
def nextWord (m : Nat) (b : Band) (s : State) : State × Option Word :=
  match b with
  | .lb => nextLow m 16 s
  | .wb => nextWide m s
  | .eb => nextEnv m s

/-- The samples of a band's earlier settings of which it still delivers some. -/
def tailOf (s : State) (m : Nat) (b : Band) : Option Tail := (s.front.tails.get m).find? (fun t => decide (t.band = b))

/-- A step of a chain that still delivers by earlier settings: it is in force while `f` runs, and what it delivers last is what its
band holds; the other bands keep what they hold (R182, R184). -/
def inTail (m : Nat) (t : Tail) (f : State → State) (s : State) : State :=
  let s' := f (asTail m t s)
  let q := s'.pipe m
  let s' := (s'.modChain m (fun _ => s.chain m)).modPipe m (fun _ =>
    (s.pipe m).keep t.band (heldOf q t.band))
  let s' := match t.shaft with
    | some (g, _) => s'.modShaft g (fun _ => s.shaft g)
    | none => s'
  { s' with front := { s'.front with
    tails := s'.front.tails.mod m (fun l => l.map (fun x => if x.band = t.band && x.stop = t.stop then { x with pipe := q } else x)) } }

/-- A band has delivered everything of its earlier settings: the stream ends, or its record closes and the next one is of the new
rate (R181, R308). A chain that has been enabled again meanwhile starts its stream anew. -/
def endTail (m : Nat) (t : Tail) (s : State) : State :=
  let s := { s with front := { s.front with
    tails := s.front.tails.mod m (fun l => l.filter (fun x => !(x.band = t.band && x.stop = t.stop))) } }
  let close (own : Nat) (s : State) : State :=
    let key := streamKey own (bandKind t.band) 0
    let s := endStream key (atCycle t.stop) s
    if s.ready && bandOn (s.chain own) t.band && !bandHeld (s.pipe own) t.band then startStream key s else s
  let s := if t.ends && isSpare m then close m s else s
  match emitsUnder s m (atCycle (t.stop - 1)) with
  | none => s
  | some (own, _) =>
    if !t.ends then rateChange (streamKey own (bandKind t.band) 0) s
    else if own = m && isSpare m then s
    else close own s

/-- The next sample of a band by the settings in force. -/
def nextSample (m : Nat) (b : Band) (s : State) : State :=
  if !bandOn (s.chain m) b || bandHeld (s.pipe m) b then s
  else
    let (s, w) := nextWord m b s
    match w with
    | some w => deliverWord m b w s
    | none => s

/-! ## The closing of statistics intervals (R234) -/

/-- Every sample of an ended interval has come: in time mode the one after the last lies a period on, in angle mode the next output's
instant may be known; at the latest when the last one's time is over. -/
def intervalDone (s : State) (k g : Nat) (iv : Interval) : Bool :=
  let (m, kind, _) := statParts k
  match iv.stop with
  | none => false
  | some e =>
    let next : Option Inst :=
      if iv.period = 0 then
        (if (tailOf s m (bandOf kind)).isSome then none else (nextOutput s m (bandOf kind)).map (fun q => q.2.2.1))
      else (s.stat k).seen.map (fun t => t + iv.period + 1)
    decide (e ≤ boundary g) &&
      ((match next with | some t => decide (e ≤ t) | none => false) || decide (e + iv.wait ≤ boundary g))

/-- Step 1 of R29: the intervals whose every sample is available by the boundary are closed, and their records enter the
statistics streams (R234). -/
def closeStats (g : Nat) (s : State) : State :=
  each s.red.stats.keys (fun k s =>
    let done := (s.stat k).ended.takeWhile (intervalDone s k g)
    let s := s.modStat k (fun x => { x with ended := x.ended.drop done.length })
    each done (fun iv s =>
      emitItem (statStream k) { t := iv.start, fl := iv.final.flags, body := iv.final.bytes } [] false s) s) s

/-- CHAIN_SAMPLE_AVAILABLE (R176, R180, R181): the next sample of a chain output that is enabled, or of one that still delivers the
samples before a boundary by earlier settings. Those come first; they are over with the first word of a later instant, or once
every sample before the boundary has had its time. -/
def execChainSampleAvailable (m : Nat) (b : Band) (s : State) : Out :=
  event (isModulator m) <|
    match tailOf s m b with
    | none => nextSample m b s
    | some t =>
      let (u, w) := nextWord m b (asTail m t s)
      let ended := match w with
        | some w => decide (atCycle t.stop ≤ w.t)
        | none => decide (atCycle t.stop + availSpan (asTail m t s) m b ≤ s.now)
      if ended then nextSample m b (endTail m t s)
      else match w with
        | some w => inTail m t (fun _ => deliverWord m b w u) s
        | none => inTail m t (fun _ => u) s

end Sys2Proof.Machine
end

