-- ==== Sys2Proof/Machine/Operands.lean ====
section
/-! DEFINITION. The operand forms of the Dwehild commands (R571 to R573 of 15): setting pairs decoded into the settings of
each table, one function per table. `none` is a ROW, PART or VALUE outside the table, which refuses the command. -/

namespace Sys2Proof.Machine

/-! ## Values of a pair (R572) -/

/-- VALUE as an unsigned number. -/
def Pair.nat (p : Pair) : Nat := p.value.toNat
/-- VALUE as a signed number. -/
def Pair.int (p : Pair) : Int := p.value.toInt

/-- An unsigned VALUE within bounds. -/
def natIn (p : Pair) (lo hi : Nat) : Option Nat := if lo ≤ p.value.toNat ∧ p.value.toNat ≤ hi then some p.value.toNat else none
/-- A signed VALUE within bounds. -/
def intIn (p : Pair) (lo hi : Int) : Option Int := if lo ≤ p.value.toInt ∧ p.value.toInt ≤ hi then some p.value.toInt else none
/-- On or off: 1 or 0. -/
def boolIn (p : Pair) : Option Bool := (natIn p 0 1).map (fun (n : Nat) => decide (n = 1))
/-- An index below a bound, or "none" coded 0xFF. -/
def orNone (p : Pair) (n : Nat) : Option (Option Nat) :=
  if p.value.toNat = 0xFF then some none else if p.value.toNat < n then some (some p.value.toNat) else none
/-- An index below 65,536, or "none" coded 0xFFFF_FFFF. -/
def orNoneWide (p : Pair) : Option (Option Nat) :=
  if p.value.toNat = 0xFFFFFFFF then some none else if p.value.toNat < 65536 then some (some p.value.toNat) else none

/-- The pairs of a command as one change: each in turn, the later one of equal ROW and PART counting (R573). -/
def withPairs {α : Type} (set_ : Pair → α → Option α) : List Pair → α → Option α
  | [], a => some a
  | p :: r, a => (set_ p a).bind (withPairs set_ r)

/-- The number of pairs that a command may carry (R571). -/
def pairsOk (l : List Pair) : Bool := decide (1 ≤ l.length) && decide (l.length ≤ 512)

/-! ## Channels and excitation (R70, R73 to R79, R98, R125, R128) -/

/-- Bias state names stay; a mode code in the order of R70. -/
def modeOf (n : Nat) : ChanMode := match n with | 0 => .dc | 1 => .iepe | _ => .off

/-- The mains rejection setting of a kind code (R177). -/
def mainsOf (kind h tn : Nat) : Mains :=
  match kind with
  | 1 => .avg50 | 2 => .avg60 | 3 => .notch50 h tn | 4 => .notch60 h tn | _ => .off
/-- Kind code of a mains rejection setting. -/
def mainsKind : Mains → Nat
  | .off => 0 | .avg50 => 1 | .avg60 => 2 | .notch50 .. => 3 | .notch60 .. => 4

/-- One pair of the mains rejection setting: parts kind, H, T_n. -/
def setMains (p : Pair) (c : ChainCfg) : Option ChainCfg :=
  match p.part with
  | 0 => (natIn p 0 4).map (fun k => { c with mains := mainsOf k c.notchH c.notchT })
  | 1 => (natIn p 0 8).map (fun h => { c with notchH := h, mains := mainsOf (mainsKind c.mains) h c.notchT })
  | 2 => (natIn p 0 2).map (fun t => { c with notchT := t, mains := mainsOf (mainsKind c.mains) c.notchH t })
  | _ => none

/-- A pair whose row has one part. -/
def one {α : Type} (p : Pair) (x : Option α) : Option α := if p.part = 0 then x else none

/-- One pair of CHANNEL_SET: rows of R70, then interrupted apply and calibration interval. -/
def setChannel (p : Pair) (c : Channel × ChainCfg) : Option (Channel × ChainCfg) :=
  let (ch, k) := c
  match p.row with
  | 0 => one p ((natIn p 0 2).map (fun n => ({ ch with mode := modeOf n }, k)))
  | 1 => one p ((natIn p 0 3).map (fun n => ({ ch with range := n }, k)))
  | 2 => one p ((intIn p (-100) 2400).map (fun n => ({ ch with dcOffset := n }, k)))
  | 3 => one p ((natIn p 0 2).map (fun n => ({ ch with corner := n }, k)))
  | 4 => (intIn p (-1500) 2500).bind (fun n =>
      match p.part with
      | 0 => some ({ ch with shortMax := n }, k) | 1 => some ({ ch with lowMax := n }, k)
      | 2 => some ({ ch with highMin := n }, k) | 3 => some ({ ch with openMin := n }, k) | _ => none)
  | 5 => one p ((boolIn p).map (fun b => ({ ch with ratiometric := b }, k)))
  | 6 => (setMains p k).map (fun k => (ch, k))
  | 7 => one p ((boolIn p).map (fun b => ({ ch with interruptOk := b }, k)))
  | 8 => one p ((natIn p 60 86400).map (fun n => ({ ch with calInterval := n }, k)))
  | _ => none

/-- The bias thresholds keep the order of R66. -/
def biasOrder (c : Channel) : Bool := decide (c.shortMax < c.lowMax ∧ c.lowMax ≤ c.highMin ∧ c.highMin < c.openMin)

/-- One pair of EXC_SET (R73, R76, R79). -/
def setGroup (p : Pair) (g : Group) : Option Group :=
  match p.row with
  | 0 => one p (if p.value.toNat = 0 then some { g with setCode := 0 } else (natIn p 50 1000).map (fun n => { g with setCode := n }))
  | 1 => one p ((natIn p 1 12).map (fun n => { g with limit := n }))
  | 2 => one p ((natIn p 1 50).map (fun n => { g with tol := n }))
  | _ => none

/-- One pair of REFBUF_SET (R98). -/
def setRef (p : Pair) (_ : Bool) : Option Bool := if p.row = 0 then one p (boolIn p) else none

/-! ## Chains (R177, R164, R212) -/

/-- Part of a binding: group (0xFF for time mode) or N_rev, a power of two from 64 to 16,384. -/
def setBind (p : Pair) (b : Option Bind) (n : Nat) : Option (Option Bind × Nat) :=
  match p.part with
  | 0 => (orNone p 32).map (fun g => (g.map (fun g => { group := g, nrev := n }), n))
  | 1 => if [64, 128, 256, 512, 1024, 2048, 4096, 8192, 16384].contains p.value.toNat
         then some (b.map (fun b => { b with nrev := p.value.toNat }), p.value.toNat) else none
  | _ => none

/-- A band setting with a part of it set: preset, tap, f1, f2. -/
def setBand (p : Pair) (b : BandSel) : Option BandSel :=
  match p.part with
  | 0 => (natIn p 0 9).map (fun n => { b with preset := n })
  | 1 => (natIn p 0 4).map (fun n => { b with tap := n })
  | 2 => some { b with f1 := p.value.toNat }
  | 3 => some { b with f2 := p.value.toNat }
  | _ => none

/-- One pair of CHAIN_SET on a chain of a kind (1 LB, 2 WB, 3 EB): rows of R177; a row of another chain is unknown. -/
def setChain (kind : Nat) (p : Pair) (c : ChainCfg) : Option ChainCfg :=
  match p.row with
  | 0 => one p ((boolIn p).map (fun b =>
      if kind = 1 then { c with lbOn := b } else if kind = 2 then { c with wbOn := b } else { c with ebOn := b }))
  | 1 => if kind = 2 then one p ((natIn p 0 2).map (fun n => { c with wbRate := n })) else none
  | 2 => if kind = 1 then one p ((natIn p 50000 256000000).map (fun n => { c with lbRate := n })) else none
  | 3 => if kind = 1 then (setBind p c.lbBind c.lbNrev).map (fun x => { c with lbBind := x.1, lbNrev := x.2 }) else none
  | 4 => if kind = 1 then setMains p c else none
  | 5 => if kind = 3 then (setBand p c.band).map (fun b => { c with band := b }) else none
  | 6 => if kind = 3 then one p ((natIn p 357628 51200000).map (fun n => { c with ebRate := n })) else none
  | 7 => if kind = 3 then (setBind p c.ebBind c.ebNrev).map (fun x => { c with ebBind := x.1, ebNrev := x.2 }) else none
  | 8 => if p.part < 15 then (natIn p 0 40).map (fun n => { c with shifts := c.shifts.set p.part (some n) }) else none
  | _ => none

/-- Rate of a tap point in thousandths of S/s (rounded down): 1.5 GS/s over its period. -/
def tapRate (tap : Nat) : Nat := topRate / tapPeriod tap

/-- A user band satisfies R164; edges in Hz against the exact tap rate. -/
def userEdgesOk (tap f1 f2 : Nat) : Bool :=
  let per := tapPeriod tap
  decide (4 * 1500000000 ≤ 100 * f1 * per) && decide (100 * f2 * per ≤ 40 * 1500000000)
    && decide (4 * 1500000000 ≤ 100 * (f2 - f1) * per) && decide (f1 ≤ f2) && (tap ≠ 0 || decide (f2 ≤ 1500000))

/-- A mains rejection setting agrees with the LB rate (R156, R158). -/
def mainsOk (c : ChainCfg) : Bool :=
  let notch (line h tn : Nat) : Bool :=
    decide (2 * notchHalf c.lbRate tn + 1 ≤ 8191) && decide ((h + 1) * line * 1000 * 10 ≤ 4 * c.lbRate)
  match c.mains with
  | .off => true
  | .avg50 => (avgLen c.lbRate 50).isSome
  | .avg60 => (avgLen c.lbRate 60).isSome
  | .notch50 h tn => notch 50 h tn
  | .notch60 h tn => notch 60 h tn

/-- USER_TAPS values are s18 integers, 128 of them (R165). -/
def tapsOk (l : List Int) : Bool := decide (l.length = 128) && l.all (fun x => decide (-131072 ≤ x) && decide (x ≤ 131071))

/-! ## Tach and shaft groups (R193, R199) -/

/-- One pair of TACH_SET: rows of R193. -/
def setTach (p : Pair) (x : Tach) : Option Tach :=
  match p.row with
  | 0 => one p ((intIn p (-2000) 2000).map (fun n => { x with threshold := n }))
  | 1 => one p ((natIn p 1 400).map (fun n => { x with hysteresis := n }))
  | 2 => one p ((boolIn p).map (fun b => { x with falling := b }))
  | 3 => one p ((natIn p 2 65535).map (fun n => { x with glitch := n }))
  | 4 => (match p.part with
    | 0 => (boolIn p).map (fun b => { x with codeOn := b })
    | 1 => (natIn p 1 128).map (fun n => { x with codeU := n })
    | 2 => (natIn p 0 128).map (fun n => { x with expect := n, learned := none, idRun := 0, lastId := 128 })
    | _ => none)
  | 5 => one p ((orNone p 16).map (fun n => { x with pin := n }))
  | _ => none

/-- One pair of SHAFT_SET: rows of R199; the zero source has parts kind and G or second input, the window parts f_min and
f_max in 2^-16 rev/s. -/
def setShaft (p : Pair) (x : Shaft) : Option Shaft :=
  match p.row with
  | 0 => one p (if p.value.toNat < 32 then some { x with source := some p.value.toNat }
      else if p.value.toNat / 256 % 16 = 6 then some { x with source := some p.value.toNat } else none)
  | 1 => one p ((natIn p 1 4096).map (fun n => { x with teeth := n }))
  | 2 => (match p.part with
    | 0 => (natIn p 0 3).map (fun n => { x with zeroKind := n })
    | 1 => (natIn p 0 31).map (fun n => { x with gapOrIn := n })
    | _ => none)
  | 3 => (natIn p 6554 65536000).bind (fun n =>
      match p.part with
      | 0 => some { x with fmin := some n } | 1 => some { x with fmax := some n } | _ => none)
  | 4 => one p ((natIn p 1 50).map (fun n => { x with tol := n }))
  | 5 => one p ((boolIn p).map (fun b => { x with command := b }))
  | 6 => one p ((natIn p 0 1000).map (fun n => { x with allow := n }))
  | 7 => one p ((boolIn p).map (fun b => { x with on := b }))
  | _ => none

/-- The settings of a group of number g fit together (R199): EDGE and CODE have P = 1, GAP has G of 1 or 2 below P, f_min is
below f_max, an allowance needs a remote source, and an enabled group has its speed window. -/
def shaftOk (g : Nat) (x : Shaft) : Bool :=
  let zero := match x.zeroKind with
    | 0 => decide (x.teeth = 1)
    | 1 => (decide (x.gapOrIn = 1) || decide (x.gapOrIn = 2)) && decide (x.gapOrIn < x.teeth)
    | 2 => decide (x.teeth = 1)
    | _ => decide (x.gapOrIn ≠ x.source.getD g)
  let window := match x.fmin, x.fmax with
    | some a, some b => decide (a < b)
    | _, _ => !x.on
  let remote := decide (32 ≤ x.source.getD g)
  zero && window && (decide (x.allow = 0) || remote)

/-! ## Statistics and triggers (R229, R238, R711) -/

/-- One pair of STATS_SET: rows of R229. -/
def setStats (p : Pair) (x : StatDef) : Option StatDef :=
  match p.row with
  | 0 => one p ((boolIn p).map (fun b => { x with on := b }))
  | 1 => one p ((boolIn p).map (fun b => { x with rev := b }))
  | 2 => one p ((natIn p 1 65535).map (fun n => { x with len := n }))
  | 3 => one p ((orNone p 32).map (fun g => { x with group := g }))
  | _ => none

/-- A definition's settings fit together: REV has a group and at most 4,096 revolutions. -/
def statsOk (x : StatDef) : Bool := !x.rev || (x.group.isSome && decide (x.len ≤ 4096))

/-- T0 of its four words (R269, R572). -/
def srcT0 (x : SrcParts) : TT :=
  { sec := x.w0 + 4294967296 * (x.w1 % 65536), ns := x.w1 / 65536 + 65536 * (x.w2 % 65536), frac := x.w2 / 65536 }

/-- The source that the parts name; none when a part is outside its values (R239). -/
def sourceOf? (x : SrcParts) : Option TrigSource :=
  match x.kind with
  | none => some .none
  | some 0 => if 1 ≤ x.sel / 256 % 16 ∧ x.sel / 256 % 16 ≤ 3 ∧ x.sel / 4096 % 1024 < 864 ∧ x.sel % 256 = 0
      then some (.chain x.sel) else none
  | some 1 => if x.sel < 32 then some (.rev x.sel) else none
  | some 2 => if x.sel % 256 < 16 ∧ x.sel < 512 then some (.pin (x.sel % 256) (decide (256 ≤ x.sel))) else none
  | some 3 => if x.sel < 256 then some (.cross x.sel) else none
  | some _ =>
    if (srcT0 x).ns < 1000000000 ∧ (x.per = 0 ∨ 1000 ≤ x.per ∧ x.per ≤ 2 ^ 48) then some (.time (srcT0 x) x.per) else none

/-- The hold-off of a kind and quantity. -/
def holdOf (kind q : Nat) : HoldOff := match kind with | 1 => .time q | 2 => .count q | _ => .none
/-- Kind of a hold-off. -/
def holdKind : HoldOff → Nat
  | .none => 0 | .time _ => 1 | .count _ => 2

/-- One pair of TRIGGER_SET: rows of R238, parts as 0x0501 lists them. The source is composed once every pair is in. -/
def setTrigger (p : Pair) (x : TrigUnit) : Option TrigUnit :=
  let v := p.value.toNat
  match p.row with
  | 0 => one p ((boolIn p).map (fun b => { x with on := b }))
  | 1 => (match p.part with
    | 0 => (natIn p 0 4).map (fun k => { x with src := { x.src with kind := some k } })
    | 1 => some { x with src := { x.src with sel := v } }
    | 2 => some { x with src := { x.src with w0 := v } }
    | 3 => some { x with src := { x.src with w1 := v } }
    | 4 => some { x with src := { x.src with w2 := v } }
    | 5 => some { x with src := { x.src with w3 := v } }
    | 6 => some { x with src := { x.src with per := x.src.per / 4294967296 * 4294967296 + v } }
    | 7 => some { x with src := { x.src with per := v * 4294967296 + x.src.per % 4294967296 } }
    | _ => none)
  | 2 => one p ((intIn p (-8388608) 8388607).map (fun n => { x with level := n }))
  | 3 => one p ((natIn p 0 8388607).map (fun n => { x with hysteresis := n }))
  | 4 => one p ((natIn p 0 2).map (fun n => { x with dir := n }))
  | 5 => one p ((natIn p 0 255).map (fun n => { x with mask := BitVec.ofNat 8 n }))
  | 6 => (match p.part with
    | 0 => (natIn p 0 2).map (fun k => { x with holdOff := holdOf k x.holdQ })
    | 1 => some { x with holdQ := v, holdOff := holdOf (holdKind x.holdOff) v }
    | _ => none)
  | 7 => one p ((natIn p 0 31).map (fun n => { x with actions := BitVec.ofNat 5 n }))
  | 8 => one p ((orNoneWide p).map (fun d => { x with head := d }))
  | 9 => one p ((natIn p 0 255).map (fun n => { x with xcls := some n }))
  | 10 => (match p.part with
    | 0 => (orNone p 16).map (fun n => { x with pinNum := n })
    | 1 => (natIn p 1 1000).map (fun n => { x with pinWidth := some n })
    | _ => none)
  | 11 => (match p.part with
    | 0 => (natIn p 0 1023).map (fun n => { x with jumpUnit := some n })
    | 1 => (orNoneWide p).map (fun d => { x with jumpDesc := d })
    | _ => none)
  | 12 => one p (if v = 0xFF then some { x with jumpIn := none }
      else if v % 256 < 16 ∧ v < 512 then some { x with jumpIn := some (v % 256, decide (256 ≤ v)) } else none)
  | _ => none

/-- A unit's settings fit together: the source has its values, COUNT is at most 65,535, and an enabled unit has its source
and the settings of its actions (R238, R711). -/
def triggerOk (x : TrigUnit) : Bool :=
  let held := match x.holdOff with | .count n => decide (n ≤ 65535) | _ => true
  let act (i : Nat) (has : Bool) : Bool := !x.actions.getLsbD i || has
  held && (sourceOf? x.src).isSome &&
    (!x.on || (x.src.kind.isSome && act 0 x.head.isSome && act 1 x.xcls.isSome && act 2 (x.pinNum.isSome && x.pinWidth.isSome)
      && act 3 x.jumpUnit.isSome))

/-- One pair of ADMISSION_SET: C in GB/s and Gd in µs (R260). -/
def setAdmission (p : Pair) (x : Nat × Nat) : Option (Nat × Nat) :=
  match p.row with
  | 0 => one p ((natIn p 1 60).map (fun n => (n, x.2)))
  | 1 => one p ((natIn p 100 100000).map (fun n => (x.1, n)))
  | _ => none

/-! ## Streams (R312, R325 to R327) -/

/-- Guaranteed depth of a kind within its bounds: µs or items (R325). -/
def depthIn (kind : Nat) (p : Pair) : Option Nat :=
  if kind = 5 then none
  else if kind = 4 || kind = 7 || kind = 8 then natIn p 16 16777216
  else natIn p 1000 3600000000

/-- One pair of RING_SET on a stream of a kind: G, window N, raw or SPK. -/
def setRing (kind : Nat) (p : Pair) (x : Stream) : Option Stream :=
  match p.row with
  | 0 => one p ((depthIn kind p).map (fun n => { x with depth := some n }))
  | 1 => one p ((natIn p 1 8000).bind (fun n => if 8000 % n = 0 then some { x with window := n } else none))
  | 2 => if kind = 2 then one p ((boolIn p).map (fun b => { x with packed := b })) else none
  | _ => none

/-- What SUBSCRIBE names: rows 1 to 7 of R327. -/
structure SubAsk where
  bestEffort : Bool := false
  bulk       : Bool := true
  /-- 0 NEXT, 1 OLDEST, 2 FROM, with its low and high word. -/
  start      : Nat := 0
  fromLo     : Nat := 0
  fromHi     : Nat := 0
  queue      : Nat := 0
  lag        : Option Nat := none
  retention  : Nat := 60
  autoAck    : Option Bool := none
  deriving DecidableEq, Repr, Inhabited

/-- One pair of SUBSCRIBE; the start has parts kind, and the words of FROM. A lag limit is in µs. -/
def setSub (p : Pair) (x : SubAsk) : Option SubAsk :=
  match p.row with
  | 1 => one p ((boolIn p).map (fun b => { x with bestEffort := b }))
  | 2 => one p ((boolIn p).map (fun b => { x with bulk := b }))
  | 3 => (match p.part with
    | 0 => (natIn p 0 2).map (fun n => { x with start := n })
    | 1 => some { x with fromLo := p.value.toNat }
    | 2 => some { x with fromHi := p.value.toNat }
    | _ => none)
  | 4 => one p ((natIn p 0 3).map (fun n => { x with queue := n }))
  | 5 => one p ((natIn p 1000 3600000000).map (fun n => { x with lag := some n }))
  | 6 => one p ((natIn p 1 3600).map (fun n => { x with retention := n }))
  | 7 => one p ((boolIn p).map (fun b => { x with autoAck := some b }))
  | _ => none

/-! ## Ports (R430 to R432) -/

/-- Mask with a bit set or cleared. -/
def withBit (m i : Nat) (b : Bool) : Nat := if b then m ||| 2 ^ i else m - (m &&& 2 ^ i)

/-- One pair of PORT_SET on port n: rows of R431; lanes have parts base and width, polarity a part per lane, the quiet
policy parts kind, idle time in 10 µs steps and wake depth. -/
def setPort (n : Nat) (p : Pair) (x : Port) : Option Port :=
  let dbase := if n < 8 then 4 * n else 0
  let dwidth := if n < 8 then 4 else 0
  match p.row with
  | 0 => one p ((boolIn p).map (fun b => { x with on := some b }))
  | 1 => (match p.part with
    | 0 => (natIn p 0 31).map (fun b => { x with base := some b, width := some (x.width.getD dwidth) })
    | 1 => if [1, 2, 4].contains p.value.toNat then some { x with width := some p.value.toNat, base := some (x.base.getD dbase) } else none
    | _ => none)
  | 2 => one p ((natIn p 0 2).map (fun r => { x with maxRate := r }))
  | 3 => if p.part < 4 then (boolIn p).map (fun b => { x with txInv := withBit x.txInv p.part b }) else none
  | 4 => if p.part < 4 then (natIn p 0 2).map (fun r => { x with rxPol := x.rxPol.set p.part r }) else none
  | 5 => one p ((natIn p 0 7).map (fun r => { x with preset := r }))
  | 6 => one p ((boolIn p).map (fun b => { x with clover := b }))
  | 7 => (match p.part with
    | 0 => (boolIn p).map (fun b => { x with quietOn := b })
    | 1 => (natIn p 1 10000).map (fun t => { x with quietT := t })
    | 2 => (natIn p 4 256).map (fun d => { x with depth := d })
    | _ => none)
  | 8 => one p ((boolIn p).map (fun b => { x with loopOk := b }))
  | _ => none

/-- Lanes of a base and width are legal (R430). -/
def lanesOk (base width : Nat) : Bool := decide (base + width ≤ 32) && decide (0 < width) && decide (base % width = 0)

/-! ## Settings that apply at once -/

/-- One pair of CAL_SET: selection, clear COUNT, run length, apply threshold (R120, R123, R138); the flag says that COUNT is
cleared. -/
def setCal (p : Pair) (x : Bool × Bool × Nat × Int) : Option (Bool × Bool × Nat × Int) :=
  let (sel, clr, len, thr) := x
  match p.row with
  | 0 => one p ((boolIn p).map (fun b => (b, clr, len, thr)))
  | 1 => one p ((boolIn p).map (fun b => (sel, b, len, thr)))
  | 2 => one p ((natIn p 64 4096).map (fun n => (sel, clr, n, thr)))
  | 3 => one p ((intIn p (-130) (-100)).map (fun n => (sel, clr, len, n)))
  | _ => none

/-- Policy of a code (R303). -/
def policyOf (n : Nat) : Reacq := match n with | 0 => .slew | 1 => .step | _ => .stay

/-- One pair of TIME_SET (0x0701; R282, R293, R295, R301, R303). -/
def setTime (p : Pair) (x : TimeU) : Option TimeU :=
  match p.row with
  | 0 => one p ((natIn p 0 255).map (fun n => { x with prio := n }))
  | 1 => one p ((natIn p 100 10000).map (fun n => { x with bandmHz := n }))
  | 2 => one p ((natIn p 10 1000000).map (fun n => { x with limitNs := n }))
  | 3 => one p ((natIn p 0 2).map (fun n => { x with policy := policyOf n }))
  | 4 => one p ((natIn p 1 10000).map (fun n => { x with slew := n }))
  | 5 => one p ((natIn p 1 1000000).map (fun n => { x with stepUs := n }))
  | 6 => one p (some { x with yPpb := p.value.toNat })
  | 7 => one p (some { x with aPpb := p.value.toNat })
  | 8 => one p ((boolIn p).map (fun b => { x with tcxo := b }))
  | _ => none

/-- One pair of PTP_SET (R288). -/
def setPtp (p : Pair) (x : Ptp) : Option Ptp :=
  match p.row with
  | 0 => one p ((boolIn p).map (fun b => { x with on := b }))
  | 1 => one p ((natIn p 0 127).map (fun n => { x with domain := n }))
  | 2 => one p ((intIn p (-7) 1).map (fun n => { x with sync := n }))
  | 3 => one p ((intIn p (-7) 1).map (fun n => { x with delayReq := n }))
  | 4 => one p ((natIn p 0 1).map (fun n => { x with transport := n }))
  | _ => none

/-- One pair of PPS_SET (R286, R290): the width is in µs, kept in µs. -/
def setPps (p : Pair) (x : TimeU) : Option TimeU :=
  match p.row with
  | 0 => one p ((boolIn p).map (fun b => { x with outOn := b }))
  | 1 => one p ((natIn p 0 1000).map (fun n => { x with outComp := n }))
  | 2 => one p ((natIn p 1 500000).map (fun n => { x with outWidth := n }))
  | 3 => one p ((natIn p 0 15).map (fun n => { x with outMask := BitVec.ofNat 4 n }))
  | 4 => one p ((natIn p 0 1000000).map (fun n => { x with ppsComp := n }))
  | _ => none

/-- One pair of CLOVER_SET (R524, R531). -/
def setClover (p : Pair) (x : Clover) : Option Clover :=
  match p.row with
  | 0 => one p ((natIn p 1 600).map (fun n => { x with search := n }))
  | 1 => one p ((natIn p 1 3600).map (fun n => { x with hold := n }))
  | 2 => one p ((boolIn p).map (fun b => { x with command := b }))
  | _ => none

/-- One pair of MEM_LAYOUT (R324, R385, R400): the grain as log2 of bytes, 256 B to 64 KiB, and the areas in GiB. -/
def setLayout (p : Pair) (x : Nat × List Nat) : Option (Nat × List Nat) :=
  match p.row with
  | 0 => one p ((natIn p 8 16).map (fun n => (n, x.2)))
  | n + 1 => if n < 5 then one p (some (x.1, x.2.set n p.value.toNat)) else none

/-- One class of POLICY_CLASS: deadline in µs, promotion rank, hold in swaths. -/
def setClass (p : Pair) (x : ClassPol) : Option ClassPol :=
  match p.part with
  | 0 => some { x with deadline := p.value.toNat }
  | 1 => some { x with promote := p.value.toNat }
  | 2 => some { x with hold := p.value.toNat }
  | _ => none

/-- One pair of POLICY_CLASS: a row per class of R417, row 3 the base ranks of LATENCY and BULK. -/
def setPolicy (p : Pair) (x : Mem) : Option Mem :=
  match p.row with
  | 0 => (setClass p x.latPol).map (fun c => { x with latPol := c })
  | 1 => (setClass p x.bulkPol).map (fun c => { x with bulkPol := c })
  | 2 => (setClass p x.mgmtPol).map (fun c => { x with mgmtPol := c })
  | 3 => (match p.part with
    | 0 => some { x with latRank := p.value.toNat }
    | 1 => some { x with bulkRank := p.value.toNat }
    | _ => none)
  | _ => none

end Sys2Proof.Machine
end

