-- ==== Sys2Proof/Machine/Settings.lean ====
section
/-! DEFINITION. The twelve staged settings (marks S of 15): what a change writes, the checks of it, and its effect at the
boundary at which it applies (R29 step 4, R31, R70, R177 to R184, R193, R199, R229, R238, R248, R260, R312 to R326, R431). -/

namespace Sys2Proof.Machine

/-! ## Which objects a change writes -/

/-- The modulators whose chains take the settings of a modulator's: itself, and a spare that shadows, serves or replaces the
channel (R112, R183). -/
def chainMembers (s : State) (m : Nat) : List Nat :=
  if m < 768 then
    m :: (sparesOf (tileOf m)).filter (fun x => decide ((s.spare x).source = some m) &&
      (decide ((s.spare x).state = .shadow) || decide ((s.spare x).state = .serving) || decide ((s.spare x).state = .remapped)))
  else [m]

/-- Cascade ratio of the input of LR or ER in angle mode under a binding (R213). -/
def angleRatio (s : State) (b : Bind) (kind tap : Nat) : Nat :=
  if kind = 3 then tapPeriod tap * 2 ^ e3Exp tap (bindRate s b) else 2 ^ (10 + log2Up l3Rate (bindRate s b))

/-- A binding with the delay line that it needs (R215). -/
def withLine (s : State) (kind tap : Nat) (b : Bind) : Bind :=
  { b with words := lineWords (s.shaft b.group) (angleRatio s b kind tap) }

/-- New settings of a modulator's chains by CHAIN_SET or CHAIN_TAPS on its chain of a kind. -/
def chainAfter (s : State) (ch : Change) (kind : Nat) (c : ChainCfg) : Option ChainCfg :=
  if ch.opcode = 0x0301 then
    (if kind = 3 then some { c with band := { c.band with tap := ch.tap, taps := ch.taps } } else none)
  else
    (withPairs (setChain kind) ch.pairs c).map (fun c =>
      { c with lbBind := c.lbBind.map (withLine s 1 0), ebBind := c.ebBind.map (withLine s 3 (bandTap c.band).1) })

/-- A group in TIME leaves a chain bound to it in time mode (R224). -/
def fellAt (s : State) (b : Option Bind) : Bool := match b with | some x => decide ((s.shaft x.group).state = .time) | none => false

/-- The settings that stand after a change on one of its objects; none when a pair is outside its table (R573). -/
def changeObj (ch : Change) (i : Nat) (s : State) : Option State :=
  match ch.opcode with
  | 0x0200 => (withPairs setChannel ch.pairs (s.chan i, s.chain i)).map (fun p =>
      each (chainMembers s i) (fun m s =>
        s.modChain m (fun k => { k with mains := p.2.mains, notchH := p.2.notchH, notchT := p.2.notchT }))
        (s.modChan i (fun _ => p.1)))
  | 0x0202 => (withPairs setGroup ch.pairs (s.group i)).map (fun g => s.modGroup i (fun _ => g))
  | 0x0204 => (withPairs setRef ch.pairs (s.tile i).refOn).map (fun b => s.modTile i (fun t => { t with refOn := b }))
  | 0x0300 | 0x0301 => (chainAfter s ch (i % 4) (s.chain (i / 4))).map (fun c =>
      each (chainMembers s (i / 4)) (fun m s =>
        (s.modChain m (fun _ => c)).modPipe m (fun p => { p with
          lbFell := if c.lbBind = (s.chain m).lbBind then p.lbFell else fellAt s c.lbBind
          ebFell := if c.ebBind = (s.chain m).ebBind then p.ebFell else fellAt s c.ebBind })) s)
  | 0x0400 => (withPairs setTach ch.pairs (s.tach i)).map (fun x => s.modTach i (fun _ => x))
  | 0x0402 => (withPairs setShaft ch.pairs (s.shaft i)).map (fun x => s.modShaft i (fun _ => x))
  | 0x0500 => (withPairs setStats ch.pairs (s.stat i)).map (fun x => s.modStat i (fun _ => x))
  | 0x0501 => (withPairs setTrigger ch.pairs (s.unit i)).bind (fun x =>
      (sourceOf? x.src).map (fun src => s.modUnit i (fun _ => { x with source := src })))
  | 0x0507 => (withPairs setAdmission ch.pairs (s.red.rateC, s.red.guard)).map (fun x =>
      { s with red := { s.red with rateC := x.1, guard := x.2 } })
  | 0x0606 => (withPairs (setRing (kindOf i)) ch.pairs (s.stream i)).map (fun x => s.modStream i (fun _ => x))
  | 0x0800 => (withPairs (setPort i) ch.pairs (s.port i)).map (fun x => s.modPort i (fun _ => x))
  | _ => none

/-- The settings after a change on all its objects; an object that refuses keeps its settings. -/
def changeAll (ch : Change) (s : State) : State := each ch.objs (fun i s => (changeObj ch i s).getD s) s

/-! ## Checks (R577) -/

/-- Some tach input is routed to a field pin (R197). -/
def tachPin (s : State) (p : Nat) (but : Option Nat) : Bool :=
  s.red.tachs.any (fun x => decide (x.2.pin = some p) && decide (some x.1 ≠ but))
/-- Some unit drives a field pin by its PIN action (R239, R243). -/
def actionPin (s : State) (p : Nat) : Bool :=
  s.red.units.any (fun x => x.2.actions.getLsbD 2 && decide (x.2.pinNum = some p))
/-- Some unit has a field pin as its source or jump input (R239, R253). -/
def inputPin (s : State) (p : Nat) : Bool :=
  s.red.units.any (fun x =>
    decide (x.2.jumpIn.map (·.1) = some p) || (match x.2.source with | .pin q _ => decide (q = p) | _ => false))
/-- A bus's reset pin (R632). -/
def resetPin (s : State) (p : Nat) : Bool := s.mgmt.buses.any (fun x => decide (x.2.rstPin = some p))

/-- Field pin of a trigger source. -/
def sourcePin : TrigSource → Option Nat
  | .pin p _ => some p
  | _ => none

/-- The pins of a unit agree with R239 and R253. -/
def unitPins (s : State) (x : TrigUnit) : Bool :=
  let ins := (sourcePin x.source).toList ++ (x.jumpIn.map (·.1)).toList
  let outs := if x.actions.getLsbD 2 then x.pinNum.toList else []
  ins.all (fun p => !tachPin s p none && !actionPin s p) && outs.all (fun p => !tachPin s p none && !inputPin s p)

/-- The list head of an enabled CAPTURE unit names a live descriptor (R711). -/
def headLives (s : State) (x : TrigUnit) : Bool :=
  !(x.on && x.actions.getLsbD 0) || (match x.head with | some d => (s.red.descs.get d).isSome | none => true)

/-- A binding keeps R212 and R213; one to a group without its speeds, which is OFF, is refused for that (R201). N_rev × f_max between 357.628 and the band's limit in S/s, ρ_min at least 0.34, and E3
within R160. -/
def bindOk (s : State) (b : Bind) (kind tap : Nat) : Bool :=
  let top := b.nrev * (s.shaft b.group).fmax.getD 0
  let low := b.nrev * (s.shaft b.group).fmin.getD 0
  (s.shaft b.group).fmax.isNone || decide (1000 * top ≤ (if kind = 3 then 51200000 else 256000000) * 65536) && decide (357628 * 65536 ≤ 1000 * top)
    && decide (34 * 1500000000 * 65536 ≤ 100 * low * angleRatio s b kind tap)
    && (kind ≠ 3 || decide (e3Exp tap (bindRate s b) ≤ tapMaxM tap))

/-- The settings of a modulator's chain of a kind lie within their rules: BAD_PARAM otherwise. -/
def chainParams (s : State) (m kind : Nat) : Bool :=
  let c := s.chain m
  let tap := (bandTap c.band).1
  match kind with
  | 1 => (match c.lbBind with | some b => bindOk s b 1 0 | none => mainsOk c)
  | 3 => (match c.ebBind with | some b => bindOk s b 3 tap | none => decide (e3Exp tap (c.ebRate, 1) ≤ tapMaxM tap))
      && (c.band.preset ≠ 8 || userEdgesOk c.band.tap c.band.f1 c.band.f2)
  | _ => true

/-- A binding that a change makes is to a group that has an angle, or has had one: OFF and ACQUIRE refuse it (R201, R224). -/
def newBindings (a b : State) (m : Nat) : Bool :=
  let ok (was now : Option Bind) : Bool :=
    match now with
    | none => true
    | some x => was.any (fun w => decide (w.group = x.group) && decide (w.nrev = x.nrev)) ||
        (decide ((a.shaft x.group).state ≠ .off) && decide ((a.shaft x.group).state ≠ .acquire))
  ok (a.chain m).lbBind (b.chain m).lbBind && ok (a.chain m).ebBind (b.chain m).ebBind

/-- The streams that a modulator's chains of a kind, and those of the spare that follows it, feed: each one's own, and that of the channel
that a spare serves (R111, R113, R183). -/
def fedKeys (s : State) (m kind : Nat) : List Nat :=
  (chainMembers s m).flatMap (fun x =>
    streamKey x kind 0 :: (match (if isSpare x then (s.spare x).source else none) with
      | some ch => if (s.chan ch).servedBy = some x then [streamKey ch kind 0] else []
      | none => []))

/-- A chain's stream has a live subscription. -/
def hasLiveSub (s : State) (key : Nat) : Bool := !(subsOf s key).isEmpty

/-- An admitted tussock still has samples of a stream to copy (R258). -/
def copiesFrom (s : State) (key : Nat) : Bool := s.red.tussocks.any (fun x => decide (x.source = key) && decide (x.state = 0))

/-- Measured VEXC_t of a tile in µV (R75, sensors 60 to 71 of R627). -/
def vexc (s : State) (t : Nat) : Int := (s.sensor (60 + t)).value

/-- Sum of the current limits of the groups that are on, in 5 mA (R76). -/
def limitSum (s : State) : Nat := ((List.range 96).map (fun g => if (s.group g).setCode = 0 then 0 else (s.group g).limit)).sum

/-- Lanes of an enabled port. -/
def portLanes (s : State) (p : Nat) : List Nat := if portOn s p then (List.range (portWidth s p)).map (portBase s p + ·) else []

/-- No lane belongs to two ports (R430). -/
def lanesApart (s : State) (p : Nat) : Bool :=
  (List.range 16).all (fun q => decide (q = p) || (portLanes s p).all (fun l => !(portLanes s q).contains l))

/-- A ring's guaranteed depth may change: no admitted tussock loses samples that it has still to copy, and no REQUIRED
subscriber loses items at or after its free point (R326). -/
def depthFree (s : State) (key : Nat) (st : Stream) : Bool :=
  let ring := (s.stream key).ring
  let after := s.modStream key (fun _ => st)
  let gone := (retire st (kindOf key) (ringSlots after key) (ring.length + 1) ring).1
  let need := (subsOf s key).any (fun p => !p.2.bestEffort && p.2.live)
  let late := match gone.getLast? with
    | some r => need && decide (freePoint s key < r.stopSeq)
    | none => false
  let copies := s.red.tussocks.any (fun x => decide (x.state = 0) && decide (x.source = key)
    && decide (sampleInst s key x.first + ringDepthOf after key < x.finish + nsSpan (s.red.guard * 1000)))
  !late && !copies

/-- The checks of one object of a change, between the settings before it and those after it, with the status that each
gives (R577, R588). -/
def objChecks (ch : Change) (i : Nat) (a b : State) : List (Bool × Status) :=
  match ch.opcode with
  | 0x0200 =>
    let c := b.chan i
    let k := b.chain i
    [(biasOrder c, .badParam), (k.lbBind.isSome || mainsOk k, .badParam), (k.mains = .off || k.lbBind.isNone, .state),
     (!c.ratiometric || (a.chan i).ratiometric || decide ((b.group (groupOf i)).setCode ≠ 0), .state)]
  | 0x0202 =>
    [(decide (((b.group i).setCode : Int) * 10000 + 1000000 ≤ vexc b (i / 8)) || decide ((b.group i).setCode = 0), .limit),
     (decide (limitSum b ≤ 600), .limit)]
  | 0x0204 => [((b.tile i).refOn || (chansOf i).all (fun c => decide ((b.chan c).mode = .off)), .state)]
  | 0x0300 | 0x0301 =>
    let m := i / 4
    let kind := i % 4
    let k := b.chain m
    let bd := bandOf kind
    [(chainParams b m kind, .badParam),
     ([Band.lb, .wb, .eb].all (fun x => !bandOn k x || decide (worstPayload b m x (windowOf b m x) ≤ 16777216)), .badParam),
     (k.mains = .off || k.lbBind.isNone, .state),
     (newBindings a b m, .state),
     (!(bandOn (a.chain m) bd && !bandOn k bd && (fedKeys a m kind).any (hasLiveSub a)), .busy),
     (!([Band.lb, .wb, .eb].any (fun x => (fedKeys a m (bandKind x)).any (copiesFrom a) && bandOn (a.chain m) x &&
        (!bandOn k x || decide (bandBind a m x ≠ bandBind b m x) || decide (bandPeriod a m x ≠ bandPeriod b m x)))), .busy),
     (decide ((k.lbBind.map (·.words)).getD 0 ≤ 1048576) && decide ((k.ebBind.map (·.words)).getD 0 ≤ 1048576), .limit)]
  | 0x0400 => (match (b.tach i).pin with
    | none => []
    | some p => [(decide ((a.tach i).pin = some p) || !(tachPin a p (some i) || actionPin a p || inputPin a p || resetPin a p), .busy)])
  | 0x0402 =>
    [(shaftOk i (b.shaft i), .badParam),
     (!(allMods.any (fun m => decide ((a.chain m).lbBind.map (·.group) = some i) || decide ((a.chain m).ebBind.map (·.group) = some i))),
      .busy)]
  | 0x0500 => [(statsOk (b.stat i), .badParam)]
  | 0x0501 => [(triggerOk (b.unit i), .badParam), (headLives b (b.unit i), .noSuchObject), (unitPins b (b.unit i), .busy)]
  | 0x0507 => [(decide (a.red.rateC = b.red.rateC) || boundAllows b, .limit)]
  | 0x0606 =>
    [(!isSampleKind (kindOf i) || decide (worstPayload b (sourceOf i) (bandOf (kindOf i)) (b.stream i).window ≤ 16777216), .badParam),
     (decide ((a.stream i).depth = (b.stream i).depth) || depthFree a i (b.stream i), .busy)]
  | 0x0800 =>
    let q := b.port i
    [(lanesOk (portBase b i) (portWidth b i) || !portOn b i, .badParam), (lanesApart b i, .badParam),
     (!q.clover || (decide (portWidth b i ≤ 2) && !q.quietOn), .badParam),
     (!(decide (a.clover.state = .formed) && (a.port i).clover), .busy)]
  | _ => []

/-- The statuses that staging reports: parameters, ownership and existence (R577). -/
def stagingStatus (st : Status) : Bool := decide (st = .badParam) || decide (st = .notOwner) || decide (st = .noSuchObject)

/-- Every pair of a change lies within its table on each object (R573). -/
def changeFormed (ch : Change) (s : State) : Bool :=
  (ch.objs.foldl (fun (acc : Bool × State) i =>
    match changeObj ch i acc.2 with
    | none => (false, acc.2)
    | some b => (acc.1, b)) (true, s)).1

/-- The checks of a change on all its objects, between the settings before the stage and those that stand once all of it has applied
(R577, R579). -/
def changeChecks (ch : Change) (a b : State) : List (Bool × Status) := ch.objs.flatMap (fun i => objChecks ch i a b)

/-- The configuration that stands at a boundary once every stage committed to it or before it has applied (R577). -/
def standing (b : Nat) (s : State) : State :=
  each (s.host.bank.filter (fun k => decide (k.at_ ≤ b))) (fun k s => each k.stage.changes changeAll s) s

/-- The latest boundary that a committed stage names. -/
def lastCommit (s : State) : Nat := s.host.bank.foldl (fun m k => max m k.at_) 0

/-- The checks that staging makes of a change that joins a stage. -/
def stageChecks (ch : Change) (prior : List Change) (s : State) : List (Bool × Status) :=
  let a := standing (lastCommit s) s
  let p := each prior changeAll a
  ((changeFormed ch p, .badParam) :: changeChecks ch a (changeAll ch p)).filter (fun p => stagingStatus p.2)

/-- A band that uses USER_TAPS has its taps (R593). -/
def tapsGiven (s : State) (l : List Change) : Bool :=
  l.all (fun ch => ch.opcode ≠ 0x0300 || ch.objs.all (fun i => (s.chain (i / 4)).band.preset ≠ 9 || !(s.chain (i / 4)).band.taps.isEmpty))

/-- Excitation dissipation bound of all tiles in nW: (VEXC_t - set voltage) × current limit over the groups that are on
(R674). -/
def excPower (s : State) : Int :=
  ((List.range 96).map (fun g =>
    let x := s.group g
    if x.setCode = 0 then 0 else (vexc s (g / 8) - 10000 * (x.setCode : Int)) * (5 * (x.limit : Int)))).sum

/-- The checks of a whole stage at its commit to boundary b: each change, judged by what stands once the stage has applied, then budgets and table space (R215, R326, R419, R577). -/
def commitChecks (b : Nat) (l : List Change) (s : State) : List (Bool × Status) :=
  let a := standing b s
  let (formed, after) := l.foldl (fun (acc : Bool × State) ch => (acc.1 && changeFormed ch acc.2, changeAll ch acc.2)) (true, a)
  let cs := (formed, Status.badParam) :: l.flatMap (fun ch => changeChecks ch a after)
  let exc := l.any (fun ch => ch.opcode = 0x0202)
  let loads := l.any (fun ch => [0x0300, 0x0500, 0x0507, 0x0606].contains ch.opcode)
  cs ++ [(tapsGiven after l, .badParam), (!exc || decide (excPower after ≤ 9000000000), .limit), (!loads || fitsBudget after, .limit), (!loads || fitsAreas after, .noResource)]

/-! ## Effects at the boundary -/

/-- What fixes a band's output rate: its binding in force, or its sample period (R181). -/
def rateKey (s : State) (m : Nat) (b : Band) : Option Bind × Nat :=
  (bandBind s m b, if (bandBind s m b).isSome then 0 else bandPeriod s m b)

/-- Default shift of a stage of a modulator (R141). E3's is 3m as R168 gives it, 42 at m = 14 on tap L1, where R141 says that every
default lies within 40 and none above 40 can be written back (log entry 148). -/
def defaultShift (s : State) (m k : Nat) : Nat :=
  match k with
  | 2 | 6 => 33
  | 3 | 7 | 8 | 9 | 11 | 14 => 17
  | 4 => 8
  | 5 => 12
  | 10 => ((lnTaps (s.chain m)).map (·.2)).getD 0
  | 13 => 3 * ebExp s m
  | _ => 0

/-- The stages in use by a band, whose shifts reach it (R140, R182). -/
def bandStages (s : State) (m : Nat) (b : Band) : List Nat :=
  let c := s.chain m
  let tap := (bandTap c.band).1
  match b with
  | .wb => [0, 1, 2] ++ (if 0 < c.wbRate then [3] else [])
  | .lb => [0, 4, 5, 6, 8] ++ (if 0 < lhCount s m then [7] else []) ++ (if 0 < ltCount s m then [9] else [])
      ++ (if c.mains ≠ .off && (bandBind s m .lb).isNone then [10] else [])
  | .eb => [0, 4, 11, 12, 13, 14] ++ (if 0 < tap then [5, 6] else []) ++ (if 1 < tap then [7] else [])

/-- The shift in use at a stage of a modulator. -/
def shiftNow (s : State) (m k : Nat) : Nat := shiftAt (s.chain m) k (defaultShift s m k)

/-- A band's settings differ between two states: its rate, a shift in use, or its coefficients (R146). -/
def bandChanged (a s : State) (m : Nat) (b : Band) : Bool :=
  decide (rateKey a m b ≠ rateKey s m b)
    || (bandStages s m b).any (fun k => decide (shiftNow a m k ≠ shiftNow s m k))
    || (match b with
        | .wb => false
        | .lb => decide ((a.chain m).mains ≠ (s.chain m).mains)
        | .eb => decide ((a.chain m).band ≠ (s.chain m).band))

/-- Histories of the stages that LB and EB share and that run for one of them: L1 5, L2 6, L3 7 and LH stage k 7 + k (R161). -/
def lowStages (s : State) (m : Nat) : List Nat :=
  let c := s.chain m
  let tap := (bandTap c.band).1
  let lh := max (if c.lbOn then lhCount s m else 0) (if c.ebOn then tap - 1 else 0)
  (if c.lbOn || c.ebOn then [5] else []) ++ (if c.lbOn || (c.ebOn && decide (0 < tap)) then [6, 7] else [])
    ++ (List.range lh).map (· + 8)

/-- Histories of a band's stages that start from zero when its structure changes, or all of its own when it is enabled (R178): keys
1 to 4 WB, 18 to 20 EB, 22 to 25 LT and LN, and shared stages that did not run before. -/
def staleStages (a s : State) (m : Nat) (b : Band) (fresh : Bool) : List Nat :=
  let low := (lowStages s m).filter (fun k => !(lowStages a m).contains k)
  match b with
  | .wb => if fresh then [1, 2, 3, 4]
      else if (a.chain m).wbRate = (s.chain m).wbRate then [] else if (a.chain m).wbRate = 0 then [3, 4] else [4]
  | .lb => low ++ (if fresh || decide (ltCount a m ≠ ltCount s m) || decide (rateKey a m .lb ≠ rateKey s m .lb) then [22, 23, 24, 25]
      else [])
  | .eb => low ++ (if fresh || decide ((bandTap (a.chain m).band).1 ≠ (bandTap (s.chain m).band).1) then [18, 19, 20]
      else if decide (ebExp a m ≠ ebExp s m) then [20] else [])

/-- The input of LR or ER has another ratio than before. -/
def newInput (a s : State) (m : Nat) (b : Band) : Bool :=
  match b with
  | .wb => false | .lb => decide (lrRatio a m ≠ lrRatio s m) | .eb => decide (erRatio a m ≠ erRatio s m)

/-- Where a band's resampler stands on its grid from a boundary on: the first time-mode grid index (R191), or to be found on
the angle grid (R214). -/
def gridFrom (s : State) (m g : Nat) (b : Band) : Option Nat :=
  if (bandBind s m b).isSome then none
  else some (firstIndex (match b with | .eb => erSpan s m | _ => lrSpan s m) (boundary g))

/-- A band that ends, or changes its rate, still has its samples of instants before the boundary to deliver, by its earlier settings
(R180, R181, R222, R223, R228). -/
def addTail (a : State) (cyc m : Nat) (b : Band) (ends : Bool) (s : State) : State :=
  let q := a.pipe m
  let t : Tail := { band := b, cfg := a.chain m, stop := cyc, ends := ends
                    pipe := { s.pipe m with lbFell := q.lbFell, ebFell := q.ebFell } }
  { s with front := { s.front with tails := s.front.tails.mod m (fun l => l ++ [t]) } }

/-- A modulator's filters after a change of one of its bands at a boundary (R178 to R181, R191): `a` is the state before. -/
def turnPipe (a : State) (g : Nat) (m : Nat) (b : Band) (s : State) : State :=
  let was := bandRuns a m b
  let on := bandRuns s m b
  let cyc := g * Config.swathCycles
  let fresh := !was && on
  let rate := was && on && decide (rateKey a m b ≠ rateKey s m b)
  let changed := was && on && bandChanged a s m b
  let push (l : List Nat) : List Nat := if changed then (cyc :: l).take 8 else l
  let s := s.modPipe m (fun p => match b with
    | .wb => { p with setlWb := push p.setlWb } | .lb => { p with setlLb := push p.setlLb } | .eb => { p with setlEb := push p.setlEb })
  let s := when (was && (!on || rate)) (addTail a cyc m b (!on)) s
  let s := when changed (fun s => s.modModu m (fun x => { x with dirty := true })) s
  if !(fresh || changed) then s
  else
    let j := if fresh || rate then gridFrom s m g b else (match b with | .eb => (s.pipe m).erJ | _ => (s.pipe m).lrJ)
    let empty := fresh || newInput a s m b
    let stale := staleStages a s m b fresh ++ (if empty then (match b with | .wb => [] | .lb => [100] | .eb => [101]) else [])
    s.modPipe m (fun p =>
      let l := p.former
      let l := match l with
        | f :: r => if f.at_ = cyc then { f with stale := f.stale ++ stale } :: r else { at_ := cyc, cfg := a.chain m, stale := stale } :: l.take 7
        | [] => [{ at_ := cyc, cfg := a.chain m, stale := stale }]
      let p := { (p.clearStale stale) with former := l }
      match b with
      | .wb => { p with fromWb := if fresh then cyc else p.fromWb, wbOut := if fresh || rate then [] else p.wbOut
                        placeWb := if rate then cyc else p.placeWb }
      | .lb => { p with fromLb := if fresh then cyc else p.fromLb, lrJ := j, placeLb := if rate then cyc else p.placeLb }
      | .eb => { p with fromEb := if fresh then cyc else p.fromEb, erJ := j })

/-- The stream of a modulator's band after the change: it begins, or its statistics intervals close; a record or a stream that ends
does so with the last sample of the earlier settings (R180, R181, R236, R308). -/
def turnStream (a : State) (g m : Nat) (b : Band) (s : State) : State :=
  let was := bandRuns a m b
  let on := bandRuns s m b
  let key := streamKey m (bandKind b) 0
  if on && !was then cutStats m (bandKind b) g (when s.ready (startStream key) s)
  else if was && (!on || decide (rateKey a m b ≠ rateKey s m b)) then cutStats m (bandKind b) g s
  else s

/-- Every band of a modulator turns at a boundary, and its streams. -/
def turnMod (a : State) (g m : Nat) (bands : List Band) (s : State) : State :=
  each bands (turnStream a g m) (each bands (turnPipe a g m) s)

/-- Every band of a modulator, and of the spare that follows it, turns at a boundary (R112, R183). -/
def turnChains (a : State) (g : Nat) (m : Nat) (s : State) : State :=
  each (chainMembers s m) (fun k s => turnMod a g k [.lb, .wb, .eb] s) s

/-- A setting of a channel that shapes its samples has changed at a boundary: samples whose window spans it carry SETL, and an
estimation run is spoilt (R31, R122). -/
def markShown (g c : Nat) (s : State) : State :=
  let s := s.modChan c (fun z => { z with shownAt := (g * Config.swathCycles :: z.shownAt).take 8 })
  each (chainMembers s c) (fun m s => s.modModu m (fun x => { x with dirty := true })) s

/-- A channel's settings apply (R31, R71, R72): acquisition, offset DAC, settling gain stage; to a tile whose side-band has failed
none gets (R15), and only its chains turn. -/
def turnChannel (a : State) (g c : Nat) (s : State) : State :=
  let x := a.chan c
  let y := s.chan c
  let shown := decide (x.mode ≠ y.mode) || decide (x.range ≠ y.range) || decide (x.dcOffset ≠ y.dcOffset)
    || decide (x.corner ≠ y.corner) || decide (x.ratiometric ≠ y.ratiometric)
  if (s.tile (tileOf c)).sideFail then turnChains a g c s
  else
  let s := when (decide (x.ratiometric ≠ y.ratiometric)) (fun s => s.modChan c (fun z => { z with
      ratioWas := ((g, x.ratiometric) :: z.ratioWas).take 8 })) s
  let s := when (decide (x.range ≠ y.range)) (fun s => s.modChan c (fun z => { z with gainTo := g * Config.swathCycles + 3004 })) s
  let s := when (decide (y.mode = .dc) && (decide (x.mode ≠ .dc) || decide (x.dcOffset ≠ y.dcOffset)))
    (fun s => s.modChan c (fun z => { z with dac := z.dcOffset * 10 * 1048576 })) s
  let s := when (decide (y.mode ≠ .iepe) && decide (x.mode = .iepe))
    (fun s => s.modChan c (fun z => { z with
      acquiring := false, acqLeft := 0, acqPending := false, hold := false
      patches := z.patches.map (fun p => if p.zero && (match p.stop with | some e => decide (boundary g < e) | none => false) then
        { p with stop := some (max p.start (boundary g)) } else p) })) s
  let s := when (decide (y.mode = .iepe) && decide (x.mode ≠ .iepe)) (startAcquisition c g) s
  turnChains a g c (when shown (markShown g c) s)

/-- A reference buffer goes on or off (R98): a settling interval starts when it goes on. The setting does not reach a tile whose
side-band has failed (R15). -/
def turnRef (a : State) (t : Nat) (s : State) : State :=
  if (a.tile t).refOn = (s.tile t).refOn || (s.tile t).sideFail then s
  else s.modTile t (fun x => { x with settling := x.refOn, refFault := false })

/-- A tach input's settings apply to transitions from the boundary on (R197, R226): a pulse that is open keeps its settings, the field
pin takes the confirmed output, and a code is not read on under another unit, with another active edge or with code mode off; the edges
that waited for it are written as they were taken. -/
def turnTach (a : State) (n : Nat) (s : State) : State :=
  let x := a.tach n
  let y := s.tach n
  let s := if x.opened.isSome && x.before.isNone then s.modTach n (fun z => { z with before := some x.settings }) else s
  let s := if x.pin = y.pin then s
    else
      let s := match x.pin with | some p => s.modPin p (fun z => { z with driven := false }) | none => s
      match y.pin with | some p => drivePin p y.confirmed s | none => s
  if x.settings.readsAs y.settings then s
  else (dropCode n (s.modTach n (fun z => z.under { x.settings with pin := y.pin }))).modTach n (fun z => z.under y.settings)

/-- A shaft group restarts in ACQUIRE, or goes OFF (R199). -/
def Shaft.restart (x : Shaft) : Shaft :=
  { x with state := if x.on then .acquire else .off, speed := 0, revs := 0, good := 0, okRev := false, edges := 0, lastT := none
           lastGap := 0, zeroArm := false, labels := [], segs := [], tooth := 0, predRevs := 0, blend := none, blendRev := 0
           winEnd := 0, marked := false, fellBack := false, returnAt := false, mayReturn := false }

/-- A group starts anew while a chain that was bound to it has samples of before to deliver: for them its angle goes on by prediction
(R219, R228). -/
def keepSpans (g : Nat) (x : Shaft) (s : State) : State :=
  { s with front := { s.front with tails := Tab.keep (fun l => l.map (fun t =>
      let b := match t.band with | .lb => t.cfg.lbBind | .eb => t.cfg.ebBind | .wb => none
      if decide (b.map (·.group) = some g) && t.shaft.isNone then { t with shaft := some (g, x.predict) } else t)) s.front.tails } }

/-- A shaft group's settings apply (R199). -/
def turnShaft (a : State) (g : Nat) (s : State) : State :=
  let x := a.shaft g
  let y := s.shaft g
  let again := decide (x.on ≠ y.on) || (y.on && (decide (x.source.getD g ≠ y.source.getD g) || decide (x.teeth ≠ y.teeth)
    || decide (x.zeroKind ≠ y.zeroKind) || decide (x.gapOrIn ≠ y.gapOrIn)))
  if again then
    let s := (keepSpans g x s).modShaft g Shaft.restart
    when (decide (x.state ≠ (s.shaft g).state)) (post pApp 0x0401 (hShaft g) [vU (shaftCode x.state), vU (shaftCode (s.shaft g).state), vU 0]) s
  else s

/-- A statistics definition's settings apply: the open interval closes and another opens (R236); the stream begins
(R308). -/
def turnStats (a : State) (g k : Nat) (s : State) : State :=
  if decide ((a.stat k).on = (s.stat k).on) && decide ((a.stat k).rev = (s.stat k).rev) && decide ((a.stat k).len = (s.stat k).len)
      && decide ((a.stat k).group = (s.stat k).group) then s
  else
    let s := when ((s.stat k).on && s.ready) (startStream (statStream k)) s
    let s := s.modStat k (fun x => { x with fell := false })
    when s.ready (cutInterval k g) s

/-- A trigger unit's settings apply (R239, R244, R248, R252): the detector's prime clears when what it watches changes, an enable
arms the unit at its list head, a disable turns it off; events before the boundary are still judged by the earlier settings. -/
def turnUnit (a : State) (g u : Nat) (s : State) : State :=
  let x := a.unit u
  s.modUnit u (fun y =>
    let own := decide (x.source ≠ y.source) || decide (x.level ≠ y.level) || decide (x.hysteresis ≠ y.hysteresis) || decide (x.dir ≠ y.dir)
    let b : Before := { set := x.settings, at_ := boundary g, turned := decide (x.on ≠ y.on), state := x.state, own := own
                        primeUp := x.primeUp, primeDn := x.primeDn, samples := x.samples, crossing := x.crossing }
    let l := match y.before with
      | o :: r =>
        if o.at_ = b.at_ then
          let o := if o.turned then o else { o with turned := b.turned, state := b.state }
          (if o.own || !own then o
            else { o with own := true, primeUp := b.primeUp, primeDn := b.primeDn, samples := b.samples, crossing := b.crossing }) :: r
        else b :: (y.before.take 7)
      | [] => [b]
    let y := { y with before := l }
    let y := if own then
        { y with primeUp := false, primeDn := false, crossing := none, samples := if x.source = y.source then y.samples else [] }
      else y
    let y := if decide (x.source ≠ y.source) || (y.on && !x.on) then { y with timeK := y.eventsBefore (boundary g) } else y
    if y.on && !x.on then { y with state := .armed, current := y.head, sinceArm := 0, rearming := false }
    else if x.on && !y.on then
      { y with state := .off, rearming := false, inFlight := false, orphans := if y.inFlight then y.orphans + 1 else y.orphans }
    else y)

/-- A ring's settings apply (R313, R326): a new window closes the open record, a shorter depth retires records. -/
def turnRing (a : State) (key : Nat) (s : State) : State :=
  let x := a.stream key
  let s := when (decide (x.window ≠ (s.stream key).window)) (fun s =>
      s.modStream key (Stream.cut (boundary s.time.swath) x.window false)) s
  if x.depth = (s.stream key).depth then s
  else
    let st := s.stream key
    let (gone, ring) := retire st (kindOf key) (ringSlots s key) (st.ring.length + 1) st.ring
    outrunAll key gone (s.modStream key (fun st => { st with ring := ring }))

/-- A port's settings apply (R431, R433): a change of lanes, width, rate or role takes the port down, and it starts again from
IDLE; a disable leaves it DISABLED. -/
def turnPort (a : State) (p : Nat) (s : State) : State :=
  let was := portOn a p
  let on := portOn s p
  let moved := decide (portBase a p ≠ portBase s p) || decide (portWidth a p ≠ portWidth s p)
    || decide ((a.port p).maxRate ≠ (s.port p).maxRate) || decide ((a.port p).clover ≠ (s.port p).clover)
  if was && !on then
    let s := when (decide ((a.port p).state = .up)) (fun s => failPort p 5 (bump (portCtr p 8) s)) s
    s.modPort p (fun q => { q with
      state := .disabled, tx := {}, rx := {}, neigh := none, ts1Run := 0, ts2Run := 0, advert := none, fails := 0, slowIdle := false })
  else if on && (moved || !was) then
    let s := when (decide ((a.port p).state = .up)) (linkDown p) s
    let started := decide (startupCode s.mgmt.startup ≥ 3)
    s.modPort p (fun q => { q with state := if started then .idle else .disabled, advert := none, fails := 0, slowIdle := false })
  else s

/-- A member with a configured CLOVER port and one without (R515, R524): the state UNPAIRED comes and goes with it. A member that emits
streams already is SOLO from then on (log entry 155). -/
def turnPairing (s : State) : State :=
  let has := (List.range 16).any (fun p => portOn s p && (s.port p).clover)
  if has && s.clover.state = .unpaired && decide (startupCode s.mgmt.startup ≥ 3) then
    { s with clover := { s.clover with state := if s.ready then .solo else .search, role := if s.ready then .active else .none } }
  else if !has && s.clover.state ≠ .unpaired && s.clover.state ≠ .formed then
    { s with clover := { s.clover with state := .unpaired, role := .none } }
  else s

/-- The effect of a change on one object at boundary g, given the settings before it. -/
def turnObj (ch : Change) (g i : Nat) (a s : State) : State :=
  match ch.opcode with
  | 0x0200 => turnChannel a g i s
  | 0x0202 =>
    let code := (s.group i).setCode
    if (s.tile (i / 8)).sideFail then keepDriver i (a.group i) code s
    else setVoltage i code (boundary g) (s.modGroup i (fun x => { x with setCode := (a.group i).setCode, stuck := none }))
  | 0x0204 => turnRef a i s
  | 0x0300 | 0x0301 => turnChains a g (i / 4) s
  | 0x0400 => turnTach a i s
  | 0x0402 => turnShaft a i s
  | 0x0500 => turnStats a g i s
  | 0x0501 => turnUnit a g i s
  | 0x0606 => turnRing a i s
  | 0x0800 => turnPairing (turnPort a i s)
  | _ => s

/-- A change applies to one object at boundary g. -/
def applyObj (ch : Change) (g i : Nat) (s : State) : State :=
  match changeObj ch i s with
  | none => s
  | some b => turnObj ch g i s b

/-- A change applies to its objects at boundary g. -/
def applyChange (g : Nat) (ch : Change) (s : State) : State := each ch.objs (applyObj ch g) s

/-- A committed stage applies whole (R579): shaft groups last, so that the chains that leave them keep their angle up to then (R228). -/
def applyStage (g : Nat) (k : Commit) (s : State) : State :=
  let l := k.stage.changes
  each (l.filter (fun ch => decide (ch.opcode ≠ 0x0402)) ++ l.filter (fun ch => decide (ch.opcode = 0x0402))) (applyChange g) s

/-! ## Fallback and return of shaft groups (R222, R223) -/

/-- The chains bound to a group change between angle and time mode at a boundary. -/
def turnGroup (g grp : Nat) (fell : Bool) (s : State) : State :=
  each allMods (fun m s =>
    let c := s.chain m
    let lb := decide (c.lbBind.map (·.group) = some grp)
    let eb := decide (c.ebBind.map (·.group) = some grp)
    if !(lb || eb) then s
    else
      let t := s.modPipe m (fun p => { p with lbFell := if lb then fell else p.lbFell, ebFell := if eb then fell else p.ebFell })
      turnMod s g m [.lb, .eb] t) s

end Sys2Proof.Machine
end

