-- ==== Sys2Proof/Machine/Time.lean ====
section
/-! DEFINITION. The time unit (07 and R22 to R24, R45, R49 of 01): sources, the grid step, SYNC, holdover, PPS_OUT and
launches at a time. -/

namespace Sys2Proof.Machine

/-- A counter of the time unit that R602 gives no number: 0 peer-delay messages discarded (R288), 1 PPS edges rejected
(R290), 2 F clamped (R280), 3 F rate-limited (R281). -/
def timeCtr (num : Nat) : Nat := ctrKey (clsPrivate + 6) 0 num 0

/-- Cycles of one TT second as a span. -/
def secSpan : Nat := atCycle Config.secCycles

/-- The first whole TT second that begins after an instant (R45). -/
def nextSecond (t : Inst) : Nat := t / secSpan + 1

/-! ## Sources of a root (R287 to R290, R295) -/

/-- The hub takes its own source: it is root, or it knows no root and hears none. -/
def ownsTime (s : State) : Bool :=
  s.time.parent.isNone && (match s.time.root with
    | some r => decide (r.hub = s.sky.hub)
    | none => s.time.heard.all (fun p => p.2.isNone))

/-- One Announce ranks before another: the data set comparison of IEEE 1588-2019, of the same grandmaster by steps and sender
(R288; log entry 179). -/
def ptpBefore (a b : Nat × Nat × PtpData) : Bool :=
  let x := a.2.2
  let y := b.2.2
  let key (id : Nat) (d : PtpData) : List Nat :=
    if x.gm = y.gm then [d.steps, id] else [d.prio1, d.cls, d.acc, d.var, d.prio2, d.gm]
  (key a.1 x).lex (key b.1 y)

/-- The master chosen among those that have announced themselves twice, fewer than 255 steps from their grandmaster. -/
def bestMaster (x : Ptp) : Option (Nat × Nat × PtpData) :=
  (x.masters.filter (fun m => decide (2 ≤ m.2.1) && decide (m.2.2.steps < 255))).foldl
    (fun b m => match b with
      | none => some m
      | some y => if ptpBefore m y then some m else b) none

/-- A source of the hub's own gives an offset (1/256 ns), a CLASS and a bound. A root's time follows it; a source that
returns to a hub in HOLDOVER or free-running is taken under the re-acquisition policy (R289, R303). -/
def takeSource (cls : Nat) (tai : Bool) (off : Int) (err : Nat) (s : State) : State :=
  let s := { s with time := { s.time with srcErr := err } }
  let err := if s.mgmt.refLost then 31 else err
  if !ownsTime s then s
  else
    let stays := s.ready && decide (s.time.policy = .stay) && (decide (s.time.state = .unsync) || decide (s.time.state = .holdover))
    if stays then s
    else
      let s := { s with time := { s.time with
        root := some { prio := s.time.prio, cls := cls, err := err, hub := s.sky.hub }
        cls := cls, tai := tai, hops := 0, offset := clamp32 off, free := false } }
      match s.time.state with
      | .unsync => reacquire (off / 256) s
      | .holdover => reacquire (off / 256) s
      | _ => { s with time := { s.time with err := if s.time.slewing = 0 then err else s.time.err } }

/-- The slave follows the chosen master: its timescale is the hub's while PTP is the hub's source (R289). -/
def followMaster (s : State) : State :=
  match bestMaster s.time.ptp with
  | none => s
  | some m =>
    let s := { s with time := { s.time with ptp := { s.time.ptp with master := m.1, tai := m.2.2.tai } } }
    if s.time.ptp.usable && ownsTime s then { s with time := { s.time with tai := m.2.2.tai } } else s

/-- An Announce enters its master's data (R288). -/
def ptpAnnounce (master : Nat) (data : PtpData) (s : State) : State :=
  let l := s.time.ptp.masters
  let n := ((l.find? (fun x => decide (x.1 = master))).map (·.2.1)).getD 0
  followMaster { s with time := { s.time with ptp := { s.time.ptp with
    masters := (master, min 2 (n + 1), data) :: l.filter (fun x => decide (x.1 ≠ master)) } } }

/-- Timing messages of the chosen master give the offset and the bound (R288, R289); another master's are not used. -/
def ptpTiming (master : Nat) (offset : Int) (err : Nat) (s : State) : State :=
  match bestMaster s.time.ptp with
  | none => s
  | some b =>
    if b.1 ≠ master then s
    else takeSource 0 b.2.2.tai offset (min err 31)
      { s with time := { s.time with ptp := { s.time.ptp with usable := true, master := b.1, tai := b.2.2.tai } } }

/-- PTP_MESSAGE (R288, R289): a peer-delay message is discarded and counted; an Announce enters the choice of master; timing messages of
the chosen master steer. A slave that is off, and a message of another domain or over the transport that is not set, do nothing. -/
def execPtpMessage (kind : Nat) (src : PtpFrom) (data : PtpData) (offset : Int) (err : Nat) (t : Inst) (s : State) : Out :=
  let s := touch t s
  .next <|
    if !s.time.ptp.on || decide (s.time.ptp.domain ≠ src.domain) || decide (s.time.ptp.transport ≠ src.transport) then s
    else if kind = 1 then bump (timeCtr 0) s
    else if kind = 2 then ptpAnnounce src.master data s
    else ptpTiming src.master offset err s

/-- The hub's own source is gone: a root enters HOLDOVER and keeps its CLASS (R295); no master declares TAI any more (R289). -/
def loseSource (s : State) : State :=
  if ownsTime s && s.time.root.isSome then holdoverEntry { s with time := { s.time with tai := false } } else s

/-- PTP_SOURCE_LOST (R295): the master that was followed is forgotten; the next best, or a PPS source that is still accepted, takes
over. -/
def execPtpSourceLost (t : Inst) (s : State) : Out :=
  let s := touch t s
  .next <|
    if !s.time.ptp.usable then s
    else
      let x := s.time.ptp
      let l := x.masters.filter (fun m => decide (m.1 ≠ x.master))
      let y := { x with masters := l, usable := (bestMaster { x with masters := l }).isSome, tai := false }
      let s := { s with time := { s.time with ptp := y } }
      if y.usable then followMaster s
      else if s.time.ppsSec.isSome then (if ownsTime s then { s with time := { s.time with tai := false } } else s)
      else loseSource s

/-- Whole seconds, to the nearest, from the last accepted edge to a compensated edge. -/
def ppsCount (a e : Inst) : Nat := (e - a + secSpan / 2) / secSpan

/-- Seconds from the last accepted edge to the pulse that the time of day names: the first predicted one from `ppsFrom` on (R290). -/
def ppsLead (s : State) (a : Inst) : Nat := ceilDiv (s.time.ppsFrom - a) secSpan

/-- The second that a compensated PPS edge marks: the named one from its pulse on, else the count from the last accepted edge; none
while no time of day has been given (R290). -/
def ppsSecond (s : State) (t : Inst) : Option Nat :=
  match s.time.ppsNamed, s.time.ppsSec, s.time.ppsAt with
  | some n, some m, some a => if ppsLead s a ≤ ppsCount a t then some (n + ppsCount a t - ppsLead s a) else some (m + ppsCount a t)
  | some n, _, _ => if s.time.ppsFrom ≤ t then some n else none
  | none, some n, some a => some (n + ppsCount a t)
  | none, _, _ => none

/-- The named pulse has come with the edge: the count goes on from it. -/
def ppsReached (s : State) (t : Inst) : Bool :=
  match s.time.ppsAt with
  | some a => decide (ppsLead s a ≤ ppsCount a t)
  | none => decide (s.time.ppsFrom ≤ t)

/-- A PPS edge is more than 1 µs from its predicted second, while the source runs (R290). -/
def ppsWide (s : State) (t : Inst) : Bool :=
  match s.time.ppsAt with
  | some a => decide (nsSpan 1000 < (t - a + secSpan / 2) % secSpan - secSpan / 2)
      || decide (nsSpan 1000 < secSpan / 2 - (t - a + secSpan / 2) % secSpan)
  | none => false

/-- The edge `e`, of second `sec`, is taken (R290): outside its window it counts, else it is the PPS source's
offset, used while PTP is not. -/
def ppsNamedEdge (e : Inst) (err sec : Nat) (s : State) : State :=
  if ppsWide s e then bump (timeCtr 1) s
  else
    let s := { s with time := { s.time with
      ppsNamed := if ppsReached s e then none else s.time.ppsNamed, ppsSec := some sec, ppsAt := some e } }
    if s.time.ptp.on && s.time.ptp.usable then s
    else takeSource 1 false (to256 ((e : Int) - (sec * secSpan : Nat))) (min err 31) s

/-- An edge on the input at `t`, its cable delay taken off (R287). -/
def ppsEdge (t : Inst) (err : Nat) (s : State) : State :=
  let s := takeArmed 1 t (touch t s)
  let e := t - nsSpan s.time.ppsComp
  match ppsSecond s e with
  | none => s
  | some sec => ppsNamedEdge e err sec s

/-- PPS_IN_EDGE (R279, R290, R699): MODE 1 snapshots; an edge more than 1 µs from its predicted second is rejected and
counted; an accepted one gives the offset of local time from the second it marks. A pulse shorter than 100 ns may be
missed. -/
def execPpsInEdge (t : Inst) (highNs err : Nat) (s : State) : Out :=
  let (n, s) := if highNs < 100 then drawn s else (0, s)
  .next (if highNs < 100 && decide (Config.draw n % 2 = 0) then s else ppsEdge t err s)

/-- PPS_SOURCE_LOST (R290): three seconds without an accepted edge. -/
def execPpsSourceLost (t : Inst) (s : State) : Out :=
  let s := touch t s
  .next <|
    match s.time.ppsAt with
    | none => s
    | some a =>
      if t < a + 3 * secSpan then s
      else
        let s := { s with time := { s.time with ppsSec := none, ppsAt := none } }
        if s.time.ptp.on && s.time.ptp.usable then s else loseSource s

/-! ## Holdover (R295, R301) -/

/-- The bound e(t) of R301 in quarter nanoseconds at an instant, rounded up: y in ppb, a in 0.0001 ppb/s. -/
def holdBound (s : State) (t : Inst) : Nat :=
  match s.time.holdFrom with
  | none => s.time.holdE0
  | some k =>
    let c := cyclesOf t - k
    s.time.holdE0 + ceilDiv (4 * s.time.yPpb * c) Config.secCycles
      + ceilDiv (2 * s.time.aPpb * c * c) (10000 * Config.secCycles * Config.secCycles)

/-- HOLDOVER_LIMIT_REACHED (R295): beyond the limit a root announces the CLASS of its declared grade. -/
def execHoldoverLimitReached (s : State) : Out :=
  .next <|
    if s.time.state ≠ .holdover || s.time.parent.isSome || holdBound s s.now ≤ 4 * s.time.limitNs then s
    else
      let g := gradeClass s
      let s := { s with time := { s.time with cls := g, root := s.time.root.map (fun r => { r with cls := g }) } }
      post pTime 0x0702 0 [vU s.sky.hub, vU s.sky.hub, vU g] s

/-- REF_LOST (R304): the control word stays, ERR becomes 31. -/
def execRefLost (s : State) : Out :=
  .next <|
    if s.mgmt.refLost then s
    else withHealth (fun s =>
      post pTime 0x0701 0 [vU 1] { s with mgmt := { s.mgmt with refLost := true }, time := { s.time with err := 31 } }) s

/-- REF_RETURNED (R303, R304): re-acquisition with an offset in ns. -/
def execRefReturned (offset : Int) (s : State) : Out :=
  .next <|
    if !s.mgmt.refLost then s
    else withHealth (fun s =>
      reacquire offset (post pTime 0x0701 0 [vU 0]
        { s with mgmt := { s.mgmt with refLost := false }, time := { s.time with offset := clamp32 (256 * offset) } })) s

/-! ## SYNC, the grid step and the start of streams (R24, R45, R49, R275, R298, R305) -/

/-- A chain when the grid has been stepped at a cycle: empty filters, placed again on the grid from that cycle on (R179). -/
def Pipe.restart (cyc : Nat) (p : Pipe) : Pipe :=
  { p with hist := [], wbOut := [], lrIn := [], erIn := [], lrJ := none, erJ := none, ltIn := [], lnIn := []
           setlLb := [], setlWb := [], setlEb := [], fromLb := cyc, fromWb := cyc, fromEb := cyc, placeWb := 0, placeLb := 0
           former := [] }

/-- A swath that was counted before a step of the grid by d swaths, as it is counted after it. -/
def moveSwath (d : Int) (g : Nat) : Nat := ((g : Int) + d).toNat
/-- An instant before a step of the grid, as it is counted after it. -/
def moveInst (d : Int) (t : Inst) : Inst := ((t : Int) + d * (boundary 1 : Nat)).toNat

/-- A cover sequence in progress keeps its place over a step of the grid. -/
def Cover.move (d : Int) (v : Cover) : Cover :=
  { v with start := moveSwath d v.start, takeAt := v.takeAt.map (moveSwath d), ranFrom := moveSwath d v.ranFrom
           endAt := v.endAt.map (moveSwath d) }

/-- What a channel has in progress keeps its place. -/
def Channel.move (d : Int) (c : Channel) : Channel :=
  { c with calAt := moveSwath d c.calAt, calTried := c.calTried.map (moveSwath d), cover := c.cover.map (Cover.move d)
           stopAsk := c.stopAsk.map (moveSwath d), stopB := c.stopB.map (moveSwath d), lastStop := c.lastStop.map (moveSwath d)
           patches := c.patches.map (fun p => { p with start := moveInst d p.start, stop := p.stop.map (moveInst d) })
           switches := c.switches.map (fun p => (moveSwath d p.1, p.2)), gainTo := 0, shownAt := []
           ratioWas := c.ratioWas.map (fun p => (moveSwath d p.1, p.2)) }

/-- What a modulator has in progress keeps its place. -/
def Modulator.move (d : Int) (x : Modulator) : Modulator :=
  { x with loadAt := x.loadAt.map (moveSwath d), stopAt := x.stopAt.map (moveSwath d), estFrom := x.estFrom.map (moveSwath d), line := [] }

/-- The front end over a step of the grid by d swaths to cycle cyc: what lasts keeps its length and its distance from now, and every chain is placed
again on the new grid (R24, R179). -/
def Front.move (d : Int) (cyc : Nat) (f : Front) : Front :=
  { f with
    chans := Tab.keep (Channel.move d) f.chans
    mods := Tab.keep (Modulator.move d) f.mods
    spares := Tab.keep (fun x => { x with refFrom := x.refFrom.map (moveSwath d) }) f.spares
    groups := Tab.keep (fun g => { g with
      deadSpans := g.deadSpans.map (fun p => (moveInst d p.1, p.2.map (moveInst d))) }) f.groups
    pipes := f.pipes.map (fun p => (p.1, p.2.restart cyc))
    tails := [] }

/-- The counter enters GRID mode at the first cycle of a swath (R275, R276); the swath grid steps to it (R24). -/
def enterGrid (g : Nat) (s : State) : State :=
  { s with
    front := s.front.move ((g : Int) - s.time.swath) (g * Config.swathCycles)
    red := { s.red with units := Tab.keep (fun v => { v with before := [] }) s.red.units }
    host := { s.host with writes := s.host.writes.map (fun w => { w with at_ := 0 }) }
    time := { s.time with
      grid := true, quals := [], inc := 0x02AAAAAAAAAB, swath := g, sec := g / Config.swathsPerSec
      ns := 125000 * (g % Config.swathsPerSec), frac40 := 0 } }

/-- Every stream starts again with a FIRST record at the first whole second after an instant (R45, R303, R316). -/
def restartStreams (t : Inst) (s : State) : State :=
  let s := each s.str.streams.keys (fun k s => s.modStream k (fun st => { st.close with nFirst := true })) s
  { s with time := { s.time with syncFrom := nextSecond t } }

/-- Whole measurement cycles nearest to a TT: two thirds of a nanosecond each (R272). -/
def nearestCycle (tt : TT) : Nat :=
  tt.sec * Config.secCycles + (3 * (tt.ns * 65536 + tt.frac) + 65536) / 131072

/-- The boundary at which a counter that loads a TT enters GRID mode: the tick becomes cycle 0 of a swath, and no other
tick is taken (R305). -/
def stepBoundary (tt : TT) : Option Nat :=
  let k := nearestCycle tt
  if k % Config.swathCycles = 0 then some (k / Config.swathCycles) else none

/-- GRID_STEP (R24, R275, R303, R305): the first step in SYNC, or the step of a restart, which is journalled. -/
def execGridStep (parent : TT) (s : State) : Out :=
  .next <|
    match stepBoundary parent with
    | none => s
    | some g =>
      if decide (s.mgmt.startup = .sync) && !s.time.grid then touch (boundary g) (enterGrid g s)
      else match s.time.restart with
        | none => s
        | some off =>
          let before := (ttOf s.now).sec
          let s := post pTime 0x0101 0 [vS off, vT before, vT (g / Config.swathsPerSec)] s
          let s := enterGrid g (restartStreams (boundary g) s)
          { s with time := { s.time with restart := none, slewing := 0, holdFrom := none, state := .acquire }
                   now := boundary g }

/-- SYNC is left: the second at which the streams start is the first whole one after it (R45). -/
def leaveSync (t : Inst) (s : State) : State :=
  { s with time := { s.time with syncLeft := some (t / secSpan), syncFrom := nextSecond t } }

/-- Swaths within ±0.25 ns that step 8 of SYNC asks for (R298). -/
def lockSwaths : Nat := 1000

/-- SYNC_EXIT (R298): the condition of step 8. -/
def execSyncExit (t : Inst) (s : State) : Out :=
  let s := touch t s
  .next <|
    if s.mgmt.startup ≠ .sync || !s.time.grid || s.time.syncLeft.isSome || s.time.within < lockSwaths || 16 < rootBound s then s
    else leaveSync t { s with time := { s.time with state := .locked } }

/-- FREE_RUNNING_MASTER (R49): no source has been found; the grid steps to the hub's own count, at the first boundary of it, so that no
swath is cut (R305). -/
def execFreeRunningMaster (t : Inst) (s : State) : Out :=
  let s := touch t s
  .next <|
    if s.mgmt.startup ≠ .sync || s.time.syncLeft.isSome || s.time.state ≠ .unsync then s
    else
      let g := ceilDiv t (boundary 1)
      let s := enterGrid g { (touch (boundary g) s) with time := { s.time with
        free := true, state := .unsync, cls := gradeClass s, err := 31, hops := 0, parent := none
        root := some { prio := s.time.prio, cls := gradeClass s, err := 31, hub := s.sky.hub } } }
      leaveSync (boundary g) s

/-! ## PPS_OUT and field-pin launches (R284 to R286) -/

/-- Code of the state as a bit of the PPS_OUT mask (R286). -/
def ppsAllowed (s : State) : Bool := s.time.outMask.getLsbD (timeCode s.time.state)

/-- The time-counter tick at which PPS_OUT rises for a second, less the compensation (R284, R286). -/
def ppsTick (s : State) (sec : Nat) : Inst := tickAt (sec * secSpan - nsSpan s.time.outComp)

/-- PPS_OUT_LAUNCH (R284 to R286); a launch after its tick is counted. -/
def execPpsOutLaunch (sec : Nat) (t : Inst) (s : State) : Out :=
  let s := touch t s
  .next <|
    if !s.time.outOn || !ppsAllowed s || t < ppsTick s sec || s.outputsHeld then s
    else
      let s := { s with time := { s.time with outHigh := true } }
      when (decide (ppsTick s sec < t)) (bump lateLaunch) s

/-- PPS_OUT_PULSE_END (R286). -/
def execPpsOutPulseEnd (s : State) : Out := .next { s with time := { s.time with outHigh := false } }

/-- The earliest launch of a pin that is due. -/
def dueLaunch (s : State) (pin : Nat) (t : Inst) : Option PinJob :=
  (s.host.pinJobs.filter (fun j => decide (j.pin = pin) && decide (j.at_ ≤ t))).foldl
    (fun b j => match b with
      | none => some j
      | some x => if j.at_ < x.at_ then some j else some x) none

/-- PIN_LAUNCH_TIME (R284, R285, R598): the level changes at the first tick at or after the TT; the command completes with
the actual TT. -/
def execPinLaunchTime (pin : Nat) (t : Inst) (s : State) : Out :=
  let s := touch t s
  event (isPin pin) <|
    match dueLaunch s pin t with
    | none => s
    | some j =>
      let u := tickAt t
      let s := { s with host := { s.host with pinJobs := s.host.pinJobs.filter (fun x => decide (x ≠ j)) } }
      let s := drivePin pin j.level s
      let s := when (decide (tickAt j.at_ < u)) (bump lateLaunch) s
      if j.silent then s else finishLater j.tenant j.queue j.tag { result := ttBytes (ttOf u) (quality s) } none s

end Sys2Proof.Machine
end

