-- ==== Sys2Proof/Machine/Boot.lean ====
section
/-! DEFINITION. Resets, what survives them, the power-fail flush, the boot ROM and the start-up states (R42 to R50 of 01,
R346 to R351 of 08, R604 to R607 of 15, R611 to R626 of 16, R663 of 17, R680 to R687 of 18). -/

namespace Sys2Proof.Machine

/-! ## The command journal at stage events (R604) -/

/-- The objects of a stage's commands take a new state in the command journal: 2 COMMITTED, 3 APPLIED, 4 REFUSED,
5 DISCARDED. -/
def markStage (t id state : Nat) (s : State) : State :=
  let k := keyOf (s.tenant t)
  { s with host := { s.host with journal := s.host.journal.map (fun r =>
      if decide (r.kind = k.1 ∧ r.id = k.2) && decide (r.stage = id) && decide (id ≠ 0) && stagedOps.contains r.opcode then
        { r with objs := r.objs.map (fun o => if o.2.1 = 1 || o.2.1 = 2 then objEntry s (o.1, state) else o) }
      else r) } }

/-- Every object that is STAGED or COMMITTED becomes DISCARDED (R607). -/
def discardAll (s : State) : State :=
  { s with host := { s.host with journal := s.host.journal.map (fun r =>
      { r with objs := r.objs.map (fun o => if o.2.1 = 1 || o.2.1 = 2 then objEntry s (o.1, 5) else o) }) } }

/-! ## Commands cut off (R606) -/

/-- Status and count with which a command that was cut off completes, from its objects' states: all, some or none of them
APPLIED. A command that the reset itself carries out is DONE. -/
def cutStatus (objs : List (Nat × Nat × Nat × Nat)) (isReset : Bool) : Status × Nat :=
  let n := (objs.filter (fun o => decide (o.2.1 = 3))).length
  if isReset then (.done, 1)
  else if n = 0 then (.interrupted, 0)
  else if n = objs.length then (.done, n) else (.partialDone, n)

/-- The completion that a command in execution gets after it was cut off, for the next session of its key. -/
def cutOff (t : Nat) (e : InExec) (isReset : Bool) (s : State) : State :=
  let k := keyOf (s.tenant t)
  let objs := ((s.host.journal.find? (fun r => r.is k e.tag)).map (·.objs)).getD []
  let (st, n) := cutStatus objs isReset
  let (n, s) := match s.str.jobs.find? (fun x => decide (x.tenant = t) && decide (x.tag = e.tag)) with
    | some x => cutJob x s
    | none => (n, s)
  let s := { s with host := { s.host with replays := s.host.replays ++
      [{ kind := k.1, id := k.2, cpl := { tag := e.tag, status := st, progress := n, replayed := true } }] } }
  journalEnd k e.tag st n none s

/-- Every command of a tenant that was accepted and not completed is cut off. -/
def cutTenant (t : Nat) (resetTag : Option (Nat × BitVec 32)) (s : State) : State :=
  each (s.tenant t).inExec (fun e s => cutOff t e (decide (resetTag = some (t, e.tag))) s) s

/-! ## The power-fail flush (R346 to R351) -/

/-- Statistics records that step 5 can hold: 8 MiB of records of 128 bytes (R346). -/
def flushRecords : Nat := 65536

/-- The flush freezes publication and positions, and notes W, ACKED and the statistics records of the last second, newest first (R346).
A flush that runs, or that has ended and is not void, goes on. -/
def startFlush (noStats : Bool) (t : Inst) (s : State) : State :=
  if s.frozen then
    { s with str := { s.str with flush := { s.str.flush with noStats := s.str.flush.noStats || noStats, resume := false } } }
  else
    let ws := s.str.streams.foldl (fun t p => Tab.set t p.1 p.2.pub) ([] : Tab Nat)
    let subs := s.str.subs.foldl (fun t p => match p.2 with | some u => Tab.set t p.1 u.acked | none => t) ([] : Tab Nat)
    let recs := (s.str.streams.flatMap (fun p =>
      if kindOf p.1 = 4 then
        (p.2.ring ++ p.2.closed ++ p.2.openRec.toList).filter (fun r => r.items.any (fun it => decide (t < it.t + secSpan)))
      else [])).mergeSort (fun a b => decide ((b.items.head?.map (·.t)).getD 0 ≤ (a.items.head?.map (·.t)).getD 0))
    { s with str := { s.str with flush := { running := true, ws := ws, subs := subs, records := recs.take flushRecords, noStats := noStats } } }

/-- PWRFAIL_N_ASSERT (R346, R668, R678, R680, R690): confirmed after 500 ns low; ignored while RESET_N is asserted; a flush
that runs goes on. -/
def execPwrfailNAssert (lowNs : Nat) (t : Inst) (s : State) : Out :=
  let s := touch t s
  .next <|
    if lowNs < 500 || s.mgmt.resetLow || s.mgmt.held then s
    else
      let s := startFlush false t s
      { s with str := { s.str with flush := { s.str.flush with pinLow := true } } }

/-- Steps 3 to 6 of the flush: positions, the journal's tail, the statistics records and the commit word. -/
def finishFlush (s : State) : State :=
  let s := journalDrain 208 s
  { s with str := { s.str with flush := { s.str.flush with
      running := false, positions := true, tail := true, stats := !s.str.flush.noStats, committed := true
      resume := !s.str.flush.pinLow, records := if s.str.flush.noStats then [] else s.str.flush.records } } }

/-- PWRFAIL_N_DEASSERT (R348, R690): the flush runs to its end; delivery resumes at the next boundary. -/
def execPwrfailNDeassert (s : State) : Out :=
  .next { s with str := { s.str with flush := { s.str.flush with
    pinLow := false, resume := s.frozen } } }

/-! ## What survives a full reset -/

/-- A channel's settings, and its permanent remap of the device records unless a command has cleared it (R134, R137, R607). -/
def keepChannel (cleared lost : Bool) (c : Channel) : Channel :=
  let base : Channel := { mode := c.mode, acqPending := decide (c.mode = .iepe), range := c.range, dcOffset := c.dcOffset, corner := c.corner, shortMax := c.shortMax
                          lowMax := c.lowMax, highMin := c.highMin, openMin := c.openMin, ratiometric := c.ratiometric
                          interruptOk := c.interruptOk, calInterval := c.calInterval }
  match c.cal with
  | .remapped sp =>
    if cleared then base
    else if lost then
      { base with cal := .failed, failure := some (((c.cover.bind (·.remap)).or (c.failure.map (·.1))).getD 1, false)
                  patches := [{ start := 0, zero := true }] }
    else { base with cal := .remapped sp, switches := [(0, some sp)] }
  | _ => base

/-- A tach input's settings (R193). -/
def keepTach (x : Tach) : Tach :=
  { threshold := x.threshold, hysteresis := x.hysteresis, falling := x.falling, glitch := x.glitch, codeOn := x.codeOn
    codeU := x.codeU, expect := x.expect, pin := x.pin }

/-- A unit's settings; an enabled one starts ARMED at its list head (R244, R252). -/
def keepUnit (x : TrigUnit) : TrigUnit :=
  { on := x.on, source := x.source, level := x.level, hysteresis := x.hysteresis, dir := x.dir, mask := x.mask, holdOff := x.holdOff
    src := x.src, holdQ := x.holdQ, actions := x.actions, head := x.head, xcls := x.xcls, pinNum := x.pinNum
    pinWidth := x.pinWidth, jumpUnit := x.jumpUnit, jumpDesc := x.jumpDesc, jumpIn := x.jumpIn
    state := if x.on then .armed else .off, current := if x.on then x.head else none }

/-- A port's settings (R431). -/
def keepPort (q : Port) : Port :=
  { on := q.on, base := q.base, width := q.width, maxRate := q.maxRate, txInv := q.txInv, rxPol := q.rxPol, preset := q.preset
    clover := q.clover, quietOn := q.quietOn, quietT := q.quietT, depth := q.depth, loopOk := q.loopOk, timeout := q.timeout }

/-- The front end after a reset: applied configuration, calibration region and device records (R119, R134, R137, R607). A spare keeps
the state in which the reset found it until firmware has journalled the change (R139). -/
def keepFront (f : Front) : Front :=
  let cleared (m : Nat) (other : Option Nat) : Bool :=
    (f.mods.get m).clear || (match other with | some x => (f.mods.get x).clear | none => false)
  let chanOf (k : Nat) (c : Channel) : Channel :=
    keepChannel (cleared k (match c.cal with | .remapped sp => some sp | _ => none))
      (match c.cal with | .remapped sp => (f.spares.get sp).fails || decide ((f.spares.get sp).state = .failed) | _ => false) c
  let spareOf (k : Nat) (x : Spare) : Spare :=
    let st : SpareState := if x.fails then .failed else x.state
    let y : Spare := if (st = .remapped || st = .failed) && !cleared k x.source then
      { state := st, source := if st = .remapped then x.source else none } else {}
    let was := x.former.getD x.state
    { y with former := if was = y.state then none else some was }
  let gone (k : Nat) : Bool := decide ((spareOf k (f.spares.get k)).state = .remapped) || decide ((spareOf k (f.spares.get k)).state = .failed)
  { tiles := (List.range 12).foldl (fun r t =>
      if (f.tiles.get t).noSpare && (sparesOf t).all gone then Tab.set r t { noSpare := true } else r) []
    chans := f.chans.foldl (fun r p => Tab.set r p.1 (chanOf p.1 p.2)) []
    groups := Tab.keep (fun g => { setCode := g.setCode, limit := g.limit, tol := g.tol }) f.groups
    links := Tab.keep (fun l => { repair := l.repair }) f.links
    mods := Tab.keep (fun m => { stored := m.stored }) f.mods
    spares := f.spares.foldl (fun r p => Tab.set r p.1 (spareOf p.1 p.2)) []
    chains := f.chains, figCount := f.figCount, runLen := f.runLen, applyThr := f.applyThr }

/-- The in-flight sets of the tussock journal as tussocks cut by the reset (R350). -/
def cutTussocks (e : StreamEng) : List Tussock :=
  e.flight.flatMap (fun p => p.2.map (fun x =>
    { gsi := x.gsi, source := x.source, number := x.number, seq := x.seq, unit := x.unit, desc := x.desc, trig := x.trig
      pre := x.pre, post := x.post, state := 3, quality := x.quality }))

/-- The reduction engines after a reset. -/
def keepReduce (cut : List Tussock) (r : Reduce) : Reduce :=
  { tachs := Tab.keep keepTach r.tachs, shafts := Tab.keep Shaft.restart r.shafts
    stats := Tab.keep (fun x => { on := x.on, rev := x.rev, len := x.len, group := x.group }) r.stats
    units := Tab.keep keepUnit r.units, descs := r.descs, descOwner := r.descOwner, tussocks := cut, number := r.number
    rateC := r.rateC, guard := r.guard }

/-- W and ACKED after a reset, each as one past: from the flush where it is valid, else from the newest word whose CRC holds (R345, R348,
R349). -/
def savedW (e : StreamEng) (key : Nat) : Nat :=
  let a := e.slotA.ws.get key
  let b := e.slotB.ws.get key
  if e.flush.positions && !e.flush.void then e.flush.ws.get key
  else if b.ok && (!a.ok || decide (a.stamp < b.stamp)) then b.w
  else if a.ok then a.w else 0
/-- ACKED of a subscription after a reset. -/
def savedAck (e : StreamEng) (h : Nat) : Nat :=
  let a := e.slotA.subs.get h
  let b := e.slotB.subs.get h
  if e.flush.positions && !e.flush.void then e.flush.subs.get h
  else if b.ok && (!a.ok || decide (a.stamp < b.stamp)) then b.acked
  else if a.ok then a.acked else 0

/-- A stream after a reset: its settings, the number after W, and FIRST and RESTART on its next record (R310, R350). -/
def keepStream (e : StreamEng) (key : Nat) (st : Stream) : Stream :=
  let w := savedW e key
  { next := w, pub := w, depth := st.depth, window := st.window, packed := st.packed, nRestart := true, journW := w }

/-- The saved statistics records of a stream that are delivered again: those above its free point (R350). -/
def restored (e : StreamEng) (key free : Nat) : List Record :=
  if !e.flush.stats || e.flush.void then []
  else
    let w := savedW e key
    (e.flush.records.filter (fun r => decide (keyOfGsi r.gsi = key) && decide (free < r.first) && decide (r.stopSeq ≤ w))).reverse.map
      (fun r => { r with flags := r.flags ||| 0x20#16, stored := true })

/-- The tussocks that the reset cut, as the records that they will be (R350). -/
def cutFirst (cut : List Tussock) (key w : Nat) : List Record :=
  ((cut.filter (fun x => decide (x.gsi = key) && decide (x.seq < w))).mergeSort (fun a b => decide (a.seq ≤ b.seq))).map
    (fun x => { first := x.seq, items := [{ t := x.trig }] })

/-- An event of a subscription that a reset does not overtake: its start, its end. -/
def SubEvent.lasts : SubEvent → Bool
  | .opened .. | .close | .expired => true
  | _ => false

/-- A subscription after a reset (R340, R350): DETACHED, at its ACKED, with LOST_POWER for what no record that comes again covers, where it
had taken effect; its credits complete with ABORTED, recorded for ATTACH; its retention timer starts at READY. -/
def keepSub (e : StreamEng) (h : Nat) (rest : List Record) (u : Sub) : Sub :=
  let a := savedAck e h
  let w := savedW e u.gsi
  let v : Sub := { u with
    state := if u.state = .closed then .closed else .detached, delivered := a, acked := a, former := max u.former u.delivered
    credits := [], events := u.events.filter SubEvent.lasts, gaps := [], told := [], since := none, dirty := false
    recorded := u.recorded ++ u.credits.map (fun c => c.cpl h false true) }
  if v.bestEffort || v.state = .closed || !u.live then v
  else
    let (v, n) := rest.foldl (fun (acc : Sub × Nat) r => (acc.1.drop (max a acc.2) r.first 4 none, max acc.2 r.stopSeq)) (v, a)
    v.drop n w 4 none

/-- The position journal after a reset: the slot that is written next holds what was taken from the flush or the slots, so that another
reset finds the same (R349; log entry 181). -/
def keptSlot (e : StreamEng) (streams : Tab Stream) : PosSlot :=
  let g := max e.slotA.stamp e.slotB.stamp + 1
  { stamp := g
    ws := streams.foldl (fun t p => Tab.set t p.1 { w := p.2.pub, stamp := g }) []
    subs := e.subs.foldl (fun t p => match p.2 with
      | some u => Tab.set t p.1 { posSub g u with acked := savedAck e p.1, state := if u.state = .closed then .closed else .detached }
      | none => t) [] }

/-- The stream engine after a reset. -/
def keepStreams (e : StreamEng) : StreamEng :=
  let streams := e.streams.foldl (fun t p => Tab.set t p.1 (keepStream e p.1 p.2)) ([] : Tab Stream)
  let free (key : Nat) : Nat := e.subs.foldl (fun m p => match p.2 with
    | some u => if decide (u.gsi = key) && !u.bestEffort && decide (u.state ≠ .closed) then min m (savedAck e p.1) else m
    | none => m) (savedW e key)
  let streams := streams.map (fun p => (p.1, { p.2 with ring := restored e p.1 (free p.1) }))
  let again (key : Nat) : List Record := if kindOf key = 5 then cutFirst (cutTussocks e) key (savedW e key) else restored e key (free key)
  let slot := keptSlot e streams
  { streams := streams
    subs := e.subs.map (fun p => (p.1, p.2.map (fun u => keepSub e p.1 (again u.gsi) u)))
    slotA := if e.useB then e.slotA else slot, slotB := if e.useB then slot else e.slotB, useB := !e.useB, gens := e.gens }

/-- The journal words that were being written when the supplies fell may be torn, by a free value: W of streams whose publication waits, in
the slot of this swath, and the subscription words of the last one (R344, R345, R349; log entry 182). -/
def tearSlots (n : Nat) (e : StreamEng) : StreamEng :=
  let torn (k : Nat) : Bool := (Config.draw n).testBit k
  let writing (x : PosSlot) (i : Nat) : Bool := ((x.ws.drop (7 * i)).take 7).any (fun p => !(e.streams.get p.1).journOk)
  let ws (x : PosSlot) : PosSlot := { x with ws := x.ws.zipIdx.map (fun p =>
    (p.1.1, if writing x (p.2 / 7) && torn (p.2 / 7) then { p.1.2 with ok := false } else p.1.2)) }
  let subs (x : PosSlot) : PosSlot := { x with subs := x.subs.map (fun p =>
    (p.1, if p.2.stamp = x.stamp && torn (4096 + p.1) then { p.2 with ok := false } else p.2)) }
  if e.useB then { e with slotB := ws e.slotB, slotA := subs e.slotA } else { e with slotA := ws e.slotA, slotB := subs e.slotB }

/-- The memory system after a reset: its settings (R607). -/
def keepMem (m : Mem) : Mem :=
  { grain := m.grain, areas := m.areas, furzeThr := m.furzeThr, furzeInt := m.furzeInt, lanes := m.lanes
    insts := Tab.keep (fun i => { limit := i.limit }) m.insts, reqs := Tab.keep (fun r => { rank := r.rank }) m.reqs
    latPol := m.latPol, bulkPol := m.bulkPol, mgmtPol := m.mgmtPol, latRank := m.latRank, bulkRank := m.bulkRank }

/-- The switch after a reset: port settings, static routes, groups, the address held before and the grants (R488, R607). -/
def keepSkecy (k : Skecy) : Skecy :=
  { ports := Tab.keep keepPort k.ports, mcast := k.mcast, statics := k.statics, former := if k.hub = 0 then k.former else k.hub
    grants := k.grants, ageH := k.ageH }

/-- The time unit's settings after a reset. -/
def keepTime (t : TimeU) : TimeU :=
  { prio := t.prio, bandmHz := t.bandmHz, limitNs := t.limitNs, policy := t.policy, slew := t.slew, stepUs := t.stepUs
    yPpb := t.yPpb, aPpb := t.aPpb, tcxo := t.tcxo, ppsComp := t.ppsComp, outOn := t.outOn, outComp := t.outComp
    outWidth := t.outWidth, outMask := t.outMask
    ptp := { on := t.ptp.on, domain := t.ptp.domain, sync := t.ptp.sync, delayReq := t.ptp.delayReq, transport := t.ptp.transport }
    xchg := Tab.keep (fun x => { asym := x.asym }) t.xchg }

/-- A slot that a reset finds open in an update is invalid (R600). -/
def Slot.cut (x : Slot) (open_ : Bool) : Slot := if open_ then { x with valid := false } else x

/-- The management subsystem after a reset: images, fuses, sensor and bus settings, the event journal (R614, R619). -/
def keepMgmt (cause : Nat) (g : Mgmt) : Mgmt :=
  { cause := cause, slotA := g.slotA.cut (g.update.isSome && g.activeB), slotB := g.slotB.cut (g.update.isSome && !g.activeB)
    activeB := g.activeB, rollback := g.rollback, revoked := g.revoked
    sensors := Tab.keep (fun x => { low := x.low, high := x.high, period := x.period }) g.sensors
    buses := Tab.keep (fun b => { speed := b.speed, rstPin := b.rstPin, pulse := b.pulse }) g.buses
    pmbus := g.pmbus, lastPort := g.lastPort, nextSeq := g.nextSeq, streamed := g.streamed, ring := g.ring
    refLost := g.refLost, laneLost := g.laneLost, pcieLost := g.pcieLost, tapReset := g.tapReset }

/-- A full reset (R607, R681): every command in execution is cut off, open and committed stages are discarded, and the state
is that of reset but for what MRAM, the fuses, the flash and the host's own memory hold. -/
def fullReset (cause : Nat) (resetTag : Option (Nat × BitVec 32)) (s : State) : State :=
  let s := each s.host.tenants.keys (fun t s => cutTenant t resetTag s) (discardAll s)
  { front := keepFront s.front
    red := keepReduce (cutTussocks s.str) s.red
    str := keepStreams s.str
    mem := keepMem s.mem
    sky := keepSkecy s.sky
    clover := { search := s.clover.search, hold := s.clover.hold, command := s.clover.command }
    time := keepTime s.time
    host := { epoch := s.host.epoch, journal := s.host.journal, replays := s.host.replays, outs := s.host.outs, dma := s.host.dma }
    mgmt := keepMgmt cause s.mgmt
    now := s.now, pending := s.pending, free := s.free }

/-- An internal full reset holds the hub for at least 1 ms (R682). -/
def heldReset (cause : Nat) (resetTag : Option (Nat × BitVec 32)) (s : State) : State :=
  let s := fullReset cause resetTag s
  { s with mgmt := { s.mgmt with held := true } }

/-! ## Reset rows -/

/-- RESET_N_ASSERT (R681): 1 µs or longer resets the hub; under 100 ns does not; between, a free value decides. -/
def execResetNAssert (lowNs : Nat) (s : State) : Out :=
  .next <|
    let (n, s) := drawn s
    if lowNs < 100 then s
    else if lowNs < 1000 && !Config.shortReset n lowNs then s
    else
      let s := fullReset 4 none s
      { s with mgmt := { s.mgmt with resetLow := true } }

/-- FULL_RESET (R624): safety watchdog 1, warm-restart limit 2, SRAM 3. -/
def execFullReset (cause : Nat) (s : State) : Out :=
  event (decide (1 ≤ cause) && decide (cause ≤ 3)) (if s.mgmt.resetLow then s else heldReset cause none s)

/-- SAFETY_WATCHDOG_EXPIRY (R624). -/
def execSafetyWatchdogExpiry (s : State) : Out := .next (if s.mgmt.resetLow || s.mgmt.held then s else heldReset 1 none s)

/-- BROWN_OUT (R681, R683, R690): it ends a flush in progress; which regions of it survive is not fixed, so each of steps 3 to
5 in turn is written or not by a free value. -/
def execBrownOut (s : State) : Out :=
  .next <|
    if s.mgmt.resetLow then s
    else
      let f := s.str.flush
      let s := if f.running then
          let (n, s) := drawn s
          let w := Config.draw n % 4
          let s := if 2 ≤ w then journalDrain 208 s else s
          { s with str := { s.str with flush := { f with
              running := false, positions := decide (1 ≤ w), tail := decide (2 ≤ w), stats := decide (3 ≤ w) && !f.noStats } } }
        else s
      let (n, s) := drawn s
      heldReset 5 none { s with str := tearSlots n s.str }

/-- FLUSH_COMPLETE (R346): the commit word; after a loss of REFCLK_LANE or a thermal trip the full reset follows (R636,
R686). -/
def execFlushComplete (s : State) : Out :=
  .next <|
    if !s.str.flush.running then s
    else
      let s := finishFlush s
      if s.mgmt.laneLost then heldReset 8 none s
      else if s.mgmt.tripHeld then
        let s := heldReset 6 none s
        { s with mgmt := { s.mgmt with tripHeld := true } }
      else s

/-- THERMAL_TRIP (R636, R690): the safety core flushes and holds the hub in reset; with PWRFAIL_N asserted no second flush
runs. -/
def execThermalTrip (sensor : Nat) (s : State) : Out :=
  event (decide (sensor < 48)) <|
    if s.mgmt.resetLow || s.mgmt.held then s
    else
      let s := { s with mgmt := { s.mgmt with tripHeld := true } }
      if s.str.flush.pinLow && !s.str.flush.running then
        let s := heldReset 6 none s
        { s with mgmt := { s.mgmt with tripHeld := true } }
      else startFlush false s.now s

/-- REFCLK_LANE_LOST (R686, R690): the flush without step 5, then the full reset of cause 8. -/
def execRefclkLaneLost (s : State) : Out :=
  let s := { s with mgmt := { s.mgmt with laneLost := true } }
  .next (if s.mgmt.resetLow || s.mgmt.held then s else startFlush true s.now s)

/-- REFCLK_PCIE_LOST (R686). -/
def execRefclkPcieLost (s : State) : Out :=
  .next (linkDownPcie { s with mgmt := { s.mgmt with pcieLost := true, pcieLock := false } })

/-! ## Start-up -/

/-- Straps (R663): each of three equal samples, otherwise 0 with an entry. -/
def sampleStraps (s0 s1 s2 : BitVec 12) (s : State) : State :=
  let same (i : Nat) : Bool := s0.getLsbD i == s1.getLsbD i && s1.getLsbD i == s2.getLsbD i
  let bit (b : Bool) : Nat := if b then 1 else 0
  let s := each (List.range 12) (fun i s => when (!same i)
    (post pSafety 0x0102 0 [vU i, vU (bit (s0.getLsbD i) + 2 * bit (s1.getLsbD i) + 4 * bit (s2.getLsbD i))]) s) s
  let read (i : Nat) : Bool := same i && s0.getLsbD i
  let addr := ((List.range 10).map (fun (i : Nat) => bit (read i) * 2 ^ i)).sum
  let s := when (decide (addr = 1023)) (post pSafety 0x0103 0 []) s
  { s with mgmt := { s.mgmt with strap := addr, memberB := read 10, pref := read 11 }
           sky := { s.sky with hub := if addr = 1023 then 0 else addr } }

/-- The start-up sequence begins in BOOT with the straps sampled (R42, R487, R508). -/
def startUp (s0 s1 s2 : BitVec 12) (s : State) : State :=
  sampleStraps s0 s1 s2 { s with mgmt := { s.mgmt with resetLow := false, held := false, tripHeld := false, startup := .boot } }

/-- RESET_N_RELEASE (R42). A release while RESET_N is already high is none; the hub right after reset may still sample its
straps. -/
def execResetNRelease (s0 s1 s2 : BitVec 12) (s : State) : Out :=
  .next (if s.mgmt.held || s.mgmt.verified then s else startUp s0 s1 s2 s)

/-- INTERNAL_RESET_RELEASE (R682): held longer while the cause persists. A REFCLK_LANE that has returned ends cause 8. -/
def execInternalResetRelease (s0 s1 s2 : BitVec 12) (s : State) : Out :=
  .next (if !s.mgmt.held || s.mgmt.resetLow || s.mgmt.tripHeld then s
    else startUp s0 s1 s2 { s with mgmt := { s.mgmt with laneLost := false } })

/-- THERMAL_TRIP_RELEASE (R636): every point below L - 10 °C; the hub restarts and journals the trip with its hottest sensor. -/
def execThermalTripRelease (s0 s1 s2 : BitVec 12) (sensor : Nat) (value : Int) (s : State) : Out :=
  .next <|
    if !s.mgmt.held || !s.mgmt.tripHeld || s.mgmt.resetLow then s
    else post pSafety 0x0B0A (handleOf 0x13 sensor) [vU sensor, vS value] (startUp s0 s1 s2 s)

/-- A controller is enabled and clears its bus (R639): SCL found low waits, a bus that is STUCK staying so; otherwise the pulses that freed SDA, none when nine
did not. -/
def clearBus (b : Nat) (sclLow : Bool) (pulses : Option Nat) (s : State) : State :=
  if sclLow then s.modBus b (fun x => if x.state = .stuck then { x with byScl := true } else { x with state := .waitScl })
  else match pulses with
    | some 0 => s.modBus b (fun x => { x with state := .idle })
    | some n =>
      let s := bump (ctrKey 0x14 b 3 0) (s.modBus b (fun x => { x with state := .idle }))
      post pApp 0x0B08 (handleOf 0x14 b) [vU b, vU n] s
    | none =>
      let was := (s.bus b).state
      let s := s.modBus b (fun x => { x with state := .stuck, byScl := false })
      when (decide (was ≠ .stuck)) (fun s => post pApp 0x0B07 (handleOf 0x14 b) [vU b, vU 0] (bump (ctrKey 0x14 b 4 0) s)) s

/-- The four buses at the enable of their controllers. -/
def clearBuses (l : List (Bool × Option Nat)) (s : State) : State :=
  each ((l.take 4).zipIdx) (fun p s => clearBus p.2 p.1.1 p.1.2 s) s

/-- Firmware puts the restored routing of tach inputs to field pins in force (R197, R607). -/
def startPins (s : State) : State :=
  each s.red.tachs.keys (fun n s => match (s.tach n).pin with | some p => drivePin p (s.tach n).confirmed s | none => s) s

/-- Firmware puts the restored set voltages in force (R73, R607). -/
def startGroups (s : State) : State :=
  each s.front.groups.keys (fun g s => s.modGroup g (fun x => if x.setCode = 0 then x else { x with state := .ramp, ext := true, okSwaths := 0, swathOk := !x.flagged })) s

/-- A change of a spare's state by a reset is journalled (R139). -/
def journalFormer (m : Nat) (s : State) : State :=
  let x := s.spare m
  match x.former with
  | none => s
  | some st => checkLastSpare (tileOf m)
      (postAt (boundary (nextBoundary s)) pTile 0x020D (hMod m) [vU (spareCode st), vU (spareCode x.state), vU (x.source.getD 0xFFFF)]
        (s.modSpare m (fun x => { x with former := none })))

/-- MEM_TRAIN begins once the image runs and the management and measurement PLLs have locked (R42, R690): reference buffers on for 40 ms (R98), and every
modulator loads its last good set and matching trims (R119). -/
def enterMemTrain (s : State) : State :=
  if s.mgmt.startup = .boot && s.mgmt.verified && s.mgmt.measLock && s.mgmt.mgmtLock && s.mgmt.errCause = 0 then
    withHealth (fun s =>
      let s := { s with mgmt := { s.mgmt with startup := .memTrain } }
      let s := { s with front := { s.front with mods := Tab.keep Modulator.load s.front.mods } }
      let s := each s.front.spares.keys journalFormer s
      let s := each s.front.chans.keys (fun ch s => match (s.chan ch).failure with
        | some f => post pTile 0x0210 (hChan ch) [vU f.1] s
        | none => s) s
      let s := each (List.range 12) (fun t s => each (List.range 8) (fun _ s => spareFreed t s) s) s
      each (List.range 12) (fun t s => s.modTile t (fun x => { x with refOn := true, settling := true })) s) s
  else s

/-- The image passes every check of R617, or fails with the cause code of R618. A key that the fuses do not hold fails its
signature (notes/assumptions/157.md). -/
def imageCause (s : State) (x : ImageInfo) : Nat :=
  if !x.flash then 1
  else if !x.sfdp then 2
  else if x.magic ≠ 0xCB170B01 || x.length < 1048576 || 6291456 < x.length || 4 ≤ x.key then 3
  else if s.mgmt.revoked.contains x.key then 4
  else if !(x.keyOk && x.signed) then 5
  else if !x.digestOk then 6
  else if x.secver < s.mgmt.rollback then 7
  else 0

/-- The cause code of a slot (R618): EMPTY when the boot control record marks it invalid, else that of its image. -/
def slotCause (s : State) (x : Slot) (info : ImageInfo) : Nat :=
  if info.flash && info.sfdp && !x.valid then 8 else imageCause s info

/-- The slot that the boot control record names, a TRY slot first with its attempts counted down; an exhausted TRY slot is left
for the former ACTIVE one (R618, R620). -/
def pickSlot (s : State) : Bool × State :=
  let tryB := s.mgmt.slotB.try_.isSome
  let tryA := s.mgmt.slotA.try_.isSome
  if !tryA && !tryB then (s.mgmt.activeB, s)
  else
    let b := tryB
    let slot := if b then s.mgmt.slotB else s.mgmt.slotA
    let put (x : Slot) (s : State) : State :=
      { s with mgmt := if b then { s.mgmt with slotB := x } else { s.mgmt with slotA := x } }
    let n := slot.try_.getD 0
    let bit (x : Bool) : Nat := if x then 1 else 0
    if n = 0 then (!b, post pSafety 0x0B05 0 [vU (bit b), vU (bit !b)] (put { slot with try_ := none, valid := false } s))
    else (b, put { slot with try_ := some (n - 1) } s)

/-- IMAGE_VERIFIED (R46, R618, R620, R681): the boot ROM's choice of slot, its BOOT_SLOT entry, and the application cores'
start or the hold in BOOT. -/
def execImageVerified (a b : ImageInfo) (buses : List (Bool × Option Nat)) (s : State) : Out :=
  .next <|
    if s.mgmt.resetLow || s.mgmt.held || s.mgmt.verified || s.mgmt.startup ≠ .boot then s
    else
      let (first, s) := pickSlot s
      let causeOf (x : Bool) : Nat := if x then slotCause s s.mgmt.slotB b else slotCause s s.mgmt.slotA a
      let c1 := causeOf first
      let c2 := if c1 = 0 then 0 else causeOf (!first)
      let booted : Option Bool := if c1 = 0 then some first else if c2 = 0 then some !first else none
      let causes := if first then c2 + 256 * c1 else c1 + 256 * c2
      let info := match booted with | some true => b | some false => a | none => {}
      let slotNo := match booted with | some true => 1 | some false => 0 | none => 0xFF
      let s := { s with mgmt := { s.mgmt with slotA := { s.mgmt.slotA with info := a }, slotB := { s.mgmt.slotB with info := b } } }
      let s := post pSafety 0x0B03 0 [vU slotNo, vU (if booted.isSome then 256 * info.major + info.minor else 0), vU causes] s
      match booted with
      | none => { s with mgmt := { s.mgmt with errCause := 1, errDetail := causes } }
      | some _ =>
        let s : State := { s with mgmt := { s.mgmt with
          verified := true, booted := some slotNo, fwMajor := info.major, fwMinor := info.minor, pairProto := info.pairProto
          secver := info.secver } }
        let s := when (decide (s.mgmt.cause ≠ 0)) (post pApp 0x0B02 0 [vU s.mgmt.cause]) s
        enterMemTrain (startPins (startGroups (clearBuses buses s)))

/-- PLL_LOCK (R687). -/
def execPllLock (p : Pll) (s : State) : Out :=
  .next <|
    if s.mgmt.resetLow || s.mgmt.held then s
    else
      let s := { s with mgmt := match p with
        | .measurement => { s.mgmt with measLock := true }
        | .lane => { s.mgmt with laneLock := true }
        | .dram => { s.mgmt with dramLock := true }
        | .pcie => { s.mgmt with pcieLock := true, pcieLost := false }
        | .management => { s.mgmt with mgmtLock := true } }
      enterMemTrain s

/-- PLL_LOCK_TIMEOUT (R687): a PLL that has not locked holds the hub in BOOT with an IMAGE-class failure of detail 0x00FF. -/
def execPllLockTimeout (p : Pll) (s : State) : Out :=
  let locked := match p with
    | .measurement => s.mgmt.measLock | .lane => s.mgmt.laneLock | .dram => s.mgmt.dramLock | .pcie => s.mgmt.pcieLock
    | .management => s.mgmt.mgmtLock
  .next <|
    if locked || s.mgmt.startup ≠ .boot || s.mgmt.resetLow || s.mgmt.held then s
    else { s with mgmt := { s.mgmt with errCause := 1, errDetail := 0x00FF } }

/-- A population that R382 and R383 support. -/
def populationOk (p : Population) : Bool :=
  [[0], [0, 1], [0, 1, 2, 3], [0, 1, 2, 3, 4, 5, 6, 7]].contains p.channels && (decide (p.ranks = 1) || decide (p.ranks = 2))
    && (decide (p.width = 4) || decide (p.width = 8)) && decide (64 ≤ p.rowBytes) && decide (4800 ≤ p.mts) && decide (p.mts ≤ 6400) && decide (0 < p.gib) && decide (p.gib ≤ 64 * p.channels.length)

/-- DIMMs are of the same capacity, rank count, device width and speed grade (R383). -/
def sameDimm (a b : Dimm) : Bool :=
  decide (a.gib = b.gib) && decide (a.ranks = b.ranks) && decide (a.width = b.width) && decide (a.grade = b.grade)

/-- The population that the DIMMs make: every channel runs at the lowest data rate that all of them support, 6400 MT/s at most (R383). -/
def populationOf (l : List Dimm) : Population :=
  let d := l.headD {}
  { channels := (l.map (·.channel)).mergeSort (fun a b => decide (a ≤ b)), gib := (l.map (·.gib)).sum, ranks := d.ranks
    mts := l.foldl (fun m x => min m x.mts) 6400, width := d.width, rowBytes := d.rowBytes, raaimt := d.raaimt, raammt := d.raammt }

/-- The DIMMs are a population that the controller supports (R382, R383). -/
def dimmsOk (l : List Dimm) : Bool := l.all (fun x => sameDimm x (l.headD {})) && populationOk (populationOf l)

/-- A lane fails training: an eye below 32 steps (R390). -/
def LaneTrain.fails (l : LaneTrain) : Bool := decide (l.readEye < 32) || decide (l.writeEye < 32)

/-- WB chains that R420 may hold, from the highest source number downward; those of spares that emit under their own number
come first (notes/assumptions/136.md). -/
def holdable (s : State) : List Nat :=
  (allMods.filter (fun m => (s.chain m).wbOn && (decide (m < 768) || (s.spare m).source.isNone))).reverse

/-- Hold WB chains in order until R419 holds at C = 1 GB/s; `l` is what may still be held. -/
def holdUntil : List Nat → State → State
  | [], s => s
  | m :: r, s => if fitsAt s (fixedLoad s) 1 then s else holdUntil r (s.modPipe m (fun p => { p with budget := true }))

/-- The configuration restored from MRAM is fitted to the population (R420): C is lowered, then WB chains are held. -/
def fitBudget (s : State) : State :=
  let s := { s with front := { s.front with pipes := Tab.keep (fun p => { p with budget := false }) s.front.pipes } }
  if fitsBudget s then s
  else
    let f := fixedLoad s
    let c := ((List.range s.red.rateC).reverse.find? (fun (c : Nat) => decide (1 ≤ c) && fitsAt s f c)).getD 1
    let s := { s with red := { s.red with rateC := c } }
    let s := holdUntil (holdable s) s
    let held := (s.front.pipes.filter (fun p => p.2.budget)).length
    post pApp 0x0A08 0 [vU c, vU held, vU s.mem.pop.channels.length] s

/-- DRAM_TRAINING_DONE (R47, R382, R389 to R391, R420): eyes are recorded; an unsupported population holds the hub in MEM_TRAIN;
a failed channel is trained once more, and a second failure holds it there until a reset. In CAL every tile begins with its round
0 (R126). -/
def execDramTrainingDone (dimms : List Dimm) (lanes : List LaneTrain) (s : State) : Out :=
  let pop := populationOf dimms
  .next <|
    if s.mgmt.startup ≠ .memTrain || s.mgmt.dramDone || s.mgmt.errCause ≠ 0 then s
    else withHealth (fun s =>
      let s := { s with mem := { s.mem with pop := pop, lanes := lanes } }
      if !dimmsOk dimms then { s with mgmt := { s.mgmt with
        errCause := 3, errDetail := (pop.channels.eraseDups.map (2 ^ ·)).sum % 65536 } }
      else
        let bad := (lanes.filter LaneTrain.fails).filter (fun l => pop.channels.contains l.channel)
        let s := each pop.channels (fun c s => s.modDram c (fun d =>
          { d with populated := true, attempts := d.attempts + 1, trained := !bad.any (fun l => decide (l.channel = c)) })) s
        match bad.find? (fun l => decide (2 ≤ (s.dram l.channel).attempts)) with
        | some l => { s with mgmt := { s.mgmt with errCause := 2, errChan := l.channel, errLane := l.lane } }
        | none =>
          if !bad.isEmpty then s
          else each (List.range 12) (fun t s => startRound t 9 0 s)
            (fitBudget { s with mgmt := { s.mgmt with dramDone := true, startup := .cal } })) s

/-- A channel whose set still waits at the end of CAL could not be calibrated: it is marked DEGRADED, which is journalled, and does not
hold the hub (R48, R137, R139). -/
def degradePending (c : Nat) (s : State) : State :=
  if (s.chan c).cal ≠ .pending then s
  else
    let s := s.modChan c (fun x => { x with cal := .degradedVoid, degraded := 2 })
    let x := s.modu (mainMod s c)
    postAt (boundary s.time.swath) pTile 0x020C (hChan c) [vU 2, vU x.attempts, vU (pack2 x.firstAgr x.agreement)] s

/-- CAL_COMPLETE (R42, R48, R126, R433, R524): once every tile has gone through its rounds SYNC begins; the enabled ports start
bring-up, and a member with a CLOVER port enters SEARCH. -/
def execCalComplete (t : Inst) (s : State) : Out :=
  let s := touch t s
  .next <|
    if s.mgmt.startup ≠ .cal || !calFinished s then s
    else withHealth (fun s =>
      let s := { s with mgmt := { s.mgmt with startup := .sync } }
      let s := each (List.range 16) (fun p s => if portOn s p then s.modPort p (fun q => { q with state := .idle }) else s) s
      let hasClover := (List.range 16).any (fun p => portOn s p && (s.port p).clover)
      let s := { s with clover := { s.clover with state := if hasClover then .search else s.clover.state } }
      each s.front.chans.keys degradePending s) s

end Sys2Proof.Machine
end

