-- ==== Sys2Proof/Machine/Clover.lean ====
section
/-! DEFINITION. The clover pair (13 of the spec): link-up and roles, heartbeats, partner loss, decisions, the join, the
swap, and SEVERED members. Mirrored commands are in Mirror.lean. -/

namespace Sys2Proof.Machine

/-- Change the pair's state. -/
def State.modClover (s : State) (f : Clover → Clover) : State := { s with clover := f s.clover }

/-- Decisions that arrive after the loss of the partner, discarded and counted (R533). -/
def lateDecision : Nat := ctrKey (clsPrivate + 7) 0 0 0

/-- The configured CLOVER port, if it is up. -/
def cloverPort (s : State) : Option Nat := (upPorts s).find? (fun p => (s.port p).clover)

/-- The member is the preferred one: by its strap, or as member A when both report the same (R508). -/
def preferred (s : State) (peerPref : Bool) : Bool := if s.mgmt.pref = peerPref then !s.mgmt.memberB else s.mgmt.pref

/-- The preference that the partner reports. -/
def peerPref (s : State) : Bool := match s.clover.last with | some h => h.pref | none => false

/-- The address that the straps give: 1,023 is treated as 0 (R487). -/
def strapAddr (strap : Nat) : Nat := if strap = 1023 then 0 else strap

/-- A member with a strapped address holds another, or none (R509). -/
def lacksStrap (s : State) : Bool :=
  let a := strapAddr s.mgmt.strap
  decide (a ≠ 0) && decide (s.sky.hub ≠ a) && decide (s.sky.next ≠ some a)

/-- Queue a message of the firmware for a MGMT or CLOVER frame. -/
def sendMsg (m : Msg) (s : State) : State := { s with host := { s.host with msgs := s.host.msgs ++ [m] } }

/-- The groups of a member that was SEVERED drive again: high-impedance ends with that state (R515). -/
def reviveGroups (s : State) : State :=
  if s.outputsHeld then s
  else each (List.range 96) (fun g s => s.modGroup g (fun x =>
    if x.enabled && x.state = .off && !x.staysOff then { x with state := .ramp, ext := true, okSwaths := 0, swathOk := false }
    else x)) s

/-- A join that does not come about (R509, R524, R533): a member that emits streams, or whose search timeout has passed, is SOLO and
regulates; another stays in SEARCH. -/
def leaveJoin (cause : Nat) (s : State) : State :=
  let alone := s.ready || s.clover.timedOut
  let s := s.modClover (fun c => { c with
    state := if alone then .solo else .search, role := if alone then .active else .none, cause := cause
    joinSec := none, joinOk := false, last := none })
  when alone reviveGroups s

/-! ## MGMT and CLOVER frames (R471, R511, R517); the byte layout of their payloads is the model's (log entry 186) -/

/-- The bytes of a TT and of a cross-trigger inside a payload. -/
def xtBytes (x : XTrig) : List Byte := leBytes 2 x.origin ++ leBytes 2 x.count ++ leBytes 1 x.cls ++ ttBytes x.tt 0

/-- The bytes of a decision. -/
def decisionBytes : Decision → List Byte
  | .taken u t n x => leBytes 1 1 ++ leBytes 2 u ++ tt12 t ++ leBytes 8 n ++ x.toList.flatMap xtBytes
  | .refuse u t r => leBytes 1 2 ++ leBytes 2 u ++ tt12 t ++ leBytes 1 r
  | .pointer u d jump fin => leBytes 1 3 ++ leBytes 2 u ++ leBytes 4 d ++ [if jump then 1 else 0, if fin then 1 else 0]
  | .xtrig n c tt => leBytes 1 4 ++ leBytes 2 n ++ leBytes 1 c ++ ttBytes tt 0
  | .tachEdge g t code armed => leBytes 1 5 ++ leBytes 1 g ++ tt12 t ++ leBytes 1 (code.getD 255) ++ [if armed then 1 else 0]
  | .zero g => leBytes 1 6 ++ leBytes 1 g
  | .shaft g st n ok =>
    leBytes 1 7 ++ leBytes 1 g ++ leBytes 1 (match st with | .off => 0 | .acquire => 1 | .locked => 2 | .holdover => 3 | .time => 4)
      ++ leBytes 4 n ++ [if ok then 1 else 0]
  | .interrupted ch g => leBytes 1 8 ++ leBytes 2 ch ++ leBytes 8 g
  | .closeInterval k t => leBytes 1 9 ++ leBytes 4 k ++ tt12 t
  | .closeRecord key n => leBytes 1 10 ++ leBytes 4 key ++ leBytes 8 n

/-- The AUX of a message between the members of a pair; 0 for one in a MGMT frame (R511). -/
def cloverAux (kind : Nat) : Nat := match kind with | 10 => 4 | 11 => 5 | 12 => 3 | 13 => 6 | 15 => 2 | _ => 0

/-- A message leaves in its frame. -/
def sendOne (m : Msg) (s : State) : State :=
  let body := leBytes 1 m.kind ++ leBytes 2 m.dest ++ leBytes 8 m.a ++ leBytes 8 m.b ++ leBytes 2 (statusCode m.st)
  if cloverAux m.kind = 0 then sendTo { ftype := 9, vc := 2, dest := m.dest, src := s.sky.hub, body := body } s
  else match cloverPort s with
    | some p => sendFrame p { ftype := 8, vc := 1, dest := 0, src := s.sky.hub, aux := cloverAux m.kind, body := body } s
    | none => s

/-- The decisions that have not left leave in DECISION frames, in order (R517). -/
def sendDecisions (s : State) : State :=
  match cloverPort s with
  | none => s
  | some p =>
    let l := s.clover.sent.filter (fun d => decide ((d.1 + 2 ^ 32 - s.clover.decOut) % 2 ^ 32 < 2 ^ 31))
    each l (fun d s => sendFrame p { ftype := 8, vc := 1, dest := 0, src := s.sky.hub, aux := 2, body := leBytes 4 d.1 ++ decisionBytes d.2 } s)
      (s.modClover (fun c => { c with decOut := c.decSeq }))

/-- What the firmware and the decisions have for other hubs leaves, at the next heartbeat slot or boundary. -/
def sendMsgs (s : State) : State :=
  sendDecisions (each s.host.msgs sendOne { s with host := { s.host with msgs := [] } })

/-! ## Link-up (R508, R525, R526) -/

/-- The clover link has come up: the roles follow from which member emits streams and from the preference, and the join
begins; the joining member takes the active one as its time parent and sends JOIN_REQ (R511). -/
def cloverLinkUp (p : Nat) (emits pref : Bool) (s : State) : State :=
  if s.clover.state = .formed then s
  else
    let active := if s.ready = emits then preferred s pref else s.ready
    let s := when (s.mgmt.pref = pref) (post pSkecy 0x0901 0 [vU (if s.mgmt.memberB then 1 else 0)]) s
    let s := s.modClover (fun c => { c with
      state := .joining, role := if active then .active else .standby, cause := 0, joinSec := none, joinOk := false
      last := none, unfit := 0, decSeq := 0, decNext := 0, decOut := 0, sent := [], decided := 0, fires := [], extended := false })
    if active then s
    else
      let s := changeParent (some p) s
      let (n, s) := drawn { s with time := { s.time with state := if s.ready then s.time.state else .acquire } }
      sendMsg { kind := 10, a := s.mgmt.pairProto, b := Config.digest n } (s.modClover (fun c => { c with digest := Config.digest n }))

/-- START (R436, R451, R525): traffic begins; on the CLOVER port the pair's roles are chosen. -/
def execStartBlock (p lane width : Nat) (peerEmits peerPref : Bool) (s : State) : Out :=
  event (isPort p) <|
    if (s.port p).state ≠ .up then s
    else
      let s := startTraffic p lane width s
      if (s.port p).clover then cloverLinkUp p peerEmits peerPref s else s

/-! ## Heartbeats (R512) -/

/-- A group that GRP_FAULT reports: in FAULT or OFF (R90). -/
def groupDown (s : State) (g : Nat) : Bool := (s.group g).down

/-- Calibration clear: no channel FAILED, and no more DEGRADED than on the partner (R529). The heartbeat carries no count,
so a member with DEGRADED channels reports clear only while its partner does not. -/
def calClear (s : State) : Bool :=
  let failed := s.front.chans.any (fun p => decide (p.2.cal = .failed))
  let degraded := s.front.chans.any (fun p => decide (p.2.cal = .degradedDisagree) || decide (p.2.cal = .degradedVoid))
  !failed && (!degraded || (match s.clover.last with | some h => !h.calClear | none => false))

/-- The heartbeat that a member launches at a cycle count (R512). -/
def heartbeatOf (s : State) (k : Nat) : HeartbeatMsg :=
  { seq := s.clover.hbSeq, member := if s.mgmt.memberB then 1 else 0, pref := s.mgmt.pref, role := s.clover.role
    update := s.clover.update, state := s.clover.state, proto := s.mgmt.pairProto, sendAt := atCycle k
    health := startupCode s.mgmt.startup, fault := s.mem.streamFault, calClear := calClear s
    swath := k / Config.swathCycles % Config.swathsPerSec
    decSeq := ((if s.clover.role = .active then s.clover.decSeq else s.clover.decNext) + 2 ^ 32 - 1) % 2 ^ 32
    decided := if s.clover.role = .active then s.now else 0
    grpFault := (List.range 96).filter (groupDown s), current := (List.range 96).map (fun g => (s.group g).currentUa) }

/-- Code of a role. -/
def roleCode : PairRole → Nat
  | .none => 0 | .active => 1 | .standby => 2

/-- Code of a pair state (R515). -/
def pairCode : PairState → Nat
  | .unpaired => 0 | .search => 1 | .joining => 2 | .formed => 3 | .solo => 4 | .severed => 5

/-- The ROLE byte of a member. -/
def roleByte (s : State) : Nat :=
  (if s.mgmt.memberB then 1 else 0) + (if s.mgmt.pref then 2 else 0) + 4 * roleCode s.clover.role
    + (if s.clover.update then 16 else 0)

/-- The 240 bytes of a heartbeat payload (R512). -/
def heartbeatBytes (s : State) (h : HeartbeatMsg) : List Byte :=
  leBytes 4 h.seq ++ leBytes 1 (roleByte s) ++ leBytes 1 (pairCode h.state) ++ leBytes 2 h.proto
    ++ leBytes 4 (shortTime h.sendAt)
    ++ leBytes 2 (h.health + (if h.fault then 8 else 0) + (if h.calClear then 16 else 0)) ++ leBytes 2 h.swath
    ++ leBytes 4 h.decSeq ++ leBytes 4 (if h.role = .active then shortTime h.decided else 0)
    ++ leBytes 12 (h.grpFault.foldl (fun a (g : Nat) => a + 2 ^ g) 0) ++ List.replicate 12 0
    ++ h.current.flatMap (fun (c : Nat) => leBytes 2 c)

/-- HEARTBEAT_LAUNCH (R512): what waits for the partner leaves, and one TIMED CLOVER frame at each cycle count divisible by 3,000. -/
def execHeartbeatLaunch (k : Nat) (s : State) : Out :=
  let s := sendMsgs s
  .next <|
    match cloverPort s with
    | none => s
    | some p =>
      if k % 3000 ≠ 0 || s.clover.state = .unpaired then s
      else
        let h := heartbeatOf s k
        let f : Frame := { ftype := 8, vc := 1, timed := true, dest := 0, src := s.sky.hub, aux := 1, body := heartbeatBytes s h }
        touch (atCycle k) (sendFrame p f (s.modClover (fun c => { c with hbSeq := (c.hbSeq + 1) % 2 ^ 32 })))

/-- Sequence n is covered by the last sequence d, modulo 2^32. -/
def covers (d n : Nat) : Bool := decide ((d + 2 ^ 32 - n) % 2 ^ 32 < 2 ^ 31)

/-- Published at last: every tussock stream whose decisions are now covered (R518). -/
def publishCovered (s : State) : State :=
  each ((s.red.tussocks.map (·.gsi)).eraseDups) (fun key s => publishReady key s.red.tussocks.length s) s

/-- The standby follows the active member's currents, and regulates a group whose bit in GRP_FAULT becomes 1 (R88, R90, R516);
`prev` holds the bits of the heartbeat before. A bit that returns to 0 changes no role: the spec is silent on it (log entry
139). -/
def followPartner (prev : List Nat) (h : HeartbeatMsg) (s : State) : State :=
  each (List.range 96) (fun g s =>
    if (s.group g).role ≠ .follow then s
    else if h.grpFault.contains g && !prev.contains g then setRole g .regulate s
    else followCurrent g (h.current.getD g 0 * (32 - s.clover.ramp) / 32) s) s

/-- Bits of GRP_FAULT that the last heartbeat carried. -/
def lastFaults (s : State) : List Nat :=
  match s.clover.last with
  | some h => h.grpFault
  | none => []

/-- The member becomes the standby: its groups follow, but for those that it drives and its partner's drivers have already lost
(R88, R90). -/
def becomeFollower (s : State) : State :=
  let lost := lastFaults s
  each (List.range 96) (fun g s => setRole g (if (s.group g).enabled && lost.contains g then .regulate else .follow) s) s

/-- The active member shows itself unfit: a HEALTH state other than READY, or STREAM_FAULT (R529). -/
def unfit (h : HeartbeatMsg) : Bool := decide (h.health ≠ 4) || h.fault

/-- The next boundary's global swath index. -/
def nextSwath (s : State) : Nat := s.time.swath + 1

/-- The standby takes the active role by a SWAP at the next boundary; a health takeover prevails over any other swap (R529,
R533). -/
def healthTakeover (s : State) : State :=
  sendMsg { kind := 13, a := nextSwath s, b := 1 } <| s.modClover (fun c => { c with swapAt := some (nextSwath s), swapOk := true, swapWhy := 3, unfit := 0 })

/-- The cause for which the active member has turned this one away, as it can be told from the link: another address in the training
blocks, another major version, else the population (R440, R509; log entry 184). -/
def refusedCause (s : State) (h : HeartbeatMsg) : Nat :=
  let other := match cloverPort s with
    | some p => decide ((s.port p).parHub ≠ s.sky.hub)
    | none => false
  if lacksStrap s || (decide (strapAddr s.mgmt.strap ≠ 0) && other) then 1 else if h.proto / 256 ≠ s.mgmt.pairProto / 256 then 3 else 2

/-- The active member has left the join that this member is in: it was JOINING in its last heartbeat and no longer is (R509). -/
def turnedAway (s : State) (h : HeartbeatMsg) : Bool :=
  decide (s.clover.role = .standby) && (decide (h.state = .search) || decide (h.state = .solo))
    && (match s.clover.last with | some l => decide (l.state = .joining) | none => false)

/-- HEARTBEAT (R508, R509, R512, R513, R529): a valid heartbeat newer than the last restarts the timer. -/
def execHeartbeat (h : HeartbeatMsg) (t : Inst) (s : State) : Out :=
  let s := touch t s
  .next <|
    let newer := match s.clover.last with
      | some l => decide (l.sendAt < h.sendAt)
      | none => true
    if s.clover.state = .unpaired || !newer then s
    else
      let prev := lastFaults s
      let away := turnedAway s h
      let s := s.modClover (fun c => { c with last := some h, lastAt := h.sendAt, extended := false })
      if s.clover.state = .joining && decide (h.proto / 256 ≠ s.mgmt.pairProto / 256) then
        leaveJoin 3 s
      else if s.clover.state = .joining && away then leaveJoin (refusedCause s h) s
      else if s.clover.state ≠ .formed then s
      else if s.clover.role = .active then
        publishCovered (s.modClover (fun c => { c with sent := c.sent.filter (fun d => !covers h.decSeq d.1) }))
      else
        let s := s.modClover (fun c => { c with
          decided := max c.decided h.decided, fires := c.fires.filter (fun f => decide (h.decided < f.at_))
          unfit := if unfit h then c.unfit + 1 else 0 })
        let s := followPartner prev h s
        if 3 ≤ s.clover.unfit then healthTakeover s else s

/-! ## Loss of the partner (R513, R514, R527 to R530) -/

/-- Sequence at which each tussock stream stands, kept while SOLO (R530). -/
def soloMarks (s : State) : Tab (Option Nat) :=
  (s.str.streams.filter (fun p => decide (kindOf p.1 = 5))).map (fun p => (p.1, some (p.2.next + unpublished s p.1)))

/-- The fires that the lost member had not decided are the survivor's own (R527), in the order of R260. -/
def takeFires (s : State) : State :=
  let l := (s.clover.fires.filter (fun f => decide (s.clover.decided < f.at_))).mergeSort
    (fun a b => decide (a.at_ < b.at_) || (decide (a.at_ = b.at_) && decide (a.unit ≤ b.unit)))
  let s := s.modClover (fun c => { c with fires := [] })
  judgeShots (each l (fun f s => match actions f.unit f.at_ (f.place.map (fun p => ⟨p.1, p.2.1, p.2.2, true⟩)) f.cross s with
    | (s, some x) => crossFires x s
    | (s, none) => s) s)

/-- Commands that waited for the partner are staged on neither member and complete with INTERRUPTED (R609). -/
def dropMirrors (cmd : Instr → Option Cmd) (s : State) : State :=
  let l := s.clover.mirrors.filterMap cmd
  each l (fun c s => finishLater c.tenant c.queue c.tag { status := .interrupted } none s)
    (s.modClover (fun c => { c with mirrors := [] }))

/-- The member goes on alone in the active role; a standby regulates excitation, decides from where the partner stopped
and leaves the clover link as its time parent (R527, R528). -/
def goSolo (s : State) : State :=
  let standby := decide (s.clover.role = .standby)
  let planned := match s.clover.last with | some h => h.update | none => false
  let seq := match s.clover.last with | some h => h.seq | none => 0
  let s := s.modClover (fun c => { c with
    state := .solo, role := .active, sent := [], swapAt := none, swapOk := false, unfit := 0, soloFrom := soloMarks s })
  let s := post pSkecy 0x0903 0 [vU 4, vU (if planned then 1 else 0), vU seq] s
  let s := publishCovered s
  if !standby then takeLoad s
  else
    let s := takeFires (recoverGroups s)
    match s.time.parent with
    | some p => if (s.port p).clover then changeParent s.time.alt s else s
    | none => s

/-- The clover link is up with no loss of signal on any active lane (R514). -/
def cloverSound (s : State) : Bool := (cloverPort s).isSome

/-- The partner is lost (R527, R528, R533): a join ends. -/
def losePartner (cmd : Instr → Option Cmd) (s : State) : State :=
  match s.clover.state with
  | .formed => dropMirrors cmd (goSolo s)
  | .joining => leaveJoin s.clover.cause s
  | _ => s

/-! ## Decisions (R517) -/

/-- A set that the active member admitted is cut here with the same NUMBER and header fields. -/
def cutAs (u : Nat) (at_ : Inst) (number : Nat) (x : Option XTrig) (s : State) : State :=
  let own := (s.clover.fires.find? (fun f => decide (f.unit = u) && decide (f.at_ = at_))).bind (·.place)
  let s := s.modClover (fun c => { c with fires := c.fires.filter (fun f => !(decide (f.unit = u) && decide (f.at_ = at_))) })
  match (s.unit u).current.bind (fun i => s.red.descs.get i) with
  | none => s
  | some d =>
    let set := (placeSet s d at_ (own.map (fun p => ⟨p.1, p.2.1, p.2.2, true⟩))).filterMap id
    let s := { s with red := { s.red with number := number } }
    admitSet u at_ x (bookedTo s d) d set (s.modUnit u (fun x => { x with state := .busy }))

/-- A group that was still in ACQUIRE takes the revolution count of the active member's (R227): its edges are those of the same
pickup. -/
def Shaft.adopt (x : Shaft) (revs : Nat) (held : Bool) : Shaft :=
  let y := { x with labels := x.labels.map (fun e => { e with angle := e.angle + (revs : Int) * revAngle x }), segs := [], winEnd := 0, good := 0 }
  if held then y.predict else y

/-- Apply a decision in place of the member's own (R517). -/
def applyDecision (d : Decision) (s : State) : State :=
  match d with
  | .taken u t n x => cutAs u t n x s
  | .refuse u t r => refuseFire u t r s
  | .pointer u d jump fin =>
    let s := s.modUnit u (fun x => { x with
      current := some d, state := if fin then .done else .armed, jumpReq := none, rearming := false, sinceArm := 0 })
    when jump (bump (ctrKey 9 u 5 0)) s
  | .xtrig n c tt =>
    let x : XTrig := { origin := s.sky.hub, count := n, cls := c, tt := tt }
    let s := { s with red := { s.red with xtCount := (n + 1) % 65536, xtLast := some s.now } }
    if s.red.pairs.any (fun y => decide (y.origin = x.origin) && decide (y.count = x.count)) then bump (ctrKey (clsPrivate + 3) 0 0 0) s
    else judgeShots (crossFires x (spreadXtrig none x (enterPair x s.now s)))
  | .tachEdge g t code armed => (shaftEdge g t code (s.modShaft g (fun x => { x with zeroArm := armed }))).1
  | .zero g => predictedZero g s
  | .shaft g st n ok => s.modShaft g (fun x =>
      let x := if decide (st = .holdover) && (decide (x.state = .locked) || x.blend.isSome && decide (x.state = .holdover) && !ok)
        then x.lose else x
      let x := if st = .time && x.state ≠ .time then { x with good := 0, edges := 0, blend := none, mayReturn := false } else x
      let x := if x.state = .acquire && (st = .locked || st = .holdover) then x.adopt n (decide (st = .holdover)) else x
      { x with
        state := if x.state = .acquire && x.labels.length < 2 then .acquire else st
        revs := n
        okRev := x.okRev && ok
        fellBack := x.fellBack || decide (st = .time ∧ x.state ≠ .time)
        returnAt := x.returnAt || decide (st = .locked ∧ x.state = .time) })
  | .interrupted ch g => s.modClover (fun c => { c with noStop := ((ch, g) :: c.noStop).take 768 })
  | .closeRecord key n => s.modStream key (Stream.closeFor n (descriptor s (sourceOf key) (bandOf (kindOf key))))
  | .closeInterval k t =>
    if (match (s.stat k).current with | some iv => decide (iv.start < t) | none => false) then
      let iv := newInterval s k t true ((s.stat k).heldFrom t)
      s.modStat k (fun x => { (endInterval t true x) with current := some iv })
    else s

/-- DECISION (R517, R533): the standby applies decisions in order; one that arrives after it has declared loss is
discarded, counted and journalled. -/
def execDecision (seq : Nat) (d : Decision) (s : State) : Out :=
  .next <|
    if s.clover.state ≠ .formed then post pSkecy 0x0906 0 [vU seq] (bump lateDecision s)
    else if s.clover.role ≠ .standby || seq ≠ s.clover.decNext then s
    else applyDecision d (s.modClover (fun c => { c with decNext := (c.decNext + 1) % 2 ^ 32 }))

/-! ## The join (R509 to R511, R525, R526) -/

/-- The check of R509: 0 none, 1 ADDRESS, 2 POPULATION, 3 VERSION. -/
def joinCause (s : State) (proto strap : Nat) (pop : Population) : Nat :=
  if strapAddr strap ≠ strapAddr s.mgmt.strap || lacksStrap s then 1
  else if pop ≠ s.mem.pop then 2
  else if proto / 256 ≠ s.mgmt.pairProto / 256 then 3
  else 0

/-- S_j: the first whole TT second at least two swaths after an instant (R526). -/
def joinSecond (t : Inst) : Nat := ceilDiv (t + 2 * atCycle Config.swathCycles) secSpan

/-- JOIN_REQ (R509 to R511, R526): the active member checks the joining one and, once that is LOCKED at `t` and an address
is held, names the join second and answers with JOIN_SYNC. -/
def execJoinReq (proto uid digest strap : Nat) (pop : Population) (t : Inst) (s : State) : Out :=
  let s := touch t s
  .next <|
    if s.clover.state ≠ .joining || s.clover.role ≠ .active then s
    else
      let why := joinCause s proto strap pop
      if why ≠ 0 then leaveJoin why s
      else if s.sky.hub = 0 then s.modClover (fun c => { c with partner := uid })
      else
        let sj := joinSecond t
        let (n, s) := drawn s
        let s := s.modClover (fun c => { c with digest := Config.digest n })
        let s := s.modClover (fun c => { c with partner := uid, joinSec := some sj, joinOk := true })
        sendMsg { kind := 11, a := sj, b := if digest = s.clover.digest then 0 else 1 } s

/-- JOIN_SYNC (R511, R526): the configuration is staged for a swath at least two ahead, and the positions wait for S_j. -/
def execJoinSync (sec uid addr : Nat) (config : List Change) (positions : List StreamPos) (decSeq : Nat) (s : State) : Out :=
  .next <|
    if s.clover.state ≠ .joining || s.clover.role ≠ .standby then s
    else
      let s := s.modClover (fun c => { c with
        joinSec := some sec, joinOk := true, partner := uid, positions := positions, decNext := (decSeq + 1) % 2 ^ 32
        adopt := if strapAddr s.mgmt.strap = 0 then some addr else none })
      if config.isEmpty then s
      else
        let c : Commit := { stage := { changes := config }, at_ := s.time.swath + 3, silent := true }
        { s with host := { s.host with bank := s.host.bank ++ [c] } }

/-- The joining member takes the pair's address (R510). -/
def adoptAddress (s : State) : State :=
  match s.clover.adopt with
  | none => s
  | some a =>
    if s.sky.hub = a then s.modClover (fun c => { c with adopt := none })
    else
      let s := post pSkecy 0x0907 0 [vU s.sky.hub, vU a] s
      (setAddress a s).modClover (fun c => { c with adopt := none })

/-- The joining member's streams take the active member's numbering, record state and packing generations (R311, R363, R525, R526); what
lies before the join second it does not emit. -/
def replaceNumbering (s : State) : State :=
  let l := s.clover.positions
  let s := each l (fun p s => s.modStream p.key (fun st => { st.close with
      next := p.next, pub := p.next, journW := p.next, nFirst := true, nRate := p.rate, nRestart := p.restart
      gen := p.gen, expGen := p.expGen, from_ := boundary s.time.swath, cuts := [], closeAt := [] })) s
  let s := s.modClover (fun c => { c with positions := [] })
  when (!l.isEmpty) (post pSkecy 0x0902 0 [vU l.length]) s

/-- The active member tells a new standby the state of its shaft groups (R227). -/
def sendShafts (s : State) : State :=
  each (groupsWith (fun g => (s.shaft g).on && decide ((s.shaft g).state ≠ .acquire)))
    (fun g s => sendDecision (.shaft g (s.shaft g).state (s.shaft g).revs (s.shaft g).okRev) s) s

/-- At S_j the pair is formed (R526): the active member tells of its shaft groups, and the standby follows current and takes the active member's numbering. -/
def formPair (g : Nat) (s : State) : State :=
  match s.clover.joinSec with
  | some sj =>
    if s.clover.state = .joining && s.clover.joinOk && decide (sj * Config.swathsPerSec ≤ g) then
      let s := s.modClover (fun c => { c with state := .formed, joinSec := none, joinOk := false, marked := 0 })
      if s.clover.role = .active then sendShafts s else adoptAddress (replaceNumbering (becomeFollower (reviveGroups s)))
    else s
  | none => s

/-- SEARCH_TIMEOUT (R510, R524, R533): a member in SEARCH goes on alone; member B may now ask for an address. -/
def execSearchTimeout (s : State) : Out :=
  .next <|
    if s.clover.state = .search then
      let s := s.modClover (fun c => { c with state := .solo, role := .active, timedOut := true, soloFrom := soloMarks s })
      when (s.mgmt.memberB && decide (strapAddr s.mgmt.strap = 0) && decide (s.sky.hub = 0)) askAddress s
    else if s.clover.state = .joining then s.modClover (fun c => { c with timedOut := true })
    else s

/-! ## The swap (R529, R531, R93) -/

/-- A member proposes a swap at a boundary at least two swaths ahead. -/
def proposeSwap (why : Nat) (s : State) : State :=
  let g := s.time.swath + 3
  sendMsg { kind := 13, a := g, b := 0 } (s.modClover (fun c => { c with swapAt := some g, swapOk := false, swapWhy := why }))

/-- A boundary lies at least two swaths ahead of now. -/
def twoAhead (s : State) (g : Nat) : Bool := decide (s.time.swath + 2 < g) || swathsAhead g s.now 2

/-- SWAP (R531): a proposal fixes the boundary and is confirmed; a confirmation settles the member's own proposal. The health takeover
of R529 comes as a confirmed boundary, which an unfit active member takes, in place of any other swap (R533). -/
def execSwap (boundary : Nat) (confirm : Bool) (s : State) : Out :=
  .next <|
    if s.clover.state ≠ .formed then s
    else if confirm && s.clover.swapAt = some boundary then s.modClover (fun c => { c with swapOk := true })
    else if confirm then
      if s.clover.role = .active && decide (s.time.swath < boundary) && (!s.ready || s.mem.streamFault) then
        s.modClover (fun c => { c with swapAt := some boundary, swapOk := true, swapWhy := 3 })
      else s
    else if !twoAhead s boundary || s.clover.swapWhy = 3 && s.clover.swapAt.isSome then s
    else sendMsg { kind := 13, a := boundary, b := 1 }
      (s.modClover (fun c => { c with swapAt := some boundary, swapOk := true, swapWhy := if c.command then 2 else 1 }))

/-- SWAP_HOLD_EXPIRY (R531): under AUTO a preferred, healthy standby proposes a swap. -/
def execSwapHoldExpiry (s : State) : Out :=
  .next <|
    let c := s.clover
    if c.state = .formed && c.role = .standby && !c.command && preferred s (peerPref s) && s.ready && !s.mem.streamFault
        && calClear s && c.swapAt.isNone then proposeSwap 1 s
    else s

/-- At the named boundary the roles exchange, for excitation as R93 sets out (R531). -/
def swapRoles (g : Nat) (s : State) : State :=
  match s.clover.swapAt with
  | none => s
  | some b =>
    if g < b then s
    else
      let ok := s.clover.swapOk && decide (s.clover.state = .formed)
      let why := s.clover.swapWhy
      let s := s.modClover (fun c => { c with swapAt := none, swapOk := false, swapWhy := 0, unfit := 0 })
      if !ok then s
      else
        let toActive := decide (s.clover.role = .standby)
        let s := s.modClover (fun c => { c with
          role := if toActive then .active else .standby, decided := if toActive then boundary g - 1 else 0
          ceded := if toActive then 0 else boundary g
          decSeq := if toActive then c.decNext else c.decSeq, decOut := if toActive then c.decNext else c.decOut, decNext := if toActive then c.decNext else c.decSeq, fires := [] })
        let s := if toActive then setRoles .regulate s else becomeFollower s
        post pSkecy 0x0905 0 [vT (g / Config.swathsPerSec), vU (g % Config.swathsPerSec), vU why] s

/-! ## Two SOLO members (R530) -/

/-- The non-preferred member is SEVERED: its excitation outputs are high-impedance, and the tussock sequences of the
interval are journalled. -/
def severe (s : State) : State :=
  let marks := s.clover.soloFrom
  let s := s.modClover (fun c => { c with state := .severed, role := .none, soloFrom := [] })
  let s := each (List.range 96) (fun g s => s.modGroup g (fun x => { x.die s.now with state := .off, inLimit := false, currentUa := 0 })) s
  each marks (fun p s =>
    match p.2 with
    | some n =>
      let stop := (s.stream p.1).next + unpublished s p.1
      when (decide (n < stop)) (post pSkecy 0x0904 (handleOf 0x0B p.1) [vU n, vU (stop - 1)]) s
    | none => s) s

/-- LSA (R492, R530): a newer LSA is stored and flooded onward; that of the other member, both being SOLO, severs the
non-preferred one. -/
def execLsa (p origin uid seq : Nat) (x : LsaIn) (s : State) : Out :=
  event (isPort p) <|
    if (s.port p).state ≠ .up || !lsaNewer s origin uid seq then s
    else
      let l : LsaRec := { origin := origin, uid := uid, seq := seq, links := x.links }
      let s := addrClash origin uid (seeUid uid (floodLsa l (some (p, x.hops)) (storeLsa l s)))
      let other := decide (origin ≠ 0) && decide (origin = s.sky.hub) && decide (uid ≠ Config.uid.toNat)
      if s.clover.state = .solo && other && !preferred s (peerPref s) then severe s else s

end Sys2Proof.Machine
end

