-- ==== Sys2Proof/Machine/Stages.lean ====
section
/-! DEFINITION. Stages and commits (R575 to R586 of 15): the twelve staging commands, STAGE_STATUS, STAGE_DISCARD,
COMMIT_AT_SWATH and the messages of a network commit. -/

namespace Sys2Proof.Machine

/-! ## The objects of a staging command -/

/-- Object class that a staging opcode takes (its Handle column). -/
def stagedClass (op : Nat) : Nat :=
  match op with
  | 0x0200 => 1 | 0x0202 => 3 | 0x0204 => 4 | 0x0300 => 5 | 0x0301 => 5 | 0x0400 => 7 | 0x0402 => 8 | 0x0500 => 6
  | 0x0501 => 9 | 0x0606 => 0x0B | 0x0800 => 0x0D | _ => 0

/-- A chain index of R570. -/
def isChainIndex (i : Nat) : Bool := decide (i < 3456) && decide (1 ≤ i % 4)

/-- A GSI's bits [21:0] that some stream of R306 and R308 can carry. -/
def isStreamKey (key : Nat) : Bool :=
  let (src, kind, ins) := (sourceOf key, kindOf key, instOfGsi key)
  decide (key < 4194304) &&
    (match kind with
     | 1 | 2 | 3 => decide (src < 864) && decide (ins = 0)
     | 4 => decide (src < 864) && decide (ins % 64 < 4) && decide (1 ≤ ins / 64)
     | 5 => decide (src < 864) && decide (ins = 0 ∨ 1 ≤ ins ∧ ins ≤ 3)
     | 6 => decide (896 ≤ src) && decide (src < 928) && decide (ins < 2)
     | 7 => decide (key = eventKey)
     | 8 => decide (key = houseKey)
     | _ => false)

/-- An index names an object of a class of R570. -/
def hasIndex (cls i : Nat) : Bool :=
  match cls with
  | 0 => decide (i = 0)
  | 1 => decide (i < 768)
  | 2 => decide (i < 864)
  | 3 => decide (i < 96)
  | 4 => decide (i < 12)
  | 5 => isChainIndex i
  | 6 => isChainIndex (i / 4)
  | 7 => decide (i < 32)
  | 8 => decide (i < 32)
  | 9 => decide (i < 1024)
  | 0x0A => decide (i < 65536)
  | 0x0B => isStreamKey i
  | 0x0C => decide (i < 4096)
  | 0x0D => decide (i < 16)
  | 0x0E => decide (i < 32)
  | 0x0F => decide (i < 64)
  | 0x12 => decide (i < 64)
  | 0x14 => decide (i < 4)
  | _ => false

/-- Every index of a class on which the broadcast index is allowed. -/
def allIndices (cls : Nat) : List Nat :=
  match cls with
  | 1 => List.range 768
  | 2 => List.range 864
  | 3 => List.range 96
  | 4 => List.range 12
  | 5 => (List.range 3456).filter isChainIndex
  | 6 => (List.range 13824).filter (fun (i : Nat) => isChainIndex (i / 4))
  | 7 => List.range 32
  | 8 => List.range 32
  | 9 => List.range 1024
  | _ => []

/-- The handle names one object of a class. -/
def names (cls : Nat) (c : Cmd) : Bool := decide (hClass c = cls) && hasIndex cls (hIndex c)

/-- The broadcast handle of a class on which R570 allows it. -/
def namesAll (cls : Nat) (c : Cmd) : Bool := decide (hClass c = cls) && isBroadcast c && decide (1 ≤ cls) && decide (cls ≤ 9)

/-- The rows of a change of chains that the settings table gives for a kind of chain, 1 LB, 2 WB, 3 EB (R177); a row of no kind is
one of every kind, so that it is refused. -/
def takesRows (ch : Change) (kind : Nat) : Bool :=
  if ch.opcode = 0x0301 then decide (kind = 3)
  else ch.pairs.all (fun p => match p.row with
    | 1 => decide (kind = 2)
    | 2 | 3 | 4 => decide (kind = 1)
    | 5 | 6 | 7 => decide (kind = 3)
    | _ => true)

/-- The objects that a change names. A broadcast on chains names those whose kind has every row of the change
(notes/assumptions/46.md). -/
def namedObjs (cls : Nat) (c : Cmd) (ch : Change) : List Nat :=
  if namesAll cls c then
    (if cls = 5 then (allIndices cls).filter (fun i => takesRows ch (i % 4)) else allIndices cls)
  else [hIndex c]

/-- Handles of a change's objects. -/
def changeHandles (ch : Change) : List Nat := ch.objs.map (handleOf (stagedClass ch.opcode))

/-! ## Stages -/

/-- The open stage of an identifier. -/
def openStage (s : State) (id : Nat) : Option Stage := s.host.stages.find? (fun x => decide (x.id = id))
/-- The committed stage of an identifier. -/
def sealedStage (s : State) (id : Nat) : Option Commit :=
  s.host.bank.find? (fun k => decide (k.stage.id = id) && decide (id ≠ 0))

/-- The stage of an identifier, if there is one, belongs to a tenant. -/
def stageMine (s : State) (id t : Nat) : Bool :=
  (match openStage s id with | some x => decide (x.tenant = t) | none => true) &&
    (match sealedStage s id with | some k => decide (k.stage.tenant = t) | none => true)

/-- Open stages, changes and committed stages that a hub holds (R582). -/
def maxStages : Nat := 256
/-- Changes that one stage holds (R582). -/
def maxChanges : Nat := 4096
/-- Committed stages that have not applied (R582). -/
def maxCommits : Nat := 64

/-- The first boundary that lies at least n swaths ahead (R38, R576). -/
def soonest (s : State) (n : Nat) : Nat := max (ceilDiv s.now swathSpan) s.time.swath + n

/-- TT seconds and swath index of a boundary in RESULT (R579). -/
def boundaryBytes (g : Nat) : List Byte := leBytes 6 (g / Config.swathsPerSec) ++ leBytes 2 (g % Config.swathsPerSec)

/-- Add a change to a stage, opening it. -/
def addChange (id t : Nat) (ch : Change) (s : State) : State :=
  let l := match openStage s id with
    | some _ => s.host.stages.map (fun x => if x.id = id then { x with changes := x.changes ++ [ch] } else x)
    | none => s.host.stages ++ [{ id := id, tenant := t, changes := [ch] }]
  let n := ((openStage s id).map (·.changes.length)).getD 0 + 1
  noteUse 9 n (noteUse 8 l.length { s with host := { s.host with stages := l } })

/-- Seal a stage into the commit bank (R579). -/
def pushCommit (k : Commit) (s : State) : State :=
  let l := s.host.bank ++ [k]
  noteUse 10 l.length { s with host := { s.host with
    bank := l, stages := s.host.stages.filter (fun x => decide (x.id ≠ k.stage.id)) } }

/-- A refusal of commit checks: a DELAY area that is full is limit 13 of R610. -/
def refuseCommit (st : Status) (l : List Change) (b : Nat) (s : State) : Reply × State :=
  if st = .noResource then
    let after := each l changeAll (standing b s)
    refuseFull (if inArea after 3 (lineArea after) then 0 else 13) s
  else refuse st s

/-- A command marked S (R571 to R577, R582): its change joins its stage, or with APPLY_NOW goes into a stage of its own that
is committed to the first boundary at least 2 swaths ahead. -/
def stageBody (op : Nat) (c : Cmd) (ch : Change) (formed : Bool) (s : State) : Reply × State :=
  let cls := stagedClass op
  let named := names cls c || namesAll cls c
  let ch := { ch with opcode := op, handle := c.handle.toNat }
  let ch := { ch with objs := if named then namedObjs cls c ch else [] }
  let prior := ((openStage s c.stage).map (·.changes)).getD []
  let held := (sealedStage s c.stage).isSome || ((openStage s c.stage).bind (·.prepared)).isSome
  let first := [(stageMine s c.stage c.tenant || decide (c.stage = 0), Status.notOwner), (named, .noSuchObject),
    (formed && (!named || !ch.objs.isEmpty), .badParam),
    (decide (c.stage ≠ 0) || applyNow c, .badParam)]
  let count := if namesAll cls c then ch.objs.length else 0
  let b := soonest s 2
  if c.stage = 0 then
    match firstFail (first ++ (if named && formed then commitChecks b [ch] s else [])) with
    | some st => refuseCommit st [ch] b s
    | none =>
      if maxCommits ≤ s.host.bank.length then refuseFull 10 s
      else
        ({ status := .done, later := true, progress := ch.objs.length, objs := (changeHandles ch).map (fun h => (h, 2)) },
         pushCommit { stage := { tenant := c.tenant, changes := [ch] }, at_ := b, tenant := c.tenant, queue := c.queue, tag := c.tag
                      now := true } s)
  else
    match firstFail (first ++ [(!held, .state)] ++ (if named && formed then stageChecks ch prior s else [])) with
    | some st => refuse st s
    | none =>
      if (openStage s c.stage).isNone && decide (maxStages ≤ s.host.stages.length) then refuseFull 8 s
      else if maxChanges ≤ prior.length then refuseFull 9 s
      else
        ({ status := .staged, progress := count, objs := (changeHandles ch).map (fun h => (h, 1)) },
         addChange c.stage c.tenant ch s)

/-- A staging command that sets pairs. -/
def setBody (op : Nat) (c : Cmd) (pairs : List Pair) (s : State) : Reply × State :=
  stageBody op c { pairs := pairs } (pairsOk pairs) s

/-! ## The staging commands -/

/-- Body of CHANNEL_SET (R70, R125, R128). -/
def bodyChannelSet (c : Cmd) (pairs : List Pair) (s : State) : Reply × State := setBody 0x0200 c pairs s
/-- CHANNEL_SET. -/
def execChannelSet (c : Cmd) (pairs : List Pair) (s : State) : Out :=
  command 0x0200 (.channelSet c pairs) c (fun s => bodyChannelSet c pairs s) s

/-- Body of EXC_SET (R73, R76, R79, R592). -/
def bodyExcSet (c : Cmd) (pairs : List Pair) (s : State) : Reply × State := setBody 0x0202 c pairs s
/-- EXC_SET. -/
def execExcSet (c : Cmd) (pairs : List Pair) (s : State) : Out :=
  command 0x0202 (.excSet c pairs) c (fun s => bodyExcSet c pairs s) s

/-- Body of REFBUF_SET (R98, R100). -/
def bodyRefbufSet (c : Cmd) (pairs : List Pair) (s : State) : Reply × State := setBody 0x0204 c pairs s
/-- REFBUF_SET. -/
def execRefbufSet (c : Cmd) (pairs : List Pair) (s : State) : Out :=
  command 0x0204 (.refbufSet c pairs) c (fun s => bodyRefbufSet c pairs s) s

/-- Body of CHAIN_SET (R177, R185). -/
def bodyChainSet (c : Cmd) (pairs : List Pair) (s : State) : Reply × State := setBody 0x0300 c pairs s
/-- CHAIN_SET. -/
def execChainSet (c : Cmd) (pairs : List Pair) (s : State) : Out :=
  command 0x0300 (.chainSet c pairs) c (fun s => bodyChainSet c pairs s) s

/-- Body of CHAIN_TAPS (R165, R593): the tap point is L1, L3, H1, H2 or H3. -/
def bodyChainTaps (c : Cmd) (tap : Nat) (taps : List Int) (s : State) : Reply × State :=
  stageBody 0x0301 c { tap := tap, taps := taps } (decide (tap < 5) && tapsOk taps) s
/-- CHAIN_TAPS. -/
def execChainTaps (c : Cmd) (tap : Nat) (taps : List Int) (s : State) : Out :=
  command 0x0301 (.chainTaps c tap taps) c (fun s => bodyChainTaps c tap taps s) s

/-- Body of TACH_SET (R193). -/
def bodyTachSet (c : Cmd) (pairs : List Pair) (s : State) : Reply × State := setBody 0x0400 c pairs s
/-- TACH_SET. -/
def execTachSet (c : Cmd) (pairs : List Pair) (s : State) : Out :=
  command 0x0400 (.tachSet c pairs) c (fun s => bodyTachSet c pairs s) s

/-- Body of SHAFT_SET (R199). -/
def bodyShaftSet (c : Cmd) (pairs : List Pair) (s : State) : Reply × State := setBody 0x0402 c pairs s
/-- SHAFT_SET. -/
def execShaftSet (c : Cmd) (pairs : List Pair) (s : State) : Out :=
  command 0x0402 (.shaftSet c pairs) c (fun s => bodyShaftSet c pairs s) s

/-- Body of STATS_SET (R229). -/
def bodyStatsSet (c : Cmd) (pairs : List Pair) (s : State) : Reply × State := setBody 0x0500 c pairs s
/-- STATS_SET. -/
def execStatsSet (c : Cmd) (pairs : List Pair) (s : State) : Out :=
  command 0x0500 (.statsSet c pairs) c (fun s => bodyStatsSet c pairs s) s

/-- Body of TRIGGER_SET (R238, R711). -/
def bodyTriggerSet (c : Cmd) (pairs : List Pair) (s : State) : Reply × State := setBody 0x0501 c pairs s
/-- TRIGGER_SET. -/
def execTriggerSet (c : Cmd) (pairs : List Pair) (s : State) : Out :=
  command 0x0501 (.triggerSet c pairs) c (fun s => bodyTriggerSet c pairs s) s

/-- Body of ADMISSION_SET (R260). -/
def bodyAdmissionSet (c : Cmd) (pairs : List Pair) (s : State) : Reply × State := setBody 0x0507 c pairs s
/-- ADMISSION_SET. -/
def execAdmissionSet (c : Cmd) (pairs : List Pair) (s : State) : Out :=
  command 0x0507 (.admissionSet c pairs) c (fun s => bodyAdmissionSet c pairs s) s

/-- Body of RING_SET (R313, R325, R326). -/
def bodyRingSet (c : Cmd) (pairs : List Pair) (s : State) : Reply × State := setBody 0x0606 c pairs s
/-- RING_SET. -/
def execRingSet (c : Cmd) (pairs : List Pair) (s : State) : Out :=
  command 0x0606 (.ringSet c pairs) c (fun s => bodyRingSet c pairs s) s

/-- Body of PORT_SET (R431). -/
def bodyPortSet (c : Cmd) (pairs : List Pair) (s : State) : Reply × State := setBody 0x0800 c pairs s
/-- PORT_SET. -/
def execPortSet (c : Cmd) (pairs : List Pair) (s : State) : Out :=
  command 0x0800 (.portSet c pairs) c (fun s => bodyPortSet c pairs s) s

/-! ## Stages as objects -/

/-- Body of STAGE_STATUS (R590). -/
def bodyStageStatus (c : Cmd) (s : State) : Reply × State :=
  checked [(decide (c.tenant = 0) || stageMine s c.stage c.tenant, .notOwner),
    (names 0 c && ((openStage s c.stage).isSome || (sealedStage s c.stage).isSome), .noSuchObject)] s
    (fun s => match openStage s c.stage with
      | some x => done (leBytes 4 0 ++ leBytes 4 x.changes.length ++ leBytes 8 0) s
      | none => match sealedStage s c.stage with
        | some k => done (leBytes 4 1 ++ leBytes 4 k.stage.changes.length ++ boundaryBytes k.at_) s
        | none => refuse .noSuchObject s)
/-- STAGE_STATUS. -/
def execStageStatus (c : Cmd) (s : State) : Out :=
  command 0x0107 (.stageStatus c) c (fun s => bodyStageStatus c s) s

/-- An open stage ends and its identifier is free (R581); its objects are DISCARDED (R604). -/
def dropStage (id : Nat) (s : State) : State :=
  match openStage s id with
  | none => s
  | some x => markStage x.tenant id 5 { s with host := { s.host with stages := s.host.stages.filter (fun y => decide (y.id ≠ id)) } }

/-- Body of STAGE_DISCARD (R581). -/
def bodyStageDiscard (c : Cmd) (s : State) : Reply × State :=
  checked [(stageMine s c.stage c.tenant, .notOwner),
    (names 0 c && ((openStage s c.stage).isSome || (sealedStage s c.stage).isSome), .noSuchObject),
    ((sealedStage s c.stage).isNone, .state)] s
    (fun s => ({}, dropStage c.stage s))
/-- STAGE_DISCARD. -/
def execStageDiscard (c : Cmd) (s : State) : Out :=
  command 0x0108 (.stageDiscard c) c (fun s => bodyStageDiscard c s) s

/-! ## Network commits (R583 to R585) -/

/-- Change the network commit of a stage. -/
def modNet (stage : Nat) (f : NetCommit → NetCommit) (s : State) : State :=
  { s with host := { s.host with nets := s.host.nets.map (fun n => if n.stage = stage then f n else n) } }

/-- The network commit of a stage at its originator. -/
def netOf (s : State) (stage : Nat) : Option NetCommit := s.host.nets.find? (fun n => decide (n.stage = stage))

/-- Object state of a hub in the record of a network commit (R585, R604). -/
def journalHub (n : NetCommit) (hub state : Nat) (s : State) : State :=
  let k := keyOf (s.tenant n.tenant)
  { s with host := { s.host with journal := s.host.journal.map (fun r =>
      if r.is k n.tag then { r with objs := r.objs.map (fun o => if o.1 = handleOf 0 hub then objEntry s (o.1, state) else o) }
      else r) } }

/-- A stage that a hub may commit for another: it belongs to tenant 0 or to a remote session opened from there (R583). -/
def stageFrom (s : State) (x : Stage) (src : Nat) : Bool :=
  decide (x.tenant = 0) || (decide ((s.tenant x.tenant).kind = 2) && decide ((s.tenant x.tenant).hub = src))

/-- A target's answer to PREPARE: none for READY (R577, R578, R584). -/
def prepareCheck (src stage boundary : Nat) (s : State) : Option Status :=
  match openStage s stage with
  | none => some (if (sealedStage s stage).isSome then .state else .noSuchObject)
  | some x =>
    firstFail ([(stageFrom s x src, Status.notOwner), (decide (lastCommit s ≤ boundary), .state),
      (decide (s.host.bank.length < maxCommits), .noResource), (decide (soonest s 2 ≤ boundary), .tooLate)]
      ++ commitChecks boundary x.changes s)

/-- A target takes PREPARE: a READY target holds its stage for the boundary. -/
def prepareStage (src stage boundary : Nat) (s : State) : Option Status × State :=
  match prepareCheck src stage boundary s with
  | some st => (some st, s)
  | none => (none, { s with host := { s.host with stages := s.host.stages.map (fun x =>
      if x.id = stage then { x with prepared := some (src, boundary) } else x) } })

/-- PREPARE at a target: it answers READY or REFUSE with the failing status. -/
def execPrepare (src stage boundary : Nat) (now : Inst) (s : State) : Out :=
  let (r, s) := prepareStage src stage boundary (touch now s)
  .next (match r with
    | none => sendMsg { kind := 2, dest := src, a := stage } s
    | some st => sendMsg { kind := 3, dest := src, a := stage, st := st } s)

/-- A target seals its stage into the commit bank for the boundary that PREPARE named. -/
def sealStage (src stage : Nat) (s : State) : State :=
  match openStage s stage with
  | none => s
  | some x =>
    match x.prepared with
    | some (h, b) =>
      if h = src then
        markStage x.tenant stage 2 (pushCommit { stage := { x with prepared := none }, at_ := b, tenant := x.tenant, src := some src } s)
      else s
    | none => s

/-- SEAL at a target (R584). -/
def execSeal (src stage : Nat) (s : State) : Out := .next (sealStage src stage s)

/-- ABORT at a target: it discards the stage of the network commit (R584). -/
def abortStage (src stage : Nat) (s : State) : State :=
  match openStage s stage with
  | some x => if stageFrom s x src then dropStage stage s else s
  | none => s
/-- ABORT. -/
def execAbortMsg (src stage : Nat) (s : State) : Out := .next (abortStage src stage s)

/-- NETWORK_STAGE_EXPIRY (R585): a READY target that has received neither SEAL nor ABORT discards its stage and writes an
entry. -/
def execNetworkStageExpiry (stage : Nat) (s : State) : Out :=
  .next (match (openStage s stage).bind (·.prepared) with
    | some _ => post pApp (Config.entryCode 2).toNat 0 [vU stage] (dropStage stage s)
    | none => s)

/-- The originator sends SEAL to every target. -/
def sealNet (n : NetCommit) (s : State) : State :=
  let s := modNet n.stage (fun n => { n with sealed := true }) s
  each n.targets (fun h s =>
    journalHub n h 2 (if h = s.sky.hub then sealStage h n.stage s else sendMsg { kind := 4, dest := h, a := n.stage } s)) s

/-- The network commit completes and is forgotten. -/
def endNet (n : NetCommit) (r : Reply) (s : State) : State :=
  finishLater n.tenant n.queue n.tag r none
    { s with host := { s.host with nets := s.host.nets.filter (fun m => decide (m.stage ≠ n.stage)) } }

/-- The originator sends ABORT to every target; the command completes with the first refusal, or TOO_LATE. -/
def abortNet (n : NetCommit) (s : State) : State :=
  let s := each n.targets (fun h s =>
    journalHub n h (if (n.refused.map (·.1)).contains h then 4 else 5)
      (if h = s.sky.hub then abortStage h n.stage s else sendMsg { kind := 5, dest := h, a := n.stage } s)) s
  endNet n { status := (n.refused.head?.map (·.2)).getD .tooLate } s

/-- A target has answered READY: with the last one the originator sends SEAL (R584 and the table after R586). -/
def readyIn (src stage : Nat) (s : State) : State :=
  match netOf s stage with
  | none => s
  | some n =>
    if n.sealed || !n.targets.contains src || n.ready.contains src then s
    else
      let s := journalHub n src 1 (modNet stage (fun n => { n with ready := n.ready ++ [src] }) s)
      match netOf s stage with
      | some n => if n.targets.all n.ready.contains then sealNet n s else s
      | none => s

/-- READY at the originator. -/
def execReadyMsg (src stage : Nat) (s : State) : Out := .next (readyIn src stage s)

/-- A target has refused. -/
def refusedIn (src stage : Nat) (st : Status) (s : State) : State :=
  match netOf s stage with
  | none => s
  | some n =>
    if n.sealed || !n.targets.contains src || (n.refused.map (·.1)).contains src then s
    else journalHub n src 4 (modNet stage (fun n => { n with refused := n.refused ++ [(src, st)] }) s)

/-- REFUSE at the originator. -/
def execRefuseMsg (src stage : Nat) (st : Status) (s : State) : Out := .next (refusedIn src stage st s)

/-- NETWORK_COMMIT_DECIDE (R584): 8 swaths before the boundary. -/
def execNetworkCommitDecide (stage : Nat) (s : State) : Out :=
  .next (match netOf s stage with
    | none => s
    | some n => if n.sealed then s else if n.targets.all n.ready.contains then sealNet n s else abortNet n s)

/-- The reply of a network commit that ends after its boundary (R585). -/
def netReply (n : NetCommit) : Reply :=
  { status := if n.targets.all n.confirmed.contains then .done else .partialDone
    progress := n.confirmed.length, result := boundaryBytes n.at_ }

/-- A target's confirmation is counted; the last one completes the command (R585). -/
def confirmIn (src stage : Nat) (s : State) : State :=
  match netOf s stage with
  | none => s
  | some n =>
    if !n.sealed || !n.targets.contains src || n.confirmed.contains src then s
    else
      let s := journalHub n src 3 (modNet stage (fun n => { n with confirmed := n.confirmed ++ [src] }) s)
      match netOf s stage with
      | some n => if n.targets.all n.confirmed.contains then endNet n (netReply n) s else s
      | none => s

/-- COMMIT_CONFIRM at the originator. -/
def execCommitConfirm (src stage : Nat) (s : State) : Out := .next (confirmIn src stage s)

/-- NETWORK_COMMIT_DEADLINE (R585): 1 ms after the boundary. -/
def execNetworkCommitDeadline (stage : Nat) (s : State) : Out :=
  .next (match netOf s stage with
    | none => s
    | some n => if n.sealed then endNet n (netReply n) s else s)

/-- Body of COMMIT_AT_SWATH with NETWORK (R583, R584): PREPARE to every target. -/
def netCommitBody (c : Cmd) (sec swath : Nat) (targets : List Nat) (s : State) : Reply × State :=
  let b := if swath = 0xFFFF then max (soonest s 16) (lastCommit s) else sec * Config.swathsPerSec + swath
  checked [(names 0 c && decide (c.stage ≠ 0), .noSuchObject),
    (decide (swath < Config.swathsPerSec) || decide (swath = 0xFFFF), .badParam),
    (decide (1 ≤ targets.length) && decide (targets.length ≤ 1022) && targets.all (fun h => decide (1 ≤ h) && decide (h ≤ 1022)), .badParam),
    ((netOf s c.stage).isNone, .state), (decide (soonest s 16 ≤ b), .tooLate)] s
    (fun s =>
      let targets := targets.eraseDups
      let n : NetCommit := { stage := c.stage, at_ := b, tenant := c.tenant, queue := c.queue, tag := c.tag, targets := targets }
      let s := { s with host := { s.host with nets := s.host.nets ++ [n] } }
      let s := each (targets.filter (fun h => decide (h ≠ s.sky.hub))) (fun h s => sendMsg { kind := 1, dest := h, a := c.stage, b := b } s) s
      let s := if targets.contains s.sky.hub then
          (match prepareStage s.sky.hub c.stage b s with
           | (none, s) => readyIn s.sky.hub c.stage s
           | (some st, s) => refusedIn s.sky.hub c.stage st s)
        else s
      ({ status := .accepted, objs := targets.map (fun h => (handleOf 0 h, 0)) }, s))

/-- Body of COMMIT_AT_SWATH (R577 to R579, R582, R583). -/
def bodyCommitAtSwath (c : Cmd) (sec swath : Nat) (targets : List Nat) (s : State) : Reply × State :=
  if netFlag c then netCommitBody c sec swath targets s
  else
    let b := if swath = 0xFFFF then max (soonest s 2) (lastCommit s) else sec * Config.swathsPerSec + swath
    match openStage s c.stage with
    | none => refuse (if (sealedStage s c.stage).isSome then (if stageMine s c.stage c.tenant then .state else .notOwner) else .noSuchObject) s
    | some x =>
      let basic := [(stageMine s c.stage c.tenant, Status.notOwner), (names 0 c, .noSuchObject),
        (decide (swath < Config.swathsPerSec) || decide (swath = 0xFFFF), .badParam), (x.prepared.isNone, .state),
        (decide (lastCommit s ≤ b), .state), (decide (soonest s 2 ≤ b), .tooLate)]
      match firstFail (basic ++ commitChecks b x.changes s ++ [(decide (s.host.bank.length < maxCommits), .noResource)]) with
      | some .noResource => if maxCommits ≤ s.host.bank.length then refuseFull 10 s else refuseCommit .noResource x.changes b s
      | some st => refuse st s
      | none =>
        ({ status := .accepted, objs := (x.changes.flatMap changeHandles).map (fun h => (h, 2)) },
         markStage x.tenant x.id 2 (pushCommit { stage := x, at_ := b, tenant := c.tenant, queue := c.queue, tag := c.tag } s))
/-- COMMIT_AT_SWATH. -/
def execCommitAtSwath (c : Cmd) (sec swath : Nat) (targets : List Nat) (s : State) : Out :=
  command 0x0109 (.commitAtSwath c sec swath targets) c (fun s => bodyCommitAtSwath c sec swath targets s) s

end Sys2Proof.Machine
end

