-- ==== Sys2Proof/Machine/Controls.lean ====
section
/-! DEFINITION. Dwehild commands that act at once (15 of the spec): system, channels, shaft groups, descriptors and
streams. -/

namespace Sys2Proof.Machine

/-! ## System, 0x01xx (R591) -/

/-- The tile's modulators start over, and its channels carry SUB until the tile has gone through the rounds of R126 again (R591), those of
CAL where the hub has not come to it; what a tile reset does to the trims no rule says, and they stand (log entry 70). -/
def resetTile (t : Nat) (s : State) : State :=
  let s := each (modsOf t) (fun m s => s.modModu m (fun x =>
    { x with overRun := 0, resetting := false, sameRun := 0, estFrom := none, firstRun := none, attempts := 0, voids := 0
             residuals := [] })) s
  let s := each (chansOf t) (fun c s => s.modChan c (fun x => { x with resetSub := true })) s
  if startupCode s.mgmt.startup < 2 then s else startRound t 9 0 s

/-- A port retrains (R455, R591): an up port loses its link, one in training starts again in IDLE. -/
def retrainPort (p : Nat) (s : State) : State :=
  if (s.port p).state = .up then linkDown p s
  else s.modPort p (fun q => { q with state := .idle, ts1Run := 0, ts2Run := 0, advert := none, fails := 0, slowIdle := false })

/-- Body of RESET_PART for a tile or a port (R591); the hub's own reset is `execResetPart`. A tile whose side-band has failed cannot be
reached (R15): STATE (notes/assumptions/150.md). -/
def bodyResetPart (c : Cmd) (s : State) : Reply × State :=
  let tile := names 4 c
  let port := names 0x0D c
  checked [(tile || port, .noSuchObject), (!port || decide ((s.port (hIndex c)).state ≠ .disabled), .state),
    (!tile || !(s.tile (hIndex c)).sideFail, .state)] s
    (fun s => ({}, if tile then resetTile (hIndex c) s else retrainPort (hIndex c) s))

/-- RESET_PART. With the hub's handle the command stays in execution and the hub resets; it completes DONE under R606. -/
def execResetPart (c : Cmd) (s : State) : Out :=
  let t := touch c.at_ s
  if takes t c && !tagBusy t c && !reservedFlags c.flags && decide (c.tenant = 0) && names 0 c then
    .next (heldReset 7 (some (c.tenant, c.tag)) (stayExec 0x0103 c false (journalReply 0x0103 c { status := .accepted } t)))
  else command 0x0103 (.resetPart c) c (fun s => bodyResetPart c s) s

/-- Body of QUEUE_CREATE (R540, R545, R546, R557): rings of 16 to 4,096 entries for an I/O pair. A queue that exists
refuses with BUSY (notes/assumptions/71.md). -/
def bodyQueueCreate (c : Cmd) (sqBase sqSize vector cqBase cqSize : Nat) (s : State) : Reply × State :=
  let q := hIndex c
  let dma := decide (4 ≤ q)
  let okSize (n : Nat) : Bool := if dma then decide (1 ≤ n) && decide (n < 65536) else decide (16 ≤ n) && decide (n ≤ 4096)
  let first := dma && !(s.tenant c.tenant).hasDma
  let grown := if first then s.modTenant c.tenant (fun x => { x with hasDma := true }) else s
  checked [(decide (hClass c = 0x10) && decide (1 ≤ q) && decide (q ≤ 7), .noSuchObject),
    (decide (vector ≤ 7) || decide (vector = 0xFF), .badParam), (okSize sqSize && okSize cqSize, .badParam),
    (!(s.queue c.tenant q).made, .busy), (!first || boundAllows grown, .limit)] s
    (fun _ => ({}, grown.modQueue c.tenant q (fun _ =>
      { made := true, base := sqBase, size := sqSize, cqBase := cqBase, cqSize := cqSize, vector := if vector = 0xFF then q else vector })))
/-- QUEUE_CREATE. -/
def execQueueCreate (c : Cmd) (sqBase sqSize vector cqBase cqSize : Nat) (s : State) : Out :=
  command 0x0104 (.queueCreate c sqBase sqSize vector cqBase cqSize) c
    (fun s => bodyQueueCreate c sqBase sqSize vector cqBase cqSize s) s

/-- Body of QUEUE_DELETE (R591): a DMA queue with a bound subscription refuses it; without one it holds no credit to abort.
The rings' places stay known, so that the completion of a command of the queue itself is still written. -/
def bodyQueueDelete (c : Cmd) (s : State) : Reply × State :=
  let q := hIndex c
  checked [(decide (hClass c = 0x10) && decide (1 ≤ q) && decide (q ≤ 7) && (s.queue c.tenant q).made, .noSuchObject),
    (decide (q < 4) || (boundSubs s c.tenant (q - 4)).isEmpty, .busy)] s
    (fun s => ({}, s.modQueue c.tenant q (fun x => { x with made := false, size := 0, late := [], stopped := false, cls := none })))
/-- QUEUE_DELETE. -/
def execQueueDelete (c : Cmd) (s : State) : Out := command 0x0105 (.queueDelete c) c (fun s => bodyQueueDelete c s) s

/-- Body of DMA_QUEUE_RESTART (R549). -/
def bodyDmaQueueRestart (c : Cmd) (s : State) : Reply × State :=
  let q := hIndex c
  checked [(decide (hClass c = 0x10) && decide (4 ≤ q) && decide (q ≤ 7) && (s.queue c.tenant q).made, .noSuchObject)] s
    (fun s => ({}, s.modQueue c.tenant q (fun x => { x with stopped := false })))
/-- DMA_QUEUE_RESTART. -/
def execDmaQueueRestart (c : Cmd) (s : State) : Out :=
  command 0x0106 (.dmaQueueRestart c) c (fun s => bodyDmaQueueRestart c s) s

/-! ## Channels, 0x02xx -/

/-- A modulator that has been declared failed is not calibrated (R133 to R137). -/
def noModulator (s : State) (m : Nat) : Bool :=
  if isSpare m then (s.spare m).fails || decide ((s.spare m).state = .failed)
  else decide (mainMod s m ≠ m) || decide ((s.chan m).cal = .failed)

/-- Body of CAL_NOW (R43, R125): the calibration is ordered; the completion follows with its outcome. One order waits at a time. -/
def bodyCalNow (c : Cmd) (s : State) : Reply × State :=
  let chan := names 1 c
  let m := if chan then mainMod s (hIndex c) else hIndex c
  checked [(chan || names 2 c, .noSuchObject), ((s.tile (tileOf m)).started && !noModulator s m, .state),
    ((s.modu m).calTag.isNone, .busy)] s
    (fun s =>
      let s := s.modModu m (fun x => { x with calTag := some (c.tenant, c.queue, c.tag) })
      let s := match channelOf s m with
        | some ch => if mainMod s ch = m then s.modChan ch (fun x => { x with calDue := true }) else s
        | none => s
      ({ status := .accepted, objs := [(c.handle.toNat, 0)] }, s))
/-- CAL_NOW. -/
def execCalNow (c : Cmd) (s : State) : Out := command 0x0205 (.calNow c) c (fun s => bodyCalNow c s) s

/-- Body of CAL_SET (R120, R123, R138). -/
def bodyCalSet (c : Cmd) (pairs : List Pair) (s : State) : Reply × State :=
  let f := s.front
  let new := withPairs setCal pairs (f.figCount, false, f.runLen, f.applyThr)
  checked [(names 0 c, .noSuchObject), (pairsOk pairs && new.isSome, .badParam)] s
    (fun s => match new with
      | none => refuse .badParam s
      | some (sel, clr, len, thr) =>
        let s := { s with front := { s.front with figCount := sel, runLen := len, applyThr := thr } }
        ({}, when clr (fun s => each s.front.mods.keys (fun m s => s.modModu m (fun x => { x with applied := 0 })) s) s))
/-- CAL_SET. -/
def execCalSet (c : Cmd) (pairs : List Pair) (s : State) : Out := command 0x0207 (.calSet c pairs) c (fun s => bodyCalSet c pairs s) s

/-- Body of SPARE_SHADOW (R43, R112, R115): a spare of the channel's tile, free or in lower-ranked use, shadows the channel from
the next boundary on. -/
def bodySpareShadow (c : Cmd) (spare swaths : Nat) (s : State) : Reply × State :=
  let ch := hIndex c
  let any := decide (spare = 0xFFFF)
  let pick := if any then pickSpare s (tileOf ch) 2 else if canTake s 2 spare then some spare else none
  checked [(names 1 c, .noSuchObject), (any || (sparesOf (tileOf ch)).contains spare, .badParam),
    ((s.tile (tileOf ch)).started, .state), ((s.chan ch).cover.isNone, .busy), (pick.isSome, .busy)] s
    (fun s => match pick with
      | none => refuse .busy s
      | some m =>
        ({ result := leBytes 2 m }, (claimSpare ch m { ordered := true, len := if swaths = 0 then none else some swaths } s).2))
/-- SPARE_SHADOW. -/
def execSpareShadow (c : Cmd) (spare swaths : Nat) (s : State) : Out :=
  command 0x0208 (.spareShadow c spare swaths) c (fun s => bodySpareShadow c spare swaths s) s

/-- Body of SPARE_RELEASE (R113): a commanded shadow ends at the next boundary, one that has not begun at once. -/
def bodySpareRelease (c : Cmd) (s : State) : Reply × State :=
  let ch := hIndex c
  checked [(names 1 c, .noSuchObject), (((s.chan ch).cover.map (·.ordered)).getD false, .state)] s
    (fun s => ({}, match (s.chan ch).cover with
      | some v =>
        if v.entered then s.modChan ch (fun x => { x with cover := some { v with endAt := some (nextBoundary s) } })
        else (s.modSpare v.spare (fun x => { x with claim := none })).modChan ch (fun x => { x with cover := none })
      | none => s))
/-- SPARE_RELEASE. -/
def execSpareRelease (c : Cmd) (s : State) : Out := command 0x0209 (.spareRelease c) c (fun s => bodySpareRelease c s) s

/-- A remap of the modulator's channel, or of a channel to it, or a spare's failure stands recorded in MRAM (R134, R137). -/
def recorded (s : State) (m : Nat) : Bool :=
  if isSpare m then (s.spare m).fails || decide ((s.spare m).state = .failed) || decide ((s.spare m).state = .remapped)
  else decide (mainMod s m ≠ m)

/-- Body of REMAP_CLEAR (R137): the record of a remap or of a failed spare is cleared at the next start-up; where none stands there is
nothing to clear. -/
def bodyRemapClear (c : Cmd) (s : State) : Reply × State :=
  checked [(names 2 c, .noSuchObject)] s
    (fun s => ({}, when (recorded s (hIndex c)) (fun s => s.modModu (hIndex c) (fun x => { x with clear := true })) s))
/-- REMAP_CLEAR. -/
def execRemapClear (c : Cmd) (s : State) : Out := command 0x020A (.remapClear c) c (fun s => bodyRemapClear c s) s

/-! ## Shaft groups, 0x04xx -/

/-- A chain bound to a shaft group has samples that an admitted tussock has still to copy (R258). -/
def boundCopies (s : State) (g : Nat) : Bool :=
  allMods.any (fun m =>
    (decide ((s.chain m).lbBind.map (·.group) = some g) && copiesFrom s (streamKey m 1 0))
      || (decide ((s.chain m).ebBind.map (·.group) = some g) && copiesFrom s (streamKey m 3 0)))

/-- Body of SHAFT_RETURN (R223, R258, R594): the return applies at the next boundary; it changes the rate of the chains that are
bound. -/
def bodyShaftReturn (c : Cmd) (s : State) : Reply × State :=
  let x := s.shaft (hIndex c)
  checked [(names 8 c, .noSuchObject), (decide (x.state = .time) && x.command && x.mayReturn, .state),
    (!boundCopies s (hIndex c), .busy)] s
    (fun s => ({}, s.modShaft (hIndex c) (fun x => { x with returnAt := true, mayReturn := false })))
/-- SHAFT_RETURN. -/
def execShaftReturn (c : Cmd) (s : State) : Out := command 0x0404 (.shaftReturn c) c (fun s => bodyShaftReturn c s) s

/-! ## Tussock descriptors and jumps, 0x05xx (R249 to R254, R595, R596) -/

/-- A source of a descriptor has a ring, and the ring's depth less the guard holds PRE + POST samples (R250). -/
def spanFits (s : State) (d : Descriptor) (gsi : Nat) : Bool :=
  let key := keyOfGsi gsi
  let m := sourceOf key
  let b := bandOf (kindOf key)
  bandOn (s.chain m) b && decide ((d.pre + d.post) * bandPeriod s m b + nsSpan (s.red.guard * 1000) ≤ ringDepthOf s key)

/-- The checks of a descriptor buffer (R249, R250). -/
def descChecks (d : Descriptor) (s : State) : List (Bool × Status) :=
  let keys := d.gsis.map keyOfGsi
  let kinds := keys.map kindOf
  let chainKey (k : Nat) : Bool := isStreamKey k && isSampleKind (kindOf k)
  let first := (keys.head?).getD 0
  [(decide (1 ≤ d.gsis.length) && decide (d.gsis.length ≤ 64), .badParam),
   (decide (d.pre ≤ 2 ^ 30 - 1) && decide (1 ≤ d.post) && decide (d.post ≤ 2 ^ 30 - d.pre), .badParam),
   (d.fin || decide (d.next < 65536), .badParam), (decide (d.jump.getD 0 < 65536), .badParam),
   (d.gsis.all (fun g => decide (g / 4194304 = s.sky.hub)), .noSuchObject),
   (keys.all chainKey && kinds.all (fun k => decide (k = kindOf first)), .badParam),
   (keys.all (fun k => sameRate s (bandOf (kindOf first)) (sourceOf first) (sourceOf k)), .badParam),
   (dramServes s, .state), (d.gsis.all (spanFits s d), .limit)]

/-- A descriptor is in use: current or list head of an enabled unit, or that of a tussock in flight (R251). -/
def descBusy (s : State) (i : Nat) : Bool :=
  s.red.units.any (fun p => p.2.on && (decide (p.2.current = some i) || decide (p.2.head = some i)))
    || s.red.tussocks.any (fun x => decide (x.desc = i) && decide (x.state = 0))

/-- Live descriptors that the hub holds (R249). -/
def maxDescs : Nat := 65536

/-- The lowest free descriptor index. -/
def freeDesc (s : State) : Option Nat :=
  let l := s.red.descs.keys
  if maxDescs ≤ l.length then none else (List.range (l.length + 1)).find? (fun (i : Nat) => !l.contains i)

/-- A command on another tenant's object is a FOREIGN violation and completes with NOT_OWNER (R548). -/
def foreign (c : Cmd) (s : State) : Reply × State :=
  ({ status := .notOwner }, violate (tenantFn s c.tenant) { kind := 8, tenant := c.tenant, time := shortTime s.now } s)

/-- Body of DESC_CREATE (R249, R595). -/
def bodyDescCreate (c : Cmd) (d : Descriptor) (s : State) : Reply × State :=
  checked ((names 0 c, .noSuchObject) :: descChecks d s) s
    (fun s => match freeDesc s with
      | none => refuseFull 3 s
      | some i =>
        let s := { s with red := { s.red with descs := s.red.descs.set i (some d), descOwner := s.red.descOwner.set i c.tenant } }
        ({ result := leBytes 2 i, objs := [(handleOf 0x0A i, 3)] }, noteUse 3 s.red.descs.length s))
/-- DESC_CREATE. -/
def execDescCreate (c : Cmd) (d : Descriptor) (s : State) : Out := command 0x0503 (.descCreate c d) c (fun s => bodyDescCreate c d s) s

/-- Body of DESC_SET (R249 to R251, R595). -/
def bodyDescSet (c : Cmd) (d : Descriptor) (s : State) : Reply × State :=
  let i := hIndex c
  let live := names 0x0A c && (s.red.descs.get i).isSome
  if live && decide (s.red.descOwner.get i ≠ c.tenant) then foreign c s
  else checked ([(live, .noSuchObject), (!descBusy s i, Status.busy)] ++ descChecks d s) s
    (fun s => ({ objs := [(c.handle.toNat, 3)] }, { s with red := { s.red with descs := s.red.descs.set i (some d) } }))
/-- DESC_SET. -/
def execDescSet (c : Cmd) (d : Descriptor) (s : State) : Out := command 0x0504 (.descSet c d) c (fun s => bodyDescSet c d s) s

/-- Body of DESC_FREE (R251). -/
def bodyDescFree (c : Cmd) (s : State) : Reply × State :=
  let i := hIndex c
  let live := names 0x0A c && (s.red.descs.get i).isSome
  if live && decide (s.red.descOwner.get i ≠ c.tenant) then foreign c s
  else checked [(live, .noSuchObject), (!descBusy s i, .busy)] s
    (fun s => ({ progress := 1, objs := [(c.handle.toNat, 3)] },
      { s with red := { s.red with descs := s.red.descs.set i none, descOwner := s.red.descOwner.set i 0 } }))
/-- DESC_FREE. -/
def execDescFree (c : Cmd) (s : State) : Out := command 0x0505 (.descFree c) c (fun s => bodyDescFree c s) s

/-- Body of TUSSOCK_JUMP (R253, R596). -/
def bodyTussockJump (c : Cmd) (target : Nat) (s : State) : Reply × State :=
  checked [(names 9 c, .noSuchObject), (decide (target < 65536) || decide (target = 0xFFFFFFFF), .badParam)] s
    (fun s => ({}, registerJump (hIndex c) (if target = 0xFFFFFFFF then none else some target) s))
/-- TUSSOCK_JUMP. -/
def execTussockJump (c : Cmd) (target : Nat) (s : State) : Out :=
  command 0x0506 (.tussockJump c target) c (fun s => bodyTussockJump c target s) s

/-! ## Streams, 0x06xx (R327 to R340, R597) -/

/-- A stream exists (R308): a chain output's while its chain is enabled, a definition's while it is. -/
def streamThere (s : State) (key : Nat) : Bool :=
  isStreamKey key && ((s.stream key).exists_ ||
    (isSampleKind (kindOf key) && decide (sourceOf key < 768) && bandOn (s.chain (sourceOf key)) (bandOf (kindOf key))) ||
    (decide (kindOf key = 4) && (s.stat (statIndex (sourceOf key) (instOfGsi key / 64) (instOfGsi key % 4))).on))

/-- Subscriptions that a hub holds (R328). -/
def maxSubs : Nat := 4096

/-- Live subscriptions. -/
def liveSubs (s : State) : Nat := (s.str.subs.filter (fun p => match p.2 with | some u => decide (u.state ≠ .closed) | none => false)).length

/-- The lowest free subscription handle. -/
def freeSub (s : State) : Option Nat :=
  (List.range maxSubs).find? (fun (h : Nat) => match s.sub h with | some u => decide (u.state = .closed) | none => true)

/-- A lag limit lies within its bounds: at most G for a kind whose G is a time (R327). -/
def lagOk (s : State) (key : Nat) (a : SubAsk) : Bool :=
  match a.lag with
  | none => true
  | some n =>
    let k := kindOf key
    a.bestEffort && (k = 4 || k = 5 || 7 ≤ k || decide (n ≤ depthOf (s.stream key) k))

/-- A DMA queue carries one class (R552): the class of the first subscription bound to it. -/
def classFits (s : State) (t d : Nat) (bulk : Bool) : Bool := (boundSubs s t d).all (fun p => p.2.bulk = bulk)

/-- The stream of a channel that is OFF (R60). -/
def ofOffChannel (s : State) (key : Nat) : Bool :=
  decide (kindOf key ≤ 5) && decide (sourceOf key < 768) && decide ((s.chan (sourceOf key)).mode = .off)

/-- The subscription that SUBSCRIBE makes. -/
def newSub (c : Cmd) (key : Nat) (a : SubAsk) (s : State) : Sub :=
  { gsi := key, tenant := c.tenant, keyKind := (keyOf (s.tenant c.tenant)).1, keyId := (keyOf (s.tenant c.tenant)).2
    bestEffort := a.bestEffort, bulk := a.bulk, queue := a.queue, lag := a.lag, retention := a.retention
    autoAck := a.bestEffort && a.autoAck.getD true
    events := [.opened a.start (a.fromLo + 4294967296 * a.fromHi)] }

/-- Body of SUBSCRIBE (R60, R306, R327, R328, R552, R557). -/
def bodySubscribe (c : Cmd) (pairs : List Pair) (s : State) : Reply × State :=
  let key := hIndex c
  let ask := withPairs setSub pairs {}
  let a := ask.getD {}
  let free := freeSub s
  let after := match free with
    | some h => { s with str := { s.str with subs := s.str.subs.set h (some (newSub c key a s)) } }
    | none => s
  let kind15 := decide (hClass c = 0x0B) && decide (kindOf key = 15)
  checked [(decide (hClass c = 0x0B) && (streamThere s key || kind15), .noSuchObject), (!kind15, .badParam),
    (pairsOk pairs && ask.isSome, .badParam), (lagOk s key a, .badParam),
    (a.autoAck.isNone || a.bestEffort, .badParam), ((s.queue c.tenant (4 + a.queue)).made, .state),
    (classFits s c.tenant a.queue a.bulk, .badParam), (!ofOffChannel s key && dramServes s, .state), (a.bulk || boundHolds after, .limit)] s
    (fun s => match free with
      | none => refuseFull 2 s
      | some h =>
        let s := after.modQueue c.tenant (4 + a.queue) (fun q => { q with cls := some a.bulk })
        ({ result := leBytes 2 h ++ [0, 0] ++ leBytes 4 (largestOf s key), objs := [(handleOf 0x0C h, 3)] }, noteUse 2 (liveSubs s) s))
/-- SUBSCRIBE. -/
def execSubscribe (c : Cmd) (pairs : List Pair) (s : State) : Out :=
  command 0x0600 (.subscribe c pairs) c (fun s => bodySubscribe c pairs s) s

/-- A command on a subscription: it names one that is not CLOSED, of the same session key, or any for tenant 0 where `zero`
allows it (R340, R540). -/
def onSub (c : Cmd) (zero : Bool) (s : State) (body : Nat → Sub → Reply × State) : Reply × State :=
  match (if hClass c = 0x0C then s.sub (hIndex c) else none) with
  | none => refuse .noSuchObject s
  | some u =>
    if (u.keyKind, u.keyId) ≠ keyOf (s.tenant c.tenant) && !(zero && decide (c.tenant = 0)) then foreign c s
    else body (hIndex c) u

/-- Body of UNSUBSCRIBE (R340, R540). -/
def bodyUnsubscribe (c : Cmd) (s : State) : Reply × State :=
  onSub c true s (fun h u =>
    if u.state = .closed then refuse .state s
    else ({ progress := 1, objs := [(c.handle.toNat, 3)] }, queueEvent h .close s))
/-- UNSUBSCRIBE. -/
def execUnsubscribe (c : Cmd) (s : State) : Out := command 0x0601 (.unsubscribe c) c (fun s => bodyUnsubscribe c s) s

/-- Body of ACK (R334, R347). -/
def bodyAck (c : Cmd) (n : Nat) (s : State) : Reply × State :=
  onSub c false s (fun h u =>
    if u.state = .closed then refuse .state s
    else if u.delivered < n + 1 && !decide (n + 1 ≤ u.acked) then refuse .badParam s
    else if s.frozen then ({ status := .interrupted }, s)
    else ({}, s.modSub h (fun u => u.ackTo (n + 1))))
/-- ACK. -/
def execAck (c : Cmd) (n : Nat) (s : State) : Out := command 0x0603 (.ack c n) c (fun s => bodyAck c n s) s

/-- Body of RESEND (R340). -/
def bodyResend (c : Cmd) (m : Nat) (s : State) : Reply × State :=
  onSub c false s (fun h u =>
    checked [(decide (m ≤ u.delivered), .badParam), (decide (u.state = .active) || decide (u.state = .stalled), .state)] s
      (fun s => ({}, queueEvent h (.resend m) s)))
/-- RESEND. -/
def execResend (c : Cmd) (m : Nat) (s : State) : Out := command 0x0604 (.resend c m) c (fun s => bodyResend c m s) s

/-- Body of ATTACH (R340, R597): the recorded completions go to the named queue first. -/
def bodyAttach (c : Cmd) (queue : Nat) (s : State) : Reply × State :=
  onSub c false s (fun h u =>
    checked [(decide (queue < 4), .badParam), (decide (u.state = .detached), .state), ((s.queue c.tenant (4 + queue)).made, .state),
      (classFits s c.tenant queue u.bulk, .badParam)] s
      (fun s =>
        let s := each u.recorded (fun d s => putDma c.tenant (4 + queue) { d with queue := queue } s) s
        let s := s.modSub h (fun u => { u with recorded := [], tenant := c.tenant })
        let s := s.modQueue c.tenant (4 + queue) (fun q => { q with cls := some u.bulk })
        ({}, queueEvent h (.attach queue) s)))
/-- ATTACH. -/
def execAttach (c : Cmd) (queue : Nat) (s : State) : Out := command 0x0605 (.attach c queue) c (fun s => bodyAttach c queue s) s

end Sys2Proof.Machine
end

