-- ==== Sys2Proof/Machine/Housekeeping.lean ====
section
/-! DEFINITION. Housekeeping, thermal levels, I2C buses, warm restarts and the other rows of the management subsystem
(R613, R622 to R625, R627 to R640, R647 of 16; R98, R99 of 03; R672, R681 of 18; R536 of 14). -/

namespace Sys2Proof.Machine

/-! ## Sensors (R627 to R631) -/

/-- A sensor number of R627. -/
def isSensor (i : Nat) : Bool := decide (i < 98) || (decide (128 ≤ i) && decide (i < 192)) || (decide (192 ≤ i) && decide (i < 197))

/-- Upper junction limit L of the grade in m°C (R2). -/
def junctionLimit : Int := if Config.gradeHigh then 110000 else 100000

/-- Nominal values of sensors 72 to 89 in µV (R627, R669). -/
def nominals : List Int :=
  [750000, 800000, 900000, 1200000, 1100000, 1100000, 1100000, 1100000, 1100000, 1100000, 1100000, 1100000, 1800000, 1800000,
   1800000, 900000, 26000000, -15000000]

/-- Nominal value of a supply sensor. -/
def nominalOf (i : Nat) : Option Int := if i < 72 then none else nominals[i - 72]?

/-- Top code of the converter: the edge of its span (R630). -/
def topCode : Nat := 4095
/-- Code of a nominal value: 80 % of span (R630). -/
def nominalCode : Int := 3276

/-- VALUE of a code (R627, R630): a supply's nominal value stands at 80 % of span, a board input spans 0 to 1.25 V; the scale
of the other sensors, and of the level-shifted VA_HN, no rule gives. -/
def sensorValue (i code : Nat) : Int :=
  if 72 ≤ i && i < 89 then (roundDiv (code * ((nominalOf i).getD 0).toNat * 5) (4 * topCode) : Nat)
  else if 90 ≤ i && i < 98 then (roundDiv (code * 1250000) topCode : Nat)
  else Config.sensorScale i code

/-- Default alarm limits (R631). -/
def defaultLimits (i : Nat) : Option Int × Option Int :=
  if i < 48 then (none, some (junctionLimit - 6000))
  else match nominalOf i with
    | some n => (some (n - n.natAbs / 20), some (n + n.natAbs / 20))
    | none => (none, none)

/-- Alarm limits in force. -/
def limitsOf (s : State) (i : Nat) : Option Int × Option Int :=
  ((s.sensor i).low.getD (defaultLimits i).1, (s.sensor i).high.getD (defaultLimits i).2)

/-- A value lies beyond a limit. -/
def beyondLimit (l : Option Int × Option Int) (v : Int) : Bool :=
  (match l.1 with | some a => decide (v < a) | none => false) || (match l.2 with | some b => decide (b < v) | none => false)

/-- Readings that enter or leave alarm (R631). -/
def alarmRun : Nat := 8

/-- A reading reaches its sensor: value, over-range and the alarm's runs; an entry or exit is journalled (R630, R631). -/
def takeReading (i code : Nat) (v : Int) (beyondR : Bool) (t : Inst) (s : State) : State :=
  let x := s.sensor i
  let out := beyondLimit (limitsOf s i) v
  let y : Sensor := { x with
    code := code, value := v, overR := beyondR, at_ := t
    beyond := if !beyondR && out then x.beyond + 1 else 0
    overRun := if beyondR then x.overRun + 1 else 0
    within := if !beyondR && !out then x.within + 1 else 0 }
  let enter := !x.alarm && (decide (alarmRun ≤ y.beyond) || decide (alarmRun ≤ y.overRun))
  let leave := x.alarm && decide (alarmRun ≤ y.within)
  let s := s.modSensor i (fun _ => { y with alarm := (x.alarm || enter) && !leave })
  let s := when beyondR (bump (ctrKey 0x13 0 1 0)) s
  let s := when enter (bump (ctrKey 0x13 0 2 0)) s
  when (enter || leave) (post pApp 0x0B06 (handleOf 0x13 i) [vU i, vU (if enter then 1 else 0), vS v]) s

/-- The input lies more than 1 % of span beyond an edge (R630); the code is as the input would give it without clamping. -/
def overRange (code : Int) : Bool := decide (topCode < 100 * (code - topCode)) || decide (topCode < -100 * code)

/-- A conversion of the housekeeping ADC: the code is clamped (R630). -/
def convert (i : Nat) (code : Int) (t : Inst) (s : State) : State :=
  let c := (clampI 0 4095 code).toNat
  takeReading i c (sensorValue i c) (overRange code) t s

/-! ## Reference faults (R98, R99, R672) -/

/-- Deviation of a tile reference in ppm from its code. -/
def refPpm (code : Nat) : Int := ((code : Int) - nominalCode) * 1000000 / nominalCode

/-- The deviation exceeds ±0.05 %. -/
def refBad (code : Nat) : Bool := decide (5 * nominalCode < 10000 * (((code : Int) - nominalCode).natAbs : Int))

/-- An analogue supply reads more than 5 % from nominal; one not yet read does not (R672). -/
def railBad (s : State) (i : Nat) : Bool :=
  let n := (nominalOf i).getD 0
  decide ((s.sensor i).at_ ≠ 0) && decide (5 * n.natAbs < 100 * ((s.sensor i).value - n).natAbs)

/-- VA_LV, VA_MOD, VA_HP, VA_HN. -/
def rails : List Nat := [86, 87, 88, 89]

/-- A reference fault begins: SETL from this swath, an entry, and the tile's covers stand (R99, R132). -/
def refFaultBegin (t cause : Nat) (ppm : Int) (s : State) : State :=
  let x := s.tile t
  if x.refFault then s
  else
    let s := s.modTile t (fun x => { x with refFault := true, settling := false, refCause := cause, refDev := ppm })
    suspendCovers t (post pTile 0x0208 (hTile t) [vU 1, vS ppm, vU cause] s)

/-- The deviation has returned: a new settling interval starts (R99). -/
def refFaultEnd (t cause : Nat) (s : State) : State :=
  let x := s.tile t
  if x.refFault && decide (x.refCause = cause) then s.modTile t (fun x => { x with refFault := false, settling := true }) else s

/-- What a conversion says of the references: a tile's own, or, for an analogue supply, every tile's. -/
def judgeRefs (i : Nat) (s : State) : State :=
  if 48 ≤ i && i < 60 then
    let t := i - 48
    let c := (s.sensor i).code
    if refBad c then refFaultBegin t 1 (refPpm c) s else refFaultEnd t 1 s
  else if rails.contains i then
    if railBad s i then each (List.range 12) (fun t s => refFaultBegin t 2 (s.tile t).refDev s) s
    else if rails.any (railBad s) then s else each (List.range 12) (fun t s => refFaultEnd t 2 s) s
  else s

/-- Sensor of a conversion slot (R628). -/
def slotSensor (slot : Nat) : Nat := if slot < 24 then 48 + slot else if slot < 72 then slot - 24 else slot

/-- HK_CONVERSION (R628, R630, R631, R99, R672): slots 98 to 124 convert nothing. -/
def execHkConversion (slot : Nat) (code : Int) (t : Inst) (s : State) : Out :=
  let s := touch t s
  event (decide (slot < 98)) (judgeRefs (slotSensor slot) (convert (slotSensor slot) code t s))

/-- URGENT_CONVERSION (R629, R647): taken in slots 98 to 124, dropped and counted while a sequenced conversion runs. -/
def execUrgentConversion (sensor slot : Nat) (code : Int) (s : State) : Out :=
  event (decide (sensor < 98) && decide (slot < 125)) <|
    if slot < 98 then bump (ctrKey 0x13 0 0 0) s else judgeRefs sensor (convert sensor code s.now s)

/-! ## The housekeeping stream (R632, R640) -/

/-- I2C bus that a sensor is read over: PMBus regulators on bus 0, the SFP+ module on bus 2 (R637). -/
def sensorBus (i : Nat) : Option Nat := if i < 128 then none else if i < 192 then some 0 else some 2

/-- The sensor's bus is STUCK: it keeps its last value with the stale flag (R640). -/
def stale (s : State) (i : Nat) : Bool := match sensorBus i with | some b => decide ((s.bus b).state = .stuck) | none => false

/-- Period of a sensor's housekeeping entries in swaths; 0 is off (R632). -/
def housePeriod (s : State) (i : Nat) : Nat := (s.sensor i).period.getD (if i < 98 then 8000 else 0)

/-- The 16 bytes of a housekeeping entry (R632). -/
def houseEntry (s : State) (i : Nat) : List Byte :=
  let x := s.sensor i
  let b (c : Bool) (n : Nat) : Nat := if c then n else 0
  leBytes 4 (shortTime x.at_) ++ leBytes 2 i ++ [BitVec.ofNat 8 (b x.overR 1 + b x.alarm 2 + b (stale s i) 4), 0] ++ leInt 8 x.value

/-- HOUSEKEEPING_PERIOD (R632). -/
def execHousekeepingPeriod (sensor : Nat) (t : Inst) (s : State) : Out :=
  let s := touch t s
  event (isSensor sensor) <|
    if housePeriod s sensor = 0 then s else emitItem houseKey { t := t, body := houseEntry s sensor } [] false s

/-! ## Thermal levels (R633 to R635) -/

/-- Entry threshold of a level. -/
def levelAt (n : Nat) : Int := junctionLimit + (match n with | 1 => -6000 | 2 => -4000 | 3 => -2000 | _ => 0)

/-- The hottest of sensors 0 to 47, the lowest number among equals. -/
def hottest (s : State) : Nat := (List.range 48).foldl (fun b i => if (s.sensor b).value < (s.sensor i).value then i else b) 0

/-- Task 3 of the control pass: a level is entered at its threshold, and the swath since which the hottest point has stayed
2 °C below each threshold is kept (R633). -/
def thermalPass (g : Nat) (s : State) : State :=
  let v := (s.sensor (hottest s)).value
  let up := ((List.range 4).map (· + 1)).foldl (fun m n => if levelAt n ≤ v then n else m) 0
  let cool := (List.range 4).foldl (fun (t : Tab (Option Nat)) n =>
    Tab.set t (n + 1) (if v ≤ levelAt (n + 1) - 2000 then some ((Tab.get t (n + 1)).getD g) else none)) s.mgmt.cool
  when (decide (s.mgmt.level < up)) (ctlWrite (.level up)) { s with mgmt := { s.mgmt with cool := cool } }

/-- Swaths for which a point stays cool before a level is left: 10 s. -/
def coolSwaths : Nat := 80000

/-- A level's hottest point has stayed cool long enough at swath g. -/
def hasCooled (s : State) (g n : Nat) : Bool := match s.mgmt.cool.get n with | some a => decide (a + coolSwaths ≤ g) | none => false

/-- The highest level that is not yet left. -/
def levelKept (s : State) (g : Nat) : Nat := ((List.range s.mgmt.level).map (· + 1)).foldl (fun m n => if hasCooled s g n then m else n) 0

/-- THERMAL_LEVEL_EXIT (R633): the level that remains applies at the next boundary. -/
def execThermalLevelExit (s : State) : Out :=
  let k := levelKept s s.time.swath
  .next (when (decide (k < s.mgmt.level)) (ctlWrite (.level k)) s)

/-- A stream has a live REQUIRED subscription. -/
def hasRequired (s : State) (key : Nat) : Bool := (subsOf s key).any (fun p => !p.2.bestEffort)

/-- Whether the thermal level holds a modulator's WB or EB chain: at level 3 where its stream has no REQUIRED subscription, at
level 4 always (R633). A spare in use follows its channel's stream. -/
def shedBand (s : State) (m : Nat) (b : Band) : Bool :=
  decide (4 ≤ s.mgmt.level) ||
    (decide (3 ≤ s.mgmt.level) && !hasRequired s (streamKey ((channelOf s m).getD m) (bandKind b) 0))

/-- The holds of every chain at a boundary (R633, R635). -/
def setHolds (s : State) : State :=
  { s with front := { s.front with pipes := allMods.foldl (fun t m =>
      Tab.mod t m (fun p => { p with wbHeld := shedBand s m .wb, ebHeld := shedBand s m .eb })) s.front.pipes } }

/-- Chains whose hold changes at boundary g stop or start (R635). -/
def turnHolds (g : Nat) (s : State) : State :=
  if s.mgmt.level < 3 && s.front.pipes.all (fun p => !p.2.wbHeld && !p.2.ebHeld) then s
  else
    let t := setHolds s
    each allMods (fun m x =>
      if bandHeld (s.pipe m) .wb = bandHeld (t.pipe m) .wb && bandHeld (s.pipe m) .eb = bandHeld (t.pipe m) .eb then x
      else
        turnMod s g m [.wb, .eb] x) t

/-- Pattern tests stop, and their ports start bring-up again (R463, R464, R633). -/
def stopTests (s : State) : State :=
  let s' := { s with sky := { s.sky with prbs := s.sky.prbs.map (fun l => (l.1, { l.2 with gen := false, chk := false, poly := 0 })) } }
  each ((List.range 16).filter (fun p => portOn s p && inTest s p)) (fun p s => s.modPort p (fun q => { q with state := .idle })) s'

/-- A level change applies at a boundary and is journalled (R633). -/
def applyLevel (n : Nat) (s : State) : State :=
  let old := s.mgmt.level
  if n = old then s
  else
    let h := hottest s
    let s := post pApp 0x0B09 (handleOf 0x13 h) [vU old, vU n, vU h, vS (s.sensor h).value] { s with mgmt := { s.mgmt with level := n } }
    when (decide (old = 0)) stopTests s

/-! ## Sensor and bus settings (R632) -/

/-- One pair of SENSOR_SET: PART is the sensor, bus or regulator. -/
def setSensor (p : Pair) (s : State) : Option State :=
  let i := p.part
  match p.row with
  | 0 => if isSensor i then some (s.modSensor i (fun x => { x with low := some (if p.value = 0x80000000#32 then none else some p.value.toInt) })) else none
  | 1 => if isSensor i then some (s.modSensor i (fun x => { x with high := some (if p.value = 0x7FFFFFFF#32 then none else some p.value.toInt) })) else none
  | 2 => if isSensor i then (natIn p 0 65535).map (fun n => s.modSensor i (fun x => { x with period := some n })) else none
  | 3 => if i < 4 then (natIn p 0 2).map (fun n => s.modBus i (fun b => { b with speed := n })) else none
  | 4 => if i < 4 then (orNone p 16).map (fun n => s.modBus i (fun b => { b with rstPin := n })) else none
  | 5 => if i < 4 then (natIn p 1 10000).map (fun n => s.modBus i (fun b => { b with pulse := n })) else none
  | 6 => if i < 16 then (natIn p 0 127).map (fun n => { s with mgmt := { s.mgmt with pmbus := s.mgmt.pmbus.set i n } }) else none
  | _ => none

/-- The settings that wait apply at a boundary. -/
def applySensorSets (s : State) : State :=
  let l := s.mgmt.sensorSets
  each l (fun p s => (setSensor p s).getD s) { s with mgmt := { s.mgmt with sensorSets := [] } }

/-! ## I2C buses (R637 to R640) -/

/-- I2C_SCL_TIMEOUT (R639): SCL still low after 35 ms. -/
def execI2cSclTimeout (bus : Nat) (s : State) : Out :=
  event (decide (bus < 4)) <|
    if (s.bus bus).state ≠ .waitScl then s
    else
      let s := s.modBus bus (fun x => { x with state := .stuck, byScl := true })
      let s := bump (ctrKey 0x14 bus 4 0) (bump (ctrKey 0x14 bus 2 0) s)
      post pApp 0x0B07 (handleOf 0x14 bus) [vU bus, vU 1] s

/-- I2C_STUCK_RETRY (R640): the reset pin is pulsed, if one is named, and the clear repeats. `scl`: SCL is found low. -/
def execI2cStuckRetry (bus : Nat) (scl : Bool) (pulses : Option Nat) (s : State) : Out :=
  event (decide (bus < 4)) <|
    let x := s.bus bus
    if x.state ≠ .stuck then s
    else
      let s := match x.rstPin with | some p => startPulse p (10 * x.pulse) s | none => s
      clearBus bus scl pulses s

/-- PMBUS_POLL (R637, R640): the four readings of a regulator; a fault is journalled, and cleared in the regulator. A PEC
failure gives no reading and is counted. -/
def execPmbusPoll (reg : Nat) (vout iout temp status : Int) (pecOk : Bool) (s : State) : Out :=
  event (decide (reg < 16)) <|
    if s.mgmt.pmbus.get reg = 0 || (s.bus 0).state = .stuck || s.mgmt.warm then s
    else if !pecOk then bump (ctrKey 0x14 0 1 0) s
    else
      let put (q : Nat) (v : Int) (s : State) : State := takeReading (128 + 4 * reg + q) 0 v false s.now s
      let s := put 3 status (put 2 temp (put 1 iout (put 0 vout s)))
      when (decide (status ≠ 0)) (post pApp 0x0B0C (handleOf 0x14 0) [vU reg, vU status.toNat]) s

/-- The quantity of the first alarm flag of SFF-8472's two flag bytes: temperature, Vcc, bias, TX power, RX power. -/
def alarmed (flags : Nat) : Nat := ((List.range 5).find? (fun (i : Nat) => decide (flags / 2 ^ (14 - 2 * i) % 4 ≠ 0))).getD 0

/-- SFP_POLL (R637): the module's diagnostics page; alarms are journalled. -/
def execSfpPoll (vals : List Int) (alarms : Nat) (s : State) : Out :=
  .next <|
    if (s.bus 2).state = .stuck || s.mgmt.warm then s
    else
      let s := each ((vals.take 5).zipIdx) (fun p s => takeReading (192 + p.2) 0 p.1 false s.now s) s
      when (decide (alarms ≠ 0)) (post pApp 0x0B0D (handleOf 0x14 2) [vU alarms, vS (vals.getD (alarmed alarms) 0)]) s

/-- MANAGEMENT_ETHERNET_LINK_UP (R637): the module's identity page is read. -/
def execManagementEthernetLinkUp (page : List Byte) (s : State) : Out :=
  .next (if (s.bus 2).state = .stuck || s.mgmt.warm then s else { s with mgmt := { s.mgmt with sfpPage := page } })

/-- JTAG_TRST_N_ASSERT (R681): the TAP controller alone is reset. -/
def execJtagTrstNAssert (s : State) : Out := .next { s with mgmt := { s.mgmt with tapReset := true } }

/-! ## Warm restart (R613, R622 to R624) -/

/-- A stage of this command is sealed into the commit bank: it applies under R37 and the command completes with it. -/
def inBank (s : State) (t : Nat) (e : InExec) : Bool :=
  s.host.bank.any (fun k => decide (k.tenant = t) && decide (k.tag = e.tag) && !k.silent)

/-- The commands of a tenant that a warm restart cuts off (R623, R606). -/
def cutWarm (t : Nat) (s : State) : State :=
  let (keep, cut) := (s.tenant t).inExec.partition (inBank s t)
  let s := each cut (fun e s => cutOff t e false s) s
  let gone (tag : BitVec 32) : Bool := cut.any (fun e => decide (e.tag = tag))
  let s := s.modTenant t (fun x => { x with inExec := keep })
  { s with
    str := { s.str with jobs := s.str.jobs.filter (fun j => !(decide (j.tenant = t) && gone j.tag)) }
    host := { s.host with
      writes := s.host.writes.filter (fun w => !(decide (w.tenant = t) && gone w.tag))
      pinJobs := s.host.pinJobs.filter (fun j => !(decide (j.tenant = t) && gone j.tag))
      nets := s.host.nets.filter (fun n => !(decide (n.tenant = t) && gone n.tag)) } }

/-- Nothing that a cut command waited for answers it. -/
def dropWaits (s : State) : State :=
  { s with
    front := { s.front with mods := Tab.keep (fun m => { m with calTag := none }) s.front.mods }
    sky := { s.sky with ports := Tab.keep (fun q => { q with loopTag := none }) s.sky.ports }
    clover := { s.clover with mirrors := [] }
    mgmt := { s.mgmt with update := s.mgmt.update.map (fun u => { u with tag := none })
                          buses := Tab.keep (fun b => { b with state := .idle, byScl := false }) s.mgmt.buses } }

/-- A warm restart of the application cores; a third within 600 s is a full reset (R622 to R624). -/
def warmRestart (cause : Nat) (t : Inst) (s : State) : State :=
  if !s.mgmt.verified || s.mgmt.warm || s.mgmt.held || s.mgmt.resetLow then s
  else if 2 ≤ (s.mgmt.restarts.filter (fun r => decide (t < r + 600 * secSpan))).length then heldReset 2 none s
  else
    let s := dropWaits (each s.host.tenants.keys cutWarm s)
    let s := { s with mgmt := { s.mgmt with
      warm := true, restarts := t :: s.mgmt.restarts, overruns := 0, silent := 0, passDone := false, deferred := [] } }
    post pSafety 0x0B01 0 [vU cause, vU s.mgmt.restarts.length] s

/-- Swaths in overrun, and without a heartbeat word, that restart the cores (R622). -/
def overrunLimit : Nat := 64
/-- Swaths without a heartbeat word. -/
def silentLimit : Nat := 80

/-- WARM_RESTART (R622). -/
def execWarmRestart (t : Inst) (s : State) : Out :=
  let s := touch t s
  .next <|
    if overrunLimit ≤ s.mgmt.overruns then warmRestart 1 t s
    else if silentLimit ≤ s.mgmt.silent then warmRestart 2 t s
    else s

/-- SRAM_UNCORRECTABLE (R613): the address goes to the event journal; a full reset in the safety core's region, otherwise a
warm restart. -/
def execSramUncorrectable (safety : Bool) (addr : Nat) (s : State) : Out :=
  .next <|
    if s.mgmt.resetLow || s.mgmt.held then s
    else
      let s := post pSafety (Config.entryCode 0).toNat 0 [vU addr] s
      if safety then heldReset 3 none (journalDrain 208 s) else warmRestart 3 s.now s

/-- Entries announced during the restart are fetched (R623). -/
def fetchLate (s : State) : State :=
  each s.host.queues.keys (fun k s =>
    let l := (s.host.queues.get k).late
    let s := { s with host := { s.host with queues := s.host.queues.mod k (fun q => { q with late := [] }) } }
    each l (fetchOne (k / 8) (k % 8)) s) s

/-- WARM_RESTART_DONE (R622, R639): the ACTIVE image runs, the buses are cleared, and commands are fetched again. -/
def execWarmRestartDone (buses : List (Bool × Option Nat)) (s : State) : Out :=
  .next <|
    if !s.mgmt.warm then s
    else
      let info := if s.mgmt.activeB then s.mgmt.slotB.info else s.mgmt.slotA.info
      let s : State := { s with mgmt := { s.mgmt with
        warm := false, booted := some (if s.mgmt.activeB then 1 else 0)
        fwMajor := info.major, fwMinor := info.minor, pairProto := info.pairProto, secver := info.secver } }
      fetchLate (clearBuses buses s)

/-! ## The PCIe link (R536) -/

/-- PCIE_LINK_UP (R536): the link is reported; when a retrain lowers D_P, each LATENCY subscription of a PCIe tenant whose bound
no longer holds gets an entry. -/
def execPcieLinkUp (rate width : Nat) (s : State) : Out :=
  event (decide (1 ≤ rate) && decide (rate ≤ 5) && [1, 2, 4, 8, 16].contains width) <|
    let t := linkUp rate width s
    let lost := s.host.linkUp && decide (dmaPlan t < dmaPlan s) && boundHolds s && !boundHolds t
    if !lost then t
    else each t.str.subs (fun p t => match p.2 with
      | some u => when (!u.bulk && decide (u.state ≠ .closed) && decide ((t.tenant u.tenant).kind ≠ 2))
          (post pPcie (Config.entryCode 1).toNat (handleOf 0x0C p.1) []) t
      | none => t) t

end Sys2Proof.Machine
end

