-- ==== Sys2Proof/Machine/Memory.lean ====
section
/-! DEFINITION. DRAM, Furze and the fixed-rank arbiter (10 of the spec). -/

namespace Sys2Proof.Machine

/-! ## DRAM (R387 to R396) -/

/-- A DRAM channel. -/
def isDram (c : Nat) : Bool := decide (c < 8)

/-- Corrected-error counter of a channel and rank (R395); R602 gives it no number. -/
def eccCtr (ch rank : Nat) : Nat := ctrKey (clsPrivate + 4) (2 * ch + rank) 0 0
/-- Words delivered poisoned (R322). -/
def poisonCtr : Nat := ctrKey (clsPrivate + 5) 0 0 0

/-- An item of a ring whose read was poisoned is delivered from that read as 0 with SUB; the ring itself stands as it is (R322, R395). -/
def poisonItem (key n : Nat) (s : State) : State :=
  let s := s.modStream key (fun st => { st with poisoned := if st.poisoned.contains n then st.poisoned else n :: st.poisoned })
  bump poisonCtr (post pStream 0x0603 (handleOf 0x0B key) [vU n, vU 2] s)

/-- What a poisoned word does: the item that it holds is delivered as 0 with SUB, and a tussock copy takes it as a replaced sample
(R258, R322, R395). -/
def takePoisoned (req : Nat) (held : Option (Nat × Nat)) (s : State) : State :=
  match held with
  | none => s
  | some (gsi, n) =>
    let key := keyOfGsi gsi
    if 24 ≤ req && req < 32 then
      let s := bump poisonCtr (post pStream 0x0603 (handleOf 0x0B key) [vU n, vU 2] s)
      { s with red := { s.red with tussocks := s.red.tussocks.map (fun x =>
          if decide (x.source = key) && decide (x.state = 0) && decide (x.first ≤ n) && decide (n < x.first + x.pre + x.post)
          then { x with holes := n :: x.holes } else x) } }
    else poisonItem key n s

/-- DRAM_READ_RETURN (R388, R395, R423): the oldest read in flight of its channel returns: one bad symbol is corrected and counted;
more, or a unit stored poisoned, are journalled; a word poisoned there or in its crossing is delivered as such. -/
def execDramReadReturn (req addr data badSymbols : Nat) (upset : Bool) (held : Option (Nat × Nat)) (s : State) : Out :=
  let c := dramChan s addr
  .next <|
    if (nextRead s c).all (fun x => decide (x.req ≠ req) || decide (x.addr / 64 ≠ addr / 64)) then s
    else
      let s := takeRead c s
      let rank := (placeAt s addr).rank
      let lost := decide (2 ≤ badSymbols) || s.mem.spoiled.get (addr / 64)
      let s := when (decide (badSymbols = 1)) (bump (eccCtr c rank)) s
      let s := when lost (post pDram 0x0A01 (handleOf 0 0) [vU addr, vU c, vU rank]) s
      let (tag, s) := readWord c data upset s
      when (lost || tag) (takePoisoned req held) s

/-- REFRESH (R393): one all-bank refresh slice of a rank. -/
def execRefresh (ch rank : Nat) (s : State) : Out :=
  event (isDram ch && decide (rank < 2)) (s.modDram ch (fun c => { c with refreshes := c.refreshes.mod rank (· + 1) }))

/-- RFM (R396). -/
def execRfm (ch bank : Nat) (s : State) : Out := event (isDram ch && decide (bank < 128)) (rfm ch bank s)

/-- ZQ_CALIBRATION (R393). -/
def execZqCalibration (ch rank : Nat) (s : State) : Out :=
  event (isDram ch && decide (rank < 2)) (s.modDram ch (fun c => { c with zqs := c.zqs.mod rank (· + 1) }))

/-- OSCILLATOR_READ (R393): the drift of a lane in steps since it was last re-centred. -/
def execOscillatorRead (ch lane : Nat) (drift : Int) (s : State) : Out :=
  event (isDram ch && decide (lane < 20)) (s.modDram ch (fun c => { c with drift := c.drift.set lane drift }))

/-- Steps of drift beyond which an entry is written, and at which MARGIN is raised (R394). -/
def driftEntry : Nat := 16
/-- Steps at which MARGIN is raised. -/
def driftMargin : Nat := 24

/-- DRIFT_RECENTRING (R393, R394): one step towards the drift; beyond 16 steps from the trained value, or with an eye
below 32 steps, an entry is written, and at 24 steps MARGIN is raised. -/
def execDriftRecentring (ch lane eye : Nat) (s : State) : Out :=
  event (isDram ch && decide (lane < 20)) <|
    let c := s.dram ch
    let d := c.drift.get lane
    let step : Int := if 0 < d then 1 else if d < 0 then -1 else 0
    let m := c.moved.get lane + step
    let margin := decide (driftMargin ≤ m.natAbs)
    let bad := decide (driftEntry < m.natAbs) || decide (eye < 32)
    let news := (bad && !c.drifted.get lane) || (margin && !c.margin)
    let s := withHealth (fun s => s.modDram ch (fun c =>
      { c with moved := c.moved.set lane m, drift := c.drift.set lane (d - step), drifted := c.drifted.set lane bad
               margin := c.margin || margin })) s
    when news (post pDram 0x0A02 (handleOf 0 0) [vU ch, vU lane, vS m, vU (if margin then 1 else 0)]) s

/-- PATROL_SCRUB (R393): suspended at thermal level 1 and above (R633). -/
def execPatrolScrub (s : State) : Out :=
  .next (if 1 ≤ s.mgmt.level then s else { s with mem := { s.mem with scrubbed := s.mem.scrubbed + 1 } })

/-- BANK_IDLE_TIMER_EXPIRY (R387): the bank is precharged. -/
def execBankIdleTimerExpiry (ch bank : Nat) (s : State) : Out :=
  event (isDram ch && decide (bank < 128)) (s.modDram ch (fun c => { c with openRows := c.openRows.set bank none }))

/-! ## Furze (R397 to R399) -/

/-- Ring writers (R399). -/
def isRingWriter (req : Nat) : Bool := decide (req < 16)

/-- FURZE (R398, R399): the count of a requester in the row group of a row of a bank (its subchannel in bit 6) has reached the threshold: an RFM, a throttle until
the window ends unless it is a ring writer, and an entry. -/
def execFurze (ch req bank row : Nat) (t : Inst) (s : State) : Out :=
  let s := touch t s
  event (isDram ch && decide (req < 96) && decide (bank < 128)) <|
    let grp := row / 256
    let n := pairCount req bank grp (s.dram ch).furze
    if !(s.dram ch).furze.any (fun e => e.isPair req bank grp && !e.acted && decide (s.mem.furzeThr ≤ e.count)) then s
    else
      let ring := isRingWriter req
      let s := rfm ch bank s
      let s := s.modDram ch (fun c => { c with
        furze := c.furze.map (fun e => if e.isPair req bank grp then { e with acted := true } else e)
        throttled := if ring || c.throttled.contains req then c.throttled else c.throttled ++ [req]
        fEvents := min (2 ^ 32 - 1) (c.fEvents + 1), fReq := req, fBank := bank % 64, fGroup := grp, fTime := shortTime t })
      let s := withHealth (fun s => { s with mem := { s.mem with furzeRing := s.mem.furzeRing || ring } }) s
      post pDram (if ring then 0x0A04 else 0x0A03) (handleOf 0x11 (512 * ch + req))
        [vU (ch + 256 * (bank / 32 % 2) + 512 * (bank / 4 % 8) + 4096 * (bank % 4)), vU grp, vU n] s

/-- FURZE_WINDOW (R397): the tables and the throttles are cleared. -/
def execFurzeWindow (s : State) : Out :=
  let s := each (List.range 8) (fun c s => s.modDram c (fun d => { d with furze := [], throttled := [] })) s
  .next { s with mem := { s.mem with window := s.mem.window + 1 } }

/-! ## The fixed-rank arbiter (R404 to R415) -/

/-- The raised request of highest rank, the lowest number among equals; disabled requesters are ignored (R405, R409). -/
def bestRaised (s : State) (i : Nat) : Option Nat :=
  ((List.range (requestersOf i)).filter (fun r => (s.req i r).since.isSome && !(s.req i r).disabled)).foldl
    (fun (b : Option Nat) r => match b with
      | none => some r
      | some x => if rankOf s i r < rankOf s i x then some r else b) none

/-- Requests raised since the last row of an instance. -/
def raiseAll (i : Nat) (l : List (Nat × Inst)) (s : State) : State :=
  each (l.filter (fun p => decide (p.1 < requestersOf i))) (fun p s =>
    touch p.2 (s.modReq i p.1 (fun x => if x.since.isNone then { x with since := some p.2 } else x))) s

/-- A pending bank applies at a burst boundary: all ranks of the instance change together (R411). -/
def applyBank (i : Nat) (s : State) : State :=
  if !(s.inst i).pend then s
  else
    let s := each (List.range (requestersOf i)) (fun r s =>
      if (s.req i r).pend.isSome then s.modReq i r (fun x => { x with rank := x.pend, pend := none }) else s) s
    s.modInst i (fun x => { x with pend := false })

/-- A commit write copies every shadow of an instance into its pending bank, replacing it wholly (R411). -/
def commitRanks (i : Nat) (s : State) : State :=
  let s := each (List.range (requestersOf i)) (fun r s =>
    let x := s.req i r
    if x.shadow.isSome || x.pend.isSome then s.modReq i r (fun x => { x with pend := x.shadow }) else s) s
  s.modInst i (fun x => { x with pend := true })

/-- A free resource goes to the highest raised rank (R405). -/
def grantFree (i : Nat) (s : State) : State :=
  if (s.inst i).owner.isSome then s else s.modInst i (fun x => { x with owner := bestRaised s i })

/-- BURST_BOUNDARY (R388, R407, R411, R412): the owner's burst is in flight, pending ranks apply, and a strictly higher raised rank
takes the resource; the owner's request stays raised. -/
def execBurstBoundary (inst : Nat) (x : BurstIn) (s : State) : Out :=
  event (isInst inst) <|
    let s := applyBank inst (raiseAll inst x.raised (issueAll inst x.burst x.order s))
    match (s.inst inst).owner, bestRaised s inst with
    | some o, some b => if rankOf s inst b < rankOf s inst o then s.modInst inst (fun x => { x with owner := some b }) else s
    | _, _ => grantFree inst s

/-- GRANT_RELEASE (R388, R405, R407): the owner's last burst is in flight, it drops its request, and the resource goes to the
highest raised rank. -/
def execGrantRelease (inst : Nat) (x : BurstIn) (s : State) : Out :=
  event (isInst inst) <|
    let s := issueAll inst x.burst x.order s
    let s := match (s.inst inst).owner with
      | some o => (s.modReq inst o (fun x => { x with since := none })).modInst inst (fun x => { x with owner := none })
      | none => s
    grantFree inst (applyBank inst (raiseAll inst x.raised s))

/-- The tenant and DMA queue of a requester of the PCIe DMA instance; requester 0 is the queue engine (R551). -/
def dmaOf (inst o : Nat) : Option (Nat × Nat) := if inst = 24 && decide (1 ≤ o) then some ((o - 1) / 4, (o - 1) % 4) else none

/-- GRANT_WATCHDOG (R409, R410, R548, R549): the grant ends, the requester is disabled, and the violation and event logs say so; a DMA
queue stops. -/
def execGrantWatchdog (inst addr : Nat) (t : Inst) (s : State) : Out :=
  let s := touch t s
  event (isInst inst) <|
    match (s.inst inst).owner with
    | none => s
    | some o =>
      let s := (s.modReq inst o (fun x => { x with since := none, disabled := true, bites := (t :: x.bites).take 3 })).modInst
        inst (fun x => { x with owner := none })
      let v : Viol := { kind := 7, addr := addr, requester := o, time := shortTime t
                        tenant := ((dmaOf inst o).map (·.1)).getD 0 }
      let s := match dmaOf inst o with
        | some (x, d) => (violate (tenantFn s x) v s).modQueue x (4 + d) (fun k => { k with stopped := true })
        | none => violate none v s
      let s := post pArb 0x0A05 (handleOf 0x11 (reqKey inst o)) [vU inst, vU addr] s
      grantFree inst s

/-! ## Starvation policy and ring writers (R410, R416 to R418) -/

/-- The requesters that the pass of R416 visits, each once: a memory-port requester stands for all eight instances. -/
def starvable (s : State) : List (Nat × Nat) :=
  ((List.range 96).map (fun r => (0, r)) ++ (List.range 16).flatMap (fun (p : Nat) => (List.range 137).map (fun r => (8 + p, r)))
    ++ (List.range 257).map (fun r => (24, r))).filter (fun p => (classOf s p.1 p.2).isSome)

/-- The instances of a requester: every memory port for a memory-port requester. -/
def instsOf (i : Nat) : List Nat := if i < 8 then List.range 8 else [i]

/-- The largest age of a requester over its instances (R416). -/
def oldest (s : State) (i r : Nat) (t : Inst) : Nat := ((instsOf i).map (fun j => ageOf s j r t)).foldl max 0

/-- The pass's own record of a requester changes in its instances, and the shadow rank that it gives it is written to the
control-loop bank (R34, R416). -/
def setShadow (i r : Nat) (rank : Nat) (prom : Bool) (until_ : Nat) (s : State) : State :=
  each (instsOf i) (fun j s =>
    ctlWrite (.rank j r rank) (s.modReq j r (fun x => { x with promoted := prom, until_ := until_ }))) s

/-- One requester of the pass; true when its shadow rank changed. -/
def starveOne (g : Nat) (t : Inst) (a : State × Bool) (p : Nat × Nat) : State × Bool :=
  let s := a.1
  let (i, r) := p
  let x := s.req i r
  let c := (classOf s i r).getD 2
  let pol := classPol s c
  let base := classRank s c
  let age := oldest s i r t
  let entry (code old new : Nat) (s : State) : State :=
    post pApp code (handleOf 0x11 (reqKey i r)) [vU old, vU new, vU age, vT (ttOf (boundary g)).sec] s
  if x.promoted then
    if x.until_ ≤ g then (entry 0x0A07 pol.promote base (setShadow i r base false 0 s), true) else a
  else if !((instsOf i).any (fun j => (s.req j r).disabled)) && decide (pol.deadline * 375 < age) then
    if base ≤ 2 then (entry 0x0A06 base base s, a.2)
    else (entry 0x0A06 (shadowOf s i r) pol.promote (setShadow i r pol.promote true (g + pol.hold) s), true)
  else a

/-- The pass of R416, with its commit. -/
def starvationPass (g : Nat) (t : Inst) (s : State) : State :=
  let a := (starvable s).foldl (starveOne g t) (s, false)
  when a.2 (ctlWrite .commit) a.1

/-- The ring writer of a requester number has bitten three times within 1 s, on whichever memory ports (R410). -/
def bittenOut (s : State) (r : Nat) : Bool :=
  match ((List.range 8).flatMap (fun i => (s.req i r).bites)).mergeSort (fun a b => decide (b ≤ a)) with
  | a :: _ :: c :: _ => decide (a < c + atCycle Config.secCycles)
  | _ => false

/-- Ring writers disabled by the watchdog are re-enabled at the next boundary, through the control-loop bank; after three bites
within 1 s one stays disabled and STREAM_FAULT is raised (R410). -/
def reenableWriters (s : State) : State :=
  each (List.range 8) (fun i s => each (List.range 16) (fun r s =>
    let x := s.req i r
    if !x.disabled then s
    else
      if bittenOut s r then
        if s.mem.streamFault then s
        else post pApp 0x0A09 (handleOf 0x11 (reqKey i r)) [vU 3] (withHealth (fun s => { s with mem := { s.mem with streamFault := true } }) s)
      else ctlWrite (.writer i r) s) s) s

end Sys2Proof.Machine
end

