-- ==== Sys2Proof/Machine/Manage.lean ====
section
/-! DEFINITION. Dwehild commands that act at once (15 of the spec): time, Skecy, clover, memory and policy, management and
diagnostics. -/

namespace Sys2Proof.Machine

/-- A command on the hub that sets pairs of a part of the state at once: the new part, or BAD_PARAM. -/
def hubSet {α : Type} (c : Cmd) (pairs : List Pair) (new : Option α) (put : α → State → State) (s : State) : Reply × State :=
  checked [(names 0 c, .noSuchObject), (pairsOk pairs && new.isSome, .badParam)] s
    (fun s => match new with
      | none => refuse .badParam s
      | some x => ({}, put x s))

/-! ## Time, 0x07xx -/

/-- Body of TIME_SET (R282, R293, R295, R301, R303). -/
def bodyTimeSet (c : Cmd) (pairs : List Pair) (s : State) : Reply × State :=
  hubSet c pairs (withPairs setTime pairs s.time) (fun x s => { s with time := x }) s
/-- TIME_SET. -/
def execTimeSet (c : Cmd) (pairs : List Pair) (s : State) : Out := command 0x0701 (.timeSet c pairs) c (fun s => bodyTimeSet c pairs s) s

/-- Body of PTP_SET (R288): a slave turned off follows no master. -/
def bodyPtpSet (c : Cmd) (pairs : List Pair) (s : State) : Reply × State :=
  hubSet c pairs (withPairs setPtp pairs s.time.ptp) (fun x s =>
    let moved := decide (x.domain ≠ s.time.ptp.domain) || decide (x.transport ≠ s.time.ptp.transport)
    let s := { s with time := { s.time with ptp := { x with
      usable := x.usable && x.on && !moved, masters := if moved || !x.on then [] else x.masters } } }
    when (x.usable && (moved || !x.on) && s.time.ppsSec.isNone) loseSource s) s
/-- PTP_SET. -/
def execPtpSet (c : Cmd) (pairs : List Pair) (s : State) : Out := command 0x0702 (.ptpSet c pairs) c (fun s => bodyPtpSet c pairs s) s

/-- Body of PPS_SET (R286, R290). -/
def bodyPpsSet (c : Cmd) (pairs : List Pair) (s : State) : Reply × State :=
  hubSet c pairs (withPairs setPps pairs s.time) (fun x s => { s with time := x }) s
/-- PPS_SET. -/
def execPpsSet (c : Cmd) (pairs : List Pair) (s : State) : Out := command 0x0703 (.ppsSet c pairs) c (fun s => bodyPpsSet c pairs s) s

/-- 100 ms. -/
def todLead : Nat := nsSpan 100000000

/-- Instant at which the pulse of a second is expected: counted from the last accepted edge, or by the hub's own TT once it
has a source; otherwise not known (notes/assumptions/72.md). -/
def pulseAt (s : State) (sec : Nat) : Option Int :=
  match s.time.ppsSec, s.time.ppsAt with
  | some n, some a => some ((a : Int) + ((sec : Int) - n) * secSpan)
  | _, _ => if s.time.state = .unsync then none else some (sec * secSpan : Nat)

/-- Body of TIME_OF_DAY (R290, R598). -/
def bodyTimeOfDay (c : Cmd) (sec : Nat) (s : State) : Reply × State :=
  let soon := match pulseAt s sec with | some t => decide (t < (s.now + todLead : Nat)) | none => false
  checked [(names 0 c, .noSuchObject), (decide (sec < 2 ^ 48), .badParam), (!soon, .tooLate)] s
    (fun s => ({}, { s with time := { s.time with ppsNamed := some sec, ppsFrom := s.now + todLead } }))
/-- TIME_OF_DAY. -/
def execTimeOfDay (c : Cmd) (sec : Nat) (s : State) : Out := command 0x0704 (.timeOfDay c sec) c (fun s => bodyTimeOfDay c sec s) s

/-- Body of LINK_ASYM (R291): within ±100,000 ps. -/
def bodyLinkAsym (c : Cmd) (ps : Int) (s : State) : Reply × State :=
  checked [(names 0x0D c, .noSuchObject), (decide (-100000 ≤ ps) && decide (ps ≤ 100000), .badParam)] s
    (fun s => ({}, modXchg (hIndex c) (fun x => { x with asym := ps }) s))
/-- LINK_ASYM. -/
def execLinkAsym (c : Cmd) (ps : Int) (s : State) : Out := command 0x0705 (.linkAsym c ps) c (fun s => bodyLinkAsym c ps s) s

/-- Body of PIN_LAUNCH (R284, R598): the command completes when the level has changed, with the actual TT. -/
def bodyPinLaunch (c : Cmd) (pin : Nat) (level : Bool) (tt : TT) (s : State) : Reply × State :=
  checked [(names 0 c, .noSuchObject), (isPin pin && decide (tt.ns < 1000000000), .badParam),
    (!s.outputsHeld && s.mgmt.measLock, .state), (!tachPin s pin none && !actionPin s pin, .busy)] s
    (fun s => ({ later := true },
      { s with host := { s.host with pinJobs := s.host.pinJobs ++
          [{ pin := pin, level := level, at_ := instOf tt, tenant := c.tenant, queue := c.queue, tag := c.tag }] } }))
/-- PIN_LAUNCH. -/
def execPinLaunch (c : Cmd) (pin : Nat) (level : Bool) (tt : TT) (s : State) : Out :=
  command 0x0706 (.pinLaunch c pin level tt) c (fun s => bodyPinLaunch c pin level tt s) s

/-! ## Skecy, 0x08xx -/

/-- Entries that the route table holds (R493). -/
def maxRoutes : Nat := 256

/-- Two entries have the same prefix. -/
def Route.same (a b : Route) : Bool := decide (a.pfx = b.pfx ∧ a.len = b.len)

/-- The table as it will stand: static entries, and computed ones that none of them replaces. -/
def withStatics (statics table : List Route) : List Route :=
  statics ++ table.filter (fun r => !r.static && !statics.any r.same)

/-- Body of ROUTE_STATIC (R493, R494): the new table is installed whole at the next boundary. -/
def bodyRouteStatic (c : Cmd) (pfx len primary alternate : Nat) (remove : Bool) (s : State) : Reply × State :=
  let r : Route := { pfx := pfx, len := len, prim := primary, alt := if alternate = 0xFF then none else some alternate, static := true }
  let table := s.sky.nextTab.getD s.sky.routes
  let kept := s.sky.statics.filter (fun x => !r.same x)
  checked [(names 0 c, .noSuchObject), (decide (len ≤ 10) && decide (pfx < 2 ^ len), .badParam),
    (remove || (decide (primary < 16) && (decide (alternate < 16) || decide (alternate = 0xFF))), .badParam),
    (!remove || s.sky.statics.any r.same, .noSuchObject)] s
    (fun s =>
      let statics := if remove then kept else kept ++ [r]
      let new := withStatics statics (if remove then table.filter (fun x => !(x.static && r.same x)) else table)
      if !remove && decide (maxRoutes < new.length) then refuseFull 4 s
      else ({}, noteUse 4 new.length { s with sky := { s.sky with statics := statics, nextTab := some new } }))
/-- ROUTE_STATIC. -/
def execRouteStatic (c : Cmd) (pfx len primary alternate : Nat) (remove : Bool) (s : State) : Out :=
  command 0x0802 (.routeStatic c pfx len primary alternate remove) c (fun s => bodyRouteStatic c pfx len primary alternate remove s) s

/-- Body of MCAST_SET (R482): the hub's handle makes a new group, a group's handle changes it. -/
def bodyMcastSet (c : Cmd) (mask : Nat) (loc : Bool) (alts : List Nat) (s : State) : Reply × State :=
  let new := names 0 c
  let g := if new then (List.range 64).find? (fun (i : Nat) => !(s.sky.mcast.get i).made) else some (hIndex c)
  let okAlts := decide (alts.length ≤ 16) && alts.all (fun a => decide (a < 16) || decide (a = 0xFF))
  checked [(new || (names 0x0F c && (s.sky.mcast.get (hIndex c)).made), .noSuchObject), (decide (mask < 65536) && okAlts, .badParam)] s
    (fun s => match g with
      | none => refuseFull 7 s
      | some i =>
        let s := { s with sky := { s.sky with mcast := s.sky.mcast.set i { made := true, mask := mask, loc := loc, alts := alts } } }
        ({ result := leBytes 1 i }, noteUse 7 (s.sky.mcast.filter (fun p => p.2.made)).length s))
/-- MCAST_SET. -/
def execMcastSet (c : Cmd) (mask : Nat) (loc : Bool) (alts : List Nat) (s : State) : Out :=
  command 0x0804 (.mcastSet c mask loc alts) c (fun s => bodyMcastSet c mask loc alts s) s

/-- Body of PORT_WAKE (R461): the quiet lanes of the port's transmit direction wake. -/
def bodyPortWake (c : Cmd) (s : State) : Reply × State :=
  checked [(names 0x0D c, .noSuchObject), (decide ((s.port (hIndex c)).state = .up), .state)] s
    (fun s => ({}, wakeNeed (hIndex c) s))
/-- PORT_WAKE. -/
def execPortWake (c : Cmd) (s : State) : Out := command 0x0805 (.portWake c) c (fun s => bodyPortWake c s) s

/-- One pair of ADDR_SET: the reclaim age from 1 h to 365 days (R489). -/
def setAddr (p : Pair) (_ : Nat) : Option Nat := if p.row = 0 then one p (natIn p 1 8760) else none
/-- Body of ADDR_SET. -/
def bodyAddrSet (c : Cmd) (pairs : List Pair) (s : State) : Reply × State :=
  hubSet c pairs (withPairs setAddr pairs s.sky.ageH) (fun x s => { s with sky := { s.sky with ageH := x } }) s
/-- ADDR_SET. -/
def execAddrSet (c : Cmd) (pairs : List Pair) (s : State) : Out := command 0x0806 (.addrSet c pairs) c (fun s => bodyAddrSet c pairs s) s

/-! ## Clover, 0x09xx -/

/-- Body of CLOVER_SET (R524, R531). -/
def bodyCloverSet (c : Cmd) (pairs : List Pair) (s : State) : Reply × State :=
  hubSet c pairs (withPairs setClover pairs s.clover) (fun x s => { s with clover := x }) s
/-- CLOVER_SET. -/
def execCloverSet (c : Cmd) (pairs : List Pair) (s : State) : Out :=
  command 0x0900 (.cloverSet c pairs) c (fun s => bodyCloverSet c pairs s) s

/-- Body of CLOVER_SWAP (R531): an exchange already named stands. -/
def bodyCloverSwap (c : Cmd) (s : State) : Reply × State :=
  checked [(names 0 c, .noSuchObject), (decide (s.clover.state = .formed), .state)] s
    (fun s =>
      let s := if s.clover.swapAt.isSome then s else proposeSwap 2 s
      ({ result := boundaryBytes (s.clover.swapAt.getD 0) }, s))
/-- CLOVER_SWAP. -/
def execCloverSwap (c : Cmd) (s : State) : Out := command 0x0902 (.cloverSwap c) c (fun s => bodyCloverSwap c s) s

/-! ## Memory, arbiter and policy, 0x0Axx -/

/-- Some ring or area is in use (R324, R385). -/
def ringsExist (s : State) : Bool := s.str.streams.any (fun p => p.2.exists_ || !p.2.ring.isEmpty)

/-- Body of MEM_LAYOUT (R324, R385, R400, R599): the areas fit in the population when it is known. -/
def bodyMemLayout (c : Cmd) (pairs : List Pair) (s : State) : Reply × State :=
  let now := (s.mem.grain, (List.range 5).map (areaGiB s))
  let new := withPairs setLayout pairs now
  let fits := match new with | some x => s.mem.pop.channels.isEmpty || decide (x.2.sum ≤ s.mem.pop.gib) | none => true
  checked [(names 0 c, .noSuchObject), (pairsOk pairs && new.isSome, .badParam), (!ringsExist s, .busy), (fits, .limit)] s
    (fun s => match new with
      | none => refuse .badParam s
      | some x => ({}, { s with mem := { s.mem with
          grain := x.1, areas := if x.2 = now.2 then s.mem.areas else some x.2 } }))
/-- MEM_LAYOUT. -/
def execMemLayout (c : Cmd) (pairs : List Pair) (s : State) : Out :=
  command 0x0A00 (.memLayout c pairs) c (fun s => bodyMemLayout c pairs s) s

/-- The requester that a handle of class 0x11 names: instance and number. -/
def requester (c : Cmd) : Option (Nat × Nat) :=
  let i := hIndex c / 512
  let r := hIndex c % 512
  if decide (hClass c = 0x11) && isInst i && decide (r < requestersOf i) then some (i, r) else none

/-- R415 on the requesters of a memory port, whose numbers are those of R414. -/
def rankAllowed (i r rank : Nat) : Bool :=
  decide (8 ≤ i) || ((decide (rank ≠ 0) || decide (r < 24)) && (decide (2 ≤ rank) || decide (r < 48)))

/-- Body of ARB_RANK (R411, R415, R599). -/
def bodyArbRank (c : Cmd) (rank : Nat) (commit : Bool) (s : State) : Reply × State :=
  let q := requester c
  let (i, r) := q.getD (0, 0)
  checked [(q.isSome, .noSuchObject), (decide (rank < 16) && rankAllowed i r rank, .badParam)] s
    (fun s => ({}, when commit (commitRanks i) (s.modReq i r (fun x => { x with shadow := some rank }))))
/-- ARB_RANK. -/
def execArbRank (c : Cmd) (rank : Nat) (commit : Bool) (s : State) : Out :=
  command 0x0A02 (.arbRank c rank commit) c (fun s => bodyArbRank c rank commit s) s

/-- Body of ARB_WATCHDOG (R404, R409): the limit from 1 µs to 1 ms, 0 for unchanged. -/
def bodyArbWatchdog (c : Cmd) (limit : Nat) (reenable : Bool) (s : State) : Reply × State :=
  let q := requester c
  let (i, r) := q.getD (0, 0)
  checked [(q.isSome, .noSuchObject), (decide (limit = 0) || (decide (1000 ≤ limit) && decide (limit ≤ 1000000)), .badParam)] s
    (fun s =>
      let s := when (decide (limit ≠ 0)) (fun s => s.modInst i (fun x => { x with limit := some limit })) s
      ({}, when reenable (fun s => s.modReq i r (fun x => { x with disabled := false })) s))
/-- ARB_WATCHDOG. -/
def execArbWatchdog (c : Cmd) (limit : Nat) (reenable : Bool) (s : State) : Out :=
  command 0x0A03 (.arbWatchdog c limit reenable) c (fun s => bodyArbWatchdog c limit reenable s) s

/-- A class's parameters lie in the ranges of R417: the deadline, the promotion rank below the base rank in priority unless
the base rank is 2, the hold. -/
def classOk (p : ClassPol) (lo hi base : Nat) : Bool :=
  decide (lo ≤ p.deadline) && decide (p.deadline ≤ hi) && decide (1 ≤ p.hold) && decide (p.hold ≤ 64)
    && (decide (base = 2) || (decide (2 ≤ p.promote) && decide (p.promote < base)))

/-- Class parameters and base ranks keep R415 and R417. -/
def policyOk (m : Mem) : Bool :=
  decide (2 ≤ m.latRank) && decide (m.latRank < 16) && decide (2 ≤ m.bulkRank) && decide (m.bulkRank < 16)
    && classOk m.latPol 10 100000 m.latRank && classOk m.bulkPol 100 10000000 m.bulkRank && classOk m.mgmtPol 10 100000 3

/-- Body of POLICY_CLASS (R417). -/
def bodyPolicyClass (c : Cmd) (pairs : List Pair) (s : State) : Reply × State :=
  let new := (withPairs setPolicy pairs s.mem).filter policyOk
  hubSet c pairs new (fun x s => { s with mem := x }) s
/-- POLICY_CLASS. -/
def execPolicyClass (c : Cmd) (pairs : List Pair) (s : State) : Out :=
  command 0x0A04 (.policyClass c pairs) c (fun s => bodyPolicyClass c pairs s) s

/-- Body of TENANT_CAP (R554, R557, R599): the cap applies at the next boundary. -/
def bodyTenantCap (c : Cmd) (cap : Nat) (s : State) : Reply × State :=
  let t := hIndex c
  checked [(names 0x12 c && (s.tenant t).used, .noSuchObject), (decide (cap < 4096), .badParam),
    (boundAllows (s.modTenant t (fun x => { x with cap := cap })), .limit)] s
    (fun s => ({}, s.modTenant t (fun x => { x with capNext := some cap })))
/-- TENANT_CAP. -/
def execTenantCap (c : Cmd) (cap : Nat) (s : State) : Out := command 0x0A05 (.tenantCap c cap) c (fun s => bodyTenantCap c cap s) s

/-- Body of FURZE_SET (R398). -/
def bodyFurzeSet (c : Cmd) (threshold interval : Nat) (s : State) : Reply × State :=
  checked [(names 0 c, .noSuchObject),
    (decide (4096 ≤ threshold) && decide (threshold ≤ 65535) && decide (100 ≤ interval) && decide (interval ≤ 100000), .badParam)] s
    (fun s => ({}, { s with mem := { s.mem with furzeThr := threshold, furzeInt := interval } }))
/-- FURZE_SET. -/
def execFurzeSet (c : Cmd) (threshold interval : Nat) (s : State) : Out :=
  command 0x0A06 (.furzeSet c threshold interval) c (fun s => bodyFurzeSet c threshold interval s) s

/-! ## Management, 0x0Bxx -/

/-- Every pair of SENSOR_SET is one of R632's table. -/
def sensorPairsOk : List Pair → State → Bool
  | [], _ => true
  | p :: r, s => match setSensor p s with | some s => sensorPairsOk r s | none => false

/-- Body of SENSOR_SET (R632): the settings apply at the next boundary. -/
def bodySensorSet (c : Cmd) (pairs : List Pair) (s : State) : Reply × State :=
  checked [(names 0 c, .noSuchObject), (pairsOk pairs && sensorPairsOk pairs s, .badParam)] s
    (fun s => ({}, { s with mgmt := { s.mgmt with sensorSets := s.mgmt.sensorSets ++ pairs } }))
/-- SENSOR_SET. -/
def execSensorSet (c : Cmd) (pairs : List Pair) (s : State) : Out :=
  command 0x0B01 (.sensorSet c pairs) c (fun s => bodySensorSet c pairs s) s

/-- Largest update image: 6 MiB and the header (R619). -/
def maxImage : Nat := 6291456 + 512

/-- Replace the inactive slot of the boot control record. -/
def putInactive (x : Slot) (s : State) : State :=
  { s with mgmt := if s.mgmt.activeB then { s.mgmt with slotA := x } else { s.mgmt with slotB := x } }

/-- Body of UPDATE_BEGIN (R600, R619): the inactive slot is erased and invalid. -/
def bodyUpdateBegin (c : Cmd) (bytes : Nat) (s : State) : Reply × State :=
  checked [(names 0 c, .noSuchObject), (decide (bytes ≤ maxImage), .badParam), (s.mgmt.update.isNone, .busy)] s
    (fun s =>
      let s := putInactive { valid := false } s
      ({}, { s with mgmt := { s.mgmt with update := some { bytes := bytes } } }))
/-- UPDATE_BEGIN. -/
def execUpdateBegin (c : Cmd) (bytes : Nat) (s : State) : Out :=
  command 0x0B04 (.updateBegin c bytes) c (fun s => bodyUpdateBegin c bytes s) s

/-- Body of UPDATE_CHUNK (R600): chunks arrive at consecutive offsets. -/
def bodyUpdateChunk (c : Cmd) (offset len : Nat) (s : State) : Reply × State :=
  let held := (s.mgmt.update.map (·.held)).getD 0
  let size := (s.mgmt.update.map (·.bytes)).getD 0
  let open_ := s.mgmt.update.isSome
  checked [(names 0 c, .noSuchObject), (open_, .state),
    (!open_ || (decide (offset = held) && decide (1 ≤ len) && decide (len ≤ 65536) && decide (held + len ≤ size)), .badParam)] s
    (fun s => ({ result := leBytes 4 (held + len), progress := held + len },
      { s with mgmt := { s.mgmt with update := s.mgmt.update.map (fun u => { u with held := held + len }) } }))
/-- UPDATE_CHUNK. -/
def execUpdateChunk (c : Cmd) (offset len : Nat) (s : State) : Out :=
  command 0x0B05 (.updateChunk c offset len) c (fun s => bodyUpdateChunk c offset len s) s

/-- Body of UPDATE_COMMIT up to its first completion (R532, R533, R619). -/
def bodyUpdateCommit (c : Cmd) (live : Bool) (s : State) : Reply × State :=
  let standby := decide (s.clover.state = .formed) && decide (s.clover.role = .standby)
  let partner := match s.clover.last with | some h => h.update | none => false
  checked [(names 0 c, .noSuchObject), (s.mgmt.update.isSome, .state), (!live || standby, .state), (!live || !partner, .busy)] s
    (fun s => ({ status := .accepted },
      { s with mgmt := { s.mgmt with update := s.mgmt.update.map (fun u => { u with tag := some (c.tenant, c.queue, c.tag) }) } }))

/-- The end of UPDATE_COMMIT (R532, R600, R617, R619): the image is read back and checked, and its slot marked TRY with
three attempts, or it stays invalid. With the live flag UPDATE is set at the next boundary. -/
def endUpdate (c : Cmd) (live : Bool) (v : ImageInfo) (s : State) : State :=
  match s.mgmt.update with
  | none => s
  | some u =>
    if u.tag ≠ some (c.tenant, c.queue, c.tag) then s
    else
      let s := { s with mgmt := { s.mgmt with update := none } }
      let major := (s.clover.last.map (·.proto / 256)).getD 0
      let fin (r : Reply) (s : State) : State := finishLater c.tenant c.queue c.tag r none s
      if !(decide (u.held = u.bytes) && decide (imageCause s v = 0)) then fin { status := .auth } s
      else if live && decide (v.pairProto / 256 ≠ major) then fin { status := .state } s
      else
        let s := putInactive { info := v, valid := true, try_ := some 3, live := live } s
        let s := when live (fun s => s.modClover (fun k => { k with updNext := true })) s
        fin { result := leBytes 1 v.major ++ leBytes 1 v.minor } s

/-- UPDATE_COMMIT: ACCEPTED, and the final completion once the image has been checked. -/
def execUpdateCommit (c : Cmd) (live : Bool) (v : ImageInfo) (s : State) : Out :=
  match command 0x0B06 (.updateCommit c live v) c (fun s => bodyUpdateCommit c live s) s with
  | .next t => .next (if t.mgmt.update = s.mgmt.update then t else endUpdate c live v t)
  | o => o

/-- Body of I2C_XFER (R601, R638): a NAK completes with PARTIAL and the bytes moved. -/
def bodyI2cXfer (c : Cmd) (addr wr rd : Nat) (nakAt : Option Nat) (data : List Byte) (s : State) : Reply × State :=
  let b := hIndex c
  checked [(names 0x14 c, .noSuchObject), (decide (addr < 128) && decide (1 ≤ wr + rd) && decide (wr + rd ≤ 65536), .badParam),
    (decide (b ≠ 1) || decide (wr = 0), .badParam), (decide ((s.bus b).state ≠ .stuck), .state)] s
    (fun s => match nakAt with
      | some n =>
        let n := min n (wr + rd)
        ({ status := .partialDone, progress := n, result := leBytes 4 n, out := some (data.take (n - wr)) }, bump (ctrKey 0x14 b 0 0) s)
      | none => ({ progress := wr + rd, result := leBytes 4 (wr + rd), out := some (data.take rd) }, s))
/-- I2C_XFER. -/
def execI2cXfer (c : Cmd) (addr wr rd : Nat) (nakAt : Option Nat) (data : List Byte) (s : State) : Out :=
  command 0x0B07 (.i2cXfer c addr wr rd nakAt data) c (fun s => bodyI2cXfer c addr wr rd nakAt data s) s

/-! ## Diagnostics, 0x0Cxx -/

/-- A port of a formed pair's clover link (R464). -/
def pairPort (s : State) (p : Nat) : Bool := (s.port p).clover && decide (s.clover.state = .formed)

/-- A port goes down for a test or loop, and starts bring-up from IDLE when it ends (R464), not before SYNC (R42, R46). -/
def portToIdle (p : Nat) (s : State) : State :=
  let s := when (decide ((s.port p).state = .up)) (failPort p 4) s
  let started := decide (3 ≤ startupCode s.mgmt.startup)
  s.modPort p (fun q => { q with state := if portOn s p && started then .idle else .disabled, ts1Run := 0, ts2Run := 0 })

/-- Body of LOOP_SET (R464, R465): a far-end loop is requested from UP, and the partner's answer completes the command. -/
def bodyLoopSet (c : Cmd) (kind : Nat) (s : State) : Reply × State :=
  let p := hIndex c
  let q := s.port p
  checked [(names 0x0D c, .noSuchObject), (decide (kind < 4), .badParam), (!pairPort s p, .state),
    (s.mgmt.laneLock && (decide (kind ≠ 3) || (decide (q.state = .up) && q.loopTag.isNone)), .state)] s
    (fun s => match kind with
      | 0 => ({}, if q.loop = .none then s else portToIdle p (s.modPort p (fun q => { q with loop := .none })))
      | 3 => ({ later := true }, s.modPort p (fun q => { q with loopTag := some (c.tenant, c.queue, c.tag) }))
      | n => ({}, (portToIdle p s).modPort p (fun q => { q with loop := if n = 1 then .nearSerial else .nearParallel })))
/-- LOOP_SET. -/
def execLoopSet (c : Cmd) (kind : Nat) (s : State) : Out := command 0x0C00 (.loopSet c kind) c (fun s => bodyLoopSet c kind s) s

/-- Body of PRBS_SET (R463, R464, R633). -/
def bodyPrbsSet (c : Cmd) (poly : Nat) (gen chk : Bool) (s : State) : Reply × State :=
  let l := hIndex c
  let ports := (List.range 16).filter (fun p => (portLanes s p).contains l)
  let on := decide (poly ≠ 0) && (gen || chk)
  checked [(names 0x0E c, .noSuchObject), ([0, 7, 15, 31].contains poly, .badParam), (ports.all (fun p => !pairPort s p), .state),
    (s.mgmt.laneLock && (!on || (decide (s.mgmt.level = 0) && !s.outputsHeld)), .state)] s
    (fun s =>
      let was := (s.lane l).gen || (s.lane l).chk
      let s := when (on || was) (each ports portToIdle) s
      ({}, s.modLane l (fun x => { x with
        poly := poly, gen := on && gen, chk := on && chk, locked := x.locked && x.chk && on && chk && decide (x.poly = poly) })))
/-- PRBS_SET. -/
def execPrbsSet (c : Cmd) (poly : Nat) (gen chk : Bool) (s : State) : Out :=
  command 0x0C01 (.prbsSet c poly gen chk) c (fun s => bodyPrbsSet c poly gen chk s) s

/-- The counter that a handle and a counter field name (R602). -/
def namedCounter (c : Cmd) (field : Nat) : Option Nat :=
  let n := field % 65536
  let dir := field / 65536
  let i := hIndex c
  let within (cls lo hi idx : Nat) : Option Nat := if lo ≤ n ∧ n ≤ hi ∧ dir = 0 then some (ctrKey cls idx n 0) else none
  if !(hasIndex (hClass c) i || (decide (hClass c = 0x13) && isSensor i)) then none
  else match hClass c with
    | 0 => within 0 0 1 0
    | 2 => within 2 0 1 i
    | 4 => within 4 0 23 i
    | 7 => within 7 0 4 i
    | 8 => within 8 5 9 i
    | 9 => within 9 0 7 i
    | 0x0D => if (n = 7 || n = 9 || n = 10 || n = 11) && decide (dir ≤ 1) then some (dirCtr i n dir) else within 0x0D 5 25 i
    | 0x0E => within 0x0E 0 4 i
    | 0x13 => within 0x13 0 2 0
    | 0x14 => within 0x14 0 4 i
    | _ => none

/-- The handle names an object of its class. -/
def namesSome (c : Cmd) : Bool := hasIndex (hClass c) (hIndex c) || (decide (hClass c = 0x13) && isSensor (hIndex c))

/-- Body of COUNTER_READ (R602). -/
def bodyCounterRead (c : Cmd) (field : Nat) (s : State) : Reply × State :=
  let k := namedCounter c field
  checked [(namesSome c, .noSuchObject), (k.isSome, .badParam)] s
    (fun s =>
      let x := ctrOf s (k.getD 0)
      done (leBytes 8 x.val ++ leBytes 1 (if x.sat then 1 else 0)) s)
/-- COUNTER_READ. -/
def execCounterRead (c : Cmd) (field : Nat) (s : State) : Out :=
  command 0x0C04 (.counterRead c field) c (fun s => bodyCounterRead c field s) s

/-- Body of COUNTER_WRITE (R33, R602): the value applies at a boundary, and the command completes after it. -/
def bodyCounterWrite (c : Cmd) (field value : Nat) (s : State) : Reply × State :=
  let k := namedCounter c field
  checked [(namesSome c, .noSuchObject), (k.isSome, .badParam), (decide (value ≤ ctrTop (k.getD 0)), .badParam)] s
    (fun s => ({ later := true }, { s with host := { s.host with writes := s.host.writes ++
      [{ key := k.getD 0, value := value, tenant := c.tenant, queue := c.queue, tag := c.tag, at_ := s.now }] } }))
/-- COUNTER_WRITE. -/
def execCounterWrite (c : Cmd) (field value : Nat) (s : State) : Out :=
  command 0x0C05 (.counterWrite c field value) c (fun s => bodyCounterWrite c field value s) s

/-- A modulator is the source of a channel's stream. -/
def isSource (s : State) (m : Nat) : Bool :=
  if m < 768 then (s.chan m).servedBy.isNone
  else match (s.spare m).source with
    | some ch => decide ((s.chan ch).servedBy = some m)
    | none => false

/-- The rotation of one modulator; a tile whose side-band has failed is not reached (R15). -/
def rotate (on : Bool) (m : Nat) (s : State) : State :=
  when (tileReached s m) (fun s => s.modModu m (fun x => { x with rotation := on })) s

/-- Body of DEM_SET (R15, R97, R603). The broadcast handle sets every modulator that may be set, one by one, with PARTIAL where some may not
(R570, R608). -/
def bodyDemSet (c : Cmd) (on : Bool) (s : State) : Reply × State :=
  let may := if namesAll 2 c then (allIndices 2).filter (fun m => on || !isSource s m) else [hIndex c]
  checked [(names 2 c || namesAll 2 c, .noSuchObject), (on || may.any (fun m => !isSource s m), .state)] s
    (fun s => ({ status := if namesAll 2 c && decide (may.length < 864) then .partialDone else .done
                 progress := if namesAll 2 c then may.length else 0 }, each may (rotate on) s))
/-- DEM_SET. -/
def execDemSet (c : Cmd) (on : Bool) (s : State) : Out := command 0x0C06 (.demSet c on) c (fun s => bodyDemSet c on s) s

/-- Body of MEM_TEST (R603, R633): the errors found on a channel that holds no ring. Rings interleave over every channel. -/
def bodyMemTest (c : Cmd) (ch mib errors : Nat) (s : State) : Reply × State :=
  let pop := s.mem.pop
  checked [(names 0 c, .noSuchObject),
    (decide (ch < 8) && (pop.channels.isEmpty || (pop.channels.contains ch && decide (mib * pop.channels.length ≤ pop.gib * 1024))), .badParam),
    (dramServes s && decide (s.mgmt.level = 0), .state), (!ringsExist s, .busy)] s
    (done (leBytes 8 errors))
/-- MEM_TEST. -/
def execMemTest (c : Cmd) (ch mib errors : Nat) (s : State) : Out :=
  command 0x0C07 (.memTest c ch mib errors) c (fun s => bodyMemTest c ch mib errors s) s

end Sys2Proof.Machine
end

