-- ==== Sys2Proof/Machine/Reports.lean ====
section
/-! DEFINITION. The commands that report (R590 and R712 of 15): none changes state, but that MEM_STATUS resets the staging
high-water mark. A row's Result column governs RESULT where it names bytes; otherwise RESULT counts the entries. -/

namespace Sys2Proof.Machine

/-! ## System, 0x01xx -/

/-- Body of IDENTIFY (R4, R512, R543). -/
def bodyIdentify (c : Cmd) (s : State) : Reply × State :=
  checked [(names 0 c, .noSuchObject)] s (done (leBytes 2 0x0768 ++ leBytes 1 0xC0 ++ leBytes 1 (if Config.gradeHigh then 1 else 0)
    ++ leBytes 1 s.mgmt.fwMajor ++ leBytes 1 s.mgmt.fwMinor ++ leBytes 2 s.mgmt.pairProto ++ leBytes 8 Config.uid.toNat))
/-- IDENTIFY. -/
def execIdentify (c : Cmd) (s : State) : Out := command 0x0100 (.identify c) c (fun s => bodyIdentify c s) s

/-- The greatest of some counts. -/
def greatest (l : List Nat) : Nat := l.foldl max 0

/-- The limits of R610: identifier, maximum, in use. -/
def limitRows (s : State) : List (Nat × Nat × Nat) :=
  [(1, 64, (s.host.tenants.filter (fun p => p.2.used)).length), (2, maxSubs, liveSubs s), (3, maxDescs, s.red.descs.length),
   (4, maxRoutes, s.sky.routes.length), (5, 1022, if isAllocator s then s.sky.grants.length else 0),
   (6, 16384, (s.str.streams.filter (fun p => p.2.exists_)).length),
   (7, 64, (s.sky.mcast.filter (fun p => p.2.made)).length), (8, maxStages, s.host.stages.length),
   (9, maxChanges, greatest (s.host.stages.map (fun x => x.changes.length))), (10, maxCommits, s.host.bank.length),
   (11, 16, greatest (s.sky.ports.map (fun p => p.2.timed.length))), (12, pairDepth, s.red.pairs.length),
   (13, 256 * areaGiB s 3, lineCount s), (14, journalDepth, s.host.journal.length)]

/-- One entry of GET_LIMITS. -/
def limitEntry (s : State) (r : Nat × Nat × Nat) : List Byte :=
  leBytes 2 r.1 ++ [0, 0] ++ leBytes 4 r.2.1 ++ leBytes 4 r.2.2 ++ leBytes 4 (max r.2.2 (s.host.highs.get r.1))

/-- Body of GET_LIMITS (R610). -/
def bodyGetLimits (c : Cmd) (s : State) : Reply × State :=
  checked [(names 0 c, .noSuchObject)] s (fun s => report c 16 ((limitRows s).map (limitEntry s)) counted s)
/-- GET_LIMITS. -/
def execGetLimits (c : Cmd) (s : State) : Out := command 0x0101 (.getLimits c) c (fun s => bodyGetLimits c s) s

/-- Steps of 1/128 UI as ps at a rate in MT/s (R391). -/
def eyePs (mts steps : Nat) : Nat := roundDiv (steps * 1000000) (128 * max 1 mts)

/-- The eight items of R391 for each DRAM lane, from an ID on, in order of ID and PART. -/
def laneItems (s : State) (id : Nat) : List (List Byte) :=
  let lanes := (List.range 160).filterMap (fun (k : Nat) =>
    (s.mem.lanes.find? (fun l => decide (20 * l.channel + l.lane = k))).map (fun l => (k, l)))
  let row (n : Nat) (f : LaneTrain → Nat) : List (List Byte) := lanes.map (fun p => item (id + n) p.1 (f p.2))
  row 0 (·.readEye) ++ row 1 (·.writeEye) ++ row 2 (fun l => eyePs s.mem.pop.mts l.readEye)
    ++ row 3 (fun l => eyePs s.mem.pop.mts l.writeEye) ++ row 4 (·.readDly) ++ row 5 (·.writeDly) ++ row 6 (·.vrefCtl)
    ++ row 7 (·.vrefDram)

/-- Body of HEALTH_GET (R42, R391, R536, R712). -/
def bodyHealthGet (c : Cmd) (s : State) : Reply × State :=
  checked [(names 0 c, .noSuchObject)] s (fun s =>
    let items := [item 0 0 (startupCode s.mgmt.startup), item 1 0 (healthState s).toNat, item 2 0 (healthError s).toNat,
      item 3 0 s.host.overrun.toNat, item 4 0 s.mgmt.cause, item 5 0 s.host.rate, item 5 1 s.host.width,
      item 5 2 (dmaPlan s)] ++ laneItems s 6
    report c 16 items (fun n => counted n ++ leBytes 1 (startupCode s.mgmt.startup) ++ leBytes 1 s.mgmt.errCause) s)
/-- HEALTH_GET. -/
def execHealthGet (c : Cmd) (s : State) : Out := command 0x0102 (.healthGet c) c (fun s => bodyHealthGet c s) s

/-! ## Channels, 0x02xx -/

/-- Code of a calibration state, and its DEGRADED cause (R712). -/
def calCode : CalState → Nat × Nat
  | .ok => (0, 0) | .pending => (1, 0) | .degradedDisagree => (2, 1) | .degradedVoid => (2, 2) | .remapped _ => (3, 0)
  | .failed => (4, 0)

/-- The spare that shadows or serves a channel (R111); one that is only claimed for it does neither yet. -/
def spareOf (s : State) (ch : Nat) : Option Nat :=
  let own := match (s.chan ch).cal with | .remapped sp => some sp | _ => none
  match (s.chan ch).cover with
  | some cv => if cv.entered then some cv.spare else own
  | none => own

/-- The calibration figure of a channel (R138): QUALITY or COUNT. -/
def figure (s : State) (ch : Nat) (count : Bool) : List Byte :=
  let m := s.modu (mainMod s ch)
  if count then leBytes 4 (min m.applied (2 ^ 32 - 1)) ++ leBytes 6 m.appliedTt.sec ++ leBytes 4 m.appliedTt.ns ++ [0, 0]
  else leInt 2 m.residual ++ leInt 2 m.margin ++ leInt 2 m.agreement ++ leBytes 10 0

/-- Body of CHANNEL_STATUS (R712). -/
def bodyChannelStatus (c : Cmd) (s : State) : Reply × State :=
  let ch := hIndex c
  checked [(names 1 c, .noSuchObject)] s (fun s =>
    let x := s.chan ch
    let sp := spareOf s ch
    let ctr (f : Nat → Nat) : Nat := match sp with | some m => ctrItem s (f m) | none => 0
    let cal := calCode x.cal
    let remap := match x.cal with | .remapped m => m | _ => 0xFFFF
    let fig := figure s ch s.front.figCount
    let items := [item 0 0 (biasCode x.bias), itemS 1 0 x.shortMax, itemS 1 1 x.lowMax, itemS 1 2 x.highMin,
      itemS 1 3 x.openMin, itemS 2 0 x.vb, item 3 0 (ctrItem s (ovrCtr ch)), item 3 1 (ctrItem s (resetCtr ch)),
      item 4 0 (ctr ovrCtr), item 4 1 (ctr resetCtr), item 5 0 (sp.getD 0xFFFF),
      item 5 1 (match sp with | some m => spareCode (s.spare m).state | none => 0), item 6 0 cal.1, item 6 1 cal.2,
      item 6 2 remap, item 7 0 (ofLe (fig.take 8)), item 7 1 (ofLe (fig.drop 8))]
    report c 16 items (fun _ => leBytes 1 (biasCode x.bias) ++ leBytes 1 cal.1 ++ leBytes 2 (sp.getD 0xFFFF) ++ leInt 4 x.vb) s)
/-- CHANNEL_STATUS. -/
def execChannelStatus (c : Cmd) (s : State) : Out :=
  command 0x0201 (.channelStatus c) c (fun s => bodyChannelStatus c s) s

/-- Code of an excitation state, in the order of R81. -/
def excCode : ExcState → Nat
  | .off => 0 | .ramp => 1 | .regulating => 2 | .limit => 3 | .fault => 4 | .localSense => 5

/-- Body of EXC_STATUS (R81). -/
def bodyExcStatus (c : Cmd) (s : State) : Reply × State :=
  checked [(names 3 c, .noSuchObject)] s (fun s =>
    let g := s.group (hIndex c)
    done (leBytes 2 g.sensedMv ++ leBytes 2 g.currentUa ++ leBytes 4 (excCode g.state) ++ leBytes 4 g.retries) s)
/-- EXC_STATUS. -/
def execExcStatus (c : Cmd) (s : State) : Out := command 0x0203 (.excStatus c) c (fun s => bodyExcStatus c s) s

/-- Body of CAL_REPORT (R138). -/
def bodyCalReport (c : Cmd) (sel : Nat) (s : State) : Reply × State :=
  checked [(names 1 c, .noSuchObject), (decide (sel ≤ 1), .badParam)] s
    (fun s => done (figure s (hIndex c) (decide (sel = 1))) s)
/-- CAL_REPORT. -/
def execCalReport (c : Cmd) (sel : Nat) (s : State) : Out :=
  command 0x0206 (.calReport c sel) c (fun s => bodyCalReport c sel s) s

/-! ## Chains, 0x03xx (R159, R192, R217) -/

/-- What CHAIN_REPORT computes: Δ, n or m, t, delivered rate in mS/s, delay words, ρ × 2^32, alias limit × 65,536. -/
structure ChainFig where
  delta : Nat := 0
  n     : Nat := 0
  t     : Nat := 0
  rate  : Nat := 0
  words : Nat := 0
  rho   : Nat := 0
  fold : Nat := 0

/-- The figures of an angle-mode chain at the group's speed, from the ratio of its resampler's input (R214, R217). At rest
the rate, ρ, Δ and the limit are 0. -/
def angleFig (s : State) (b : Bind) (ratio n : Nat) : ChainFig :=
  let v := (s.shaft b.group).speed
  let rho := roundDiv (b.nrev * v * ratio * 4294967296 * 1000) (65536 * topRate)
  { delta := if b.nrev * v = 0 then 0 else roundDiv (4294967296 * topRate * 65536) (1000 * b.nrev * v * ratio)
    n := n, rate := roundDiv (1000 * b.nrev * v) 65536, words := b.words, rho := rho
    fold :=
      if v = 0 then 0
      else min (18 * topRate * 65536 * 65536 / (100 * 1000 * ratio * v))
        (b.nrev * 65536 - 32 * topRate * 65536 * 65536 / (100 * 1000 * ratio * v)) }

/-- The figures of a time-mode chain from the rate asked for in mS/s, its Δ, the ratio of its resampler's input, n or m,
and t (R153, R168, R190, R192). -/
def timeFig (asked delta ratio n t : Nat) : ChainFig :=
  { delta := delta, n := n, t := t, rate := roundDiv (topRate * 4294967296) (ratio * delta * 2 ^ t)
    rho := roundDiv (asked * 2 ^ t * ratio * 4294967296) topRate }

/-- The figures of a chain. A WB chain has a fixed ratio: no Δ, n or t. -/
def chainFig (s : State) (m : Nat) (b : Band) : ChainFig :=
  match b with
  | .wb => { rate := roundDiv topRate (wbRatio s m) }
  | .lb => (match lbAngle s m with
    | some x => angleFig s x (lrRatio s m) (lhCount s m)
    | none => timeFig (s.chain m).lbRate (lrDelta s m) (lrRatio s m) (lhCount s m) (ltCount s m))
  | .eb => (match ebAngle s m with
    | some x => angleFig s x (erRatio s m) (ebExp s m)
    | none => timeFig (s.chain m).ebRate (erDelta s m) (erRatio s m) (ebExp s m) 0)

/-- Items of one filter from PART 0 on. -/
def tapItems (id : Nat) (l : List Int) : List (List Byte) := l.zipIdx.map (fun p => itemS id p.2 p.1)

/-- The taps that CHAIN_REPORT gives (R159): LN of an LB chain, E1 and E2 of an EB chain. -/
def tapReport (s : State) (m : Nat) (b : Band) : List (List Byte) :=
  let c := s.chain m
  match b with
  | .wb => []
  | .eb => tapItems 7 ((bandTaps c.band).drop 127) ++ tapItems 8 (hilbert.drop 63)
  | .lb =>
    let average (line : Nat) : List (List Byte) := match avgLen c.lbRate line with
      | some n => [item 6 0 n, item 6 1 (roundDiv 4294967296 n)]
      | none => []
    match c.mains with
    | .off => []
    | .avg50 => average 50
    | .avg60 => average 60
    | .notch50 h tn => tapItems 6 ((notchTaps c.lbRate 50 h tn).drop (notchHalf c.lbRate tn))
    | .notch60 h tn => tapItems 6 ((notchTaps c.lbRate 60 h tn).drop (notchHalf c.lbRate tn))

/-- Body of CHAIN_REPORT (R159, R192, R217, R712). -/
def bodyChainReport (c : Cmd) (s : State) : Reply × State :=
  checked [(names 5 c, .noSuchObject)] s (fun s =>
    let m := hIndex c / 4
    let b := bandOf (hIndex c % 4)
    let f := chainFig s m b
    let wb := decide (b = .wb)
    let items := [item 0 0 f.delta, item 1 0 f.n, item 1 1 f.t, item 2 0 f.rate, item 3 0 f.words, item 4 0 f.rho,
      item 5 0 f.fold] ++ tapReport s m b
    report c 16 items (fun _ => leBytes 8 f.delta ++ leBytes 1 f.n ++ leBytes 1 f.t ++ leBytes 2 (if wb then 1 else 0)
      ++ leBytes 4 (if wb then f.rate / 1000 else f.rate)) s)
/-- CHAIN_REPORT. -/
def execChainReport (c : Cmd) (s : State) : Out := command 0x0302 (.chainReport c) c (fun s => bodyChainReport c s) s

/-! ## Tachs, shafts and triggers, 0x04xx and 0x05xx -/

/-- Body of TACH_STATUS (R198). -/
def bodyTachStatus (c : Cmd) (s : State) : Reply × State :=
  checked [(names 7 c, .noSuchObject)] s (fun s =>
    done ((List.range 4).flatMap (fun (n : Nat) => leBytes 4 (ctrOf s (ctrKey 7 (hIndex c) n 0)).val)) s)
/-- TACH_STATUS. -/
def execTachStatus (c : Cmd) (s : State) : Out := command 0x0401 (.tachStatus c) c (fun s => bodyTachStatus c s) s

/-- Body of SHAFT_STATUS (R201). -/
def bodyShaftStatus (c : Cmd) (s : State) : Reply × State :=
  checked [(names 8 c, .noSuchObject)] s (fun s =>
    let g := s.shaft (hIndex c)
    done (leBytes 4 (shaftCode g.state) ++ leBytes 4 g.speed ++ leBytes 8 g.revs) s)
/-- SHAFT_STATUS. -/
def execShaftStatus (c : Cmd) (s : State) : Out := command 0x0403 (.shaftStatus c) c (fun s => bodyShaftStatus c s) s

/-- Code of a trigger unit's state (R712). -/
def trigCode : TrigState → Nat
  | .off => 0 | .armed => 1 | .busy => 2 | .done => 3

/-- Body of TRIGGER_STATUS (R247, R712). A unit without a current descriptor reports 0xFFFF_FFFF. -/
def bodyTriggerStatus (c : Cmd) (s : State) : Reply × State :=
  checked [(names 9 c, .noSuchObject)] s (fun s =>
    let u := hIndex c
    let x := s.unit u
    let ctr (n : Nat) : Nat := ctrKey 9 u n 0
    let items := [item 0 0 (trigCode x.state), item 1 0 (x.current.getD 0xFFFFFFFF)]
      ++ (List.range 8).map (fun (n : Nat) => item (2 + n) 0 (ctrItem s (ctr n)))
    report c 16 items (fun _ => leBytes 4 (trigCode x.state)
      ++ (List.range 3).flatMap (fun (n : Nat) => leBytes 4 (ctrOf s (ctr n)).val)) s)
/-- TRIGGER_STATUS. -/
def execTriggerStatus (c : Cmd) (s : State) : Out :=
  command 0x0502 (.triggerStatus c) c (fun s => bodyTriggerStatus c s) s

/-- The 32 bytes of a refusal log entry (R261). -/
def refusalBytes (r : Refusal1) : List Byte :=
  ttBytes (ttOf r.trig) r.quality ++ leBytes 2 r.unit ++ leBytes 1 r.reason ++ [0] ++ leBytes 2 r.desc ++ leBytes 10 0

/-- Body of REFUSAL_READ (R261). -/
def bodyRefusalRead (c : Cmd) (s : State) : Reply × State :=
  checked [(names 0 c, .noSuchObject)] s (fun s => report c 32 (s.red.refusals.map refusalBytes) counted s)
/-- REFUSAL_READ. -/
def execRefusalRead (c : Cmd) (s : State) : Out := command 0x0508 (.refusalRead c) c (fun s => bodyRefusalRead c s) s

/-! ## Streams, 0x06xx -/

/-- Code of a subscription's state (R340). -/
def subCode : SubState → Nat
  | .active => 0 | .stalled => 1 | .detached => 2 | .closed => 3

/-- A position held as one past the item: the item's number, all-ones when there is none. -/
def itemBefore (n : Nat) : Nat := (n + 2 ^ 64 - 1) % 2 ^ 64

/-- Body of STREAM_STATUS: one of three selections. -/
def bodyStreamStatus (c : Cmd) (sel : Nat) (s : State) : Reply × State :=
  onSub c true s (fun _ u =>
    let st := s.stream u.gsi
    match sel with
    | 0 => done (leBytes 1 (subCode u.state) ++ leBytes 3 ((if u.bestEffort then 1 else 0) + (if u.bulk then 2 else 0))
        ++ leBytes 4 (largestOf s u.gsi) ++ leBytes 8 u.dropped) s
    | 1 => done (leBytes 8 (itemBefore u.acked) ++ leBytes 8 (itemBefore u.delivered)) s
    | 2 => done (leBytes 8 (oldestItem st) ++ leBytes 8 (itemBefore st.pub)) s
    | _ => refuse .badParam s)
/-- STREAM_STATUS. -/
def execStreamStatus (c : Cmd) (sel : Nat) (s : State) : Out :=
  command 0x0602 (.streamStatus c sel) c (fun s => bodyStreamStatus c sel s) s

/-- The streams that exist, by GSI (R308). -/
def streamKeys (s : State) : List Nat :=
  let chains := allMods.flatMap (fun m => [1, 2, 3].map (fun (k : Nat) => streamKey m k 0))
  let stats := s.red.stats.keys.map statStream
  let rest := s.str.streams.keys.filter (fun k => !isSampleKind (kindOf k) && !(stats.contains k))
  ((chains ++ stats ++ rest).filter (streamThere s)).mergeSort

/-- Body of STREAM_LIST. -/
def bodyStreamList (c : Cmd) (s : State) : Reply × State :=
  checked [(names 0 c, .noSuchObject)] s
    (fun s => report c 4 ((streamKeys s).map (fun k => leBytes 4 (gsiOf s k))) counted s)
/-- STREAM_LIST. -/
def execStreamList (c : Cmd) (s : State) : Out := command 0x0608 (.streamList c) c (fun s => bodyStreamList c s) s

/-! ## Time, ports and routes, 0x07xx and 0x08xx -/

/-- Body of TIME_STATUS: the TIME_ registers, the snapshot's from the tenant's own latch. A remote tenant has none. -/
def bodyTimeStatus (c : Cmd) (s : State) : Reply × State :=
  checked [(names 0 c, .noSuchObject)] s (fun s =>
    let items := ((timeRegs s ((tenantFn s c.tenant).getD 64)).zipIdx).map (fun p => item p.2 0 p.1)
    report c 16 items (fun _ => leBytes 2 (quality s).toNat ++ leBytes 1 (s.time.parent.getD 0xFF)) s)
/-- TIME_STATUS. -/
def execTimeStatus (c : Cmd) (s : State) : Out := command 0x0700 (.timeStatus c) c (fun s => bodyTimeStatus c s) s

/-- Code of a port's state (R442). -/
def portCode : PortState → Nat
  | .disabled => 0 | .idle => 1 | .rate => 2 | .lock => 3 | .adapt => 4 | .deskew => 5 | .up => 6

/-- Width that a port reports: the active lanes of its narrower direction while up, the lanes in training, else its
setting. -/
def shownWidth (s : State) (p : Nat) : Nat :=
  let q := s.port p
  if q.state = .up || q.state = .adapt || q.state = .deskew then min (laneCount q.tx.mask) (laneCount q.rx.mask)
  else portWidth s p

/-- Body of PORT_STATUS (R447, R457, R506, R712). -/
def bodyPortStatus (c : Cmd) (s : State) : Reply × State :=
  checked [(names 0x0D c, .noSuchObject)] s (fun s =>
    let p := hIndex c
    let q := s.port p
    let lanes := List.range (portWidth s p)
    let laneRow (n : Nat) : List (List Byte) := lanes.map (fun i => item (4 + n) i (ctrItem s (laneCtr s p i n)))
    let one (id num : Nat) : List (List Byte) := [item id 0 (ctrItem s (portCtr p num))]
    let both (id num : Nat) : List (List Byte) := [item id 0 (ctrItem s (dirCtr p num 0)), item id 1 (ctrItem s (dirCtr p num 1))]
    let items := lanes.map (fun i => item 0 i (q.ctle.getD i 0))
      ++ lanes.flatMap (fun i => (List.range 8).map (fun (k : Nat) => itemS 1 (8 * i + k) (q.dfe.getD (8 * i + k) 0)))
      ++ lanes.map (fun i => item 2 i (q.eyes.getD i (0, 0)).1) ++ lanes.map (fun i => item 3 i (q.eyes.getD i (0, 0)).2)
      ++ (List.range 5).flatMap laneRow
      ++ one 9 5 ++ one 10 6 ++ both 11 7 ++ one 12 8 ++ both 13 9 ++ both 14 10 ++ both 15 11
      ++ (List.range 14).flatMap (fun (k : Nat) => one (16 + k) (12 + k))
    report c 16 items (fun _ => leBytes 1 (portCode q.state) ++ leBytes 1 (shownWidth s p) ++ leBytes 1 q.rate) s)
/-- PORT_STATUS. -/
def execPortStatus (c : Cmd) (s : State) : Out := command 0x0801 (.portStatus c) c (fun s => bodyPortStatus c s) s

/-- One entry of ROUTE_READ: prefix, length, primary, alternate or 0xFF, and the marks UNPROTECTED and UNREACHABLE (R493,
R501); the layout is the model's (notes/assumptions/73.md). -/
def routeBytes (r : Route) : List Byte :=
  leBytes 2 r.pfx ++ leBytes 1 r.len ++ leBytes 1 r.prim ++ leBytes 1 (r.alt.getD 0xFF)
    ++ leBytes 3 (if r.alt.isNone then 1 else 0)

/-- The entry of a destination that no route reaches. -/
def unreachBytes (a : Nat) : List Byte := leBytes 2 a ++ leBytes 1 10 ++ leBytes 1 0xFF ++ leBytes 1 0xFF ++ leBytes 3 2

/-- Body of ROUTE_READ (R493, R494, R501). -/
def bodyRouteRead (c : Cmd) (s : State) : Reply × State :=
  checked [(names 0 c, .noSuchObject)] s
    (fun s => report c 8 (s.sky.routes.map routeBytes ++ s.sky.unreach.map unreachBytes) counted s)
/-- ROUTE_READ. -/
def execRouteRead (c : Cmd) (s : State) : Out := command 0x0803 (.routeRead c) c (fun s => bodyRouteRead c s) s

/-! ## The pair and the memory, 0x09xx and 0x0Axx -/

/-- Body of CLOVER_STATUS (R512, R515, R517). -/
def bodyCloverStatus (c : Cmd) (s : State) : Reply × State :=
  checked [(names 0 c, .noSuchObject)] s (fun s =>
    done (leBytes 1 (pairCode s.clover.state) ++ leBytes 1 (roleByte s) ++ leBytes 2 s.clover.cause ++ leBytes 4 s.clover.decSeq) s)
/-- CLOVER_STATUS. -/
def execCloverStatus (c : Cmd) (s : State) : Out := command 0x0901 (.cloverStatus c) c (fun s => bodyCloverStatus c s) s

/-- Body of MEM_STATUS (R391, R395, R403): reading the high-water mark resets it. -/
def bodyMemStatus (c : Cmd) (s : State) : Reply × State :=
  checked [(names 0 c, .noSuchObject)] s (fun s =>
    let lost := (ctrOf s (ctrKey 0 0 1 0)).val
    let ecc := s.mem.pop.channels.flatMap (fun ch => (List.range s.mem.pop.ranks).map (fun (r : Nat) =>
      item 8 (2 * ch + r) (ctrItem s (eccCtr ch r))))
    let items := laneItems s 0 ++ ecc ++ [item 9 0 s.mem.staging, item 10 0 s.mem.highMark, item 11 0 lost]
    report c 16 items (fun _ => leBytes 8 lost) { s with mem := { s.mem with highMark := s.mem.staging } })
/-- MEM_STATUS. -/
def execMemStatus (c : Cmd) (s : State) : Out := command 0x0A01 (.memStatus c) c (fun s => bodyMemStatus c s) s

/-! ## Management and diagnostics, 0x0Bxx and 0x0Cxx -/

/-- Body of SENSOR_READ (R627, R630). -/
def bodySensorRead (c : Cmd) (s : State) : Reply × State :=
  checked [(decide (hClass c = 0x13) && isSensor (hIndex c), .noSuchObject)] s (fun s =>
    let x := s.sensor (hIndex c)
    done (leInt 8 x.value ++ leBytes 1 (if x.overR then 1 else 0)) s)
/-- SENSOR_READ. -/
def execSensorRead (c : Cmd) (s : State) : Out := command 0x0B00 (.sensorRead c) c (fun s => bodySensorRead c s) s

/-- Body of LOG_READ (R646): the entries held from a sequence number on, oldest first, as many as fit, and the sequence
number that follows them. -/
def bodyLogRead (c : Cmd) (first : Nat) (s : State) : Reply × State :=
  checked [(names 0 c, .noSuchObject)] s (fun s =>
    let held := (s.mgmt.ring.filter (fun p => decide (first ≤ p.1))).reverse
    let fit := held.take (bufLen c / 64)
    let next := match fit.getLast? with
      | some p => p.1 + 1
      | none => (held.head?.map (·.1)).getD s.mgmt.nextSeq
    ({ progress := fit.length, result := leBytes 8 next, out := some (fit.flatMap (fun p => entryBytes p.2)) }, s))
/-- LOG_READ. -/
def execLogRead (c : Cmd) (first : Nat) (s : State) : Out :=
  command 0x0B02 (.logRead c first) c (fun s => bodyLogRead c first s) s

/-- The 64 bytes of a command record (R604); the type of a command record is 1 (notes/assumptions/74.md), and the status of
one in execution is ACCEPTED. -/
def recordBytes (r : JRec) : List Byte :=
  let b := leBytes 1 1 ++ leBytes 1 r.kind ++ leBytes 2 r.opcode ++ leBytes 4 r.tag.toNat ++ leBytes 8 r.id
    ++ leBytes 4 r.handle.toNat ++ leBytes 4 r.stage ++ leBytes 8 r.progress ++ leBytes 4 r.objs.length
    ++ leBytes 4 (statusCode (r.status.getD .accepted)) ++ ttBytes r.tt r.qual ++ leBytes 4 0
  b ++ leBytes 4 (crc32c b).toNat

/-- The 12 bytes of an object entry (R604). -/
def objBytes (o : Nat × Nat × Nat × Nat) : List Byte :=
  leBytes 4 o.1 ++ leBytes 1 o.2.1 ++ [0] ++ leBytes 2 o.2.2.1 ++ leBytes 4 o.2.2.2

/-- Body of JOURNAL_QUERY (R604 to R607): the record of a tag under a session key, the tenant's own or any for tenant 0, then
its object entries as far as they fit; RESULT counts the object entries written. -/
def bodyJournalQuery (c : Cmd) (kind id : Nat) (tag : BitVec 32) (s : State) : Reply × State :=
  let found := s.host.journal.find? (fun r => r.is (kind, id) tag)
  checked [(decide (c.tenant = 0) || decide (keyOf (s.tenant c.tenant) = (kind, id)), .notOwner),
    (names 0 c && found.isSome, .noSuchObject)] s
    (fun s => match found with
      | none => refuse .noSuchObject s
      | some r =>
        let whole := decide (64 ≤ bufLen c)
        let fit := r.objs.take (if whole then (bufLen c - 64) / 12 else 0)
        ({ status := if whole && decide (fit.length = r.objs.length) then .done else .partialDone, progress := fit.length
           result := counted fit.length
           out := some ((if whole then recordBytes r else []) ++ fit.flatMap objBytes) }, s))
/-- JOURNAL_QUERY. -/
def execJournalQuery (c : Cmd) (kind id : Nat) (tag : BitVec 32) (s : State) : Out :=
  command 0x0B03 (.journalQuery c kind id tag) c (fun s => bodyJournalQuery c kind id tag s) s

/-- Body of PRBS_STATUS (R463): what a locked checker has compared since its last lock is a free value. -/
def bodyPrbsStatus (c : Cmd) (s : State) : Reply × State :=
  checked [(names 0x0E c, .noSuchObject)] s (fun s =>
    let x := s.lane (hIndex c)
    let (n, s) := drawn s
    let (bits, errors) := if x.locked && x.chk then Config.prbsSeen n else (0, 0)
    done (leBytes 8 ((x.bits.toNat + bits) % 2 ^ 64) ++ leBytes 4 (min (x.errors + errors) (2 ^ 32 - 1)) ++ leBytes 4 x.relocks) s)
/-- PRBS_STATUS. -/
def execPrbsStatus (c : Cmd) (s : State) : Out := command 0x0C02 (.prbsStatus c) c (fun s => bodyPrbsStatus c s) s

/-- Body of FIFO_STATUS (R425, R426): count, parity counter, overflow counter. -/
def bodyFifoStatus (c : Cmd) (s : State) : Reply × State :=
  checked [(names 0 c, .noSuchObject)] s (fun s =>
    let items := fifoRows.flatMap (fun r => (List.range r.2).flatMap (fun (i : Nat) =>
      let k := fifoKey r.1 i
      [item r.1 (3 * i) ((s.mem.fifos.get k).count (fifoShape r.1).1), item r.1 (3 * i + 1) (ctrItem s (fifoCtr k 1)),
       item r.1 (3 * i + 2) (ctrItem s (fifoCtr k 2))]))
    report c 16 items counted s)
/-- FIFO_STATUS. -/
def execFifoStatus (c : Cmd) (s : State) : Out := command 0x0C03 (.fifoStatus c) c (fun s => bodyFifoStatus c s) s

end Sys2Proof.Machine
end

