-- ==== Sys2Proof/Machine/Remote.lean ====
section
/-! DEFINITION. Remote sessions over Skecy (R558 to R560 of 14). OPEN is frame 0 of the requester's direction and OPEN_REPLY
frame 0 of the other (notes/assumptions/75.md). A frame that the hub makes is handed to the switch at the next event of a
remote session or the next boundary. -/

namespace Sys2Proof.Machine

/-! ## Frames -/

/-- The 32 bytes of a command completion (R569); a remote session has no ring and so no phase. -/
def cplBytes (c : Cpl) : List Byte :=
  leBytes 4 c.tag.toNat ++ leBytes 2 (statusCode c.status)
    ++ leBytes 2 ((if c.more then 2 else 0) + (if c.mirrored then 4 else 0) + (if c.replayed then 8 else 0))
    ++ leBytes 8 c.progress ++ (c.result ++ leBytes 16 0).take 16

/-- The 32 bytes of a credit completion (R333). -/
def dmaBytes (d : DmaCpl) : List Byte :=
  leBytes 4 d.tag ++ leBytes 4 d.bytes ++ leBytes 8 d.first ++ leBytes 8 d.next ++ leBytes 2 d.handle ++ leBytes 2 d.records
    ++ leBytes 2 ((if d.gap then 2 else 0) + (if d.resent then 4 else 0) + (if d.err then 8 else 0) + (if d.aborted then 16 else 0))
    ++ [0, 0]

/-- The payload of a frame of a session (R558): the header and the entries of its kind; an output buffer follows its
completion (R569). -/
def remoteBytes (s : State) (t : Nat) (f : RemFrame) : List Byte :=
  let x := s.tenant t
  let buf (c : Cpl) : List Byte :=
    if c.more then []
    else ((s.host.outs.find? (fun b => decide (b.tenant = t) && decide (b.tag = c.tag))).map (·.bytes)).getD []
  leBytes 1 f.kind ++ leBytes 1 t ++ leBytes 2 x.epoch ++ leBytes 4 f.fseq ++ leBytes 4 ((x.rxFseq + 2 ^ 32 - 1) % 2 ^ 32)
    ++ (if f.kind = 7 then leBytes 1 t ++ leBytes 2 (statusCode f.st) else [])
    ++ f.cpls.flatMap (fun c => cplBytes c ++ buf c) ++ f.dmas.flatMap dmaBytes

/-- Hand the frames of a session that the switch does not have yet to it, in order: CPL frames on VC3 (R471, R559). -/
def sendRemote (t : Nat) (s : State) : State :=
  let x := s.tenant t
  let l := x.unacked.filter (fun f => !f.sent)
  let s := each l (fun f s =>
    sendTo { ftype := 3, vc := 3, dest := x.hub, src := s.sky.hub, body := remoteBytes s t f } s) s
  s.modTenant t (fun x => { x with unacked := x.unacked.map (fun f => { f with sent := true }) })

/-- Every session's frames. -/
def sendRemotes (s : State) : State :=
  each ((s.host.tenants.filter (fun p => p.2.used && decide (p.2.kind = 2))).map (·.1)) sendRemote s

/-- A frame sequence number that an acknowledgement covers, modulo 2^32. -/
def fseqCovered (ack f : Nat) : Bool := decide ((ack + 2 ^ 32 - f) % 2 ^ 32 < 2 ^ 31)

/-- A frame of an open session arrives: it is accepted when its FSEQ is the next (R559); a lower one is a duplicate and one
after a gap is discarded. While a warm restart runs the firmware accepts none (R623). -/
def acceptRemote (t epoch fseq ack : Nat) (body : State → State) (s : State) : State :=
  let x := s.tenant t
  if x.used && decide (x.kind = 2) && decide (x.epoch = epoch) && decide (x.rxFseq = fseq) && !s.mgmt.warm then
    sendRemote t (body (s.modTenant t (fun x =>
      { x with rxFseq := (fseq + 1) % 2 ^ 32, acked := (ack + 1) % 2 ^ 32
               unacked := x.unacked.filter (fun f => !fseqCovered ack f.fseq) })))
  else s

/-! ## Rows -/

/-- The open session of a remote host. -/
def remoteOf (s : State) (hub uid : Nat) : Option Nat :=
  (s.host.tenants.find? (fun p => p.2.used && decide (p.2.kind = 2) && decide (p.2.hub = hub) && decide (p.2.uid = uid))).map (·.1)

/-- OPEN (R537, R539, R558): the session takes the lowest free number from 1 to 63 and the next epoch; the completions that
wait for its key follow the reply (R606). OPEN_REPLY says NO_RESOURCE when the table is full. A hub without a hub address serves its
local host alone (R50). -/
def execOpenMsg (hub uid : Nat) (s : State) : Out :=
  .next <|
    if (remoteOf s hub uid).isSome || s.mgmt.warm || s.sky.hub = 0 then s
    else match freeTenant s with
      | none => post pPcie 0x0105 (handleOf 0x12 0) [vU 0, vU 0x8006]
          (sendMsg { kind := 7, dest := hub, a := 0xFF, b := 0, st := .noResource } s)
      | some t =>
        let s := s.modTenant t (fun _ =>
          { used := true, kind := 2, hub := hub, uid := uid, epoch := s.host.epoch, cap := newCap, bucket := bucketMax, bucketAt := s.now
            rxFseq := 1, txFseq := 1, unacked := [{ kind := 7 }] })
        let s := { s with host := { s.host with epoch := (s.host.epoch + 1) % 65536 } }
        let s := noteUse 1 (s.host.tenants.filter (fun p => p.2.used)).length s
        sendRemote t (writeReplays t s)

/-- OPEN_REPLY (R558): the answer to an OPEN of this hub's host: its tenant number, epoch and status on the other hub. -/
def execOpenReply (hub tenant epoch : Nat) (st : Status) (s : State) : Out :=
  .next { s with host := { s.host with away := s.host.away.mod hub (fun x =>
    if x.status = some .done && decide (x.epoch = epoch) then x
    else { status := some st, tenant := tenant, epoch := epoch, rxFseq := 1 }) } }

/-- COMMANDS (R558, R559, R568): the entries of an accepted frame are fetched into the session's admin queue. -/
def execCommandsMsg (tenant epoch fseq ack : Nat) (cmds : List Fetch) (s : State) : Out :=
  .next (acceptRemote tenant epoch fseq ack (each cmds (fetchOne tenant 0)) s)

/-- CREDITS (R559, R560): the entries of an accepted frame are posted to a DMA queue of the session that serves. -/
def execCreditsMsg (tenant epoch fseq ack queue : Nat) (credits : List CreditEntry) (s : State) : Out :=
  .next (acceptRemote tenant epoch fseq ack (fun s =>
    let q := s.queue tenant (4 + queue)
    if decide (queue < 4) && q.made && !q.stopped then postCredits tenant queue credits s else s) s)

/-- Completions reach a session of this hub's host, when their frame is the next (R559). -/
def takeAway (hub tenant epoch fseq ack : Nat) (f : Away → Away) (s : State) : State :=
  { s with host := { s.host with away := s.host.away.mod hub (fun x =>
    if x.status = some .done && decide (x.tenant = tenant) && decide (x.epoch = epoch) && decide (x.rxFseq = fseq) then
      f { x with rxFseq := (fseq + 1) % 2 ^ 32, acked := (ack + 1) % 2 ^ 32 }
    else x) } }

/-- COMPLETIONS (R558). -/
def execCompletionsMsg (hub tenant epoch fseq ack : Nat) (tags : List (BitVec 32)) (s : State) : Out :=
  .next (takeAway hub tenant epoch fseq ack (fun x => { x with cpls := x.cpls ++ tags }) s)

/-- DMA_COMPLETIONS (R558, R560). -/
def execDmaCompletionsMsg (hub tenant epoch fseq ack : Nat) (tags : List (BitVec 32)) (s : State) : Out :=
  .next (takeAway hub tenant epoch fseq ack (fun x => { x with dmas := x.dmas ++ tags }) s)

/-- CLOSE (R340, R558): the session ends. -/
def execCloseMsg (tenant epoch fseq ack : Nat) (s : State) : Out :=
  .next (acceptRemote tenant epoch fseq ack (endTenant tenant) s)

/-- KEEPALIVE (R559): after 1 s without other traffic this end sends one; one that arrives has no other effect than its
acceptance. -/
def execKeepalive (tenant : Nat) (got : Option (Nat × Nat × Nat)) (s : State) : Out :=
  .next (match got with
    | some (epoch, fseq, ack) => acceptRemote tenant epoch fseq ack id s
    | none =>
      if (s.tenant tenant).used && decide ((s.tenant tenant).kind = 2) then sendRemote tenant (remoteFrame tenant 8 [] [] s) else s)

/-- REMOTE_RESEND_TIMER (R559): every frame that ACK_FSEQ does not cover is sent again, in order. -/
def execRemoteResendTimer (tenant : Nat) (s : State) : Out :=
  .next (sendRemote tenant (s.modTenant tenant (fun x => { x with unacked := x.unacked.map (fun f => { f with sent := false }) })))

/-- REMOTE_SESSION_TIMEOUT (R340, R559, R606): a session without a valid frame for 10 s ends; the commands it had in execution
complete for the next session of its key. -/
def execRemoteSessionTimeout (tenant : Nat) (s : State) : Out :=
  .next (if (s.tenant tenant).used && decide ((s.tenant tenant).kind = 2) then endTenant tenant (cutTenant tenant none s) else s)

end Sys2Proof.Machine
end

