-- ==== Sys2Proof/Machine/Mirror.lean ====
section
/-! DEFINITION. Commands that both members of a formed pair stage (R520 of 13), the loss of the partner (R513, R514) and the
reset of a live update (R532). -/

namespace Sys2Proof.Machine

/-- Opcode, entry and body of a mirrored command (R520, R590). -/
def mirrorBody : Instr → Option (Nat × Cmd × (State → Reply × State))
  | .stageDiscard c => some (0x0108, c, bodyStageDiscard c)
  | .commitAtSwath c sec swath targets => some (0x0109, c, bodyCommitAtSwath c sec swath targets)
  | .channelSet c pairs => some (0x0200, c, bodyChannelSet c pairs)
  | .excSet c pairs => some (0x0202, c, bodyExcSet c pairs)
  | .calSet c pairs => some (0x0207, c, bodyCalSet c pairs)
  | .chainSet c pairs => some (0x0300, c, bodyChainSet c pairs)
  | .chainTaps c tap taps => some (0x0301, c, bodyChainTaps c tap taps)
  | .tachSet c pairs => some (0x0400, c, bodyTachSet c pairs)
  | .shaftSet c pairs => some (0x0402, c, bodyShaftSet c pairs)
  | .shaftReturn c => some (0x0404, c, bodyShaftReturn c)
  | .statsSet c pairs => some (0x0500, c, bodyStatsSet c pairs)
  | .triggerSet c pairs => some (0x0501, c, bodyTriggerSet c pairs)
  | .descCreate c d => some (0x0503, c, bodyDescCreate c d)
  | .descSet c d => some (0x0504, c, bodyDescSet c d)
  | .descFree c => some (0x0505, c, bodyDescFree c)
  | .tussockJump c target => some (0x0506, c, bodyTussockJump c target)
  | .admissionSet c pairs => some (0x0507, c, bodyAdmissionSet c pairs)
  | .subscribe c pairs => some (0x0600, c, bodySubscribe c pairs)
  | .unsubscribe c => some (0x0601, c, bodyUnsubscribe c)
  | .ack c n => some (0x0603, c, bodyAck c n)
  | .resend c m => some (0x0604, c, bodyResend c m)
  | .attach c queue => some (0x0605, c, bodyAttach c queue)
  | .ringSet c pairs => some (0x0606, c, bodyRingSet c pairs)
  | .linkAsym c ps => some (0x0705, c, bodyLinkAsym c ps)
  | .pinLaunch c pin level tt => some (0x0706, c, bodyPinLaunch c pin level tt)
  | .portSet c pairs => some (0x0800, c, bodyPortSet c pairs)
  | .routeStatic c pfx len primary alternate remove => some (0x0802, c, bodyRouteStatic c pfx len primary alternate remove)
  | .mcastSet c mask loc alts => some (0x0804, c, bodyMcastSet c mask loc alts)
  | .addrSet c pairs => some (0x0806, c, bodyAddrSet c pairs)
  | .cloverSet c pairs => some (0x0900, c, bodyCloverSet c pairs)
  | .cloverSwap c => some (0x0902, c, bodyCloverSwap c)
  | .memLayout c pairs => some (0x0A00, c, bodyMemLayout c pairs)
  | .policyClass c pairs => some (0x0A04, c, bodyPolicyClass c pairs)
  | .tenantCap c cap => some (0x0A05, c, bodyTenantCap c cap)
  | _ => none

/-- Entry of a mirrored command. -/
def mirrorCmd (i : Instr) : Option Cmd := (mirrorBody i).map (fun x => x.2.1)

/-- What waits here on account of the partner's command completes no command of this member. -/
def silence (banked jobs : Nat) (s : State) : State :=
  { s with host := { s.host with
      bank := s.host.bank.take banked ++ (s.host.bank.drop banked).map (fun k => { k with silent := true })
      pinJobs := s.host.pinJobs.take jobs ++ (s.host.pinJobs.drop jobs).map (fun j => { j with silent := true }) } }

/-- The partner's command as it is staged here: its network commit is a commit of this member when it names the pair's own
hub, since the accepting member alone sends it; its swap is settled by SWAP (notes/assumptions/77.md). -/
def asCopy (i : Instr) (s : State) : Reply × State :=
  match i with
  | .cloverSwap c => ((withMarks 0x0902 c (bodyCloverSwap c) s).1, s)
  | .commitAtSwath c sec swath targets =>
    if netFlag c then
      if targets.contains s.sky.hub then
        withMarks 0x0109 c (bodyCommitAtSwath { c with flags := c.flags &&& 0xFFFB#16 } sec swath targets) s
      else ({}, s)
    else withMarks 0x0109 c (bodyCommitAtSwath c sec swath targets) s
  | _ => match mirrorBody i with
    | some (op, c, body) => withMarks op c body s
    | none => refuse .badOpcode s

/-- The partner's command arrives: it is staged here and its status goes back (R520). -/
def fromPartner (i : Instr) (s : State) : State :=
  let (banked, jobs) := (s.host.bank.length, s.host.pinJobs.length)
  let (r, s) := asCopy i s
  let tag := (mirrorCmd i).elim 0 (fun c => c.tag.toNat)
  sendMsg { kind := 12, dest := s.sky.hub, a := tag, st := r.status } (silence banked jobs s)

/-- The partner has answered: with an error status the command completes with it and is staged on neither; otherwise it is
staged here too and answers, marked MIRRORED (R520, R569). -/
def fromHere (i : Instr) (st : Status) (s : State) : State :=
  if !s.clover.mirrors.contains i then s
  else
    let s := s.modClover (fun c => { c with mirrors := c.mirrors.erase i })
    match mirrorBody i with
    | none => s
    | some (op, c, body) =>
      if 0x8000 ≤ statusCode st then answer op c true { status := st } s
      else
        let (r, s) := withMarks op c body s
        answer op c true r s

/-- COMMAND (R520): `reply` is none for the partner's command and its status for one of this member. -/
def execCommand (i : Instr) (reply : Option Status) (now : Inst) (s : State) : Out :=
  let s := touch now s
  .next (if s.clover.state ≠ .formed then s
    else match reply with
      | none => if (mirrorBody i).isSome then fromPartner i s else s
      | some st => fromHere i st s)

/-- PARTNER_LOSS (R513, R514): nothing before 6 µs have passed since the SEND_NS of the newest valid heartbeat; a sound link
extends the timer once by 6 µs; then the partner is lost. -/
def execPartnerLoss (t : Inst) (s : State) : Out :=
  let s := touch t s
  .next (
    let c := s.clover
    if c.state ≠ .formed && c.state ≠ .joining then s
    else if t < c.lastAt + nsSpan (if c.extended then 12000 else 6000) then s
    else if !c.extended && cloverSound s then s.modClover (fun c => { c with extended := true })
    else losePartner mirrorCmd s)

/-- LIVE_UPDATE_RESET (R532): after the ramp of 32 swaths the standby resets into its new image. R681 lists no cause code for
this reset. -/
def execLiveUpdateReset (s : State) : Out :=
  .next (if s.clover.update && decide (32 ≤ s.clover.ramp) then heldReset Config.updateCause none s else s)

end Sys2Proof.Machine
end

