-- ==== Sys2Proof/Machine/Routing.lean ====
section
/-! DEFINITION. The route table that firmware computes from the LSAs (R493, R494, R501 of 12). Ties between paths of one cost
go to the fewer links and then to the lower port (notes/assumptions/78.md). -/

namespace Sys2Proof.Machine

/-- A directed edge of the network: from, to, cost. -/
abbrev NetEdge := Nat × Nat × Nat

/-- Edges that do not touch this hub, from the LSAs (R492). -/
def netEdges (s : State) : List NetEdge :=
  s.sky.lsas.flatMap (fun l =>
    if l.origin = s.sky.hub then []
    else (l.links.filter (fun x => decide (x.hub ≠ s.sky.hub))).map (fun x => (l.origin, x.hub, x.cost)))

/-- A path's cost and links: the lesser of two. -/
def shorter (a b : Nat × Nat) : Bool := decide (a.1 < b.1) || (decide (a.1 = b.1) && decide (a.2 < b.2))

/-- Best known path to each hub. -/
abbrev PathTab := Tab (Option (Nat × Nat))

/-- One pass over the edges: each shortens the path to its end where it can. -/
def relax (edges : List NetEdge) (d : PathTab) : PathTab :=
  edges.foldl (fun d e =>
    match d.get e.1 with
    | none => d
    | some (c, n) =>
      let x := (c + e.2.2, n + 1)
      match d.get e.2.1 with
      | none => d.set e.2.1 (some x)
      | some y => if shorter x y then d.set e.2.1 (some x) else d) d

/-- A number of passes. -/
def relaxN (edges : List NetEdge) : Nat → PathTab → PathTab
  | 0, d => d
  | n + 1, d => relaxN edges n (relax edges d)

/-- Least-cost paths that leave by a port and do not return through this hub (R493, R501). -/
def pathsBy (s : State) (edges : List NetEdge) (p : Nat) : PathTab :=
  match (s.port p).neigh with
  | none => []
  | some n => relaxN edges (s.sky.lsas.length + 1) (Tab.set [] n.hub (some ((s.port p).cost, 1)))

/-- Paths to one destination by each port, those of at most 15 links alone (R493). -/
def choices (tabs : List (Nat × PathTab)) (dest : Nat) : List (Nat × Nat × Nat) :=
  tabs.filterMap (fun t => (t.2.get dest).bind (fun x => if x.2 ≤ 15 then some (t.1, x) else none))

/-- The best choice: least cost, fewest links, lowest port. -/
def bestChoice (l : List (Nat × Nat × Nat)) : Option (Nat × Nat × Nat) :=
  l.foldl (fun b x => match b with
    | none => some x
    | some y => if shorter x.2 y.2 then some x else b) none

/-- Whether the least-cost path to a destination, whatever its length, has at most 15 links (R493). -/
def reaches (tabs : List (Nat × PathTab)) (dest : Nat) : Bool :=
  match bestChoice (tabs.filterMap (fun t => (t.2.get dest).map (fun x => (t.1, x)))) with
  | some x => decide (x.2.2 ≤ 15)
  | none => false

/-- One entry per destination, with its alternate port (R493, R501). -/
def fullRoutes (tabs : List (Nat × PathTab)) (dests : List Nat) : List Route :=
  dests.filterMap (fun d =>
    if !reaches tabs d then none
    else (bestChoice (choices tabs d)).map (fun x =>
      { pfx := d, len := 10, prim := x.1
        alt := (bestChoice ((choices tabs d).filter (fun y => decide (y.1 ≠ x.1)))).map (·.1) }))

/-- Two entries leave by the same ports. -/
def Route.alike (a b : Route) : Bool := decide (a.len = b.len ∧ a.prim = b.prim ∧ a.alt = b.alt)

/-- Two sibling prefixes of one length that leave by the same ports become one. -/
def mergeAt (len : Nat) (l : List Route) : List Route :=
  l.flatMap (fun r =>
    if r.len = len then
      let sib := if r.pfx % 2 = 0 then r.pfx + 1 else r.pfx - 1
      if l.any (fun x => decide (x.pfx = sib) && x.alike r) then
        (if r.pfx % 2 = 0 then [{ r with pfx := r.pfx / 2, len := len - 1 }] else [])
      else [r]
    else [r])

/-- Aggregation into prefixes (R493). -/
def aggregate (l : List Route) : List Route := (List.range 10).foldl (fun l (k : Nat) => mergeAt (10 - k) l) l

/-- What fits the table (R494): beyond 256 entries, those for hubs below this one and a prefix-0 entry towards the time parent;
a root keeps as many as fit. -/
def fitRoutes (s : State) (l : List Route) : List Route :=
  let room := maxRoutes - s.sky.statics.length
  if l.length ≤ room then l
  else match s.time.parent with
    | some p => (l.filter (fun r => decide (r.prim ≠ p))).take (room - 1) ++ [{ pfx := 0, len := 0, prim := p, alt := s.time.alt }]
    | none => l.take room

/-- Hubs that the LSAs name, this one apart. -/
def netHubs (s : State) : List Nat :=
  ((s.sky.lsas.flatMap (fun l => l.origin :: l.links.map (·.hub))).filter (fun h => decide (h ≠ s.sky.hub) && decide (h ≠ 0))).eraseDups.mergeSort

/-- The table and the UNREACHABLE destinations as they will stand: the last ones written to the control-loop bank, else those that
wait for the boundary or are in force. -/
def routesToBe (s : State) : List Route × List Nat :=
  let sets := (s.host.ctlSeal ++ s.host.ctl).filterMap (fun c => match c with | .routes t u => some (t, u) | _ => none)
  sets.getLast?.getD (s.sky.nextTab.getD s.sky.routes, s.sky.unreach)

/-- Task 5 of R626: the table is computed whole and waits for the boundary (R493). A table that does not fit is journalled
(R494). -/
def routeTask (s : State) : State :=
  if s.sky.hub = 0 then s
  else
    let edges := netEdges s
    let tabs := (netPorts s).map (fun p => (p, pathsBy s edges p))
    let dests := netHubs s
    let all := aggregate (fullRoutes tabs dests)
    let fit := fitRoutes s all
    let table := withStatics s.sky.statics fit
    let unreach := dests.filter (fun d => !table.any (fun r => r.hits d))
    if (table, unreach) = routesToBe s then s
    else
      let s := ctlWrite (.routes table unreach) s
      when (decide (fit.length < all.length)) (post pApp 0x0803 0 [vU all.length, vU fit.length]) s

end Sys2Proof.Machine
end

