-- ==== Sys2Proof/Machine/Spares.lean ====
section
/-! DEFINITION. Step 6 of R29: spares enter and leave, take over and hand back at a swath boundary, and modulators stop to load
their sets (R97, R110 to R118, R126, R128 to R137 of 03). -/

namespace Sys2Proof.Machine

/-- A modulator stops at a boundary to load its set (R117, R129). -/
def stopMod (m g : Nat) (s : State) : State := s.modModu m (fun x => { x with running := false, stopAt := some g, loadAt := none })

/-- A modulator becomes the source of a channel's stream: its matching trims apply, and its element rotation is on, as it is in
service (R97, R118); a tile whose side-band has failed is not told (R15). -/
def enterService (m g : Nat) (trim : Option (Nat × Int)) (s : State) : State :=
  let on := tileReached s m
  let s := s.modModu m (fun x => { x with rotation := x.rotation || on })
  match trim with
  | some (k, o) => applyTrims m g k o s
  | none => s

/-- The chain settings of a channel stand on a spare from a boundary on, and its chains run as the channel's do (R112). -/
def copyChains (m ch g : Nat) (s : State) : State :=
  let p := s.pipe ch
  let t := (s.modChain m (fun _ => s.chain ch)).modPipe m (fun q => { q with lbFell := p.lbFell, ebFell := p.ebFell })
  turnMod s g m [.lb, .wb, .eb] t

/-- A spare replaces a channel's modulator for good (R134); the failed one stops, with what it had to load. Another channel's claim on
the spare is lost, and its demand is made again (R135). -/
def becomeRemapped (ch m criterion g : Nat) (s : State) : State :=
  let s := s.modModu (mainMod s ch) (fun x => { x with running := false, stopAt := none, loadAt := none, proposed := none })
  let s := s.modChan ch (fun c => { c with stopAsk := none, stopB := none })
  let s := match (s.spare m).claim with
    | some c => let s := s.modSpare m (fun x => { x with claim := none }); if c = ch then s else loseCover c s
    | none => s
  let s := withHealth (fun s => s.modChan ch (fun c => { c with cover := none, failure := none, cal := .remapped m })) s
  postAt (boundary g) pTile 0x020F (hChan ch) [vU m, vU criterion] (endHolds ch (boundary g) (setSpare m g .remapped (some ch) s))

/-! ## Channels -/

/-- A commanded shadow whose swaths have run out ends (0x0208). -/
def endShadow (ch g : Nat) (s : State) : State :=
  match (s.chan ch).cover with
  | some cv =>
    if cv.ordered && cv.entered && (match cv.endAt with | some e => decide (e ≤ g) | none => false) then
      s.modChan ch (fun c => { c with cover := none })
    else s
  | none => s

/-- The takeover at its boundary: the channel's samples come from the spare; the primary stops to load its set, or the spare stays
for good (R113, R126, R134), at once where the primary gives no valid codes. A spare that relieves a suspect one serves in its place,
and the primary, which has loaded its set, is matched to it (R114). A suspended sequence stays where it is (R132). -/
def takeOver (ch g : Nat) (s : State) : State :=
  match (s.chan ch).cover with
  | none => s
  | some cv =>
    let due := (cv.remap.isSome && cv.direct) || match cv.takeAt with | some b => decide (b ≤ g) | none => false
    if cv.serving then
      match cv.remap with
      | some k => becomeRemapped ch cv.spare k g s
      | none => s
    else if !cv.entered || !due || cv.suspended || !tileReached s ch then s
    else
      let s := switchSource ch g (some cv.spare) (enterService cv.spare g cv.trim s)
      match cv.remap with
      | some k => becomeRemapped ch cv.spare k g s
      | none =>
        let s := setSpare cv.spare g .serving (some ch) s
        if cv.from_.isSome then
          s.modChan ch (fun c => { c with cover := some { cv with serving := true, from_ := none, takeAt := none, trim := none, ranFrom := g } })
        else
        stopMod (mainMod s ch) g (s.modChan ch (fun c => { c with cover := some { cv with serving := true, stopped := true } }))

/-- The handback at a boundary (R113): the source returns, SPARE clears, the set counts as applied. It takes place as it was
scheduled, or without a match once the spare has failed (R116) or been reclaimed (R115); a primary that stands stopped runs first. The
boundary of the handback is the instant of the apply (log entry 145). -/
def handBack (ch g : Nat) (s : State) : State :=
  match (s.chan ch).cover with
  | none => s
  | some cv =>
    let regular := cv.handback && !cv.suspended
    if !cv.serving || cv.stopped || !(regular || cv.lost || cv.reclaimed) then s
    else
      let m := mainMod s ch
      let s := switchSource ch g (if m = ch then none else some m) (enterService m g (if regular then cv.trim else none) s)
      let s := endHolds ch (boundary g) (s.modChan ch (fun c => { c with cover := none }))
      roundDone m (setApplied m g 0 s)

/-- A shadow whose spare has been reclaimed ends (R115). -/
def yieldShadow (ch : Nat) (s : State) : State :=
  match (s.chan ch).cover with
  | some cv => if cv.reclaimed && !cv.serving then loseCover ch s else s
  | none => s

/-! ## Spares -/

/-- A spare's channel has a cover by it. -/
def coversBy (s : State) (m : Nat) : Bool :=
  match (s.spare m).source.bind (fun ch => (s.chan ch).cover) with
  | some cv => (decide (cv.spare = m) && cv.entered) || decide (cv.from_ = some m)
  | none => false

/-- A spare's channel is served by it for good. -/
def replacesFor (s : State) (m : Nat) : Bool :=
  match (s.spare m).source with
  | some ch => decide ((s.chan ch).cal = .remapped m)
  | none => false

/-- A spare that has no use any more returns to FREE (R113, R114, R126), with what it found at the tile reference; a set of its own
that waits is loaded at the next boundary (R117). -/
def releaseSpare (m g : Nat) (s : State) : State :=
  let sp := s.spare m
  let gone := (decide (sp.state = .shadow) || decide (sp.state = .serving)) && !coversBy s m
  let checked := decide (sp.state = .refcheck) && (sp.refGain.isSome || sp.claim.isSome)
  if !(gone || checked) then s
  else
    let s := match sp.refGain with
      | some k => applyTrims m g k (s.modu m).om s
      | none => s
    let s := setSpare m g .free none (s.modSpare m (fun x => { x with refFrom := none, refGain := none }))
    let s := if (s.modu m).proposed.isSome then s.modModu m (fun x => { x with loadAt := some (g + 1) }) else s
    let s := if checked then roundDone m s else s
    if sp.claim.isSome then s else spareFreed (tileOf m) s

/-- A FREE spare stops to load its own set (R117), or goes to the tile reference in CAL (R126). -/
def turnFree (m g : Nat) (s : State) : State :=
  let sp := s.spare m
  let due (o : Option Nat) : Bool := match o with | some b => decide (b ≤ g) | none => false
  if sp.state ≠ .free || !tileReached s m then s
  else if due (s.modu m).loadAt then stopMod m g s
  else if (s.tile (tileOf m)).calLeft.contains m && due sp.refFrom then setSpare m g .refcheck none s
  else s

/-- A failed spare is disconnected once nothing is served by it (R116, R137). -/
def failNow (m g : Nat) (s : State) : State :=
  let sp := s.spare m
  if !sp.fails || (decide (sp.state = .serving) && coversBy s m) || replacesFor s m then s
  else setSpare m g .failed none (s.modSpare m (fun x => { x with fails := false, refFrom := none, refGain := none }))

/-- A claimed spare enters SHADOW of its channel as soon as it is to be had (R112, R115), or takes the place of a primary that gives
no valid codes at once (R134). -/
def enterCover (ch g : Nat) (s : State) : State :=
  match (s.chan ch).cover with
  | none => s
  | some cv =>
    let m := cv.spare
    if cv.entered || !tileReached s m || (s.spare m).state ≠ .free || (s.modu m).stopAt.isSome || (s.spare m).fails || (cv.suspended && !cv.direct) then s
    else
      let s := s.modSpare m (fun x => { x with claim := none })
      match cv.remap, cv.direct with
      | some k, true =>
        copyChains m ch g (becomeRemapped ch m k g (switchSource ch g (some m) (enterService m g none s)))
      | _, _ =>
        let s := s.modChan ch (fun c => { c with cover := some { cv with entered := true, start := g, endAt := cv.len.map (g + ·) } })
        let s := if (s.chan ch).failure.isSome then endHolds ch (boundary g) s else s
        copyChains m ch g (setSpare m g .shadow (some ch) s)

/-- Step 6 of R29: what is scheduled for the boundary happens, then the spares that were freed by it return, and those that are
claimed enter. -/
def switchSpares (g : Nat) (s : State) : State :=
  let chans := s.front.chans.keys
  let spares := (List.range 96).map (768 + ·)
  let s := each chans (fun ch s => yieldShadow ch (handBack ch g (takeOver ch g (endShadow ch g s)))) s
  let s := each spares (fun m s => turnFree m g (releaseSpare m g s)) s
  let s := each s.front.chans.keys (fun ch s => enterCover ch g s) s
  each spares (fun m s => failNow m g s) s

/-! ## Interrupted stops (R128 to R130) -/

/-- An interrupted stop that the pair has agreed to begins at its boundary B: the modulator stops, and the samples of the stop are held
values with SUB and XCAL; without the agreement it is proposed for the next boundary (R128). -/
def interruptStop (ch g : Nat) (s : State) : State :=
  match (s.chan ch).stopAsk with
  | none => s
  | some b =>
    if g < b then s
    else
      let (n, s) := drawn s
      if !tileReached s ch || !stopAgreed n ch b s then askStop ch (g + 1) s
      else
        let s := s.modChan ch (fun c => { c with stopAsk := none, stopB := some g, lastStop := some g })
        stopMod (mainMod s ch) g (holdSamples ch { start := boundary g, stop := some (boundary (g + 2)), xcal := true } s)

/-- The interrupted stops of a boundary. -/
def interruptStops (g : Nat) (s : State) : State := each s.front.chans.keys (fun ch s => interruptStop ch g s) s

end Sys2Proof.Machine
end

