-- ==== Sys2Proof/Machine/Boundary.lean ====
section
/-! DEFINITION. The swath boundary and its fixed order (R29), the start of the streams (R45), an address change (R307), and
the control pass with its seal (R34 to R36, R626). -/

namespace Sys2Proof.Machine

/-! ## The counter over one swath (R275, R276, R278) -/

/-- In GRID mode the counter is trued at the first cycle of the swath; in FREE mode it has gone on by INC a tick. -/
def turnCounter (g : Nat) (s : State) : State :=
  if s.time.grid then
    { s with time := { s.time with
        swath := g, sec := g / Config.swathsPerSec, ns := 125000 * (g % Config.swathsPerSec), frac40 := 0 } }
  else { s with time := { s.time.runTo (boundary g) with swath := g } }

/-! ## Steps 1 and 2 of R29 -/

/-- A statistics stream ends when its definition is off and its last interval has been closed (R308). -/
def endStatStreams (g : Nat) (s : State) : State :=
  each s.str.streams.keys (fun key s =>
    let k := statIndex (sourceOf key) (instOfGsi key / 64) (instOfGsi key % 64)
    let x := s.stat k
    if decide (kindOf key = 4) && decide (statStream k = key) && !x.on && x.ended.isEmpty then endStream key (boundary g) s else s) s

/-- The hub resumes after a flush that has run to its end and whose cause has gone: the flush is void (R348). -/
def resumeFlush (s : State) : State :=
  if s.str.flush.resume && !s.str.flush.running then { s with str := { s.str with flush := { void := true } } } else s

/-! ## Step 3: the control-loop bank (R34 to R36, R622) -/

/-- One sealed setting takes effect. -/
def applyCtl (c : CtlSet) (s : State) : State :=
  match c with
  | .level n => applyLevel n s
  | .routes t u => noteUse 4 t.length { s with sky := { s.sky with routes := t, unreach := u } }
  | .rank i r k => s.modReq i r (fun x => { x with shadow := some k })
  | .commit => each (List.range 25) commitRanks s
  | .writer i r => s.modReq i r (fun x => { x with disabled := false })
  | .repair t g w => orderRepair t g w s
  | .cal t => calTile t s

/-- The firmware's settings for the swath take effect when it has sealed them; otherwise the hub counts an overrun and every
setting stays, those written to the bank waiting for a seal. Without REFCLK_MEAS the PLL holds its last control word (R304). -/
def turnControl (s : State) : State :=
  let runs := s.mgmt.verified && !s.mgmt.warm
  let s := if s.host.sealed then
      each s.host.ctlSeal applyCtl
        { s with time := { s.time with f := if s.mgmt.refLost then s.time.f else s.time.fSeal.getD s.time.f, fSeal := none }
                 host := { s.host with ctlSeal := [] }
                 mgmt := { s.mgmt with overruns := 0 } }
    else
      { s with host := { s.host with overrun := s.host.overrun + 1 }
               mgmt := { s.mgmt with overruns := if runs then s.mgmt.overruns + 1 else s.mgmt.overruns } }
  { s with host := { s.host with sealed := false }
           mgmt := { s.mgmt with silent := if s.mgmt.passDone || !runs then 0 else s.mgmt.silent + 1, passDone := false } }

/-- Settings that a command ordered for the boundary: static routes (R493) and the sensor settings (R632). -/
def turnOrders (s : State) : State :=
  let s := match s.sky.nextTab with
    | some l => noteUse 4 l.length { s with sky := { s.sky with routes := l, nextTab := none } }
    | none => s
  applySensorSets s

/-! ## Step 4: the commit bank (R579, R580, R585) -/

/-- One committed stage applies and its command completes; a target of a network commit confirms. -/
def applyCommit (g : Nat) (k : Commit) (s : State) : State :=
  let n := (k.stage.changes.flatMap changeHandles).length
  let s := markStage k.stage.tenant k.stage.id 3 (applyStage g k s)
  match k.src with
  | some h => if h = s.sky.hub then confirmIn h k.stage.id s else sendMsg { kind := 6, dest := h, a := k.stage.id } s
  | none =>
    if k.silent then s
    else finishLater k.tenant k.queue k.tag { progress := n, result := if k.now then [] else boundaryBytes k.at_ } (some 3) s

/-- Every stage committed to this boundary, in order of acceptance. -/
def turnCommits (g : Nat) (s : State) : State :=
  let due := s.host.bank.filter (fun k => decide (k.at_ ≤ g))
  let s := { s with host := { s.host with bank := s.host.bank.filter (fun k => !decide (k.at_ ≤ g)) } }
  let s := each due (applyCommit g) s
  if due.isEmpty then s else noteUse 13 (lineCount s) s

/-- Shaft groups that have entered TIME, or return from it, change the mode of their chains (R222, R223, R237). -/
def turnShafts (g : Nat) (s : State) : State :=
  each (List.range 32) (fun grp s =>
    let s := if (s.shaft grp).fellBack then
        fallStats grp g (turnGroup g grp true (s.modShaft grp (fun x => { x with fellBack := false })))
      else s
    if !(s.shaft grp).returnAt then s
    else
      let x := s.shaft grp
      let s := if x.state = .time then
          let s := s.modShaft grp (fun x => { x.keepRev with state := .locked, good := 0, winEnd := 0, segs := [] })
          sendDecision (.shaft grp .locked x.revs false) (post pApp 0x0401 (hShaft grp) [vU 4, vU 2, vU x.revs] s)
        else s
      turnGroup g grp false (s.modShaft grp (fun x => { x with returnAt := false }))) s

/-! ## Step 5: counter writes (R33, R602) -/

/-- A counter write takes effect at the boundary: one of the last 2 µs before it at this one or the next, by a free value. -/
def turnWrite (g : Nat) (w : CtrWrite) (s : State) : State :=
  let (n, s) := drawn s
  let near := decide (boundary g < w.at_ + nsSpan 2000)
  if boundary g < w.at_ || (near && !Config.lateWrite n) then
    { s with host := { s.host with writes := s.host.writes ++ [{ w with at_ := if boundary g < w.at_ then w.at_ else 0 }] } }
  else finishLater w.tenant w.queue w.tag {} (some 3) (writeCtr w.key w.value s)

/-- The writes that wait, in order. -/
def turnWrites (g : Nat) (s : State) : State :=
  each s.host.writes (turnWrite g) { s with host := { s.host with writes := [] } }

/-! ## What else turns at a boundary -/

/-- Fast acquisitions that wait for the boundary (R64, R68); those of a start-up run in CAL (R65). -/
def turnAcquisitions (g : Nat) (s : State) : State :=
  if s.mgmt.startup = .boot || s.mgmt.startup = .memTrain then s
  else each s.front.chans.keys (fun c s => if (s.chan c).acqPending then startAcquisition c g s else s) s

/-- Rate caps set since the last boundary, before which the buckets fill at the old ones (R554, R561), and the numbers of ended
sessions (R537). -/
def turnTenants (s : State) : State :=
  { s with host := { s.host with tenants := Tab.keep (fun x =>
      if x.ended then {}
      else if !x.used then x
      else
        let cap := x.capNext.getD x.cap
        { x.fill (max s.now (boundary s.time.swath)) with cap := cap, capNext := none }) s.host.tenants } }

/-- A stream's source still delivers samples by earlier settings (R180, R181). -/
def tailStands (s : State) (key : Nat) : Bool :=
  (chainMembers s (sourceOf key)).any (fun m => (s.front.tails.get m).any (fun t => decide (t.band = bandOf (kindOf key))))

/-- Open records close at the end of their window: a sample record once every sample of the window is available (R312), the samples of
earlier settings included (R181). -/
def closeRecords (g : Nat) (s : State) : State :=
  each s.str.streams.keys (fun key s =>
    match (s.stream key).openRec with
    | none => s
    | some r =>
      let k := kindOf key
      let wait := if isSampleKind k then availSpan s (sourceOf key) (bandOf k) else 0
      if r.stop + wait ≤ boundary g && !(isSampleKind k && tailStands s key) then s.modStream key Stream.close else s) s

/-- The tile links at a boundary: wires under repair, and swaths since the last parity review (R108). -/
def turnLinks (g : Nat) (s : State) : State :=
  let s := each (List.range 48) (fun key s => turnLink key g s) s
  { s with front := { s.front with reviewed := s.front.reviewed + 1 } }

/-- The slot from which the image runs stands as ACTIVE in the boot control record, and its security version in the fuses
(R617, R620). `live` says which of the two confirmations has come. -/
def confirmSlot (live : Bool) (s : State) : State :=
  match s.mgmt.booted with
  | none => s
  | some n =>
    let b := decide (n = 1)
    let x := if b then s.mgmt.slotB else s.mgmt.slotA
    if x.try_.isNone || x.live ≠ live then s
    else
      let y := { x with try_ := none, live := false }
      let s := { s with mgmt := if b then { s.mgmt with slotB := y, activeB := true } else { s.mgmt with slotA := y, activeB := false } }
      if s.mgmt.secver ≤ s.mgmt.rollback then s
      else post pSafety 0x0B04 0 [vU s.mgmt.rollback, vU s.mgmt.secver] { s with mgmt := { s.mgmt with rollback := s.mgmt.secver } }

/-- The pair at a boundary: the join (R526), the swap (R531), the update of this member (R532). -/
def turnPair (g : Nat) (s : State) : State :=
  let was := s.clover.state
  let s := formPair g s
  let s := if s.clover.state = .formed && decide (was ≠ .formed) then confirmSlot true s else s
  let s := swapRoles g s
  s.modClover (fun c =>
    if c.updNext then { c with updNext := false, update := true, ramp := 0 }
    else if c.update then { c with ramp := min 32 (c.ramp + 1) } else c)

/-- F of the swath that begins, where it begins in LOCKED (R301), and the loop resets of a second that has ended (R133). -/
def turnSeconds (g : Nat) (s : State) : State :=
  let s := when (decide (s.time.state = .locked)) (fun s => { s with time := { s.time with fRuns := addRun s.time.f s.time.fRuns } }) s
  if g % Config.swathsPerSec ≠ 0 then s
  else { s with front := { s.front with mods := Tab.keep (fun m => { m with resetsSec := 0 }) s.front.mods } }

/-- Items lost from staging in the swath that ends are journalled (R402, R645). -/
def turnStaging (g : Nat) (s : State) : State :=
  if s.mem.lostNow = 0 then s
  else
    let p := g - 1
    let s := post pStream 0x0604 0 [vU s.mem.lostNow, vU (p % Config.swathsPerSec), vT (p / Config.swathsPerSec)] s
    { s with mem := { s.mem with lostNow := 0 } }

/-- The boundary of swath g (R29), with everything that the other chapters tie to a boundary; `bias` gives the bias estimates
of the swath that ends (R62, R67). -/
def turnSwath (g : Nat) (bias : List (Nat × Int)) (s : State) : State :=
  let s := judgeShots (each bias (fun p s => biasSwath p.1 p.2 s) (touch (boundary g) (turnCounter g s)))
  let s := if s.ready then endStatStreams g (closeStats g (turnSwathIntervals g s)) else s
  let s := closeRecords g (streamEvents s)
  let s := skipAll (publishAll g (resumeFlush s))
  let s := turnOrders (turnControl (groupSwaths s))
  let s := turnShafts g (turnHolds g (turnCommits g s))
  let s := turnWrites g s
  let s := switchSpares g (interruptStops g s)
  let s := turnAcquisitions g s
  let s := turnLinks g (finishEntries (tallyRefusals s))
  let s := applySubEvents (completeLatency s)
  let s := turnTenants s
  let s := takeArmed 2 (boundary g) s
  let s := turnPair g s
  let s := turnStaging g (turnSeconds g s)
  sendRemotes (sendMsgs (raiseDue (streamEvents (journalDrain 208 s))))

/-- SWATH_BOUNDARY (R29): a hub in reset, or whose measurement PLL has not locked, has no swaths. The control side-bands of the tiles
`side` have failed in the swath that ends (R15). -/
def execSwathBoundary (x : SwathIn) (s : State) : Out :=
  event (x.bias.all (fun p => isChannel p.1) && x.side.all isTile) <|
    if s.mgmt.resetLow || s.mgmt.held || !s.mgmt.measLock then s
    else turnSwath (s.time.swath + 1) x.bias (each x.side (fun t s => s.modTile t (fun x => { x with sideFail := true })) s)

/-! ## The start of the streams (R45, R308) -/

/-- Keys of the streams that exist from READY on (R308): chain and statistics streams that are enabled, and every tach, event,
housekeeping and tussock stream. -/
def startKeys (s : State) : List Nat :=
  (allMods.flatMap (fun m => [Band.lb, .wb, .eb].filterMap (fun b =>
      if bandRuns s m b then some (streamKey m (bandKind b) 0) else none)))
    ++ (s.red.stats.filter (fun p => p.2.on)).map (fun p => statStream p.1)
    ++ (List.range 32).flatMap (fun (n : Nat) => [tachStream n 0, tachStream n 1])
    ++ [eventKey, houseKey]
    ++ allMods.flatMap (fun m => [1, 2, 3].map (fun (k : Nat) => streamKey m 5 k))

/-- The record of a tussock that the reset cut short and whose number lies below what its stream had published (R350). -/
def cutRecord (s : State) (x : Tussock) (body : List Byte) : Record :=
  { gsi := gsiOf s x.gsi, first := x.seq, items := [{ t := x.trig, fl := x.flags, body := body }], flags := 0x40#16
    start := x.trig, stop := x.trig, qual := x.quality }

/-- The tussocks that the reset cut short are published, each with its original sequence number (R259, R350). -/
def publishCut (s : State) : State :=
  let mine := (s.red.tussocks.filter (fun x => !x.published && decide (x.state = 3))).mergeSort (fun a b => decide (a.seq ≤ b.seq))
  each mine (fun x s =>
    let body := x.header (gsiOf s x.source) x.quality
    let s := startStream x.gsi s
    let s := if (s.stream x.gsi).next ≤ x.seq then
        publishTussock x body (s.modStream x.gsi (fun st => { st.close with next := x.seq }))
      else (markPublished x s).modStream x.gsi (fun st => { st with closed := st.closed ++ [cutRecord s x body] })
    s) s

/-- The retention of a subscription that the reset detached runs from READY on (R340). -/
def startRetention (s : State) : State :=
  { s with str := { s.str with subs := s.str.subs.map (fun p => (p.1, p.2.map (fun u =>
      if u.state = .detached && u.since.isNone then { u with since := some s.now } else u))) } }

/-- SWATH intervals that start with the streams (R230, R236). -/
def startIntervals (g : Nat) (s : State) : State :=
  each s.red.stats.keys (fun k s => openInterval k g [] s) s

/-- The streams may start: SYNC has been left, the second has come, and no partner is being searched for or joined. -/
def mayStart (sec : Nat) (s : State) : Bool :=
  decide (s.mgmt.startup = .sync) && s.time.syncLeft.isSome && s.time.grid && decide (s.time.syncFrom ≤ sec)
    && decide (s.clover.state ≠ .search) && decide (s.clover.state ≠ .joining)

/-- STREAMS_START (R45). -/
def execStreamsStart (sec : Nat) (s : State) : Out :=
  .next <|
    if !mayStart sec s then s
    else
      let s := touch (sec * secSpan) s
      let s := withHealth (fun s => { s with mgmt := { s.mgmt with startup := .ready } }) { s with time := { s.time with syncFrom := sec } }
      let s := each (startKeys s) startStream s
      let s := { s with red := { s.red with
          tachs := Tab.keep (fun x => { x with edgeCount := 0 }) s.red.tachs
          units := Tab.keep (fun v => { v with timeK := max v.timeK (v.eventsBefore (sec * secSpan)) }) s.red.units } }
      confirmSlot false (startRetention (publishCut (startIntervals (sec * Config.swathsPerSec) s)))

/-! ## A new address (R307) -/

/-- ADDRESS_APPLY (R307): at a boundary at which every open record closes. -/
def execAddressApply (s : State) : Out :=
  .next <|
    match s.sky.next with
    | none => s
    | some a =>
      if s.str.streams.any (fun p => p.2.exists_ && decide (s.time.swath % max 1 p.2.window ≠ 0)) then s
      else
        let s := each s.str.streams.keys (fun k s => s.modStream k (fun st =>
          if st.exists_ then st.cut (boundary s.time.swath) st.window true else st)) s
        let old := s.sky.hub
        let s := setAddress a s
        post pSkecy 0x0602 0 [vU old, vU a] s

/-! ## The control pass (R626) -/

/-- ±100 ppm of 60 in units of 2^-40 (R280). -/
def fLimit : Int := 6597069766
/-- 0.05 ppm of 60 in units of 2^-40 (R281). -/
def fStep : Int := 3298534

/-- A value within ± a bound. -/
def within (b v : Int) : Int := max (-b) (min b v)

/-- F for the swath whose bank is being written: the request clamped to ±100 ppm and approached in steps of 0.05 ppm from the F
before it; both are counted (R280, R281). -/
def requestF (want : Int) (s : State) : State :=
  let c := within fLimit want
  let f := s.time.fSeal.getD s.time.f
  let n := f + within fStep (c - f)
  let s := when (decide (c ≠ want)) (bump (timeCtr 2)) s
  let s := when (decide (n ≠ c)) (bump (timeCtr 3)) s
  { s with time := { s.time with fWant := c, fBank := some n } }

/-- ±0.25 ns in 1/256 ns (R298). -/
def closeOffset : Nat := 64

/-- F by which a SLEW removes the offset (R303): `slew` is in 0.01 ppm. -/
def slewF (s : State) : Int :=
  let d : Int := s.time.slew * fLimit / 10000
  if 0 < s.time.offset then s.time.integ - d else s.time.integ + d

/-- ERR from the parent, from the hub's own source or from holdover (R270, R301, R303): 0.5 ns are added for a hop. -/
def errNow (s : State) : Nat :=
  if s.mgmt.refLost then 31
  else
    let left := if s.time.slewing = 0 then 0 else s.time.offset.natAbs / 64
    match s.time.state with
    | .unsync => 31
    | .holdover => errCode (holdBound s s.now)
    | _ => match s.time.parent with
      | some p => errCode (2 ^ ((s.time.xchg.get p).qual.toNat / 2048) + 2 + left)
      | none => if left = 0 then s.time.srcErr else errCode (2 ^ s.time.srcErr + left)

/-- What a hub that follows its parent inherits from the parent's QUALITY (R270, R293). -/
def inherit (s : State) : State :=
  match s.time.parent with
  | none => s
  | some p =>
    if s.time.state = .holdover then s
    else
    let q := (s.time.xchg.get p).qual.toNat
    { s with time := { s.time with hops := min 15 (q / 128 % 16 + 1), cls := q / 8 % 8, tai := decide (q / 4 % 2 = 1) } }

/-- The frequency loop of one pass (R280 to R283): none without a reference, in UNSYNC, or where a slew or the holdover
mean gives F. -/
def servoLoop (s : State) : State :=
  let bw := if s.time.state = .locked then s.time.bandmHz else 10000
  if s.mgmt.refLost then s
  else match s.time.state with
    | .unsync => s
    | .holdover => requestF s.time.fWant s
    | _ =>
      if s.time.slewing ≠ 0 then requestF (slewF s) s
      else
        let want := Config.servo s.time.offset s.time.integ bw
        requestF want { s with time := { s.time with integ := Config.servoIntegral s.time.offset s.time.integ bw } }

/-- ACQUIRE becomes LOCKED (R298, step 8) once the offset has stayed near for long enough and the bound to the root is small. -/
def lockIfNear (s : State) : State :=
  if s.time.state = .acquire && s.ready && decide (lockSwaths ≤ s.time.within) && decide (rootBound s ≤ 16) then
    { s with time := { s.time with state := .locked } }
  else s

/-- A counter in FREE mode: the pass sets INC, and may load the whole counter at once, with a value the spec does not state (R275,
R278). -/
def freePass (s : State) : State :=
  let i := (Config.freeInc s.time.offset).toNat
  let (n, s) := drawn { s with time := { s.time.runTo (tickAt s.now) with inc := BitVec.ofNat 48 (max 0x020000000000 (min 0x030000000000 i)) } }
  if Config.draw n % 2 = 0 then s
  else
    let (a, s) := drawn s
    let (b, s) := drawn s
    { s with time := { s.time with
        sec := Config.draw a % 2 ^ 48, ns := Config.draw b / 2 ^ 40 % 1000000000, frac40 := Config.draw b % 2 ^ 40 } }

/-- Consecutive swaths near the parent, or the own source, and the end of a SLEW (R298, R303). -/
def countNear (s : State) : State :=
  let near := decide (s.time.offset.natAbs ≤ closeOffset)
  { s with time := { s.time with
      within := if near && decide (s.time.state ≠ .unsync) then s.time.within + 1 else 0
      slewing := if near then 0 else s.time.slewing } }

/-- The servo of the measurement PLL (R278, R280 to R282, R301, R303), and the quality that follows from the offset. -/
def servoTask (s : State) : State :=
  let s := servoLoop (inherit (if s.time.grid then countNear s else freePass s))
  lockIfNear { s with time := { s.time with err := errNow s } }

/-- The parity review of every 64 swaths (R108). -/
def reviewTask (s : State) : State :=
  if s.front.reviewed < 64 then s
  else each (List.range 12) reviewTile { s with front := { s.front with reviewed := 0 } }

/-- One task of the table of R626; sensor alarms, task 8, are judged as readings come (R631). -/
def passTask (k : Nat) (s : State) : State :=
  match k with
  | 1 => servoTask s
  | 2 => starvationPass s.time.swath s.now s
  | 3 => thermalPass s.time.swath s
  | 4 => reenableWriters s
  | 5 => routeTask s
  | 6 => calTask s
  | 7 => reviewTask s
  | _ => s

/-- The tasks of a pass in order: those deferred from the last one first. -/
def passTasks (s : State) : List Nat :=
  s.mgmt.deferred ++ ((List.range 8).map (· + 1)).filter (fun k => !s.mgmt.deferred.contains k)

/-- CONTROL_PASS (R626): `slots` tasks are reached before the seal; the others are deferred. What a pass writes after the seal
belongs to the swath after the next (R34). -/
def execControlPass (slots : Nat) (s : State) : Out :=
  .next <|
    if !s.mgmt.verified || s.mgmt.warm || s.mgmt.held || s.mgmt.resetLow || s.mgmt.passDone then s
    else
      let l := passTasks s
      let s := each (l.take slots) passTask s
      { s with mgmt := { s.mgmt with deferred := l.drop slots, passDone := true } }

/-- CONTROL_LOOP_SEAL (R34, R36, R626): one sealing write a swath; everything written to the bank since the last seal is sealed. -/
def execControlLoopSeal (s : State) : Out :=
  .next <|
    if !s.mgmt.verified || s.mgmt.warm || s.mgmt.held || s.mgmt.resetLow || s.host.sealed then s
    else { s with
      host := { s.host with sealed := true, ctlSeal := s.host.ctl, ctl := [] }
      time := { s.time with fSeal := s.time.fBank, fBank := none } }

end Sys2Proof.Machine
end

