-- ==== Sys2Proof/Machine/Registers.lean ====
section
/-! DEFINITION. Reading the registers of PF and VF BAR0 (R4, R9 to R11 of 00 and 01; R541 to R550 of 14; R279 of 07). A field that no
table names is reserved and reads 0 (R11); a WO field reads 0 (R10). -/

namespace Sys2Proof.Machine

/-- The fields of a register word, as (lowest bit, width, value). -/
def fields (l : List (Nat × Nat × Nat)) : Nat := (l.map (fun f => f.2.2 % 2 ^ f.2.1 * 2 ^ f.1)).sum

/-- A truth value as a one-bit field. -/
def flag (b : Bool) : Nat := if b then 1 else 0

/-- PCI Vendor ID, PF and VF Device IDs and Revision ID (R4, R534). -/
def pciVendor : Nat := 0xCB17
/-- PCI Device ID of a function. -/
def pciDevice (fn : Nat) : Nat := if fn = 0 then 0x0768 else 0x0769
/-- PCI Revision ID. -/
def pciRevision : Nat := 0xC0

/-- ID_DEVICE, on the PF and every VF: 0x0768_CB17. -/
def idDevice : Nat := fields [(0, 16, pciVendor), (16, 16, 0x0768)]

/-- ADM_STATUS. -/
def admStatus (f : Func) : Nat := fields [(0, 1, flag f.ready), (1, 1, flag f.failed), (16, 16, f.code)]

/-- The words of the ADM_ block from 0x1000 on. -/
def admWord (f : Func) (i : Nat) : Nat :=
  match i with
  | 0 => flag f.enable
  | 1 => admStatus f
  | 2 => f.sqBase % 2 ^ 32
  | 3 => f.sqBase / 2 ^ 32 % 2 ^ 32
  | 4 => f.cqBase % 2 ^ 32
  | 5 => f.cqBase / 2 ^ 32 % 2 ^ 32
  | _ => fields [(0, 13, f.sqSize), (16, 13, f.cqSize)]

/-- TEN_SELF: the function's tenant while its session is open (notes/assumptions/153.md). -/
def tenSelf (s : State) (fn : Nat) : Nat :=
  match (s.func fn).tenant with
  | some t => fields [(0, 6, t), (6, 1, 1), (7, 1, flag (decide (fn ≠ 0))), (8, 6, fn)]
  | none => 0

/-- TEN_CAP: the rate cap and the class ranks. -/
def tenCap (s : State) (fn : Nat) : Nat :=
  let cap := match (s.func fn).tenant with | some t => (s.tenant t).cap | none => 0
  let ranks := if s.mgmt.verified then (s.mem.latRank, s.mem.bulkRank) else (4, 8)
  fields [(0, 12, cap), (16, 4, ranks.1), (20, 4, ranks.2)]

/-- TEN_MAP of tenant n. -/
def tenMap (s : State) (n : Nat) : Nat :=
  let x := s.tenant n
  if !x.used then 0
  else fields [(0, 1, 1), (1, 2, x.kind), (3, 6, if x.kind = 1 then x.vf else 0), (16, 10, if x.kind = 2 then x.hub else 0)]

/-- VIOL_STATUS. -/
def violStatus (f : Func) : Nat := fields [(0, 5, f.viols.length), (8, 1, flag f.lost), (16, 16, f.total)]

/-- Word k of a violation entry. -/
def violWord (v : Viol) (k : Nat) : Nat :=
  match k with
  | 0 => v.addr % 2 ^ 32
  | 1 => v.addr / 2 ^ 32 % 2 ^ 32
  | 2 => fields [(0, 4, v.kind), (4, 1, flag v.write), (5, 1, flag v.abort), (6, 6, v.tenant), (16, 16, v.requester)]
  | _ => v.time % 2 ^ 32

/-- Instance and requester of an offset in the HEALTH_ARB blocks. -/
def arbAt (off : Nat) : Nat × Nat :=
  if off < 0x6000 then ((off - 0x4000) / 0x400, (off - 0x4000) % 0x400 / 8)
  else if off < 0xE000 then (8 + (off - 0x6000) / 0x800, (off - 0x6000) % 0x800 / 8)
  else (24, (off - 0xE000) / 8)

/-- The low word of HEALTH_ARB: the ranks read 0 until firmware has written the defaults of R414 in BOOT (R9). -/
def arbLow (s : State) (i r : Nat) : Nat :=
  let x := s.req i r
  let ranks := if s.mgmt.verified then [(0, 4, rankOf s i r), (4, 4, shadowOf s i r)] else []
  fields (ranks ++ [(8, 1, flag x.since.isSome), (9, 1, flag (decide ((s.inst i).owner = some r))), (10, 1, flag x.disabled),
    (11, 1, flag x.promoted)])

/-- Word k of HEALTH_FURZE of a channel. -/
def furzeWord (c : DramChan) (k : Nat) : Nat :=
  match k with
  | 0 => c.fEvents % 2 ^ 32
  | 4 => fields [(0, 8, c.fReq), (8, 6, c.fBank)]
  | 5 => c.fGroup % 2 ^ 32
  | 6 => c.fTime % 2 ^ 32
  | 7 => 0
  | _ => ((List.range 32).map (fun r => if c.throttled.contains (32 * (k - 1) + r) then 2 ^ r else 0)).sum

/-- The MSI-X pending-bit array (R541, R542). -/
def pendingBits (f : Func) : Nat := ((List.range 16).map (fun v => if f.pend.get v then 2 ^ v else 0)).sum

/-- The 32-bit word that an offset of a function's map holds. -/
def readWord32 (s : State) (fn off : Nat) : Nat :=
  let f := s.func fn
  if off = 0x00 then idDevice
  else if off = 0x04 then (idRevision s).toNat
  else if off = 0x08 then Config.uid.toNat % 2 ^ 32
  else if off = 0x0C then Config.uid.toNat / 2 ^ 32
  else if off = 0x10 then (idHub s).toNat
  else if off = 0x40 then (healthState s).toNat
  else if off = 0x44 then (healthError s).toNat
  else if off = 0x48 then s.host.overrun.toNat % 2 ^ 32
  else if off = 0x4C then s.host.overrun.toNat / 2 ^ 32
  else if off < 0x1000 then 0
  else if off < 0x101C then admWord f ((off - 0x1000) / 4)
  else if off < 0x1100 then 0
  else if off = 0x1100 then tenSelf s fn
  else if off = 0x1104 then tenCap s fn
  else if off < 0x1200 then 0
  else if off < 0x1300 then tenMap s ((off - 0x1200) / 4)
  else if off = 0x2000 then violStatus f
  else if off < 0x2010 then 0
  else if off < 0x2110 then ((f.viols[(off - 0x2010) / 16]?).map (fun v => violWord v (off % 16 / 4))).getD 0
  else if off < 0x3028 then (timeRegs s fn).getD ((off - 0x3000) / 4) 0
  else if msixBase fn ≤ off && off < msixBase fn + 0x100 then msixWord ((off - msixBase fn) / 4) (f.msix.get ((off - msixBase fn) / 4))
  else if off = msixBase fn + 0x1000 then pendingBits f
  else if off = msixBase fn + 0x1004 then 0
  else if fn ≠ 0 then 0
  else if 0x4000 ≤ off && off < 0xF000 then
    let (i, r) := arbAt off
    if off % 8 = 0 then arbLow s i r else ageOf s i r s.now
  else if 0xF000 ≤ off && off < 0xF100 then furzeWord (s.dram ((off - 0xF000) / 0x20)) (off % 0x20 / 4)
  else 0

/-- An offset of ADM_ base and size, DB_ or VIOL_CLEAR, where a VF with ENABLE 1 and no session gets NO_SESSION (R548). -/
def needsSession (off : Nat) : Bool :=
  (decide (0x1008 ≤ off) && decide (off < 0x101C)) || (decide (0x1040 ≤ off) && decide (off < 0x1080)) || decide (off = 0x2004)

/-- The data that a read gives, and the state after it: reading the low word of a 64-bit RO register latches the high word, and the
next read of the high word returns what was latched (R543). -/
def readReg (fn off width : Nat) (s : State) : Nat × State :=
  if width = 8 then (readWord32 s fn off + 2 ^ 32 * readWord32 s fn (off + 4), s)
  else match highWord s fn off with
    | some h => (readWord32 s fn off, s.modFunc fn (fun f => { f with latched := f.latched.set off (some h) }))
    | none => match (s.func fn).latched.get (off - 4) with
      | some h => (h, s.modFunc fn (fun f => { f with latched := f.latched.set (off - 4) none }))
      | none => (readWord32 s fn off, s)

/-- The completion of the function's latest register read: its data, or none where the read gets UR or CA. -/
def answerRead (fn : Nat) (d : Option Nat) (s : State) : State := s.modFunc fn (fun f => { f with readData := d })

/-- HIGH_WORD_LATCH_READ (R10, R11, R543, R548): a register of the function's map is read. -/
def execHighWordLatchRead (fn : Nat) (x : ReadIn) (s : State) : Out :=
  let { offset, width, t } := x
  let s := touch t s
  event (isFn fn) <|
    let f := s.func fn
    if !mapped fn offset then answerRead fn none (badAccess fn 1 offset false t s)
    else if !sized fn offset width then answerRead fn none (badAccess fn 2 offset false t s)
    else if needsSession offset && decide (fn ≠ 0) && f.enable && f.tenant.isNone then
      answerRead fn none (badAccess fn 5 offset false t s)
    else
      let (d, s) := readReg fn offset width s
      answerRead fn (some d) s

end Sys2Proof.Machine
end

