-- ==== Sys2Proof/Machine/Dispatch.lean ====
section
/-! DEFINITION. One arm per command, each a direct call of its meaning. -/

namespace Sys2Proof.Machine

/-- The effect of a command on everything but the queue. -/
def exec (i : Instr) (s : State) : Host.Outcome State Fault Refusal :=
  match i with
  | .resetNAssert lowNs => Sys2Proof.Machine.execResetNAssert lowNs s
  | .resetNRelease s0 s1 s2 => Sys2Proof.Machine.execResetNRelease s0 s1 s2 s
  | .imageVerified a b buses => Sys2Proof.Machine.execImageVerified a b buses s
  | .pllLock p => Sys2Proof.Machine.execPllLock p s
  | .pllLockTimeout p => Sys2Proof.Machine.execPllLockTimeout p s
  | .tileLinkTrainingDone tile bad => Sys2Proof.Machine.execTileLinkTrainingDone tile bad s
  | .dramTrainingDone dimms lanes => Sys2Proof.Machine.execDramTrainingDone dimms lanes s
  | .modulatorStart tile => Sys2Proof.Machine.execModulatorStart tile s
  | .calComplete t => Sys2Proof.Machine.execCalComplete t s
  | .syncExit t => Sys2Proof.Machine.execSyncExit t s
  | .freeRunningMaster t => Sys2Proof.Machine.execFreeRunningMaster t s
  | .streamsStart sec => Sys2Proof.Machine.execStreamsStart sec s
  | .gridStep parent => Sys2Proof.Machine.execGridStep parent s
  | .swathBoundary x => Sys2Proof.Machine.execSwathBoundary x s
  | .addressApply => Sys2Proof.Machine.execAddressApply s
  | .controlPass slots => Sys2Proof.Machine.execControlPass slots s
  | .controlLoopSeal => Sys2Proof.Machine.execControlLoopSeal s
  | .hkConversion slot code t => Sys2Proof.Machine.execHkConversion slot code t s
  | .urgentConversion sensor slot code => Sys2Proof.Machine.execUrgentConversion sensor slot code s
  | .refSettled tile => Sys2Proof.Machine.execRefSettled tile s
  | .housekeepingPeriod sensor t => Sys2Proof.Machine.execHousekeepingPeriod sensor t s
  | .thermalLevelExit => Sys2Proof.Machine.execThermalLevelExit s
  | .thermalTrip sensor => Sys2Proof.Machine.execThermalTrip sensor s
  | .thermalTripRelease s0 s1 s2 sensor value => Sys2Proof.Machine.execThermalTripRelease s0 s1 s2 sensor value s
  | .pwrfailNAssert lowNs t => Sys2Proof.Machine.execPwrfailNAssert lowNs t s
  | .flushComplete => Sys2Proof.Machine.execFlushComplete s
  | .pwrfailNDeassert => Sys2Proof.Machine.execPwrfailNDeassert s
  | .brownOut => Sys2Proof.Machine.execBrownOut s
  | .internalResetRelease s0 s1 s2 => Sys2Proof.Machine.execInternalResetRelease s0 s1 s2 s
  | .fullReset cause => Sys2Proof.Machine.execFullReset cause s
  | .refLost => Sys2Proof.Machine.execRefLost s
  | .refReturned offset => Sys2Proof.Machine.execRefReturned offset s
  | .refclkLaneLost => Sys2Proof.Machine.execRefclkLaneLost s
  | .refclkPcieLost => Sys2Proof.Machine.execRefclkPcieLost s
  | .sramUncorrectable safety addr => Sys2Proof.Machine.execSramUncorrectable safety addr s
  | .warmRestart t => Sys2Proof.Machine.execWarmRestart t s
  | .warmRestartDone buses => Sys2Proof.Machine.execWarmRestartDone buses s
  | .safetyWatchdogExpiry => Sys2Proof.Machine.execSafetyWatchdogExpiry s
  | .spanExcursion ch pin start t => Sys2Proof.Machine.execSpanExcursion ch pin start t s
  | .fastAcquisitionEnd ch => Sys2Proof.Machine.execFastAcquisitionEnd ch s
  | .biasState ch => Sys2Proof.Machine.execBiasState ch s
  | .excLimit g mv ua => Sys2Proof.Machine.execExcLimit g mv ua s
  | .excFault g => Sys2Proof.Machine.execExcFault g s
  | .excRetry g => Sys2Proof.Machine.execExcRetry g s
  | .excWindowFlag g outside mv => Sys2Proof.Machine.execExcWindowFlag g outside mv s
  | .excSettled g => Sys2Proof.Machine.execExcSettled g s
  | .excLocalSense g mv => Sys2Proof.Machine.execExcLocalSense g mv s
  | .excRemoteSenseReturn g mv => Sys2Proof.Machine.execExcRemoteSenseReturn g mv s
  | .tileLinkWord tile x cycle => Sys2Proof.Machine.execTileLinkWord tile x cycle s
  | .tileClockLost tile grp => Sys2Proof.Machine.execTileClockLost tile grp s
  | .tileGroupRetrain tile grp clockBack => Sys2Proof.Machine.execTileGroupRetrain tile grp clockBack s
  | .tileRepairSwitch tile grp => Sys2Proof.Machine.execTileRepairSwitch tile grp s
  | .modLoopReset m => Sys2Proof.Machine.execModLoopReset m s
  | .modLoopRestart m => Sys2Proof.Machine.execModLoopRestart m s
  | .modFailed m criterion validCodes => Sys2Proof.Machine.execModFailed m criterion validCodes s
  | .spareSuspect m => Sys2Proof.Machine.execSpareSuspect m s
  | .calRunDone m r => Sys2Proof.Machine.execCalRunDone m r s
  | .coverTakeover ch gain offs => Sys2Proof.Machine.execCoverTakeover ch gain offs s
  | .primaryRestart at_ => Sys2Proof.Machine.execPrimaryRestart at_ s
  | .coverHandback ch gain offs => Sys2Proof.Machine.execCoverHandback ch gain offs s
  | .refcheckDone m gain => Sys2Proof.Machine.execRefcheckDone m gain s
  | .substitutionEnd ch => Sys2Proof.Machine.execSubstitutionEnd ch s
  | .chainSampleAvailable m band => Sys2Proof.Machine.execChainSampleAvailable m band s
  | .tachTransition n uv t => Sys2Proof.Machine.execTachTransition n uv t s
  | .tachEdgeConfirmed n => Sys2Proof.Machine.execTachEdgeConfirmed n s
  | .edgeDeadline g => Sys2Proof.Machine.execEdgeDeadline g s
  | .codeTimeout n => Sys2Proof.Machine.execCodeTimeout n s
  | .codeFlood n => Sys2Proof.Machine.execCodeFlood n s
  | .shaftFallback g => Sys2Proof.Machine.execShaftFallback g s
  | .triggerTimeExpiry u => Sys2Proof.Machine.execTriggerTimeExpiry u s
  | .fieldPinEdge pin rising t => Sys2Proof.Machine.execFieldPinEdge pin rising t s
  | .pinPulseEnd pin => Sys2Proof.Machine.execPinPulseEnd pin s
  | .triggerRearm u => Sys2Proof.Machine.execTriggerRearm u s
  | .tussockSetWritten u => Sys2Proof.Machine.execTussockSetWritten u s
  | .tussockComplete gsi number => Sys2Proof.Machine.execTussockComplete gsi number s
  | .recordWrite gsi => Sys2Proof.Machine.execRecordWrite gsi s
  | .stagingRecover bytes => Sys2Proof.Machine.execStagingRecover bytes s
  | .recordDelivery sub t => Sys2Proof.Machine.execRecordDelivery sub t s
  | .bulkCreditTimeout sub => Sys2Proof.Machine.execBulkCreditTimeout sub s
  | .retentionExpiry sub => Sys2Proof.Machine.execRetentionExpiry sub s
  | .dramReadReturn req addr data badSymbols upset held => Sys2Proof.Machine.execDramReadReturn req addr data badSymbols upset held s
  | .refresh ch rank => Sys2Proof.Machine.execRefresh ch rank s
  | .rfm ch bank => Sys2Proof.Machine.execRfm ch bank s
  | .zqCalibration ch rank => Sys2Proof.Machine.execZqCalibration ch rank s
  | .oscillatorRead ch lane drift => Sys2Proof.Machine.execOscillatorRead ch lane drift s
  | .driftRecentring ch lane eye => Sys2Proof.Machine.execDriftRecentring ch lane eye s
  | .patrolScrub => Sys2Proof.Machine.execPatrolScrub s
  | .furze ch req bank row t => Sys2Proof.Machine.execFurze ch req bank row t s
  | .furzeWindow => Sys2Proof.Machine.execFurzeWindow s
  | .burstBoundary inst x => Sys2Proof.Machine.execBurstBoundary inst x s
  | .grantRelease inst x => Sys2Proof.Machine.execGrantRelease inst x s
  | .grantWatchdog inst addr t => Sys2Proof.Machine.execGrantWatchdog inst addr t s
  | .idleExpiry p => Sys2Proof.Machine.execIdleExpiry p s
  | .rateSignalClassed p runs => Sys2Proof.Machine.execRateSignalClassed p runs s
  | .ts1 p lanes => Sys2Proof.Machine.execTs1 p lanes s
  | .adaptDone p ctle dfe eyes => Sys2Proof.Machine.execAdaptDone p ctle dfe eyes s
  | .ts2 p lanes skew => Sys2Proof.Machine.execTs2 p lanes skew s
  | .trainingTimeout p passing => Sys2Proof.Machine.execTrainingTimeout p passing s
  | .startBlock p lane width peerEmits peerPref => Sys2Proof.Machine.execStartBlock p lane width peerEmits peerPref s
  | .skipBlock p count x => Sys2Proof.Machine.execSkipBlock p count x s
  | .laneFault p mask => Sys2Proof.Machine.execLaneFault p mask s
  | .widthBlock p mask => Sys2Proof.Machine.execWidthBlock p mask s
  | .lossOfSignal p lanes => Sys2Proof.Machine.execLossOfSignal p lanes s
  | .quietIdleExpiry p => Sys2Proof.Machine.execQuietIdleExpiry p s
  | .quietReq p => Sys2Proof.Machine.execQuietReq p s
  | .quietAck p => Sys2Proof.Machine.execQuietAck p s
  | .quietEnter p mask => Sys2Proof.Machine.execQuietEnter p mask s
  | .quietEntryWithdrawn p => Sys2Proof.Machine.execQuietEntryWithdrawn p s
  | .wakeNeed p => Sys2Proof.Machine.execWakeNeed p s
  | .idleExitEnd p => Sys2Proof.Machine.execIdleExitEnd p s
  | .wakeBlock p aligned => Sys2Proof.Machine.execWakeBlock p aligned s
  | .loopBlock p code => Sys2Proof.Machine.execLoopBlock p code s
  | .frameReceive p f t => Sys2Proof.Machine.execFrameReceive p f t s
  | .ackBlock p ack nak xtAck => Sys2Proof.Machine.execAckBlock p ack nak xtAck s
  | .creditBlock p counts => Sys2Proof.Machine.execCreditBlock p counts s
  | .replayTimeout p => Sys2Proof.Machine.execReplayTimeout p s
  | .ackTimer p => Sys2Proof.Machine.execAckTimer p s
  | .creditTimer p => Sys2Proof.Machine.execCreditTimer p s
  | .timedLaunch p t => Sys2Proof.Machine.execTimedLaunch p t s
  | .xtrig p x t => Sys2Proof.Machine.execXtrig p x t s
  | .dataFrame src gsi sub first last offset seqLo bytes x => Sys2Proof.Machine.execDataFrame src gsi sub first last offset seqLo bytes x s
  | .helloTimer p => Sys2Proof.Machine.execHelloTimer p s
  | .hello p m => Sys2Proof.Machine.execHello p m s
  | .neighbourLoss p => Sys2Proof.Machine.execNeighbourLoss p s
  | .lsaTimer => Sys2Proof.Machine.execLsaTimer s
  | .lsa p origin uid seq x => Sys2Proof.Machine.execLsa p origin uid seq x s
  | .rootChange offset => Sys2Proof.Machine.execRootChange offset s
  | .addrReq p uid held t => Sys2Proof.Machine.execAddrReq p uid held t s
  | .addrGrant p uid addr => Sys2Proof.Machine.execAddrGrant p uid addr s
  | .addrReqRetry => Sys2Proof.Machine.execAddrReqRetry s
  | .timeRequestTimer p t => Sys2Proof.Machine.execTimeRequestTimer p t s
  | .timeReq p xseq qual t => Sys2Proof.Machine.execTimeReq p xseq qual t s
  | .timeResp p xseq qual t2 t3 t4 late => Sys2Proof.Machine.execTimeResp p xseq qual t2 t3 t4 late s
  | .timeRespTimeout p => Sys2Proof.Machine.execTimeRespTimeout p s
  | .ptpMessage kind src data offset err t => Sys2Proof.Machine.execPtpMessage kind src data offset err t s
  | .ppsInEdge t highNs err => Sys2Proof.Machine.execPpsInEdge t highNs err s
  | .ppsSourceLost t => Sys2Proof.Machine.execPpsSourceLost t s
  | .holdoverLimitReached => Sys2Proof.Machine.execHoldoverLimitReached s
  | .ppsOutLaunch sec t => Sys2Proof.Machine.execPpsOutLaunch sec t s
  | .ppsOutPulseEnd => Sys2Proof.Machine.execPpsOutPulseEnd s
  | .pinLaunchTime pin t => Sys2Proof.Machine.execPinLaunchTime pin t s
  | .heartbeatLaunch k => Sys2Proof.Machine.execHeartbeatLaunch k s
  | .heartbeat h t => Sys2Proof.Machine.execHeartbeat h t s
  | .partnerLoss t => Sys2Proof.Machine.execPartnerLoss t s
  | .decision seq d => Sys2Proof.Machine.execDecision seq d s
  | .command cmd reply now => Sys2Proof.Machine.execCommand cmd reply now s
  | .joinReq proto uid digest strap pop t => Sys2Proof.Machine.execJoinReq proto uid digest strap pop t s
  | .joinSync sec uid addr config positions decSeq => Sys2Proof.Machine.execJoinSync sec uid addr config positions decSeq s
  | .searchTimeout => Sys2Proof.Machine.execSearchTimeout s
  | .swap boundary confirm => Sys2Proof.Machine.execSwap boundary confirm s
  | .swapHoldExpiry => Sys2Proof.Machine.execSwapHoldExpiry s
  | .liveUpdateReset => Sys2Proof.Machine.execLiveUpdateReset s
  | .prepare src stage boundary now => Sys2Proof.Machine.execPrepare src stage boundary now s
  | .readyMsg src stage => Sys2Proof.Machine.execReadyMsg src stage s
  | .refuseMsg src stage st => Sys2Proof.Machine.execRefuseMsg src stage st s
  | .networkCommitDecide stage => Sys2Proof.Machine.execNetworkCommitDecide stage s
  | .sealStage src stage => Sys2Proof.Machine.execSeal src stage s
  | .abortMsg src stage => Sys2Proof.Machine.execAbortMsg src stage s
  | .networkStageExpiry stage => Sys2Proof.Machine.execNetworkStageExpiry stage s
  | .commitConfirm src stage => Sys2Proof.Machine.execCommitConfirm src stage s
  | .networkCommitDeadline stage => Sys2Proof.Machine.execNetworkCommitDeadline stage s
  | .openMsg hub uid => Sys2Proof.Machine.execOpenMsg hub uid s
  | .openReply hub tenant epoch st => Sys2Proof.Machine.execOpenReply hub tenant epoch st s
  | .commandsMsg tenant epoch fseq ack cmds => Sys2Proof.Machine.execCommandsMsg tenant epoch fseq ack cmds s
  | .creditsMsg tenant epoch fseq ack queue credits => Sys2Proof.Machine.execCreditsMsg tenant epoch fseq ack queue credits s
  | .completionsMsg hub tenant epoch fseq ack tags => Sys2Proof.Machine.execCompletionsMsg hub tenant epoch fseq ack tags s
  | .dmaCompletionsMsg hub tenant epoch fseq ack tags => Sys2Proof.Machine.execDmaCompletionsMsg hub tenant epoch fseq ack tags s
  | .closeMsg tenant epoch fseq ack => Sys2Proof.Machine.execCloseMsg tenant epoch fseq ack s
  | .keepalive tenant got => Sys2Proof.Machine.execKeepalive tenant got s
  | .remoteResendTimer tenant => Sys2Proof.Machine.execRemoteResendTimer tenant s
  | .remoteSessionTimeout tenant => Sys2Proof.Machine.execRemoteSessionTimeout tenant s
  | .admEnableSet fn => Sys2Proof.Machine.execAdmEnableSet fn s
  | .admEnableClear fn => Sys2Proof.Machine.execAdmEnableClear fn s
  | .flr fn => Sys2Proof.Machine.execFlr fn s
  | .d3hotEntry fn => Sys2Proof.Machine.execD3hotEntry fn s
  | .vfEnableClear => Sys2Proof.Machine.execVfEnableClear s
  | .hotReset => Sys2Proof.Machine.execHotReset s
  | .pcieLinkDown => Sys2Proof.Machine.execPcieLinkDown s
  | .pcieLinkUp rate width => Sys2Proof.Machine.execPcieLinkUp rate width s
  | .dbSqTailWrite fn q tail cmds credits t => Sys2Proof.Machine.execDbSqTailWrite fn q tail cmds credits t s
  | .dbCqHeadWrite fn q head t => Sys2Proof.Machine.execDbCqHeadWrite fn q head t s
  | .violClear fn t => Sys2Proof.Machine.execViolClear fn t s
  | .violLostClear fn => Sys2Proof.Machine.execViolLostClear fn s
  | .snapTakeNow fn t => Sys2Proof.Machine.execSnapTakeNow fn t s
  | .snapTakePps fn => Sys2Proof.Machine.execSnapTakePps fn s
  | .snapTakeSwath fn => Sys2Proof.Machine.execSnapTakeSwath fn s
  | .highWordLatchRead fn x => Sys2Proof.Machine.execHighWordLatchRead fn x s
  | .registerWrite fn offset width value t => Sys2Proof.Machine.execRegisterWrite fn offset width value t s
  | .dmaFault fn q addr tag t => Sys2Proof.Machine.execDmaFault fn q addr tag t s
  | .identify c => Sys2Proof.Machine.execIdentify c s
  | .getLimits c => Sys2Proof.Machine.execGetLimits c s
  | .healthGet c => Sys2Proof.Machine.execHealthGet c s
  | .resetPart c => Sys2Proof.Machine.execResetPart c s
  | .queueCreate c sqBase sqSize vector cqBase cqSize => Sys2Proof.Machine.execQueueCreate c sqBase sqSize vector cqBase cqSize s
  | .queueDelete c => Sys2Proof.Machine.execQueueDelete c s
  | .dmaQueueRestart c => Sys2Proof.Machine.execDmaQueueRestart c s
  | .stageStatus c => Sys2Proof.Machine.execStageStatus c s
  | .stageDiscard c => Sys2Proof.Machine.execStageDiscard c s
  | .commitAtSwath c sec swath targets => Sys2Proof.Machine.execCommitAtSwath c sec swath targets s
  | .channelSet c pairs => Sys2Proof.Machine.execChannelSet c pairs s
  | .channelStatus c => Sys2Proof.Machine.execChannelStatus c s
  | .excSet c pairs => Sys2Proof.Machine.execExcSet c pairs s
  | .excStatus c => Sys2Proof.Machine.execExcStatus c s
  | .refbufSet c pairs => Sys2Proof.Machine.execRefbufSet c pairs s
  | .calNow c => Sys2Proof.Machine.execCalNow c s
  | .calReport c sel => Sys2Proof.Machine.execCalReport c sel s
  | .calSet c pairs => Sys2Proof.Machine.execCalSet c pairs s
  | .spareShadow c spare swaths => Sys2Proof.Machine.execSpareShadow c spare swaths s
  | .spareRelease c => Sys2Proof.Machine.execSpareRelease c s
  | .remapClear c => Sys2Proof.Machine.execRemapClear c s
  | .chainSet c pairs => Sys2Proof.Machine.execChainSet c pairs s
  | .chainTaps c tap taps => Sys2Proof.Machine.execChainTaps c tap taps s
  | .chainReport c => Sys2Proof.Machine.execChainReport c s
  | .tachSet c pairs => Sys2Proof.Machine.execTachSet c pairs s
  | .tachStatus c => Sys2Proof.Machine.execTachStatus c s
  | .shaftSet c pairs => Sys2Proof.Machine.execShaftSet c pairs s
  | .shaftStatus c => Sys2Proof.Machine.execShaftStatus c s
  | .shaftReturn c => Sys2Proof.Machine.execShaftReturn c s
  | .statsSet c pairs => Sys2Proof.Machine.execStatsSet c pairs s
  | .triggerSet c pairs => Sys2Proof.Machine.execTriggerSet c pairs s
  | .triggerStatus c => Sys2Proof.Machine.execTriggerStatus c s
  | .descCreate c d => Sys2Proof.Machine.execDescCreate c d s
  | .descSet c d => Sys2Proof.Machine.execDescSet c d s
  | .descFree c => Sys2Proof.Machine.execDescFree c s
  | .tussockJump c target => Sys2Proof.Machine.execTussockJump c target s
  | .admissionSet c pairs => Sys2Proof.Machine.execAdmissionSet c pairs s
  | .refusalRead c => Sys2Proof.Machine.execRefusalRead c s
  | .subscribe c pairs => Sys2Proof.Machine.execSubscribe c pairs s
  | .unsubscribe c => Sys2Proof.Machine.execUnsubscribe c s
  | .streamStatus c sel => Sys2Proof.Machine.execStreamStatus c sel s
  | .ack c n => Sys2Proof.Machine.execAck c n s
  | .resend c m => Sys2Proof.Machine.execResend c m s
  | .attach c queue => Sys2Proof.Machine.execAttach c queue s
  | .ringSet c pairs => Sys2Proof.Machine.execRingSet c pairs s
  | .spkJob c queue j ctx => Sys2Proof.Machine.execSpkJob c queue j ctx s
  | .spkJobComplete tenant tag => Sys2Proof.Machine.execSpkJobComplete tenant tag s
  | .streamList c => Sys2Proof.Machine.execStreamList c s
  | .timeStatus c => Sys2Proof.Machine.execTimeStatus c s
  | .timeSet c pairs => Sys2Proof.Machine.execTimeSet c pairs s
  | .ptpSet c pairs => Sys2Proof.Machine.execPtpSet c pairs s
  | .ppsSet c pairs => Sys2Proof.Machine.execPpsSet c pairs s
  | .timeOfDay c sec => Sys2Proof.Machine.execTimeOfDay c sec s
  | .linkAsym c ps => Sys2Proof.Machine.execLinkAsym c ps s
  | .pinLaunch c pin level tt => Sys2Proof.Machine.execPinLaunch c pin level tt s
  | .portSet c pairs => Sys2Proof.Machine.execPortSet c pairs s
  | .portStatus c => Sys2Proof.Machine.execPortStatus c s
  | .routeStatic c pfx len primary alternate remove => Sys2Proof.Machine.execRouteStatic c pfx len primary alternate remove s
  | .routeRead c => Sys2Proof.Machine.execRouteRead c s
  | .mcastSet c mask loc alts => Sys2Proof.Machine.execMcastSet c mask loc alts s
  | .portWake c => Sys2Proof.Machine.execPortWake c s
  | .addrSet c pairs => Sys2Proof.Machine.execAddrSet c pairs s
  | .cloverSet c pairs => Sys2Proof.Machine.execCloverSet c pairs s
  | .cloverStatus c => Sys2Proof.Machine.execCloverStatus c s
  | .cloverSwap c => Sys2Proof.Machine.execCloverSwap c s
  | .memLayout c pairs => Sys2Proof.Machine.execMemLayout c pairs s
  | .memStatus c => Sys2Proof.Machine.execMemStatus c s
  | .arbRank c rank commit => Sys2Proof.Machine.execArbRank c rank commit s
  | .arbWatchdog c limit reenable => Sys2Proof.Machine.execArbWatchdog c limit reenable s
  | .policyClass c pairs => Sys2Proof.Machine.execPolicyClass c pairs s
  | .tenantCap c cap => Sys2Proof.Machine.execTenantCap c cap s
  | .furzeSet c threshold interval => Sys2Proof.Machine.execFurzeSet c threshold interval s
  | .sensorRead c => Sys2Proof.Machine.execSensorRead c s
  | .sensorSet c pairs => Sys2Proof.Machine.execSensorSet c pairs s
  | .logRead c first => Sys2Proof.Machine.execLogRead c first s
  | .journalQuery c kind id tag => Sys2Proof.Machine.execJournalQuery c kind id tag s
  | .updateBegin c bytes => Sys2Proof.Machine.execUpdateBegin c bytes s
  | .updateChunk c offset len => Sys2Proof.Machine.execUpdateChunk c offset len s
  | .updateCommit c live v => Sys2Proof.Machine.execUpdateCommit c live v s
  | .i2cXfer c addr wr rd nakAt data => Sys2Proof.Machine.execI2cXfer c addr wr rd nakAt data s
  | .loopSet c kind => Sys2Proof.Machine.execLoopSet c kind s
  | .prbsSet c poly gen chk => Sys2Proof.Machine.execPrbsSet c poly gen chk s
  | .prbsStatus c => Sys2Proof.Machine.execPrbsStatus c s
  | .fifoStatus c => Sys2Proof.Machine.execFifoStatus c s
  | .counterRead c field => Sys2Proof.Machine.execCounterRead c field s
  | .counterWrite c field value => Sys2Proof.Machine.execCounterWrite c field value s
  | .demSet c on => Sys2Proof.Machine.execDemSet c on s
  | .memTest c ch mib errors => Sys2Proof.Machine.execMemTest c ch mib errors s
  | .i2cSclTimeout bus => Sys2Proof.Machine.execI2cSclTimeout bus s
  | .i2cStuckRetry bus scl pulses => Sys2Proof.Machine.execI2cStuckRetry bus scl pulses s
  | .pmbusPoll reg vout iout temp status pecOk => Sys2Proof.Machine.execPmbusPoll reg vout iout temp status pecOk s
  | .sfpPoll vals alarms => Sys2Proof.Machine.execSfpPoll vals alarms s
  | .predictedZero g => Sys2Proof.Machine.execPredictedZero g s
  | .duplicatePairExpiry origin count => Sys2Proof.Machine.execDuplicatePairExpiry origin count s
  | .ptpSourceLost t => Sys2Proof.Machine.execPtpSourceLost t s
  | .managementEthernetLinkUp page => Sys2Proof.Machine.execManagementEthernetLinkUp page s
  | .excLimitExit g mv ua => Sys2Proof.Machine.execExcLimitExit g mv ua s
  | .dramWriteComplete gsi bytes => Sys2Proof.Machine.execDramWriteComplete gsi bytes s
  | .mramWriteComplete gsi => Sys2Proof.Machine.execMramWriteComplete gsi s
  | .prbsCheckerLock lane received bits errors => Sys2Proof.Machine.execPrbsCheckerLock lane received bits errors s
  | .jtagTrstNAssert => Sys2Proof.Machine.execJtagTrstNAssert s
  | .bankIdleTimerExpiry ch bank => Sys2Proof.Machine.execBankIdleTimerExpiry ch bank s

end Sys2Proof.Machine
end

