-- ==== Sys2Proof/Machine/Step.lean ====
section
/-! DEFINITION. One step of the block: the command at the front of the queue, or one management cycle of the journal
arbiter on an empty queue (notes/assumptions/3.md). -/

namespace Sys2Proof.Machine

/-- Take the command at the front and carry it out on the state with the rest of the queue; on an empty queue the
journal arbiter takes one entry (R641). -/
def step (s : State) : Host.Outcome State Fault Refusal :=
  match s.pending with
  | [] => .next (journalTick s)
  | c :: r => exec c { s with pending := r }

/-- The state with the command that a table word spells at the front of its queue; no row of the table gives bits, so
no word spells a command and the state stands. -/
def State.withFetchWord (s : State) (nbits w : Nat) : State :=
  match Sys2Proof.decodeTableWord nbits w with
  | none => s
  | some c => { s with pending := c :: s.pending }

end Sys2Proof.Machine
end

