-- ==== Sys2Proof/Safety.lean ====
section
/-! DEFINITION. What counts as a safe run: the invariants that every step of the block keeps, in the terms in which the
statements use them. -/

namespace Sys2Proof.Machine

/-- A counter holds no value beyond its all-ones (R247, R602). -/
def CtrsOk (t : Tab Ctr) : Prop := ∀ p ∈ t, p.2.val ≤ ctrTop p.1

/-- No port queue of the journal arbiter holds more than 16 entries (R642). -/
def PortsOk (t : Tab JPort) : Prop := ∀ p ∈ t, p.2.queue.length ≤ portDepth

/-- The invariant on the parts of the state that it names. -/
structure SafeParts (ports : Tab JPort) (ring : List (Nat × Entry)) (grid : Bool) (inc : BitVec 48) (f : Int) (bank sealedF : Option Int)
    (ctrs : Tab Ctr) : Prop where
  /-- R642. -/
  ports : PortsOk ports
  /-- R614: the event journal in MRAM holds 65,536 entries. -/
  ring : ring.length ≤ ringDepth
  /-- R275: in GRID mode INC is fixed. -/
  grid : grid = true → inc = 0x02AAAAAAAAAB#48
  /-- R280: F stays within ±100 ppm. -/
  freq : -fLimit ≤ f ∧ f ≤ fLimit
  /-- R280: so does F as the pass has written it to the bank, and as it has been sealed. -/
  bank : ∀ x, bank = some x → -fLimit ≤ x ∧ x ≤ fLimit
  sealedF : ∀ x, sealedF = some x → -fLimit ≤ x ∧ x ≤ fLimit
  /-- R602. -/
  ctrs : CtrsOk ctrs

/-- A state that a run may be in. -/
def Safe (s : State) : Prop :=
  SafeParts s.mgmt.ports s.mgmt.ring s.time.grid s.time.inc s.time.f s.time.fBank s.time.fSeal s.ctrs

/-! ## Frames -/

/-- The parts of the state. -/
inductive Part where
  | front | red | str | mem | sky | clover | time | host | mgmt | ctrs | now | pending | free
  deriving DecidableEq, Repr

/-- A part is the same in two states. -/
def Part.same (s t : State) : Part → Prop
  | .front => t.front = s.front
  | .red => t.red = s.red
  | .str => t.str = s.str
  | .mem => t.mem = s.mem
  | .sky => t.sky = s.sky
  | .clover => t.clover = s.clover
  | .time => t.time = s.time
  | .host => t.host = s.host
  | .mgmt => t.mgmt = s.mgmt
  | .ctrs => t.ctrs = s.ctrs
  | .now => t.now = s.now
  | .pending => t.pending = s.pending
  | .free => t.free = s.free

/-- Every part but those listed is the same in two states. -/
def Keeps (l : List Part) (s t : State) : Prop := ∀ p, p ∉ l → p.same s t

/-! ## Dwehild commands -/

/-- A hub takes a command of opcode `op` and carries it out itself (R565, R568, R569, R588, R590): its queue is served, no
command of the same tag is in execution, no reserved flag is set, no partner has to stage it too, the tenant may send it
and its buffer has an allowed length. -/
structure Runs (op : Nat) (c : Cmd) (s : State) : Prop where
  taken : takes (touch c.at_ s) c = true
  tag : tagBusy (touch c.at_ s) c = false
  flags : reservedFlags c.flags = false
  alone : isMirrored op (touch c.at_ s) = false
  mayP : privOps.contains op = false ∨ c.tenant = 0
  buffer : badBuffer c (touch c.at_ s) = false

/-- A change that both members of a pair hold counts towards the digest while the pair is not formed (R520). -/
def noted (op : Nat) (s : State) : State :=
  if localOps.contains op || readOps.contains op then s else { s with clover := { s.clover with marked := s.clover.marked + 1 } }

/-- The state after a command of opcode `op` has had its effect, which gave `s`, and has answered `r`. -/
def replied (op : Nat) (c : Cmd) (r : Reply) (s : State) : State := answer op c false r (noted op s)

/-- The commands of the table that a hub carries out by their body alone (R590): opcode, entry and body. RESET_PART of the hub and
the end of UPDATE_COMMIT do more. -/
def commandBody : Instr → Option (Nat × Cmd × (State → Reply × State))
  | .identify c => some (0x0100, c, bodyIdentify c)
  | .getLimits c => some (0x0101, c, bodyGetLimits c)
  | .healthGet c => some (0x0102, c, bodyHealthGet c)
  | .queueCreate c sqBase sqSize vector cqBase cqSize => some (0x0104, c, bodyQueueCreate c sqBase sqSize vector cqBase cqSize)
  | .queueDelete c => some (0x0105, c, bodyQueueDelete c)
  | .dmaQueueRestart c => some (0x0106, c, bodyDmaQueueRestart c)
  | .stageStatus c => some (0x0107, c, bodyStageStatus c)
  | .stageDiscard c => some (0x0108, c, bodyStageDiscard c)
  | .commitAtSwath c sec swath targets => some (0x0109, c, bodyCommitAtSwath c sec swath targets)
  | .channelSet c pairs => some (0x0200, c, bodyChannelSet c pairs)
  | .channelStatus c => some (0x0201, c, bodyChannelStatus c)
  | .excSet c pairs => some (0x0202, c, bodyExcSet c pairs)
  | .excStatus c => some (0x0203, c, bodyExcStatus c)
  | .refbufSet c pairs => some (0x0204, c, bodyRefbufSet c pairs)
  | .calNow c => some (0x0205, c, bodyCalNow c)
  | .calReport c sel => some (0x0206, c, bodyCalReport c sel)
  | .calSet c pairs => some (0x0207, c, bodyCalSet c pairs)
  | .spareShadow c spare swaths => some (0x0208, c, bodySpareShadow c spare swaths)
  | .spareRelease c => some (0x0209, c, bodySpareRelease c)
  | .remapClear c => some (0x020A, c, bodyRemapClear c)
  | .chainSet c pairs => some (0x0300, c, bodyChainSet c pairs)
  | .chainTaps c tap taps => some (0x0301, c, bodyChainTaps c tap taps)
  | .chainReport c => some (0x0302, c, bodyChainReport c)
  | .tachSet c pairs => some (0x0400, c, bodyTachSet c pairs)
  | .tachStatus c => some (0x0401, c, bodyTachStatus c)
  | .shaftSet c pairs => some (0x0402, c, bodyShaftSet c pairs)
  | .shaftStatus c => some (0x0403, c, bodyShaftStatus c)
  | .shaftReturn c => some (0x0404, c, bodyShaftReturn c)
  | .statsSet c pairs => some (0x0500, c, bodyStatsSet c pairs)
  | .triggerSet c pairs => some (0x0501, c, bodyTriggerSet c pairs)
  | .triggerStatus c => some (0x0502, c, bodyTriggerStatus c)
  | .descCreate c d => some (0x0503, c, bodyDescCreate c d)
  | .descSet c d => some (0x0504, c, bodyDescSet c d)
  | .descFree c => some (0x0505, c, bodyDescFree c)
  | .tussockJump c target => some (0x0506, c, bodyTussockJump c target)
  | .admissionSet c pairs => some (0x0507, c, bodyAdmissionSet c pairs)
  | .refusalRead c => some (0x0508, c, bodyRefusalRead c)
  | .subscribe c pairs => some (0x0600, c, bodySubscribe c pairs)
  | .unsubscribe c => some (0x0601, c, bodyUnsubscribe c)
  | .streamStatus c sel => some (0x0602, c, bodyStreamStatus c sel)
  | .ack c n => some (0x0603, c, bodyAck c n)
  | .resend c m => some (0x0604, c, bodyResend c m)
  | .attach c queue => some (0x0605, c, bodyAttach c queue)
  | .ringSet c pairs => some (0x0606, c, bodyRingSet c pairs)
  | .spkJob c queue j ctx => some (0x0607, c, bodySpkJob c queue j ctx)
  | .streamList c => some (0x0608, c, bodyStreamList c)
  | .timeStatus c => some (0x0700, c, bodyTimeStatus c)
  | .timeSet c pairs => some (0x0701, c, bodyTimeSet c pairs)
  | .ptpSet c pairs => some (0x0702, c, bodyPtpSet c pairs)
  | .ppsSet c pairs => some (0x0703, c, bodyPpsSet c pairs)
  | .timeOfDay c sec => some (0x0704, c, bodyTimeOfDay c sec)
  | .linkAsym c ps => some (0x0705, c, bodyLinkAsym c ps)
  | .pinLaunch c pin level tt => some (0x0706, c, bodyPinLaunch c pin level tt)
  | .portSet c pairs => some (0x0800, c, bodyPortSet c pairs)
  | .portStatus c => some (0x0801, c, bodyPortStatus c)
  | .routeStatic c pfx len primary alternate remove => some (0x0802, c, bodyRouteStatic c pfx len primary alternate remove)
  | .routeRead c => some (0x0803, c, bodyRouteRead c)
  | .mcastSet c mask loc alts => some (0x0804, c, bodyMcastSet c mask loc alts)
  | .portWake c => some (0x0805, c, bodyPortWake c)
  | .addrSet c pairs => some (0x0806, c, bodyAddrSet c pairs)
  | .cloverSet c pairs => some (0x0900, c, bodyCloverSet c pairs)
  | .cloverStatus c => some (0x0901, c, bodyCloverStatus c)
  | .cloverSwap c => some (0x0902, c, bodyCloverSwap c)
  | .memLayout c pairs => some (0x0A00, c, bodyMemLayout c pairs)
  | .memStatus c => some (0x0A01, c, bodyMemStatus c)
  | .arbRank c rank commit => some (0x0A02, c, bodyArbRank c rank commit)
  | .arbWatchdog c limit reenable => some (0x0A03, c, bodyArbWatchdog c limit reenable)
  | .policyClass c pairs => some (0x0A04, c, bodyPolicyClass c pairs)
  | .tenantCap c cap => some (0x0A05, c, bodyTenantCap c cap)
  | .furzeSet c threshold interval => some (0x0A06, c, bodyFurzeSet c threshold interval)
  | .sensorRead c => some (0x0B00, c, bodySensorRead c)
  | .sensorSet c pairs => some (0x0B01, c, bodySensorSet c pairs)
  | .logRead c first => some (0x0B02, c, bodyLogRead c first)
  | .journalQuery c kind id tag => some (0x0B03, c, bodyJournalQuery c kind id tag)
  | .updateBegin c bytes => some (0x0B04, c, bodyUpdateBegin c bytes)
  | .updateChunk c offset len => some (0x0B05, c, bodyUpdateChunk c offset len)
  | .i2cXfer c addr wr rd nakAt data => some (0x0B07, c, bodyI2cXfer c addr wr rd nakAt data)
  | .loopSet c kind => some (0x0C00, c, bodyLoopSet c kind)
  | .prbsSet c poly gen chk => some (0x0C01, c, bodyPrbsSet c poly gen chk)
  | .prbsStatus c => some (0x0C02, c, bodyPrbsStatus c)
  | .fifoStatus c => some (0x0C03, c, bodyFifoStatus c)
  | .counterRead c field => some (0x0C04, c, bodyCounterRead c field)
  | .counterWrite c field value => some (0x0C05, c, bodyCounterWrite c field value)
  | .demSet c on => some (0x0C06, c, bodyDemSet c on)
  | .memTest c ch mib errors => some (0x0C07, c, bodyMemTest c ch mib errors)
  | _ => none

/-- The entry of a command. -/
def commandEntry : Instr → Option Cmd
  | .resetPart c => some c
  | .updateCommit c _ _ => some c
  | i => (commandBody i).map (fun x => x.2.1)

/-- Whether an event names objects that the spec gives, within the ranges of its table (a channel below 768, a tile below 12, a port
below 16); a command of the Dwehild set answers such an error by its status instead. -/
def eventOk : Instr → Bool
  | .tileLinkTrainingDone tile _ => isTile tile
  | .modulatorStart tile => isTile tile
  | .swathBoundary x => x.bias.all (fun p => isChannel p.1) && x.side.all isTile
  | .hkConversion slot _ _ => decide (slot < 98)
  | .urgentConversion sensor slot _ => decide (sensor < 98) && decide (slot < 125)
  | .refSettled tile => isTile tile
  | .housekeepingPeriod sensor _ => isSensor sensor
  | .thermalTrip sensor => decide (sensor < 48)
  | .fullReset cause => decide (1 ≤ cause) && decide (cause ≤ 3)
  | .spanExcursion ch pin _ _ => isChannel ch && decide (pin < 2)
  | .fastAcquisitionEnd ch => isChannel ch
  | .biasState ch => isChannel ch
  | .excLimit g _ _ => isGroup g
  | .excFault g => isGroup g
  | .excRetry g => isGroup g
  | .excWindowFlag g _ _ => isGroup g
  | .excSettled g => isGroup g
  | .excLocalSense g _ => isGroup g
  | .excRemoteSenseReturn g _ => isGroup g
  | .tileLinkWord tile _ _ => isTile tile
  | .tileClockLost tile grp => isTile tile && decide (grp < 4)
  | .tileGroupRetrain tile grp _ => isTile tile && decide (grp < 4)
  | .tileRepairSwitch tile grp => isTile tile && decide (grp < 4)
  | .modLoopReset m => isModulator m
  | .modLoopRestart m => isModulator m
  | .modFailed m criterion _ => isModulator m && decide (1 ≤ criterion) && decide (criterion ≤ 6)
  | .spareSuspect m => isSpare m
  | .calRunDone m _ => isModulator m
  | .coverTakeover ch _ _ => isChannel ch
  | .primaryRestart x => isModulator x.1
  | .coverHandback ch _ _ => isChannel ch
  | .refcheckDone m _ => isSpare m
  | .substitutionEnd ch => isChannel ch
  | .chainSampleAvailable m _ => isModulator m
  | .tachTransition n _ _ => isTach n
  | .tachEdgeConfirmed n => isTach n
  | .edgeDeadline g => isTach g
  | .codeTimeout n => isTach n
  | .codeFlood n => isTach n
  | .shaftFallback g => isTach g
  | .triggerTimeExpiry u => isUnit u
  | .fieldPinEdge pin _ _ => isPin pin
  | .pinPulseEnd pin => isPin pin
  | .triggerRearm u => isUnit u
  | .tussockSetWritten u => isUnit u
  | .recordDelivery sub _ => decide (sub < 4096)
  | .bulkCreditTimeout sub => decide (sub < 4096)
  | .retentionExpiry sub => decide (sub < 4096)
  | .dramReadReturn _ _ _ _ _ _ => true
  | .refresh ch rank => isDram ch && decide (rank < 2)
  | .rfm ch bank => isDram ch && decide (bank < 128)
  | .zqCalibration ch rank => isDram ch && decide (rank < 2)
  | .oscillatorRead ch lane _ => isDram ch && decide (lane < 20)
  | .driftRecentring ch lane _ => isDram ch && decide (lane < 20)
  | .furze ch req bank _ _ => isDram ch && decide (req < 96) && decide (bank < 128)
  | .burstBoundary inst _ => isInst inst
  | .grantRelease inst _ => isInst inst
  | .grantWatchdog inst _ _ => isInst inst
  | .idleExpiry p => isPort p
  | .rateSignalClassed p _ => isPort p
  | .ts1 p _ => isPort p
  | .adaptDone p _ _ _ => isPort p
  | .ts2 p _ _ => isPort p
  | .trainingTimeout p _ => isPort p
  | .startBlock p _ _ _ _ => isPort p
  | .skipBlock p _ _ => isPort p
  | .laneFault p _ => isPort p
  | .widthBlock p _ => isPort p
  | .lossOfSignal p _ => isPort p
  | .quietIdleExpiry p => isPort p
  | .quietReq p => isPort p
  | .quietAck p => isPort p
  | .quietEnter p _ => isPort p
  | .quietEntryWithdrawn p => isPort p
  | .wakeNeed p => isPort p
  | .idleExitEnd p => isPort p
  | .wakeBlock p _ => isPort p
  | .loopBlock p _ => isPort p
  | .frameReceive p _ _ => isPort p
  | .ackBlock p _ _ _ => isPort p
  | .creditBlock p _ => isPort p
  | .replayTimeout p => isPort p
  | .ackTimer p => isPort p
  | .creditTimer p => isPort p
  | .timedLaunch p _ => isPort p
  | .xtrig p _ _ => isPort p
  | .helloTimer p => isPort p
  | .hello p _ => isPort p
  | .neighbourLoss p => isPort p
  | .lsa p _ _ _ _ => isPort p
  | .addrReq p _ _ _ => isPort p
  | .addrGrant p _ _ => isPort p
  | .timeRequestTimer p _ => isPort p
  | .timeReq p _ _ _ => isPort p
  | .timeResp p _ _ _ _ _ _ => isPort p
  | .timeRespTimeout p => isPort p
  | .pinLaunchTime pin _ => isPin pin
  | .admEnableSet fn => isFn fn
  | .admEnableClear fn => isFn fn
  | .flr fn => isFn fn
  | .d3hotEntry fn => isFn fn
  | .pcieLinkUp rate width => decide (1 ≤ rate) && decide (rate ≤ 5) && [1, 2, 4, 8, 16].contains width
  | .dbSqTailWrite fn q _ _ _ _ => isFn fn && decide (q < 8)
  | .dbCqHeadWrite fn q _ _ => isFn fn && decide (q < 8)
  | .violClear fn _ => isFn fn
  | .violLostClear fn => isFn fn
  | .snapTakeNow fn _ => isFn fn
  | .snapTakePps fn => isFn fn
  | .snapTakeSwath fn => isFn fn
  | .highWordLatchRead fn _ => isFn fn
  | .registerWrite fn _ _ _ _ => isFn fn
  | .dmaFault fn q _ _ _ => isFn fn && decide (q < 8)
  | .i2cSclTimeout bus => decide (bus < 4)
  | .i2cStuckRetry bus _ _ => decide (bus < 4)
  | .pmbusPoll reg _ _ _ _ _ => decide (reg < 16)
  | .predictedZero g => isTach g
  | .excLimitExit g _ _ => isGroup g
  | .prbsCheckerLock lane _ _ _ => decide (lane < 32)
  | .bankIdleTimerExpiry ch bank => isDram ch && decide (bank < 128)
  | _ => true

/-- The commands marked S (R571, R590): opcode, entry, the change they stage, and whether their operands are well formed. -/
def stagingRow : Instr → Option (Nat × Cmd × Change × Bool)
  | .channelSet c pairs => some (0x0200, c, { pairs := pairs }, pairsOk pairs)
  | .excSet c pairs => some (0x0202, c, { pairs := pairs }, pairsOk pairs)
  | .refbufSet c pairs => some (0x0204, c, { pairs := pairs }, pairsOk pairs)
  | .chainSet c pairs => some (0x0300, c, { pairs := pairs }, pairsOk pairs)
  | .chainTaps c tap taps => some (0x0301, c, { tap := tap, taps := taps }, decide (tap < 5) && tapsOk taps)
  | .tachSet c pairs => some (0x0400, c, { pairs := pairs }, pairsOk pairs)
  | .shaftSet c pairs => some (0x0402, c, { pairs := pairs }, pairsOk pairs)
  | .statsSet c pairs => some (0x0500, c, { pairs := pairs }, pairsOk pairs)
  | .triggerSet c pairs => some (0x0501, c, { pairs := pairs }, pairsOk pairs)
  | .admissionSet c pairs => some (0x0507, c, { pairs := pairs }, pairsOk pairs)
  | .ringSet c pairs => some (0x0606, c, { pairs := pairs }, pairsOk pairs)
  | .portSet c pairs => some (0x0800, c, { pairs := pairs }, pairsOk pairs)
  | _ => none

/-- The change of a staging command with the objects that its handle names (R570, R571). -/
def stagedAs (op : Nat) (c : Cmd) (ch : Change) : Change :=
  let ch := { ch with opcode := op, handle := c.handle.toNat }
  { ch with objs := namedObjs (stagedClass op) c ch }

end Sys2Proof.Machine
end

