-- ==== Sys2Proof/Certificates/Slice0/Obligations.lean ====
section
/-! DEFINITION. The statements for the provers, each from the numbered rules that its docstring and OBLIGATIONS.json name. -/

open Sys2Proof Sys2Proof.Machine

/-- With a command at the front of the queue, a step answers what the command does to the state with the rest of the
queue. On an empty queue the block takes one management cycle of the journal arbiter (the model's choice, log entry
3). -/
def Obligations.StepRunsTheFrontCommand : Prop :=
  ∀ (s : State), (∀ c rest, s.pending = c :: rest → step s = exec c { s with pending := rest }) ∧
    (s.pending = [] → step s = .next (journalTick s))

/-- After reset no journal port holds more than 16 entries, the event journal no more than 65,536, INC has its GRID value
if the counter is in GRID mode, F, the F of the bank and the sealed F lie within 100 ppm, and no counter is above its
all-ones. -/
def Obligations.SafeAtReset : Prop :=
  Safe State.reset

/-- From every state, reached or not, in which no journal port queue holds more than 16 entries, the event journal holds
at most 65,536, INC is 0x02AA_AAAA_AAAB in GRID mode, F, the F of the bank and the sealed F that waits for the
boundary lie within 100 ppm, and no counter is above its all-ones, every step (any of the 291 commands, with any
operands, or the idle step) that answers a next state answers one in which all of these hold again. -/
def Obligations.EveryStepKeepsTheInvariants : Prop :=
  ∀ (s t : State), Safe s → step s = .next t → Safe t

/-- Each of the 291 commands, on every state, answers a next state when it names objects that the spec gives and stops
with the fault noSuchObject when it is an event of an object that does not exist (a channel above 767, a tile above
11, a port above 15). No command is ever refused. -/
def Obligations.EveryCommandCompletes : Prop :=
  ∀ (i : Instr) (s : State), (eventOk i = true → ∃ t, exec i s = .next t) ∧
    (eventOk i = false → exec i s = .fault .noSuchObject)

/-- When the body of a command answers an error status, the hub that carries the command out answers that status on the
state at the command's instant, which nothing else of the command has changed; only the violation of a command that
names another tenant's subscription is logged as well. -/
def Obligations.RefusedCommandsChangeNothing : Prop :=
  ∀ (i : Instr) (op : Nat) (c : Cmd) (body : State → Reply × State) (s u : State),
    commandBody i = some (op, c, body) → u = touch c.at_ s → Runs op c s → 0x8000 ≤ statusCode (body u).1.status →
    exec i s = .next (answer op c false (body u).1 u) ∨
    (body u).1.status = .notOwner ∧ exec i s = .next (answer op c false (body u).1 (foreign c u).2)

/-- A command that the hub takes and whose TAG equals that of a command of the same session still in execution, or that
has a reserved flag set, completes at once with BAD_PARAM; the state is the state at its instant with that completion
alone. This holds for every Dwehild command. -/
def Obligations.BusyTagsAndReservedFlagsAreBadParam : Prop :=
  ∀ (i : Instr) (c : Cmd) (s u : State), commandEntry i = some c → u = touch c.at_ s → takes u c = true →
    (tagBusy u c = true ∨ reservedFlags c.flags = true) →
    exec i s = .next (putCpl c.tenant c.queue { tag := c.tag, status := .badParam } u)

/-- While the pair is FORMED, a command that is not member-local and that the hub would accept changes nothing yet: it
stays in execution and joins the commands sent to the partner. One whose own checks fail is answered with its error at
once. -/
def Obligations.MirroredCommandsWaitForThePartner : Prop :=
  ∀ (i : Instr) (op : Nat) (c : Cmd) (body : State → Reply × State) (s u : State) (r : Reply),
    commandBody i = some (op, c, body) → u = touch c.at_ s → takes u c = true → tagBusy u c = false →
        reservedFlags c.flags = false →
    u.clover.state = .formed → isMirrored op u = true → r = (withMarks op c body u).1 →
    (statusCode r.status < 0x8000 → ∃ v, v = stayExec op c true u ∧
      exec i s = .next { v with clover := { v.clover with mirrors := v.clover.mirrors ++ [i] } }) ∧
    (0x8000 ≤ statusCode r.status → exec i s = .next (answer op c false r u))

/-- On a made queue pair of a host session: a completion is written at the tail when a slot is free and none waits, and
otherwise is kept behind those that wait. While the ring is full, or completions wait, a command of that queue has no
effect. -/
def Obligations.CompletionsWaitForRoom : Prop :=
  ∀ (s : State) (t q : Nat) (x : CplSlot) (k : Queue), k = s.queue t q → (s.tenant t).kind ≠ 2 → k.made = true →
    (k.held = [] → k.full = false → (putSlot t q x s).queue t q = k.write x ∧
      (k.write x).ring = k.ring.set k.cqTail { x with phase := k.phase }) ∧
    (k.held ≠ [] ∨ k.full = true → (putSlot t q x s).queue t q = { k with held := k.held ++ [x] }) ∧
    (∀ p d, 8 * p + d ≠ 8 * t + q → (putSlot t q x s).queue p d = s.queue p d) ∧
    (∀ i c, commandEntry i = some c → c.tenant = t → c.queue = q → (k.held ≠ [] ∨ k.full = true) → exec i s = .next
        (touch c.at_ s))

/-- An entry posted at a port whose queue holds 16 is counted and not queued. At a port with room that has lost none it is
queued at the end. At one with room that has lost some, a JOURNAL_OVERFLOW entry with the port and the count is queued
first, and then the entry, if there is still room, or it is counted. The other ports, and every part of the state but
the management part, are as before. -/
def Obligations.FullPortsCountTheirEntries : Prop :=
  ∀ (s u : State) (t : Inst) (p code handle : Nat) (vals : List (Nat × BitVec 64)) (q : JPort) (e lost : Entry),
    q = s.mgmt.ports.get p → u = postAt t p code handle vals s → e = entryAt (quality s) t p code handle vals →
    lost = entryAt (quality s) t p 0x0B0B 0 [vU p, vU q.dropped] →
    (16 ≤ q.queue.length → u.mgmt.ports.get p = { q with dropped := q.dropped + 1 }) ∧
    (q.queue.length < 16 → q.dropped = 0 → u.mgmt.ports.get p = { queue := q.queue ++ [e], dropped := 0 }) ∧
    (q.queue.length < 15 → q.dropped ≠ 0 → u.mgmt.ports.get p = { queue := q.queue ++ [lost, e], dropped := 0 }) ∧
    (q.queue.length = 15 → q.dropped ≠ 0 → u.mgmt.ports.get p = { queue := q.queue ++ [lost], dropped := 1 }) ∧
    (∀ j, j ≠ p → u.mgmt.ports.get j = s.mgmt.ports.get j) ∧ Keeps [.mgmt] s u

/-- A violation that is logged at a function is the last entry of its log, behind those that were there. When the log is
full, the oldest of those is discarded and LOST is set; otherwise none is, and LOST is as before. Two violations are
logged in the order in which they come. -/
def Obligations.ViolationLogsKeepTheNewest : Prop :=
  ∀ (s : State) (fn : Nat) (v w : Viol),
    ((s.func fn).viols.length < violDepth fn → ((logViol fn v s).func fn).viols = (s.func fn).viols ++ [v] ∧
      ((logViol fn v s).func fn).lost = (s.func fn).lost) ∧
    (violDepth fn ≤ (s.func fn).viols.length → ((logViol fn v s).func fn).viols = (s.func fn).viols.drop 1 ++ [v] ∧
      ((logViol fn v s).func fn).lost = true) ∧
    (2 ≤ violDepth fn → ∃ l, ((logViol fn w (logViol fn v s)).func fn).viols = l ++ [v, w])

/-- The F that a request puts into the bank lies within 100 ppm when the F before it does, and within 0.05 ppm of it: the
sealed F, where one waits for the boundary, else the F in force. A request within the limit that is no further away is
reached at once. A request outside the limit counts one clamp, and one that is not reached counts one step; nothing
but the bank, the request and those two counters changes. -/
def Obligations.FrequencyMovesInBoundedSteps : Prop :=
  ∀ (s u : State) (want f c n : Int), u = requestF want s → f = s.time.fSeal.getD s.time.f → c = within fLimit want →
    n = f + within fStep (c - f) →
    u.time = { s.time with fWant := c, fBank := some n } ∧ Keeps [.time, .ctrs] s u ∧
    (-fStep ≤ n - f ∧ n - f ≤ fStep) ∧ (-fLimit ≤ f → f ≤ fLimit → -fLimit ≤ n ∧ n ≤ fLimit) ∧
    (-fLimit ≤ want → want ≤ fLimit → -fStep ≤ want - f → want - f ≤ fStep → n = want ∧ u.ctrs = s.ctrs) ∧
    ctrOf u (timeCtr 2) = (if c = want then ctrOf s (timeCtr 2) else (ctrOf s (timeCtr 2)).add (ctrTop (timeCtr 2)) 1) ∧
    ctrOf u (timeCtr 3) = (if n = c then ctrOf s (timeCtr 3) else (ctrOf s (timeCtr 3)).add (ctrTop (timeCtr 3)) 1)

/-- A counter advanced by n holds its value plus n while that is below its all-ones, with SAT as before, and otherwise
all-ones with SAT set; once at all-ones with SAT it stays there. Every other counter, and every other part of the
state, is as before. -/
def Obligations.CountersSaturateAtAllOnes : Prop :=
  ∀ (s : State) (k n : Nat),
    ((ctrOf s k).val + n < ctrTop k → ctrOf (bumpBy k n s) k = { ctrOf s k with val := (ctrOf s k).val + n }) ∧
    (ctrTop k ≤ (ctrOf s k).val + n → ctrOf (bumpBy k n s) k = { val := ctrTop k, sat := true }) ∧
    (∀ j, j ≠ k → ctrOf (bumpBy k n s) j = ctrOf s j) ∧ Keeps [.ctrs] s (bumpBy k n s)

/-- DESC_SET and DESC_FREE of a descriptor of the tenant that is the current descriptor or the list head of an enabled
trigger unit, or the descriptor of a tussock in flight, answer BUSY, and nothing changes but the answer. -/
def Obligations.DescriptorsInUseAreKept : Prop :=
  ∀ (c : Cmd) (s u : State) (i : Nat), u = touch c.at_ s → names 0x0A c = true → i = hIndex c →
      (u.red.descs.get i).isSome = true →
    u.red.descOwner.get i = c.tenant →
    ((∃ p ∈ u.red.units, p.2.on = true ∧ (p.2.current = some i ∨ p.2.head = some i)) ∨ ∃ x ∈ u.red.tussocks, x.desc = i ∧ x.state = 0) →
    (∀ d, Runs 0x0504 c s → firstFail (descChecks d u) = none →
      exec (.descSet c d) s = .next (answer 0x0504 c false { status := .busy } u)) ∧
    (Runs 0x0505 c s → exec (.descFree c) s = .next (answer 0x0505 c false { status := .busy } u))

/-- After reset the TIME registers of a function read 0 but TIME_STATUS, 0x00FF_F838; HEALTH_STATE, HEALTH_ERROR and
HEALTH_OVERRUN are 0; the counter is in FREE mode; every function has ENABLE 0 and its base and size registers 0; no
tenant holds a session; every channel is DC, range 0, with offset 0, corner 0.05 Hz, the default thresholds and
ratiometric off; LB is on at 25,600 S/s and WB and EB are off; trigger units are off with hysteresis 4,096, mask SUB
and action EVENT; ports 0 to 7 are on with width 4 on quad p, and ports 8 to 15 off. -/
def Obligations.ResetLeavesTheStatedValues : Prop :=
  timeRegs State.reset 0 = [0, 0, 0, 0, 0, 0, 0x00FFF838, 0, 0, 0] ∧ healthState State.reset = 0 ∧ healthError State.reset = 0 ∧
    State.reset.host.overrun = 0 ∧ State.reset.time.grid = false ∧
    (∀ fn, (State.reset.func fn).enable = false ∧ (State.reset.func fn).sqBase = 0 ∧ (State.reset.func fn).cqBase = 0 ∧
      (State.reset.func fn).sqSize = 0 ∧ (State.reset.func fn).cqSize = 0) ∧ (∀ t, (State.reset.tenant t).used = false) ∧
    (∀ c x, x = State.reset.chan c →
        x.mode = .dc ∧ x.range = 0 ∧ x.dcOffset = 0 ∧ x.corner = 0 ∧ x.shortMax = 100 ∧ x.lowMax = 700 ∧
      x.highMin = 1600 ∧ x.openMin = 2000 ∧ x.ratiometric = false) ∧
    (∀ m x, x = State.reset.chain m →
        x.lbOn = true ∧ x.wbOn = false ∧ x.ebOn = false ∧ x.lbRate = 25600 * 1000 ∧ x.ebRate = 12800 * 1000 ∧
      x.wbRate = 0 ∧ x.lbBind = none ∧ x.ebBind = none ∧ x.mains = .off ∧ x.band.preset = 1) ∧
    (∀ n x, x = State.reset.unit n →
        x.on = false ∧ x.level = 0 ∧ x.hysteresis = 4096 ∧ x.dir = 0 ∧ x.mask = 4 ∧ x.holdOff = .none ∧ x.actions = 16) ∧
    (∀ p, (p < 8 → portOn State.reset p = true ∧ portWidth State.reset p = 4 ∧ portBase State.reset p = 4 * p) ∧
      (8 ≤ p → portOn State.reset p = false))

/-- Completion: IDENTIFY, GET_LIMITS, HEALTH_GET, LOG_READ and JOURNAL_QUERY: each answers a next state on every state and
operands that meet the hypotheses, which speak of state and operands alone. When the hub carries one of these commands
out on the hub's handle, it answers a next state: the state at the command's instant with the completion alone.
IDENTIFY answers DONE with device ID, revision, firmware, pair protocol and unique ID; GET_LIMITS reports the limits
of R610 and HEALTH_GET its items; LOG_READ gives the entries held from a sequence number on, as many as fit, and the
number that follows them; JOURNAL_QUERY of the tenant's own key, or by tenant 0, gives the record and its object
entries. -/
def Obligations.SystemReadsReport : Prop :=
  ∀ (c : Cmd) (s u : State), u = touch c.at_ s → names 0 c = true →
    (Runs 0x0100 c s → exec (.identify c) s = .next (replied 0x0100 c
      { result := leBytes 2 0x0768 ++ leBytes 1 0xC0 ++ leBytes 1 (if Config.gradeHigh then 1 else 0) ++ leBytes 1 u.mgmt.fwMajor
          ++ leBytes 1 u.mgmt.fwMinor ++ leBytes 2 u.mgmt.pairProto ++ leBytes 8 Config.uid.toNat } u)) ∧
    (Runs 0x0101 c s → exec (.getLimits c) s =
      .next (replied 0x0101 c (report c 16 ((limitRows u).map (limitEntry u)) counted u).1 u)) ∧
    (Runs 0x0102 c s → ∃ r, r.later = false ∧ (r.status = .done ∨ r.status = .partialDone) ∧
      r.result = leBytes 4 r.progress ++ leBytes 1 (startupCode u.mgmt.startup) ++ leBytes 1 u.mgmt.errCause ∧
      exec (.healthGet c) s = .next (replied 0x0102 c r u)) ∧
    (∀ first, Runs 0x0B02 c s → ∃ r, r.later = false ∧ r.status = .done ∧
      r.out = some ((((u.mgmt.ring.filter (fun p => decide (first ≤ p.1))).reverse).take (bufLen c / 64)).flatMap
        (fun p => entryBytes p.2)) ∧
      exec (.logRead c first) s = .next (replied 0x0B02 c r u)) ∧
    (∀ kind id tag j, Runs 0x0B03 c s → (c.tenant = 0 ∨ keyOf (u.tenant c.tenant) = (kind, id)) →
      u.host.journal.find? (fun r => r.is (kind, id) tag) = some j → 64 + 12 * j.objs.length ≤ bufLen c →
      exec (.journalQuery c kind id tag) s = .next (replied 0x0B03 c
        { progress := j.objs.length, result := leBytes 4 j.objs.length, out := some (recordBytes j ++ j.objs.flatMap objBytes) } u))

/-- Completion: QUEUE_CREATE, QUEUE_DELETE and DMA_QUEUE_RESTART: each answers a next state on every state and operands
that meet the hypotheses, which speak of state and operands alone. QUEUE_CREATE of an unmade I/O pair q from 1 to 3
with rings of 16 to 4,096 entries and a vector of the function makes the pair with empty rings; for a DMA pair from 4
to 7 it also marks the tenant as one with a DMA queue, when the latency bound allows it. QUEUE_DELETE unmakes an I/O
pair, or a DMA pair to which no subscription is bound. DMA_QUEUE_RESTART lets a DMA queue run again. Each completes
with DONE, and nothing else changes but the answer. -/
def Obligations.QueueCommandsActOnTheQueue : Prop :=
  ∀ (c : Cmd) (s u : State), u = touch c.at_ s → hClass c = 0x10 →
    (∀ sqBase sqSize vector cqBase cqSize, Runs 0x0104 c s → 1 ≤ hIndex c → hIndex c ≤ 3 →
        (u.queue c.tenant (hIndex c)).made = false →
      16 ≤ sqSize → sqSize ≤ 4096 → 16 ≤ cqSize → cqSize ≤ 4096 → (vector ≤ 7 ∨ vector = 0xFF) →
      exec (.queueCreate c sqBase sqSize vector cqBase cqSize) s = .next (replied 0x0104 c {} (u.modQueue c.tenant (hIndex c)
        (fun _ => { made := true, base := sqBase, size := sqSize, cqBase := cqBase, cqSize := cqSize
                    vector := if vector = 0xFF then hIndex c else vector })))) ∧
    (∀ sqBase sqSize vector cqBase cqSize v, Runs 0x0104 c s → 4 ≤ hIndex c → hIndex c ≤ 7 →
        (u.queue c.tenant (hIndex c)).made = false →
      v = (if (u.tenant c.tenant).hasDma then u else u.modTenant c.tenant (fun x => { x with hasDma := true })) →
      ((u.tenant c.tenant).hasDma = true ∨ boundAllows v = true) → 1 ≤ sqSize → sqSize ≤ 65535 → 1 ≤ cqSize → cqSize ≤ 65535 →
      (vector ≤ 7 ∨ vector = 0xFF) →
      exec (.queueCreate c sqBase sqSize vector cqBase cqSize) s = .next (replied 0x0104 c {} (v.modQueue c.tenant (hIndex c)
        (fun _ => { made := true, base := sqBase, size := sqSize, cqBase := cqBase, cqSize := cqSize
                    vector := if vector = 0xFF then hIndex c else vector })))) ∧
    (Runs 0x0105 c s → 1 ≤ hIndex c → hIndex c ≤ 7 → (u.queue c.tenant (hIndex c)).made = true →
      (hIndex c < 4 ∨ boundSubs u c.tenant (hIndex c - 4) = []) →
      exec (.queueDelete c) s = .next (replied 0x0105 c {} (u.modQueue c.tenant (hIndex c)
        (fun x => { x with made := false, size := 0, late := [], stopped := false, cls := none })))) ∧
    (Runs 0x0106 c s → 4 ≤ hIndex c → hIndex c ≤ 7 → (u.queue c.tenant (hIndex c)).made = true →
      exec (.dmaQueueRestart c) s = .next
          (replied 0x0106 c {} (u.modQueue c.tenant (hIndex c) (fun x => { x with stopped := false }))))

/-- Completion: STAGE_STATUS, STAGE_DISCARD and COMMIT_AT_SWATH: each answers a next state on every state and operands
that meet the hypotheses, which speak of state and operands alone. STAGE_STATUS reports an open stage with its number
of changes, a committed one with its boundary too. STAGE_DISCARD ends an open stage of the tenant. COMMIT_AT_SWATH
without NETWORK seals the open stage of the tenant into the commit bank for the boundary named, or with swath index
0xFFFF for the first one allowed, and answers ACCEPTED; with NETWORK it answers ACCEPTED and sends PREPARE to every
other hub it names, while a stage of its own is prepared at once. -/
def Obligations.StageCommandsActOnStages : Prop :=
  ∀ (c : Cmd) (s u : State), u = touch c.at_ s → names 0 c = true →
    (∀ x, Runs 0x0107 c s → openStage u c.stage = some x → (c.tenant = 0 ∨ stageMine u c.stage c.tenant = true) →
      exec (.stageStatus c) s = .next (replied 0x0107 c
        { result := leBytes 4 0 ++ leBytes 4 x.changes.length ++ leBytes 8 0 } u)) ∧
    (∀ k, Runs 0x0107 c s → openStage u c.stage = none → sealedStage u c.stage = some k →
      (c.tenant = 0 ∨ stageMine u c.stage c.tenant = true) →
      exec (.stageStatus c) s = .next (replied 0x0107 c
        { result := leBytes 4 1 ++ leBytes 4 k.stage.changes.length ++ boundaryBytes k.at_ } u)) ∧
    (∀ x, Runs 0x0108 c s → openStage u c.stage = some x → sealedStage u c.stage = none → stageMine u c.stage c.tenant = true →
      exec (.stageDiscard c) s = .next (replied 0x0108 c {} (dropStage c.stage u))) ∧
    (∀ sec swath targets x b, Runs 0x0109 c s → netFlag c = false → openStage u c.stage = some x →
      stageMine u c.stage c.tenant = true → x.prepared = none → (swath < Config.swathsPerSec ∨ swath = 0xFFFF) →
      b = (if swath = 0xFFFF then max (soonest u 2) (lastCommit u) else sec * Config.swathsPerSec + swath) → lastCommit u ≤ b →
          soonest u 2 ≤ b →
      firstFail (commitChecks b x.changes u) = none → u.host.bank.length < 64 →
      exec (.commitAtSwath c sec swath targets) s = .next (replied 0x0109 c
        { status := .accepted, objs := (x.changes.flatMap changeHandles).map (fun h => (h, 2)) }
        (markStage x.tenant x.id 2 (pushCommit { stage := x, at_ := b, tenant := c.tenant, queue := c.queue, tag := c.tag } u)))) ∧
    (∀ sec swath targets b v, Runs 0x0109 c s → netFlag c = true → c.stage ≠ 0 → (swath < Config.swathsPerSec ∨ swath = 0xFFFF) →
      b = (if swath = 0xFFFF then max (soonest u 16) (lastCommit u) else sec * Config.swathsPerSec + swath) → soonest u 16 ≤ b →
      1 ≤ targets.length → targets.length ≤ 1022 → (∀ h ∈ targets, 1 ≤ h ∧ h ≤ 1022) → netOf u c.stage = none →
      v = each (targets.eraseDups.filter (fun h => decide (h ≠ u.sky.hub)))
        (fun h s => sendMsg { kind := 1, dest := h, a := c.stage, b := b } s)
        { u with host := { u.host with nets := u.host.nets ++
          [{ stage := c.stage, at_ := b, tenant := c.tenant, queue := c.queue, tag := c.tag, targets := targets.eraseDups }] } } →
      u.sky.hub ∉ targets.eraseDups → v.sky.hub = u.sky.hub →
      exec (.commitAtSwath c sec swath targets) s = .next (replied 0x0109 c
        { status := .accepted, objs := targets.eraseDups.map (fun h => (handleOf 0 h, 0)) } v))

/-- Completion: RESET_PART answers a next state on every state and operands that meet the hypotheses, which speak of state
and operands alone. RESET_PART of tenant 0 with the handle of a tile starts the modulators of the tile over, marks its
channels SUB and takes the tile through the calibration rounds of R126 (trims kept: the model's choice, log entry 70);
while the tile's side-band has failed it answers STATE and changes nothing (the model's choice, log entry 150). With
that of an enabled port it retrains the port; both complete with DONE. With the handle of the hub, on a queue that
serves, the hub goes through the full reset of cause 7 and the command stays in execution meanwhile. -/
def Obligations.ResetPartResetsThePart : Prop :=
  ∀ (c : Cmd) (s u : State), u = touch c.at_ s → Runs 0x0103 c s →
    (names 4 c = true → (u.tile (hIndex c)).sideFail = false →
      exec (.resetPart c) s = .next (replied 0x0103 c {} (resetTile (hIndex c) u))) ∧
    (names 4 c = true → (u.tile (hIndex c)).sideFail = true → exec (.resetPart c) s = .next
        (answer 0x0103 c false { status := .state } u)) ∧
    (names 0x0D c = true → (u.port (hIndex c)).state ≠ .disabled →
      exec (.resetPart c) s = .next (replied 0x0103 c {} (retrainPort (hIndex c) u))) ∧
    (names 0 c = true → exec (.resetPart c) s =
      .next (heldReset 7 (some (c.tenant, c.tag)) (stayExec 0x0103 c false (journalReply 0x0103 c { status := .accepted } u))))

/-- CHANNEL_SET, EXC_SET, REFBUF_SET, CHAIN_SET, CHAIN_TAPS, TACH_SET, SHAFT_SET, STATS_SET, TRIGGER_SET, ADMISSION_SET,
RING_SET and PORT_SET with a stage identifier other than 0, well-formed operands, a handle that names objects of the
command's class (a broadcast, at least one that takes the change), a stage that is the tenant's own and not committed
or promised, staging checks that hold and room in the stage: the change is appended to the stage, which opens if it
was not, PROGRESS counts the objects of a broadcast, and the setting itself does not change. -/
def Obligations.StagingCommandsJoinTheirStage : Prop :=
  ∀ (i : Instr) (op : Nat) (c : Cmd) (ch x : Change) (formed : Bool) (prior : List Change) (s u : State),
    stagingRow i = some (op, c, ch, formed) → u = touch c.at_ s → Runs op c s → formed = true → c.stage ≠ 0 →
    (names (stagedClass op) c = true ∨ namesAll (stagedClass op) c = true) → x = stagedAs op c ch → x.objs ≠ [] →
    stageMine u c.stage c.tenant = true → sealedStage u c.stage = none → (openStage u c.stage).bind (·.prepared) = none →
    prior = ((openStage u c.stage).map (·.changes)).getD [] → firstFail (stageChecks x prior u) = none →
    ((openStage u c.stage).isSome = true ∨ u.host.stages.length < 256) → prior.length < 4096 →
    exec i s = .next (replied op c
      { status := .staged, progress := if namesAll (stagedClass op) c then x.objs.length else 0,
        objs := (changeHandles x).map (fun h => (h, 1)) } (addChange c.stage c.tenant x u))

/-- The same twelve commands with stage identifier 0, APPLY_NOW, well-formed operands, objects that the handle names (a
broadcast, at least one that takes the change), commit checks that hold and fewer than 64 committed stages: the change
goes alone into a stage of its own that is sealed into the commit bank for the first boundary at least 2 swaths ahead;
the completion waits for that boundary. -/
def Obligations.ApplyNowCommitsAtOnce : Prop :=
  ∀ (i : Instr) (op : Nat) (c : Cmd) (ch x : Change) (formed : Bool) (s u : State),
    stagingRow i = some (op, c, ch, formed) → u = touch c.at_ s → Runs op c s → formed = true → c.stage = 0 → applyNow c = true →
    (names (stagedClass op) c = true ∨ namesAll (stagedClass op) c = true) → x = stagedAs op c ch → x.objs ≠ [] →
    firstFail (commitChecks (soonest u 2) [x] u) = none → u.host.bank.length < 64 →
    exec i s = .next (replied op c
      { later := true, progress := x.objs.length, objs := (changeHandles x).map (fun h => (h, 2)) }
      (pushCommit { stage := { tenant := c.tenant, changes := [x] }, at_ := soonest u 2, tenant := c.tenant, queue := c.queue,
                    tag := c.tag, now := true } u))

/-- After a change has been added to the stage of an identifier, that stage holds its former changes followed by the
change, every stage of another identifier is as it was, and every part of the state but the host interface is as it
was. -/
def Obligations.StagedChangeEntersItsStageAlone : Prop :=
  ∀ (id t : Nat) (ch : Change) (s : State),
    (openStage (addChange id t ch s) id).map (·.changes) = some (((openStage s id).map (·.changes)).getD [] ++ [ch]) ∧
    (∀ j, j ≠ id → openStage (addChange id t ch s) j = openStage s j) ∧ Keeps [.host] s (addChange id t ch s)

/-- Completion: CHANNEL_STATUS, EXC_STATUS, CAL_REPORT and CHAIN_REPORT: each answers a next state on every state and
operands that meet the hypotheses, which speak of state and operands alone. Each answers a next state that is the
state at the command's instant with the completion alone. CHANNEL_STATUS gives bias state, calibration state, serving
spare and bias voltage; EXC_STATUS the sensed voltage and current, the state and the retries; CAL_REPORT the figure
selected; CHAIN_REPORT the rate figures, with the WB unit for a WB chain. -/
def Obligations.ChannelReportsChangeNothing : Prop :=
  ∀ (c : Cmd) (s u : State), u = touch c.at_ s →
    (Runs 0x0201 c s → names 1 c = true → ∃ r, r.later = false ∧ (r.status = .done ∨ r.status = .partialDone) ∧
      r.result = leBytes 1 (biasCode (u.chan (hIndex c)).bias) ++ leBytes 1 (calCode (u.chan (hIndex c)).cal).1
        ++ leBytes 2 ((spareOf u (hIndex c)).getD 0xFFFF) ++ leInt 4 (u.chan (hIndex c)).vb ∧
      exec (.channelStatus c) s = .next (replied 0x0201 c r u)) ∧
    (Runs 0x0203 c s → names 3 c = true → exec (.excStatus c) s = .next (replied 0x0203 c
      { result := leBytes 2 (u.group (hIndex c)).sensedMv ++ leBytes 2 (u.group (hIndex c)).currentUa
          ++ leBytes 4 (excCode (u.group (hIndex c)).state) ++ leBytes 4 (u.group (hIndex c)).retries } u)) ∧
    (∀ sel, sel ≤ 1 → Runs 0x0206 c s → names 1 c = true → exec (.calReport c sel) s = .next (replied 0x0206 c
      { result := figure u (hIndex c) (decide (sel = 1)) } u)) ∧
    (∀ f, Runs 0x0302 c s → names 5 c = true → f = chainFig u (hIndex c / 4) (bandOf (hIndex c % 4)) →
      ∃ r, r.later = false ∧ (r.status = .done ∨ r.status = .partialDone) ∧
      r.result = leBytes 8 f.delta ++ leBytes 1 f.n ++ leBytes 1 f.t ++ leBytes 2 (if bandOf (hIndex c % 4) = .wb then 1 else 0)
        ++ leBytes 4 (if bandOf (hIndex c % 4) = .wb then f.rate / 1000 else f.rate) ∧
      exec (.chainReport c) s = .next (replied 0x0302 c r u))

/-- Completion: CAL_NOW, CAL_SET, SPARE_SHADOW, SPARE_RELEASE, REMAP_CLEAR and DEM_SET: each answers a next state on every
state and operands that meet the hypotheses, which speak of state and operands alone. CAL_NOW of a channel whose
modulator runs and has no order waiting makes its calibration due and answers ACCEPTED; CAL_SET sets the figure, the
run length and the threshold at once, clearing the counts of applied sets when asked; SPARE_SHADOW of an uncovered
channel whose tile runs claims the spare named, or any that may be taken, which then enters SHADOW; SPARE_RELEASE ends
a commanded shadow that has begun at the next boundary, and gives up the claim of one that has not; REMAP_CLEAR marks
the record of a spare or a primary that has one and changes nothing of another; DEM_SET of a modulator whose tile it
can reach turns the rotation on, or off where the modulator is not the source; a broadcast does so of every modulator
that may take it and answers how many, PARTIAL where some may not. -/
def Obligations.CalibrationCommandsOrderTheirWork : Prop :=
  ∀ (c : Cmd) (s u : State), u = touch c.at_ s →
    (∀ m, Runs 0x0205 c s → names 1 c = true → m = mainMod u (hIndex c) → (u.modu m).calTag = none →
      (u.tile (tileOf m)).started = true → noModulator u m = false → channelOf u m = some (hIndex c) →
      exec (.calNow c) s = .next (replied 0x0205 c { status := .accepted, objs := [(c.handle.toNat, 0)] }
        ((u.modModu m (fun x => { x with calTag := some (c.tenant, c.queue, c.tag) })).modChan (hIndex c)
          (fun x => { x with calDue := true })))) ∧
    (∀ pairs sel clr len thr v, Runs 0x0207 c s → names 0 c = true → pairsOk pairs = true →
      withPairs setCal pairs (u.front.figCount, false, u.front.runLen, u.front.applyThr) = some (sel, clr, len, thr) →
      v = { u with front := { u.front with figCount := sel, runLen := len, applyThr := thr } } →
      exec (.calSet c pairs) s = .next (replied 0x0207 c {}
        (if clr then each v.front.mods.keys (fun m s => s.modModu m (fun x => { x with applied := 0 })) v else v))) ∧
    (∀ spare swaths m, Runs 0x0208 c s → names 1 c = true → (u.chan (hIndex c)).cover = none →
        (u.tile (tileOf (hIndex c))).started = true →
      (spare = 0xFFFF ∧ pickSpare u (tileOf (hIndex c)) 2 = some m ∨
        spare ≠ 0xFFFF ∧ spare ∈ sparesOf (tileOf (hIndex c)) ∧ canTake u 2 spare = true ∧ m = spare) →
      exec (.spareShadow c spare swaths) s = .next (replied 0x0208 c { result := leBytes 2 m }
        (claimSpare (hIndex c) m { ordered := true, len := if swaths = 0 then none else some swaths } u).2)) ∧
    (∀ cv, Runs 0x0209 c s → names 1 c = true → (u.chan (hIndex c)).cover = some cv → cv.ordered = true →
      exec (.spareRelease c) s = .next (replied 0x0209 c {} (if cv.entered then u.modChan (hIndex c)
          (fun x => { x with cover := some { cv with endAt := some (nextBoundary u) } })
        else (u.modSpare cv.spare (fun x => { x with claim := none })).modChan (hIndex c) (fun x => { x with cover := none })))) ∧
    (Runs 0x020A c s → names 2 c = true → recorded u (hIndex c) = false → exec (.remapClear c) s = .next
        (replied 0x020A c {} u)) ∧
    (Runs 0x020A c s → names 2 c = true → recorded u (hIndex c) = true →
      exec (.remapClear c) s = .next (replied 0x020A c {} (u.modModu (hIndex c) (fun x => { x with clear := true })))) ∧
    (∀ on, Runs 0x0C06 c s → names 2 c = true → namesAll 2 c = false → (on = true ∨ isSource u (hIndex c) = false) →
      tileReached u (hIndex c) = true →
      exec (.demSet c on) s = .next (replied 0x0C06 c {} (u.modModu (hIndex c) (fun x => { x with rotation := on })))) ∧
    (∀ on may, Runs 0x0C06 c s → namesAll 2 c = true → may = (allIndices 2).filter (fun m => on || !isSource u m) →
      (on = true ∨ may.any (fun m => !isSource u m) = true) →
      exec (.demSet c on) s = .next (replied 0x0C06 c
        { status := if may.length < 864 then .partialDone else .done, progress := may.length } (each may (rotate on) u)))

/-- Completion: TACH_STATUS, SHAFT_STATUS, TRIGGER_STATUS and REFUSAL_READ: each answers a next state on every state and
operands that meet the hypotheses, which speak of state and operands alone. Each answers a next state that is the
state at the command's instant with the completion alone: the four counters of a tach input; state, speed and
revolutions of a shaft group; state and counters of a trigger unit; the refusal log, an entry of 32 bytes each. -/
def Obligations.ShaftAndTriggerReportsChangeNothing : Prop :=
  ∀ (c : Cmd) (s u : State), u = touch c.at_ s →
    (Runs 0x0401 c s → names 7 c = true → exec (.tachStatus c) s = .next (replied 0x0401 c
      { result := (List.range 4).flatMap (fun n => leBytes 4 (ctrOf u (ctrKey 7 (hIndex c) n 0)).val) } u)) ∧
    (Runs 0x0403 c s → names 8 c = true → exec (.shaftStatus c) s = .next (replied 0x0403 c
      { result := leBytes 4 (shaftCode (u.shaft (hIndex c)).state) ++ leBytes 4 (u.shaft (hIndex c)).speed
          ++ leBytes 8 (u.shaft (hIndex c)).revs } u)) ∧
    (Runs 0x0502 c s → names 9 c = true → ∃ r, r.later = false ∧ (r.status = .done ∨ r.status = .partialDone) ∧
      r.result = leBytes 4 (trigCode (u.unit (hIndex c)).state) ++
        (List.range 3).flatMap (fun n => leBytes 4 (ctrOf u (ctrKey 9 (hIndex c) n 0)).val) ∧
      exec (.triggerStatus c) s = .next (replied 0x0502 c r u)) ∧
    (Runs 0x0508 c s → names 0 c = true → 32 * u.red.refusals.length ≤ bufLen c →
      exec (.refusalRead c) s = .next (replied 0x0508 c
        { progress := u.red.refusals.length, result := leBytes 4 u.red.refusals.length
          out := some (u.red.refusals.map (refusalBytes)).flatten } u))

/-- Completion: SHAFT_RETURN, DESC_CREATE, DESC_SET, DESC_FREE and TUSSOCK_JUMP: each answers a next state on every state
and operands that meet the hypotheses, which speak of state and operands alone. SHAFT_RETURN of a group in TIME with
return by command, once it may return and while no tussock copy of a chain bound to it runs, sets the return for the
next boundary; DESC_CREATE stores a descriptor that passes the checks of R249 and R250 under the lowest free index and
answers with it; DESC_SET replaces the descriptor of an index that the tenant owns and no unit uses, and DESC_FREE
frees it; TUSSOCK_JUMP registers the jump of a unit. -/
def Obligations.TriggerCommandsSetTheirObjects : Prop :=
  ∀ (c : Cmd) (s u : State), u = touch c.at_ s →
    (Runs 0x0404 c s → names 8 c = true → (u.shaft (hIndex c)).state = .time → (u.shaft (hIndex c)).command = true →
      (u.shaft (hIndex c)).mayReturn = true → boundCopies u (hIndex c) = false → exec (.shaftReturn c) s = .next
          (replied 0x0404 c {} (u.modShaft (hIndex c)
        (fun x => { x with returnAt := true, mayReturn := false })))) ∧
    (∀ d i v, Runs 0x0503 c s → names 0 c = true → firstFail (descChecks d u) = none → freeDesc u = some i →
      v = { u with red := { u.red with descs := u.red.descs.set i (some d), descOwner := u.red.descOwner.set i c.tenant } } →
      exec (.descCreate c d) s = .next (replied 0x0503 c { result := leBytes 2 i, objs := [(handleOf 0x0A i, 3)] }
        (noteUse 3 v.red.descs.length v))) ∧
    (∀ d, Runs 0x0504 c s → names 0x0A c = true → (u.red.descs.get (hIndex c)).isSome = true →
      u.red.descOwner.get (hIndex c) = c.tenant → descBusy u (hIndex c) = false → firstFail (descChecks d u) = none →
      exec (.descSet c d) s = .next (replied 0x0504 c { objs := [(c.handle.toNat, 3)] }
        { u with red := { u.red with descs := u.red.descs.set (hIndex c) (some d) } })) ∧
    (Runs 0x0505 c s → names 0x0A c = true → (u.red.descs.get (hIndex c)).isSome = true →
      u.red.descOwner.get (hIndex c) = c.tenant → descBusy u (hIndex c) = false →
      exec (.descFree c) s = .next (replied 0x0505 c { progress := 1, objs := [(c.handle.toNat, 3)] }
        { u with red := { u.red with descs := u.red.descs.set (hIndex c) none, descOwner := u.red.descOwner.set (hIndex c) 0 } })) ∧
    (∀ target, Runs 0x0506 c s → names 9 c = true → (target < 65536 ∨ target = 0xFFFFFFFF) →
      exec (.tussockJump c target) s = .next (replied 0x0506 c {}
        (registerJump (hIndex c) (if target = 0xFFFFFFFF then none else some target) u)))

/-- Completion: SUBSCRIBE, UNSUBSCRIBE, ACK, RESEND and ATTACH: each answers a next state on every state and operands that
meet the hypotheses, which speak of state and operands alone. SUBSCRIBE to a stream that exists, on a DMA queue that
is made and of the right class, within the bounds, makes a subscription under the lowest free number that becomes
active at a boundary, and answers its handle and the largest record. By the owner of a subscription that is not
closed: UNSUBSCRIBE closes it at the next boundary; ACK of an item delivered acknowledges every item up to it; RESEND
of an item up to DELIVERED rewinds an active or stalled one; ATTACH of a detached one to a DMA queue records its
aborted completions there and resumes it. Each completes with DONE and changes nothing else. -/
def Obligations.SubscriptionCommandsActOnTheSubscription : Prop :=
  ∀ (c : Cmd) (s u : State), u = touch c.at_ s →
    (∀ pairs a i v, Runs 0x0600 c s → hClass c = 0x0B → kindOf (hIndex c) ≠ 15 → streamThere u (hIndex c) = true →
      pairsOk pairs = true → withPairs setSub pairs {} = some a → lagOk u (hIndex c) a = true →
      (a.autoAck = none ∨ a.bestEffort = true) → (u.queue c.tenant (4 + a.queue)).made = true →
      classFits u c.tenant a.queue a.bulk = true → ofOffChannel u (hIndex c) = false → dramServes u = true → freeSub u = some i →
      v = { u with str := { u.str with subs := u.str.subs.set i (some (newSub c (hIndex c) a u)) } } →
      (a.bulk = true ∨ boundHolds v = true) →
          ∀ w, w = v.modQueue c.tenant (4 + a.queue) (fun q => { q with cls := some a.bulk }) →
      exec (.subscribe c pairs) s = .next (replied 0x0600 c
        { result := leBytes 2 i ++ [0, 0] ++ leBytes 4 (largestOf w (hIndex c)), objs := [(handleOf 0x0C i, 3)] }
        (noteUse 2 (liveSubs w) w))) ∧
    (∀ x, hClass c = 0x0C → u.sub (hIndex c) = some x → (x.keyKind, x.keyId) = keyOf (u.tenant c.tenant) →
      (Runs 0x0601 c s → x.state ≠ .closed → exec (.unsubscribe c) s = .next (replied 0x0601 c
        { progress := 1, objs := [(c.handle.toNat, 3)] } (queueEvent (hIndex c) .close u))) ∧
      (∀ n, Runs 0x0603 c s → x.state ≠ .closed → n + 1 ≤ x.delivered → u.frozen = false →
        exec (.ack c n) s = .next (replied 0x0603 c {} (u.modSub (hIndex c) (fun y => y.ackTo (n + 1))))) ∧
      (∀ m, Runs 0x0604 c s → m ≤ x.delivered → (x.state = .active ∨ x.state = .stalled) →
        exec (.resend c m) s = .next (replied 0x0604 c {} (queueEvent (hIndex c) (.resend m) u))) ∧
      (∀ q v w, Runs 0x0605 c s → q < 4 → x.state = .detached → (u.queue c.tenant (4 + q)).made = true →
        classFits u c.tenant q x.bulk = true →
            v = each x.recorded (fun d s => putDma c.tenant (4 + q) { d with queue := q } s) u →
        w = v.modSub (hIndex c) (fun y => { y with recorded := [], tenant := c.tenant }) →
        exec (.attach c q) s = .next (replied 0x0605 c {} (queueEvent (hIndex c) (.attach q)
          (w.modQueue c.tenant (4 + q) (fun y => { y with cls := some x.bulk }))))))

/-- Completion: STREAM_STATUS, STREAM_LIST, SPK_JOB and SPK_JOB_COMPLETE: each answers a next state on every state and
operands that meet the hypotheses, which speak of state and operands alone. STREAM_STATUS by the owner or by tenant 0
gives, by its selector, state and mode with the largest record and DROPPED, the acknowledged and delivered positions,
or the oldest and newest item; STREAM_LIST lists the identifiers of the streams. SPK_JOB on a made DMA queue puts the
job behind the others, with a fresh context unless it resumes one, and answers ACCEPTED; the completion of a job that
waits takes it off the list and writes what the job engine makes of it, with its context when asked, and draws the
bytes read and written from the tenant's bucket. -/
def Obligations.StreamReportsAndSpkJobs : Prop :=
  ∀ (c : Cmd) (s u : State), u = touch c.at_ s →
    (∀ x, Runs 0x0602 c s → hClass c = 0x0C → u.sub (hIndex c) = some x →
      (c.tenant = 0 ∨ (x.keyKind, x.keyId) = keyOf (u.tenant c.tenant)) →
      exec (.streamStatus c 0) s = .next (replied 0x0602 c (done (leBytes 1 (subCode x.state)
        ++ leBytes 3 ((if x.bestEffort then 1 else 0) + (if x.bulk then 2 else 0)) ++ leBytes 4 (largestOf u x.gsi) ++ leBytes 8 x.dropped) u).1 u) ∧
      exec (.streamStatus c 1) s = .next (replied 0x0602 c
        { result := leBytes 8 (itemBefore x.acked) ++ leBytes 8 (itemBefore x.delivered) } u) ∧
      exec (.streamStatus c 2) s = .next (replied 0x0602 c
        { result := leBytes 8 (oldestItem (u.stream x.gsi)) ++ leBytes 8 (itemBefore (u.stream x.gsi).pub) } u)) ∧
    (Runs 0x0608 c s → names 0 c = true → exec (.streamList c) s = .next (replied 0x0608 c
      (report c 4 ((streamKeys u).map (fun k => leBytes 4 (gsiOf u k))) counted u).1 u)) ∧
    (∀ q j x, Runs 0x0607 c s → q < 4 → (u.queue c.tenant (4 + q)).made = true → dramServes u = true →
        (j.resume = true ∨ JobInOk j = false) →
      exec (.spkJob c q j x) s = .next
          (replied 0x0607 c { status := .accepted } { u with str := { u.str with jobs := u.str.jobs ++
        [{ tenant := c.tenant, queue := c.queue, dmaq := q, tag := c.tag, job := j, ctx := x }] } })) ∧
    (∀ q j x gen, Runs 0x0607 c s → q < 4 → (u.queue c.tenant (4 + q)).made = true → dramServes u = true → j.resume = false →
        JobInOk j = true →
      gen = ((u.str.gens.get c.tenant).map (fun g => (g + 1) % 2 ^ 31)).getD 0 →
      exec (.spkJob c q j x) s = .next (replied 0x0607 c { status := .accepted } { u with str := { u.str with
        gens := u.str.gens.set c.tenant (some gen)
        jobs := u.str.jobs ++ [{ tenant := c.tenant, queue := c.queue, dmaq := q, tag := c.tag, job := j,
                                 ctx := resetCtx j.kind gen j.firstSeq (j.op = 1) }] } })) ∧
    (∀ t tag x o v b, s.str.jobs.find? (fun y => decide (y.tenant = t) && decide (y.tag = tag)) = some x → s.mgmt.level = 0 →
      o = runJob x none →
          b = OutBuf.mk t tag o.out o.stats (if x.job.save = true ∧ o.reason ≠ 5 ∧ o.reason ≠ 6 then ctxBytes o.ctx else []) →
      v = { s with str := { s.str with jobs := s.str.jobs.filter (fun y => !(decide (y.tenant = t) && decide (y.tag = tag))) } } →
      exec (.spkJobComplete t tag) s = .next (finishLater t x.queue tag
        { status := o.status, progress := o.items, result := jobResult x.job o } none
        (drawBytes t (x.job.input.length + o.out.length)
          (({ v with host := { v.host with outs := b :: v.host.outs.filter (fun y => !(decide (y.tenant = t) && decide (y.tag = tag))) } } : State).modTenant t
            (Tenant.fill s.now)))))

/-- Completion: TIME_STATUS, TIME_SET, PTP_SET, PPS_SET, TIME_OF_DAY, PIN_LAUNCH and LINK_ASYM: each answers a next state
on every state and operands that meet the hypotheses, which speak of state and operands alone. TIME_STATUS lists the
registers of the function and changes nothing. TIME_SET, PTP_SET and PPS_SET take pairs within the ranges of their
table: the settings hold the values named; a new PTP domain or transport forgets the masters heard, and PTP turned off
or so moved loses a source that was usable. TIME_OF_DAY names the second of the first PPS edge from 100 ms on;
LINK_ASYM sets the asymmetry of a port to a value within 100,000 ps; PIN_LAUNCH books the level of a free pin for the
time named, while the measurement clock is locked and no failed start holds the outputs. Each completes with DONE,
PIN_LAUNCH when the level is set. -/
def Obligations.TimeCommandsSetTheTime : Prop :=
  ∀ (c : Cmd) (s u : State), u = touch c.at_ s →
    (names 0 c = true →
      (Runs 0x0700 c s → exec (.timeStatus c) s = .next (replied 0x0700 c
        (report c 16 (((timeRegs u ((tenantFn u c.tenant).getD 64)).zipIdx).map (fun p => item p.2 0 p.1))
          (fun _ => leBytes 2 (quality u).toNat ++ leBytes 1 (u.time.parent.getD 0xFF)) u).1 u)) ∧
      (∀ pairs x, Runs 0x0701 c s → pairsOk pairs = true → withPairs setTime pairs u.time = some x →
        exec (.timeSet c pairs) s = .next (replied 0x0701 c {} { u with time := x })) ∧
      (∀ pairs x v moved, Runs 0x0702 c s → pairsOk pairs = true → withPairs setPtp pairs u.time.ptp = some x →
        moved = (decide (x.domain ≠ u.time.ptp.domain) || decide (x.transport ≠ u.time.ptp.transport)) →
        v = { u with time := { u.time with ptp := { x with
          usable := x.usable && x.on && !moved, masters := if moved || !x.on then [] else x.masters } } } →
        exec (.ptpSet c pairs) s = .next (replied 0x0702 c {}
          (if x.usable = true ∧ (moved = true ∨ x.on = false) ∧ u.time.ppsSec = none then loseSource v else v))) ∧
      (∀ pairs x, Runs 0x0703 c s → pairsOk pairs = true → withPairs setPps pairs u.time = some x →
        exec (.ppsSet c pairs) s = .next (replied 0x0703 c {} { u with time := x })) ∧
      (∀ sec, Runs 0x0704 c s → sec < 2 ^ 48 → (∀ t, pulseAt u sec = some t → (u.now + todLead : Nat) ≤ t) →
        exec (.timeOfDay c sec) s = .next (replied 0x0704 c {}
          { u with time := { u.time with ppsNamed := some sec, ppsFrom := u.now + todLead } })) ∧
      (∀ pin level tt, Runs 0x0706 c s → isPin pin = true → tt.ns < 1000000000 → u.outputsHeld = false →
          u.mgmt.measLock = true → tachPin u pin none = false → actionPin u pin = false →
        exec (.pinLaunch c pin level tt) s = .next (replied 0x0706 c { later := true }
          { u with host := { u.host with pinJobs := u.host.pinJobs ++
            [{ pin := pin, level := level, at_ := instOf tt, tenant := c.tenant, queue := c.queue, tag := c.tag }] } }))) ∧
    (∀ ps, Runs 0x0705 c s → names 0x0D c = true → -100000 ≤ ps → ps ≤ 100000 →
      exec (.linkAsym c ps) s = .next (replied 0x0705 c {} (modXchg (hIndex c) (fun x => { x with asym := ps }) u)))

/-- Completion: PORT_STATUS, ROUTE_STATIC, ROUTE_READ, MCAST_SET, PORT_WAKE and ADDR_SET: each answers a next state on
every state and operands that meet the hypotheses, which speak of state and operands alone. PORT_STATUS and ROUTE_READ
report and change nothing. ROUTE_STATIC with primary and alternate ports puts a static route into the next table,
removing one takes it out; MCAST_SET sets the named multicast group, or on the hub's handle the lowest unmade one;
PORT_WAKE wakes a port in UP; ADDR_SET sets the age of addresses. -/
def Obligations.NetworkCommandsActOnTheNetwork : Prop :=
  ∀ (c : Cmd) (s u : State), u = touch c.at_ s →
    (Runs 0x0801 c s → names 0x0D c = true → ∃ r, r.later = false ∧ (r.status = .done ∨ r.status = .partialDone) ∧
      r.result = leBytes 1 (portCode (u.port (hIndex c)).state) ++ leBytes 1 (shownWidth u (hIndex c)) ++ leBytes 1 (u.port (hIndex c)).rate ∧
      exec (.portStatus c) s = .next (replied 0x0801 c r u)) ∧
    (∀ pfx len prim alt, names 0 c = true → len ≤ 10 → pfx < 2 ^ len →
        ∀ r st tab, r = { pfx := pfx, len := len, prim := prim, alt := if alt = 0xFF then none else some alt, static := true } →
      st = u.sky.statics.filter (fun x => !r.same x) → tab = u.sky.nextTab.getD u.sky.routes →
      (Runs 0x0802 c s → prim < 16 → (alt < 16 ∨ alt = 0xFF) → (withStatics (st ++ [r]) tab).length ≤ maxRoutes →
        exec (.routeStatic c pfx len prim alt false) s = .next
            (replied 0x0802 c {} (noteUse 4 (withStatics (st ++ [r]) tab).length
          { u with sky := { u.sky with statics := st ++ [r], nextTab := some (withStatics (st ++ [r]) tab) } }))) ∧
      (∀ new, Runs 0x0802 c s → u.sky.statics.any r.same = true →
          new = withStatics st (tab.filter (fun x => !(x.static && r.same x))) →
        exec (.routeStatic c pfx len prim alt true) s = .next (replied 0x0802 c {} (noteUse 4 new.length
          { u with sky := { u.sky with statics := st, nextTab := some new } })))) ∧
    (Runs 0x0803 c s → names 0 c = true → exec (.routeRead c) s = .next (replied 0x0803 c
      (report c 8 (u.sky.routes.map routeBytes ++ u.sky.unreach.map unreachBytes) counted u).1 u)) ∧
    (∀ mask loc alts i v, Runs 0x0804 c s → mask < 65536 → alts.length ≤ 16 → (∀ a ∈ alts, a < 16 ∨ a = 0xFF) →
      (names 0 c = true ∧ (List.range 64).find? (fun (i : Nat) => !(u.sky.mcast.get i).made) = some i ∨
       names 0 c = false ∧ names 0x0F c = true ∧ (u.sky.mcast.get (hIndex c)).made = true ∧ i = hIndex c) →
      v = { u with sky := { u.sky with mcast := u.sky.mcast.set i { made := true, mask := mask, loc := loc, alts := alts } } } →
      exec (.mcastSet c mask loc alts) s = .next (replied 0x0804 c { result := leBytes 1 i }
        (noteUse 7 (v.sky.mcast.filter (fun p => p.2.made)).length v))) ∧
    (Runs 0x0805 c s → names 0x0D c = true → (u.port (hIndex c)).state = .up →
      exec (.portWake c) s = .next (replied 0x0805 c {} (wakeNeed (hIndex c) u))) ∧
    (∀ pairs x, Runs 0x0806 c s → names 0 c = true → pairsOk pairs = true → withPairs setAddr pairs u.sky.ageH = some x →
      exec (.addrSet c pairs) s = .next (replied 0x0806 c {} { u with sky := { u.sky with ageH := x } }))

/-- Completion: CLOVER_SET, CLOVER_STATUS, CLOVER_SWAP, COMMAND, MEM_LAYOUT, MEM_STATUS, POLICY_CLASS, FURZE_SET,
ARB_RANK, ARB_WATCHDOG and TENANT_CAP: each answers a next state on every state and operands that meet the hypotheses,
which speak of state and operands alone. CLOVER_SET sets the pair configuration, CLOVER_STATUS reports state, role,
cause and decision number, and CLOVER_SWAP waits for the partner in a formed pair, proposes a swap of roles when the
partner has taken it, unless one is under way, and answers its boundary; in any other state it answers STATE.
MEM_LAYOUT sets grain and areas while no ring exists; MEM_STATUS reports and starts the high mark of staging anew;
ARB_RANK sets the shadow rank of a requester and commits the ranks when asked; ARB_WATCHDOG sets the limit of an
instance and enables a requester again when asked; POLICY_CLASS sets the policy; TENANT_CAP sets the tenant's cap for
the next boundary; FURZE_SET sets threshold and interval. -/
def Obligations.PairAndMemoryCommandsActOnTheirParts : Prop :=
  ∀ (c : Cmd) (s u : State), u = touch c.at_ s →
    (names 0 c = true →
      (∀ pairs x, Runs 0x0900 c s → pairsOk pairs = true → withPairs setClover pairs u.clover = some x →
        exec (.cloverSet c pairs) s = .next (replied 0x0900 c {} { u with clover := x })) ∧
      (Runs 0x0901 c s → exec (.cloverStatus c) s = .next (replied 0x0901 c (done (leBytes 1 (pairCode u.clover.state)
        ++ leBytes 1 (roleByte u) ++ leBytes 2 u.clover.cause ++ leBytes 4 u.clover.decSeq) u).1 u)) ∧
      (∀ v, takes u c = true → tagBusy u c = false → reservedFlags c.flags = false → c.tenant = 0 → badBuffer c u = false →
        u.clover.state = .formed → v = stayExec 0x0902 c true u →
        exec (.cloverSwap c) s = .next { v with clover := { v.clover with mirrors := v.clover.mirrors ++ [.cloverSwap c] } }) ∧
      (∀ t w v, w = touch t s → w.clover.state = .formed → w.clover.mirrors.contains (.cloverSwap c) = true → c.tenant = 0 →
        badBuffer c w = false → v = w.modClover (fun x => { x with mirrors := x.mirrors.erase (.cloverSwap c) }) →
        ∀ y, y = (if v.clover.swapAt.isSome then v else proposeSwap 2 v) →
        exec (.command (.cloverSwap c) (some .done) t) s = .next
            (answer 0x0902 c true { result := boundaryBytes (y.clover.swapAt.getD 0) } y)) ∧
      (Runs 0x0902 c s → u.clover.state ≠ .formed → exec (.cloverSwap c) s = .next
          (answer 0x0902 c false { status := .state } u)) ∧
      (∀ pairs x, Runs 0x0A00 c s → pairsOk pairs = true →
          withPairs setLayout pairs (u.mem.grain, (List.range 5).map (areaGiB u)) = some x →
        ringsExist u = false → (u.mem.pop.channels = [] ∨ x.2.sum ≤ u.mem.pop.gib) →
        exec (.memLayout c pairs) s = .next (replied 0x0A00 c {} { u with mem := { u.mem with
          grain := x.1, areas := if x.2 = (List.range 5).map (areaGiB u) then u.mem.areas else some x.2 } })) ∧
      (Runs 0x0A01 c s → ∃ r, r.later = false ∧ (r.status = .done ∨ r.status = .partialDone) ∧
        r.result = leBytes 8 (ctrOf u (ctrKey 0 0 1 0)).val ∧
        exec (.memStatus c) s = .next (replied 0x0A01 c r { u with mem := { u.mem with highMark := u.mem.staging } })) ∧
      (∀ pairs x, Runs 0x0A04 c s → pairsOk pairs = true → withPairs setPolicy pairs u.mem = some x → policyOk x = true →
        exec (.policyClass c pairs) s = .next (replied 0x0A04 c {} { u with mem := x })) ∧
      (∀ thr int, Runs 0x0A06 c s → 4096 ≤ thr → thr ≤ 65535 → 100 ≤ int → int ≤ 100000 →
        exec (.furzeSet c thr int) s = .next
            (replied 0x0A06 c {} { u with mem := { u.mem with furzeThr := thr, furzeInt := int } }))) ∧
    (∀ i r, requester c = some (i, r) →
      (∀ rank commit v, Runs 0x0A02 c s → rank < 16 → rankAllowed i r rank = true →
        v = u.modReq i r (fun x => { x with shadow := some rank }) →
        exec (.arbRank c rank commit) s = .next (replied 0x0A02 c {} (if commit then commitRanks i v else v))) ∧
      (∀ limit again v, Runs 0x0A03 c s → (limit = 0 ∨ 1000 ≤ limit ∧ limit ≤ 1000000) →
        v = (if limit = 0 then u else u.modInst i (fun x => { x with limit := some limit })) →
        exec (.arbWatchdog c limit again) s = .next (replied 0x0A03 c {}
          (if again then v.modReq i r (fun x => { x with disabled := false }) else v)))) ∧
    (∀ cap, Runs 0x0A05 c s → names 0x12 c = true → (u.tenant (hIndex c)).used = true → cap < 4096 →
      boundAllows (u.modTenant (hIndex c) (fun x => { x with cap := cap })) = true →
      exec (.tenantCap c cap) s = .next (replied 0x0A05 c {} (u.modTenant (hIndex c) (fun x => { x with capNext := some cap }))))

/-- Completion: SENSOR_READ, SENSOR_SET, UPDATE_BEGIN, UPDATE_CHUNK, UPDATE_COMMIT and I2C_XFER: each answers a next state
on every state and operands that meet the hypotheses, which speak of state and operands alone. SENSOR_READ reports the
value and over-range flag of a sensor. SENSOR_SET orders its settings. UPDATE_BEGIN of an image of at most the largest
size erases the inactive slot and opens the update; UPDATE_CHUNK at the offset held adds 1 to 65,536 bytes;
UPDATE_COMMIT answers ACCEPTED and the image is then verified and the update ends. I2C_XFER of 1 to 65,536 bytes to a
device that acknowledges moves them all; on a missing acknowledge it answers PARTIAL and the bus counts it. -/
def Obligations.ManagementCommandsActOnTheirParts : Prop :=
  ∀ (c : Cmd) (s u : State), u = touch c.at_ s →
    (Runs 0x0B00 c s → hClass c = 0x13 → isSensor (hIndex c) = true → exec (.sensorRead c) s = .next (replied 0x0B00 c
      { result := leInt 8 (u.sensor (hIndex c)).value ++ leBytes 1 (if (u.sensor (hIndex c)).overR then 1 else 0) } u)) ∧
    (names 0 c = true →
      (∀ pairs, Runs 0x0B01 c s → pairsOk pairs = true → sensorPairsOk pairs u = true →
        exec (.sensorSet c pairs) s = .next (replied 0x0B01 c {}
          { u with mgmt := { u.mgmt with sensorSets := u.mgmt.sensorSets ++ pairs } })) ∧
      (∀ bytes v, Runs 0x0B04 c s → bytes ≤ maxImage → u.mgmt.update = none → v = putInactive { valid := false } u →
        exec (.updateBegin c bytes) s = .next (replied 0x0B04 c {}
          { v with mgmt := { v.mgmt with update := some { bytes := bytes } } })) ∧
      (∀ len x, Runs 0x0B05 c s → u.mgmt.update = some x → 1 ≤ len → len ≤ 65536 → x.held + len ≤ x.bytes →
        exec (.updateChunk c x.held len) s = .next (replied 0x0B05 c
          { result := leBytes 4 (x.held + len), progress := x.held + len }
          { u with mgmt := { u.mgmt with update := some { x with held := x.held + len } } })) ∧
      (∀ live v x, Runs 0x0B06 c s → u.mgmt.update = some x → x.tag = none →
          (live = false ∨ u.clover.state = .formed ∧ u.clover.role = .standby ∧
          ∀ h, u.clover.last = some h → h.update = false) →
        exec (.updateCommit c live v) s = .next (endUpdate c live v (replied 0x0B06 c { status := .accepted }
          { u with mgmt := { u.mgmt with update := some { x with tag := some (c.tenant, c.queue, c.tag) } } })))) ∧
    (∀ addr wr rd data, Runs 0x0B07 c s → names 0x14 c = true → addr < 128 → 1 ≤ wr + rd → wr + rd ≤ 65536 →
        (hIndex c ≠ 1 ∨ wr = 0) →
      (u.bus (hIndex c)).state ≠ .stuck →
      exec (.i2cXfer c addr wr rd none data) s = .next (replied 0x0B07 c
        { progress := wr + rd, result := leBytes 4 (wr + rd), out := some (data.take rd) } u) ∧
      ∀ n, n ≤ wr + rd → exec (.i2cXfer c addr wr rd (some n) data) s = .next (replied 0x0B07 c
        { status := .partialDone, progress := n, result := leBytes 4 n, out := some (data.take (n - wr)) }
        (bump (ctrKey 0x14 (hIndex c) 0 0) u)))

/-- Completion: LOOP_SET, PRBS_SET, PRBS_STATUS, FIFO_STATUS, COUNTER_READ, COUNTER_WRITE and MEM_TEST: each answers a
next state on every state and operands that meet the hypotheses, which speak of state and operands alone. While the
lane clock is locked, LOOP_SET on a port that is not the pair's ends a near loop, sets one with the port idle, or asks
the far end for a loop on a port in UP; PRBS_SET of a polynomial of the table idles the lane's ports when a generator
or checker starts or ends and sets both, at shedding level 0 while no failed start holds the lanes, or to turn them
off; PRBS_STATUS reports bits, errors and relocks, the bits and errors since the last lock free; FIFO_STATUS and
COUNTER_READ report and change nothing; COUNTER_WRITE of a value that the counter can hold waits for the next
boundary; MEM_TEST of a channel at level 0, with memory serving and no ring, reports its errors. -/
def Obligations.DiagnosticCommandsActOnTheirParts : Prop :=
  ∀ (c : Cmd) (s u : State), u = touch c.at_ s →
    (names 0x0D c = true → pairPort u (hIndex c) = false → u.mgmt.laneLock = true →
      (Runs 0x0C00 c s → exec (.loopSet c 0) s = .next (replied 0x0C00 c {} (if (u.port (hIndex c)).loop = .none then u
        else portToIdle (hIndex c) (u.modPort (hIndex c) (fun q => { q with loop := .none }))))) ∧
      (Runs 0x0C00 c s → exec (.loopSet c 1) s = .next (replied 0x0C00 c {}
        ((portToIdle (hIndex c) u).modPort (hIndex c) (fun q => { q with loop := .nearSerial })))) ∧
      (Runs 0x0C00 c s → exec (.loopSet c 2) s = .next (replied 0x0C00 c {}
        ((portToIdle (hIndex c) u).modPort (hIndex c) (fun q => { q with loop := .nearParallel })))) ∧
      (Runs 0x0C00 c s → (u.port (hIndex c)).state = .up → (u.port (hIndex c)).loopTag = none →
        exec (.loopSet c 3) s = .next (replied 0x0C00 c { later := true }
          (u.modPort (hIndex c) (fun q => { q with loopTag := some (c.tenant, c.queue, c.tag) }))))) ∧
    (∀ poly gen chk on ports, Runs 0x0C01 c s → names 0x0E c = true → (poly = 0 ∨ poly = 7 ∨ poly = 15 ∨ poly = 31) →
      ports = (List.range 16).filter (fun p => (portLanes u p).contains (hIndex c)) → (∀ p ∈ ports, pairPort u p = false) →
      on = (decide (poly ≠ 0) && (gen || chk)) → u.mgmt.laneLock = true →
          (on = false ∨ u.mgmt.level = 0 ∧ u.outputsHeld = false) →
      exec (.prbsSet c poly gen chk) s = .next
          (replied 0x0C01 c {} ((when (on || ((u.lane (hIndex c)).gen || (u.lane (hIndex c)).chk)) (each ports portToIdle) u).modLane (hIndex c)
        (fun x => { x with poly := poly, gen := on && gen, chk := on && chk, locked := x.locked && x.chk && on && chk && decide (x.poly = poly) })))) ∧
    (∀ x v bits errors, Runs 0x0C02 c s → names 0x0E c = true → x = u.lane (hIndex c) → v = (drawn u).2 →
      (bits, errors) = (if x.locked && x.chk then Config.prbsSeen (drawn u).1 else (0, 0)) →
      exec (.prbsStatus c) s = .next (replied 0x0C02 c
        { result := leBytes 8 ((x.bits.toNat + bits) % 2 ^ 64) ++ leBytes 4 (min (x.errors + errors) (2 ^ 32 - 1)) ++ leBytes 4 x.relocks } v)) ∧
    (Runs 0x0C03 c s → names 0 c = true → ∃ r, r.later = false ∧ (r.status = .done ∨ r.status = .partialDone) ∧
      r.result = leBytes 4 r.progress ∧ exec (.fifoStatus c) s = .next (replied 0x0C03 c r u)) ∧
    (∀ field k, namesSome c = true → namedCounter c field = some k →
      (Runs 0x0C04 c s → exec (.counterRead c field) s = .next (replied 0x0C04 c
        { result := leBytes 8 (ctrOf u k).val ++ leBytes 1 (if (ctrOf u k).sat then 1 else 0) } u)) ∧
      (∀ value, Runs 0x0C05 c s → value ≤ ctrTop k → exec (.counterWrite c field value) s = .next
          (replied 0x0C05 c { later := true }
        { u with host := { u.host with writes := u.host.writes ++
          [{ key := k, value := value, tenant := c.tenant, queue := c.queue, tag := c.tag, at_ := u.now }] } }))) ∧
    (∀ ch mib errors, Runs 0x0C07 c s → names 0 c = true → ch < 8 → ch ∈ u.mem.pop.channels →
      mib * u.mem.pop.channels.length ≤ u.mem.pop.gib * 1024 → dramServes u = true → u.mgmt.level = 0 → ringsExist u = false →
      exec (.memTest c ch mib errors) s = .next (replied 0x0C07 c { result := leBytes 8 errors } u))

/-- Completion: SPAN_EXCURSION, FAST_ACQUISITION_END and BIAS_STATE: each answers a next state on every state and operands
that meet the hypotheses, which speak of state and operands alone. SPAN_EXCURSION of a channel's positive or negative
pin that was in the other state sets the flag of the pin and journals it. When a fast acquisition has run its 8,000
swaths, FAST_ACQUISITION_END ends it and reports the classification that has held for 32 swaths, if one has.
BIAS_STATE reports a classification that has held for 32 swaths on an IEPE channel that is not acquiring. Nothing else
changes. -/
def Obligations.BiasAndSpanEventsSetTheirFlags : Prop :=
  ∀ (s : State),
    (∀ ch (on : Bool) t u, u = touch t s → isChannel ch = true → (u.chan ch).outP ≠ on →
        exec (.spanExcursion ch 0 on t) s = .next
        (postAt t pTile 0x0201 (hChan ch) [vU (if on then 1 else 0), vU 0] (u.modChan ch (fun c => { c with outP := on })))) ∧
    (∀ ch (on : Bool) t u, u = touch t s → isChannel ch = true → (u.chan ch).outN ≠ on →
        exec (.spanExcursion ch 1 on t) s = .next
        (postAt t pTile 0x0201 (hChan ch) [vU (if on then 1 else 0), vU 1] (u.modChan ch (fun c => { c with outN := on })))) ∧
    (∀ ch v, isChannel ch = true → (s.chan ch).acquiring = true → (s.chan ch).acqLeft = 0 →
        v = s.modChan ch (fun c => { c with acquiring := false }) → exec (.fastAcquisitionEnd ch) s = .next
        (if 32 ≤ (s.chan ch).biasRun then reportBias ch (s.chan ch).biasClass v else v)) ∧
    (∀ ch, isChannel ch = true → (s.chan ch).mode = .iepe → (s.chan ch).acquiring = false → 32 ≤ (s.chan ch).biasRun →
        exec (.biasState ch) s = .next (reportBias ch (s.chan ch).biasClass s))

/-- Completion: EXC_LIMIT, EXC_FAULT, EXC_RETRY, EXC_WINDOW_FLAG, EXC_SETTLED, EXC_LOCAL_SENSE, EXC_REMOTE_SENSE_RETURN
and EXC_LIMIT_EXIT: each answers a next state on every state and operands that meet the hypotheses, which speak of
state and operands alone. On an existing group: EXC_LIMIT enters the limit with the voltage and current sensed;
EXC_LIMIT_EXIT leaves it for the state that sense and EXT give; EXC_FAULT turns the output off, for good after 10
retries; EXC_RETRY starts the next ramp with EXT; EXC_SETTLED ends EXT after 32 whole swaths within tolerance and
takes the driver to the state it then drives in; EXC_WINDOW_FLAG follows the comparator; EXC_LOCAL_SENSE and
EXC_REMOTE_SENSE_RETURN change the sense and keep the limit; each journals what its rule names and changes nothing
else. -/
def Obligations.ExcitationEventsFollowTheDriver : Prop :=
  ∀ (s : State),
    (∀ g mv ua, isGroup g = true → (s.group g).enabled = true → (s.group g).inLimit = false → (s.group g).state ≠ .fault →
        (s.group g).state ≠ .off → exec (.excLimit g mv ua) s = .next
        (post pTile 0x0203 (hGroup g) [vU 1, vU mv, vU ua] (s.modGroup g (fun x => { x with inLimit := true, state := .limit, sensedMv := mv, currentUa := ua })))) ∧
    (∀ g, isGroup g = true → (s.group g).inLimit = true → exec (.excFault g) s = .next
        (post pTile 0x0204 (hGroup g) [vU (s.group g).retries, vU (if 10 ≤ (s.group g).retries then 1 else 0)] (s.modGroup g (fun x => { x.die s.now with inLimit := false, state := .fault, staysOff := decide (10 ≤ (s.group g).retries), okSwaths := 0, swathOk := false, currentUa := 0 })))) ∧
    (∀ g, isGroup g = true → (s.group g).state = .fault → (s.group g).staysOff = false → exec (.excRetry g) s = .next
        (post pTile 0x0205 (hGroup g) [vU ((s.group g).retries + 1)] (s.modGroup g (fun x => { x with state := if x.sense then .localSense else .ramp, retries := x.retries + 1, ext := true, okSwaths := 0, swathOk := false })))) ∧
    (∀ g (out : Bool) mv, isGroup g = true → exec (.excWindowFlag g out mv) s = .next
        (s.modGroup g (fun x => { x with flagged := out, sensedMv := mv, swathOk := x.swathOk && !out, okSwaths := if out then 0 else x.okSwaths }))) ∧
    (∀ g, isGroup g = true → (s.group g).ext = true → 32 ≤ (s.group g).okSwaths → exec (.excSettled g) s = .next
        (s.modGroup g (fun x => if x.down then { x with ext := false, retries := 0 } else { Group.live s.now { x with ext := false, retries := 0 } with state := if x.inLimit then .limit else if x.sense then .localSense else .regulating }))) ∧
    (∀ g mv, isGroup g = true → (s.group g).enabled = true → (s.group g).sense = false → (s.group g).down = false →
        exec (.excLocalSense g mv) s = .next
        (post pTile 0x0206 (hGroup g) [vU 1, vU mv] (s.modGroup g (fun x => { x with sense := true, state := if x.inLimit then .limit else .localSense })))) ∧
    (∀ g mv, isGroup g = true → (s.group g).sense = true → exec (.excRemoteSenseReturn g mv) s = .next
        (post pTile 0x0206 (hGroup g) [vU 0, vU mv] (s.modGroup g (fun x => { x with sense := false, state := if x.down then x.state else if x.inLimit then .limit else if x.ext then .ramp else .regulating })))) ∧
    (∀ g mv ua, isGroup g = true → (s.group g).inLimit = true → exec (.excLimitExit g mv ua) s = .next
        (post pTile 0x0203 (hGroup g) [vU 0, vU mv, vU ua] (s.modGroup g (fun x => { x with inLimit := false, state := if x.sense then .localSense else if x.ext then .ramp else .regulating, sensedMv := mv, currentUa := ua }))))

/-- Completion: TILE_LINK_TRAINING_DONE, MODULATOR_START, REF_SETTLED, TILE_CLOCK_LOST, TILE_GROUP_RETRAIN,
TILE_REPAIR_SWITCH, MOD_LOOP_RESET and MOD_LOOP_RESTART: each answers a next state on every state and operands that
meet the hypotheses, which speak of state and operands alone. On an existing tile or group of wires:
TILE_LINK_TRAINING_DONE, in MEM_TRAIN on a locked PLL and before the modulators start, takes the failed wires and
declares failed by criterion 5 every modulator of a lost slice not known as failed, spares first; MODULATOR_START sets
the modulators running once PLL, link and reference allow; REF_SETTLED ends the settling; TILE_CLOCK_LOST and
TILE_GROUP_RETRAIN act on the group; TILE_REPAIR_SWITCH after the clean swaths has the ordered wire taken at the next
boundary; MOD_LOOP_RESET and MOD_LOOP_RESTART act on the modulator. -/
def Obligations.TileEventsActOnTheTile : Prop :=
  ∀ (s : State),
    (∀ tile bad u ms fail, isTile tile = true → s.mgmt.startup = .memTrain → s.mgmt.measLock = true →
        (s.tile tile).started = false → (∀ g, g < 4 → (s.link (linkKey tile g)).clockLost = false) →
        u = (each (List.range 4) (fun g s => trainGroup tile g bad s) s).modTile tile (fun x => { x with trained := true }) →
        ms = (modsOf tile).filter (fun m => lostSlice u tile (sliceOfMod m)) →
        fail = (fun (m : Nat) (s : State) => if knownFailed s m then s else declareFailed m 5 false s) →
        exec (.tileLinkTrainingDone tile bad) s = .next (each (ms.filter isChannel) fail (each (ms.filter isSpare) fail u))) ∧
    (∀ tile, isTile tile = true → s.mgmt.measLock = true → (s.tile tile).trained = true → (s.tile tile).refOn = true →
        (s.tile tile).settling = false → (s.tile tile).refFault = false → (s.tile tile).started = false →
        exec (.modulatorStart tile) s = .next
        (each (modsOf tile) (fun m s => s.modModu m (fun x => { x with running := true })) (s.modTile tile (fun x => { x with started := true })))) ∧
    (∀ tile u v, isTile tile = true → (s.tile tile).settling = true →
        u = s.modTile tile (fun x => { x with settling := false, refCause := 0 }) →
        v = (if (s.tile tile).refCause = 0 then u else post pTile 0x0208 (hTile tile) [vU 0, vS (s.tile tile).refDev, vU (s.tile tile).refCause] u) →
        exec (.refSettled tile) s = .next (if coversMayRun v tile then resumeCovers tile v else v)) ∧
    (∀ tile grp, isTile tile = true → grp < 4 → (s.link (linkKey tile grp)).clockLost = false →
        exec (.tileClockLost tile grp) s = .next
        (suspendCovers tile (linkEntry tile grp 1 0 (s.modLink (linkKey tile grp) (fun x => { x with clockLost := true }))))) ∧
    (∀ tile grp (back : Bool) u, isTile tile = true → grp < 4 → (s.link (linkKey tile grp)).clockLost = true →
        u = linkEntry tile grp 2 0 (s.modLink (linkKey tile grp) (fun x => { x with clockLost := !back })) →
        exec (.tileGroupRetrain tile grp back) s = .next (if coversMayRun u tile then resumeCovers tile u else u)) ∧
    (∀ tile grp w, isTile tile = true → grp < 4 → (s.link (linkKey tile grp)).ordered = some w →
        repairSwaths ≤ (s.link (linkKey tile grp)).clean → exec (.tileRepairSwitch tile grp) s = .next
        (s.modLink (linkKey tile grp) (fun x => { x with takeNext := true }))) ∧
    (∀ m, isModulator m = true → (s.modu m).running = true → (s.modu m).resetting = false → overLimit ≤ (s.modu m).overRun →
        exec (.modLoopReset m) s = .next
        (bump (resetCtr m) (s.modModu m (fun x => { x with resetting := true, resetsSec := x.resetsSec + 1 })))) ∧
    (∀ m, isModulator m = true → (s.modu m).resetting = true → exec (.modLoopRestart m) s = .next
        (s.modModu m (fun x => { x with resetting := false, overRun := 0 })))

/-- Completion: MOD_FAILED, SPARE_SUSPECT, COVER_TAKEOVER, PRIMARY_RESTART, COVER_HANDBACK, REFCHECK_DONE and
SUBSTITUTION_END: each answers a next state on every state and operands that meet the hypotheses, which speak of state
and operands alone. MOD_FAILED of a modulator that meets the criterion and is not known as failed declares it failed.
SPARE_SUSPECT after 256 swaths makes a spare that never matched suspect: shadowing, its channel loses the cover and
seeks another, serving, its channel is moved to another spare. COVER_TAKEOVER and COVER_HANDBACK with trims within
range and a match within tolerance, once their swaths have passed, schedule takeover and handback with the trims
found; PRIMARY_RESTART, 1 µs before the stop is two swaths old, starts the stopped primary on its new set;
REFCHECK_DONE after 64 swaths sets the spare's reference gain; SUBSTITUTION_END applies the set of the substituted
modulator. -/
def Obligations.CoverAndFailureEventsActOnSpares : Prop :=
  ∀ (s : State),
    (∀ m k (ok : Bool), isModulator m = true → 1 ≤ k → k ≤ 6 → knownFailed s m = false → hasFailed s m k = true →
        exec (.modFailed m k ok) s = .next (declareFailed m k ok s)) ∧
    (∀ m ch cv u, isSpare m = true → (s.spare m).source = some ch → (s.spare m).suspect = false → (s.chan ch).cover = some cv →
        cv.spare = m → cv.entered = true → cv.ordered = false → cv.serving = false → cv.stopped = false → cv.takeAt = none →
        cv.handback = false → cv.start + suspectSwaths ≤ s.time.swath →
        u = post pTile 0x020E (hMod m) [vU ch, vU (s.time.swath - cv.start)] (s.modSpare m (fun x => { x with suspect := true })) →
        exec (.spareSuspect m) s = .next (loseCover ch u)) ∧
    (∀ m ch cv u, isSpare m = true → (s.spare m).source = some ch → (s.spare m).suspect = false → (s.chan ch).cover = some cv →
        cv.spare = m → cv.entered = true → cv.ordered = false → cv.serving = true → cv.stopped = false → cv.handback = false →
        cv.ranFrom + suspectSwaths ≤ s.time.swath →
        u = post pTile 0x020E (hMod m) [vU ch, vU (s.time.swath - cv.ranFrom)] (s.modSpare m (fun x => { x with suspect := true })) →
        exec (.spareSuspect m) s = .next (moveCover ch u)) ∧
    (∀ ch gain offs k cv, isChannel ch = true → k = Match.mk gain.1 offs.1 gain.2 offs.2 → (s.chan ch).cover = some cv →
        cv.entered = true → cv.serving = false → cv.suspended = false → cv.ordered = false → cv.start + 4 ≤ nextBoundary s →
        trimsOk k = true → matchNear k = true → exec (.coverTakeover ch gain offs) s = .next
        (s.modChan ch (fun c => { c with cover := some { cv with takeAt := some (nextBoundary s), trim := some (k.gain, k.offs) } }))) ∧
    (∀ m t u v b cv, u = touch t s → isChannel m = true → mainMod u m = m → (u.modu m).stopAt = some b →
        t = boundary (b + 2) - nsSpan 1000 → (u.chan m).cover = some cv → cv.stopped = true → cv.suspended = false →
        cv.late = false → tileReached u m = true →
        v = (u.modModu m (fun x => { x with running := true, overRun := 0, resetting := false, sameRun := 0, stopAt := none })).modModu m (fun x => { x with active := x.proposed.getD x.active }) →
        exec (.primaryRestart (m, t)) s = .next
        (v.modChan m (fun c => { c with cover := some { cv with stopped := false, late := false, ranFrom := b + 2 } }))) ∧
    (∀ ch gain offs k cv, isChannel ch = true → k = Match.mk gain.1 offs.1 gain.2 offs.2 → (s.chan ch).cover = some cv →
        cv.serving = true → cv.stopped = false → cv.suspended = false → cv.ranFrom + 4 ≤ nextBoundary s → trimsOk k = true →
        matchNear k = true → exec (.coverHandback ch gain offs) s = .next
        (s.modChan ch (fun c => { c with cover := some { cv with handback := true, trim := some (k.gain, k.offs) } }))) ∧
    (∀ m gain b, isSpare m = true → (s.spare m).state = .refcheck → (s.spare m).refFrom = some b → b + 64 ≤ nextBoundary s →
        trimsOk { gain := gain } = true → exec (.refcheckDone m gain) s = .next
        (s.modSpare m (fun x => { x with refGain := some gain }))) ∧
    (∀ ch b m u, isChannel ch = true → (s.chan ch).stopB = some b → b + 2 ≤ s.time.swath + 1 →
        tileReached s (mainMod s ch) = true → u = s.modChan ch (fun c => { c with stopB := none }) → m = mainMod s ch →
        exec (.substitutionEnd ch) s = .next
        (roundDone m (setApplied m (b + 2) 1 (u.modModu m (fun x => { x with running := true, stopAt := none })))))

/-- Completion: CAL_RUN_DONE answers a next state on every state and operands that meet the hypotheses, which speak of
state and operands alone. CAL_RUN_DONE at the end of a run. A void run counts and, below 16 in a row, starts the run
anew; the 16th leaves the modulator degraded for reason 2. A run that counts starts the void count anew and keeps
residual and margin; the first of a pair is kept and the second run starts; after the second, the agreement is judged
on the two sets over the second run's codes: runs that agree within the limit finish the attempt, and others make an
attempt fail, the 4th leaving the modulator degraded for reason 1 and one below it starting the next. -/
def Obligations.CalibrationRunsDecideTheSet : Prop :=
  ∀ (s : State) (m : Nat) (r : CalRun) (x : Modulator), isModulator m = true → x = s.modu m → runEnded s m = true →
    (x.dirty = true → ∀ v, v = s.modModu m (fun y => { y with voids := y.voids + 1 }) →
      exec (.calRunDone m r) s = .next (if 16 ≤ x.voids + 1 then degrade m 2 x.attempts v else startEst m s.time.swath v)) ∧
    (x.dirty = false → ∀ v, v = s.modModu m (fun y => { y with voids := 0, residual := r.residual, margin := r.margin }) →
      (x.firstRun = none → exec (.calRunDone m r) s = .next
          (startEst m s.time.swath (v.modModu m (fun y => { y with firstRun := some r })))) ∧
      (∀ q a w, x.firstRun = some q → a = Config.agreement (shapeSet q.set) (shapeSet r.set) (codeCounts x) →
        w = v.modModu m (fun y => { y with
          agreement := a, firstAgr := if y.attempts = 0 then a else y.firstAgr, residuals := y.residuals ++ [r.residual]
          badRes := if -90 * 256 < r.residual then y.badRes + 1 else 0 }) →
        ∀ z, z = w.modModu m (fun y => { y with firstRun := none, attempts := x.attempts + 1 }) →
          exec (.calRunDone m r) s = .next (if a ≤ agreeLimit then attemptDone m r w
            else if 4 ≤ x.attempts + 1 then degrade m 1 (x.attempts + 1) z else startEst m s.time.swath z)))

/-- Completion: STAGING_RECOVER, RECORD_DELIVERY, BULK_CREDIT_TIMEOUT, RETENTION_EXPIRY, DRAM_WRITE_COMPLETE and
MRAM_WRITE_COMPLETE: each answers a next state on every state and operands that meet the hypotheses, which speak of
state and operands alone. STAGING_RECOVER makes room and ends the loss when staging is below its size; RECORD_DELIVERY
delivers to a subscription; BULK_CREDIT_TIMEOUT completes the oldest credit of a BULK subscription that holds records,
while its session is in use and nothing is flushed; RETENTION_EXPIRY queues the closing of a detached subscription for
the next boundary; DRAM_WRITE_COMPLETE lets the writes at the front of each channel's transactions land and marks the
oldest record that is not in DRAM as stored, and when that moves the item up to which everything is stored it becomes
the journal word, not yet written; MRAM_WRITE_COMPLETE marks the journal word written. Nothing else changes. -/
def Obligations.StreamEventsMoveRecords : Prop :=
  ∀ (s : State),
    (∀ bytes v, v = { s with mem := { s.mem with staging := s.mem.staging - bytes } } → exec (.stagingRecover bytes) s = .next
        (if s.mem.staging - bytes < stagingSize then clearLost v else v)) ∧
    (∀ sub t u, u = touch t s → sub < 4096 → exec (.recordDelivery sub t) s = .next (deliver sub t u)) ∧
    (∀ sub u c cs, sub < 4096 → s.sub sub = some u → u.credits = c :: cs → u.bulk = true → 0 < c.records →
        (s.tenant u.tenant).used = true → s.frozen = false → exec (.bulkCreditTimeout sub) s = .next
        (completeCredit sub false s)) ∧
    (∀ sub u, sub < 4096 → s.sub sub = some u → u.state = .detached → exec (.retentionExpiry sub) s = .next
        (queueEvent sub .expired s)) ∧
    (∀ gsi bytes v, v = each (List.range 8) storeFront { s with mem := { s.mem with staging := s.mem.staging - bytes } } →
        exec (.dramWriteComplete gsi bytes) s = .next (v.modStream (keyOfGsi gsi) (fun x =>
        let y := { x with ring := match x.ring.findIdx? (fun r => !r.stored) with
          | none => x.ring
          | some i => x.ring.modify i (fun r => { r with stored := true }) }
        if storedTo y = x.pub then y else { y with journW := storedTo y, journOk := false }))) ∧
    (∀ gsi, exec (.mramWriteComplete gsi) s = .next (s.modStream (keyOfGsi gsi) (fun x => { x with journOk := true })))

/-- Completion: ADM_ENABLE_SET, ADM_ENABLE_CLEAR, D3HOT_ENTRY, FLR, VF_ENABLE_CLEAR, HOT_RESET and PCIE_LINK_DOWN: each
answers a next state on every state and operands that meet the hypotheses, which speak of state and operands alone.
ADM_ENABLE_SET on a function with ENABLE 0 and valid admin registers opens the session of the PF as tenant 0, or of a
VF as the lowest free tenant; with none free or invalid registers the session fails with NO_RESOURCE or BAD_PARAM.
ADM_ENABLE_CLEAR and D3HOT_ENTRY end the session of the function; FLR, VF_ENABLE_CLEAR and HOT_RESET end the sessions
of the functions that they reset, whose registers return to reset; PCIE_LINK_DOWN ends those of the link. -/
def Obligations.SessionEventsOpenAndEndSessions : Prop :=
  ∀ (s : State),
    (∀ fn t, isFn fn = true → (s.func fn).enable = false → admValid (s.func fn) = true →
        (if fn = 0 then (if (s.tenant 0).used = true ∨ (s.tenant 0).ended = true then none else some 0) else freeTenant s) = some t →
        exec (.admEnableSet fn) s = .next (openSession fn t s)) ∧
    (∀ fn, isFn fn = true → (s.func fn).enable = false → admValid (s.func fn) = false → exec (.admEnableSet fn) s = .next
        (failOpen fn .badParam s)) ∧
    (∀ fn, isFn fn = true → (s.func fn).enable = false → admValid (s.func fn) = true →
        (if fn = 0 then (if (s.tenant 0).used = true ∨ (s.tenant 0).ended = true then none else some 0) else freeTenant s) = none →
        exec (.admEnableSet fn) s = .next
        (post pPcie 0x0105 (handleOf 0x12 0) [vU fn, vU 0x8006] (failOpen fn .noResource s))) ∧
    (∀ fn, isFn fn = true → exec (.admEnableClear fn) s = .next (endSession fn false s)) ∧
    (∀ fn, isFn fn = true → exec (.d3hotEntry fn) s = .next (endSession fn (s.func fn).enable s)) ∧
    (∀ fn, isFn fn = true → exec (.flr fn) s = .next
        (each (if fn = 0 then allFns else [fn]) (fun f s => s.modFunc f (fun _ => {})) (endSessions (if fn = 0 then allFns else [fn]) false s))) ∧
    (exec (.vfEnableClear) s = .next
        (each (allFns.drop 1) (fun f s => s.modFunc f (fun _ => {})) (endSessions (allFns.drop 1) false s))) ∧
    (exec (.hotReset) s = .next (each allFns (fun f s => s.modFunc f (fun _ => {})) (endSessions allFns false s))) ∧
    (exec (.pcieLinkDown) s = .next (linkDownPcie s))

/-- Completion: DB_SQ_TAIL_WRITE, DB_CQ_HEAD_WRITE and DMA_FAULT: each answers a next state on every state and operands
that meet the hypotheses, which speak of state and operands alone. DB_SQ_TAIL_WRITE with a tail inside a made queue of
an open session sets the tail and fetches the entries up to it (or keeps them until a warm restart ends), or for a DMA
queue that runs posts their credits; DB_CQ_HEAD_WRITE sets the head, writes the completions that wait and raises the
vector when any remain to be taken or were written; with no session, an unmade queue or an index outside the ring,
either is the violation of R548. DMA_FAULT records a violation of kind 6, completes the command named with VIOLATION
and stops a DMA queue. -/
def Obligations.DoorbellsMoveTheirQueues : Prop :=
  ∀ (s : State),
    (∀ fn q tail cmds credits t u x qu v n, u = touch t s → isFn fn = true → q < 4 → openTenant u fn = some x →
        qu = u.queue x q → qu.made = true → tail < qu.size → n = (tail + qu.size - qu.tail) % qu.size →
        v = u.modQueue x q (fun k => { k with tail := tail, head := (k.head + min n cmds.length) % k.size }) →
        exec (.dbSqTailWrite fn q tail cmds credits t) s = .next
        (if u.mgmt.warm then v.modQueue x q (fun k => { k with late := k.late ++ cmds.take n }) else each (cmds.take n) (fetchOne x q) v)) ∧
    (∀ fn q tail cmds credits t u x qu v, u = touch t s → isFn fn = true → 4 ≤ q → q < 8 → openTenant u fn = some x →
        qu = u.queue x q → qu.made = true → tail < qu.size → v = u.modQueue x q (fun k => { k with tail := tail }) →
        exec (.dbSqTailWrite fn q tail cmds credits t) s = .next (if qu.stopped then v else postCredits x (q - 4) credits v)) ∧
    (∀ fn q head t u x qu v, u = touch t s → isFn fn = true → q < 8 → openTenant u fn = some x → qu = u.queue x q →
        qu.made = true → head < qu.cqSize → v = u.modQueue x q (fun k => Queue.drain k.held.length { k with cqHead := head }) →
        exec (.dbCqHeadWrite fn q head t) s = .next
        (if (v.queue x q).cqTail ≠ head ∨ (v.queue x q).held.length < qu.held.length then raiseQueue (fnOf (v.tenant x)) qu.vector v else v)) ∧
    (∀ fn q tail cmds credits t u, u = touch t s → isFn fn = true → q < 8 →
        (openTenant u fn = none ∨ ∃ x, openTenant u fn = some x ∧ ((u.queue x q).made = false ∨ (u.queue x q).size ≤ tail)) →
        exec (.dbSqTailWrite fn q tail cmds credits t) s = .next (badDoorbell fn (0x1040 + 8 * q) t u)) ∧
    (∀ fn q head t u, u = touch t s → isFn fn = true → q < 8 →
        (openTenant u fn = none ∨ ∃ x, openTenant u fn = some x ∧ ((u.queue x q).made = false ∨ (u.queue x q).cqSize ≤ head)) →
        exec (.dbCqHeadWrite fn q head t) s = .next (badDoorbell fn (0x1044 + 8 * q) t u)) ∧
    (∀ fn q addr t u x v, u = touch t s → isFn fn = true → q < 8 → openTenant u fn = some x →
        v = violate (some fn) { kind := 6, addr := addr, tenant := x, time := shortTime t } u →
        exec (.dmaFault fn q addr none t) s = .next
        (if 4 ≤ q then v.modQueue x q (fun k => { k with stopped := true }) else v)) ∧
    (∀ fn q addr g t u x v w, u = touch t s → isFn fn = true → q < 4 → openTenant u fn = some x →
        v = violate (some fn) { kind := 6, addr := addr, tenant := x, time := shortTime t } u →
        w = { v with str := { v.str with jobs := v.str.jobs.filter (fun j => !(decide (j.tenant = x) && decide (j.tag = g))) } } →
        exec (.dmaFault fn q addr (some g) t) s = .next (finishLater x q g { status := .violation } none w))

/-- Completion: REGISTER_WRITE, HIGH_WORD_LATCH_READ, VIOL_CLEAR, VIOL_LOST_CLEAR, SNAP_TAKE_NOW, SNAP_TAKE_PPS and
SNAP_TAKE_SWATH: each answers a next state on every state and operands that meet the hypotheses, which speak of state
and operands alone. On an existing function: REGISTER_WRITE of an admin register of the right width with ENABLE 0 sets
the base and sizes to the bits that the register holds, a write to the snapshot control sets its mode, or takes or
arms the snapshot when it asks for one, a write to an unmapped offset is violation 1, one of the wrong width violation
2, and one to an admin register with ENABLE 1 violation 3; HIGH_WORD_LATCH_READ of 64 bits answers both words, one of
the low word alone answers it and latches the high word, which the read of the high word then answers and releases,
and any other read answers its word; an unmapped or misaligned read is a violation without data; VIOL_CLEAR empties
the violations and VIOL_LOST_CLEAR clears LOST; SNAP_TAKE_NOW latches at the tick, the other two arm the snapshot. -/
def Obligations.RegisterAccessesActOnTheFunction : Prop :=
  ∀ (s : State),
    (∀ fn width value t u, u = touch t s → isFn fn = true → sized fn 0x1008 width = true → (u.func fn).enable = false →
        exec (.registerWrite fn 0x1008 width value t) s = .next
        (u.modFunc fn (fun f => { f with sqBase := wordWrite f.sqBase false (width = 8) value / 64 * 64 }))) ∧
    (∀ fn width value t u, u = touch t s → isFn fn = true → sized fn 0x1010 width = true → (u.func fn).enable = false →
        exec (.registerWrite fn 0x1010 width value t) s = .next
        (u.modFunc fn (fun f => { f with cqBase := wordWrite f.cqBase false (width = 8) value / 32 * 32 }))) ∧
    (∀ fn width value t u, u = touch t s → isFn fn = true → sized fn 0x1018 width = true → (u.func fn).enable = false →
        exec (.registerWrite fn 0x1018 width value t) s = .next
        (u.modFunc fn (fun f => { f with sqSize := value.toNat % 8192, cqSize := value.toNat / 65536 % 8192 }))) ∧
    (∀ fn width value t u, u = touch t s → isFn fn = true → sized fn 0x3000 width = true →
        exec (.registerWrite fn 0x3000 width value t) s = .next (writeSnap fn value t u)) ∧
    (∀ fn offset width value t u, u = touch t s → isFn fn = true → mapped fn offset = false →
        exec (.registerWrite fn offset width value t) s = .next (badAccess fn 1 offset true t u)) ∧
    (∀ fn offset width value t u, u = touch t s → isFn fn = true → mapped fn offset = true → sized fn offset width = false →
        exec (.registerWrite fn offset width value t) s = .next (badAccess fn 2 offset true t u)) ∧
    (∀ fn offset width value t u, u = touch t s → isFn fn = true → mapped fn offset = true → sized fn offset width = true →
        0x1008 ≤ offset → offset < 0x101C → (u.func fn).enable = true → (fn = 0 ∨ (u.func fn).tenant.isSome = true) →
        exec (.registerWrite fn offset width value t) s = .next (badAccess fn 3 offset true t u)) ∧
    (∀ fn offset t u width, u = touch t s → isFn fn = true → mapped fn offset = false →
        exec (.highWordLatchRead fn { offset := offset, width := width, t := t }) s = .next
        (answerRead fn none (badAccess fn 1 offset false t u))) ∧
    (∀ fn offset t u width, u = touch t s → isFn fn = true → mapped fn offset = true → sized fn offset width = false →
        exec (.highWordLatchRead fn { offset := offset, width := width, t := t }) s = .next
        (answerRead fn none (badAccess fn 2 offset false t u))) ∧
    (∀ fn offset t u, u = touch t s → isFn fn = true → mapped fn offset = true → sized fn offset 8 = true →
        (needsSession offset && decide (fn ≠ 0) && (u.func fn).enable && (u.func fn).tenant.isNone) = false →
        exec (.highWordLatchRead fn { offset := offset, width := 8, t := t }) s = .next
        (answerRead fn (some (readWord32 u fn offset + 2 ^ 32 * readWord32 u fn (offset + 4))) u)) ∧
    (∀ fn offset t u h, u = touch t s → isFn fn = true → mapped fn offset = true → sized fn offset 4 = true →
        (needsSession offset && decide (fn ≠ 0) && (u.func fn).enable && (u.func fn).tenant.isNone) = false →
        highWord u fn offset = some h → exec (.highWordLatchRead fn { offset := offset, width := 4, t := t }) s = .next
        (answerRead fn (some (readWord32 u fn offset)) (u.modFunc fn (fun f => { f with latched := f.latched.set offset (some h) })))) ∧
    (∀ fn offset t u h, u = touch t s → isFn fn = true → mapped fn offset = true → sized fn offset 4 = true →
        (needsSession offset && decide (fn ≠ 0) && (u.func fn).enable && (u.func fn).tenant.isNone) = false →
        highWord u fn offset = none → (u.func fn).latched.get (offset - 4) = some h →
        exec (.highWordLatchRead fn { offset := offset, width := 4, t := t }) s = .next
        (answerRead fn (some h) (u.modFunc fn (fun f => { f with latched := f.latched.set (offset - 4) none })))) ∧
    (∀ fn offset t u, u = touch t s → isFn fn = true → mapped fn offset = true → sized fn offset 4 = true →
        (needsSession offset && decide (fn ≠ 0) && (u.func fn).enable && (u.func fn).tenant.isNone) = false →
        highWord u fn offset = none → (u.func fn).latched.get (offset - 4) = none →
        exec (.highWordLatchRead fn { offset := offset, width := 4, t := t }) s = .next
        (answerRead fn (some (readWord32 u fn offset)) u)) ∧
    (∀ fn t u, u = touch t s → isFn fn = true → (fn = 0 ∨ (u.func fn).enable = false ∨ (u.func fn).tenant.isSome = true) →
        exec (.violClear fn t) s = .next (u.modFunc fn (fun f => { f with viols := [] }))) ∧
    (∀ fn, isFn fn = true → exec (.violLostClear fn) s = .next (s.modFunc fn (fun f => { f with lost := false }))) ∧
    (∀ fn t u, u = touch t s → isFn fn = true → exec (.snapTakeNow fn t) s = .next
        ((armSnap fn 0 u).modFunc fn (fun f => { f with snap := takeSnap u (tickAt t) f.snap }))) ∧
    (∀ fn, isFn fn = true → exec (.snapTakePps fn) s = .next (armSnap fn 1 s)) ∧
    (∀ fn, isFn fn = true → exec (.snapTakeSwath fn) s = .next (armSnap fn 2 s))

/-- Completion: TRIGGER_TIME_EXPIRY, FIELD_PIN_EDGE, PIN_PULSE_END, TRIGGER_REARM, TUSSOCK_SET_WRITTEN, XTRIG,
DUPLICATE_PAIR_EXPIRY and RECORD_WRITE: each answers a next state on every state and operands that meet the
hypotheses, which speak of state and operands alone. Fires that wait are judged in order. TRIGGER_TIME_EXPIRY fires a
TIME unit at T0 + k × P; FIELD_PIN_EDGE of an input pin sets its level, fires the units of its edge at the tick and
registers the jumps of every unit that has the edge as jump input; PIN_PULSE_END ends a pulse; TRIGGER_REARM arms a
unit again; TUSSOCK_SET_WRITTEN of a unit without a set left over from before it was off, in a hub that does not
follow a partner, moves the pointer by the registered jump, else by NEXT, or leaves the unit DONE; XTRIG of a pair
that is remembered is counted and discarded, of a new one it is entered, passed on below 15 hops and fires its units;
DUPLICATE_PAIR_EXPIRY forgets the pair; RECORD_WRITE writes the oldest closed record. -/
def Obligations.TriggerEventsFireAndRearm : Prop :=
  ∀ (s : State),
    (∀ n t0 per trig, isUnit n = true → (s.unit n).source = .time t0 per → (s.unit n).on = true →
        (per ≠ 0 ∨ (s.unit n).timeK = 0) → trig = instOf t0 + (s.unit n).timeK * nsSpan per →
        exec (.triggerTimeExpiry n) s = .next
        (judgeShots (fireUnit n trig none ((touch trig s).modUnit n (fun y => { y with timeK := y.timeK + 1 }))))) ∧
    (∀ p (up : Bool) t u v, u = touch t s → isPin p = true → (u.pin p).driven = false →
        v = (let w := u.modPin p (fun x => { x with level := up }); judgeShots (each (unitsWith w t (fun x => decide (x.source = .pin p (!up)))) (fun n s => fireUnit n (tickAt t) none s) w)) →
        exec (.fieldPinEdge p up t) s = .next
        (each ((v.red.units.filter (fun k => decide ((k.2.at_ t).jumpIn = some (p, !up)))).map (·.1)) (fun n s => registerJump n none s) v)) ∧
    (∀ p, isPin p = true → (s.pin p).pulse.isSome = true → exec (.pinPulseEnd p) s = .next
        (s.modPin p (fun x => { x with level := false, pulse := none }))) ∧
    (∀ n u, isUnit n = true → u = judgeShots s → (u.unit n).state = .busy → (u.unit n).rearming = true →
        exec (.triggerRearm n) s = .next
        (u.modUnit n (fun x => { x with state := .armed, rearming := false, sinceArm := 0 }))) ∧
    (∀ n u v d, isUnit n = true → (s.unit n).orphans = 0 → (s.unit n).inFlight = true →
        u = { s with str := { s.str with flight := s.str.flight.set n [] } } →
        v = u.modUnit n (fun x => { x with inFlight := false, jumpReq := none, sinceArm := 0 }) → follows v = false →
        (s.unit n).jumpReq = some d → exec (.tussockSetWritten n) s = .next
        (bump (ctrKey 9 n 5 0) (sendDecision (.pointer n d true false) (v.modUnit n (fun x => { x with current := some d, state := .armed }))))) ∧
    (∀ n u v d i, isUnit n = true → (s.unit n).orphans = 0 → (s.unit n).inFlight = true →
        u = { s with str := { s.str with flight := s.str.flight.set n [] } } →
        v = u.modUnit n (fun x => { x with inFlight := false, jumpReq := none, sinceArm := 0 }) → follows v = false →
        (s.unit n).jumpReq = none → (s.unit n).current = some i → v.red.descs.get i = some d →
        exec (.tussockSetWritten n) s = .next
        (if d.fin then sendDecision (.pointer n i false true) (v.modUnit n (fun x => { x with state := .done })) else sendDecision (.pointer n d.next false false) (v.modUnit n (fun x => { x with current := some d.next, state := .armed })))) ∧
    (∀ p x t u v, u = touch t s → isPort p = true → (u.port p).state = .up →
        v = u.modPort p (fun q => { q with xtRx := if x.xtSeq = (q.xtRx + 1) % 256 then x.xtSeq else q.xtRx }) →
        v.red.pairs.any (fun y => decide (y.origin = x.origin) && decide (y.count = x.count)) = true →
        exec (.xtrig p x t) s = .next (bump (ctrKey (clsPrivate + 3) 0 0 0) v)) ∧
    (∀ p x t u v w, u = touch t s → isPort p = true → (u.port p).state = .up →
        v = u.modPort p (fun q => { q with xtRx := if x.xtSeq = (q.xtRx + 1) % 256 then x.xtSeq else q.xtRx }) →
        v.red.pairs.any (fun y => decide (y.origin = x.origin) && decide (y.count = x.count)) = false →
        w = enterPair x t (bump (portCtr p 22) v) → exec (.xtrig p x t) s = .next
        (judgeShots (crossFires x (if x.hops < 15 then spreadXtrig (some p) { x with hops := x.hops + 1 } w else w)))) ∧
    (∀ o k, exec (.duplicatePairExpiry o k) s = .next { s with red := { s.red with pairs := s.red.pairs.filter (fun x => !(decide (x.origin = o) && decide (x.count = k))) } }) ∧
    (∀ gsi r rest v, (s.stream (keyOfGsi gsi)).closed = r :: rest →
        v = s.modStream (keyOfGsi gsi) (fun st => { st with closed := rest }) → exec (.recordWrite gsi) s = .next
        (ringWrite (keyOfGsi gsi) (packRecord (keyOfGsi gsi) r v).1 (packRecord (keyOfGsi gsi) r v).2))

/-- Completion: TUSSOCK_COMPLETE answers a next state on every state and operands that meet the hypotheses, which speak of
state and operands alone. When the copy of a tussock that is being copied ends, its places are settled and it holds
its payload, packed as its flags say, its size and the number of samples replaced, those lost and those that were
missing; when there are any, the loss is journalled; then every tussock of the stream whose turn has come is
published. The completion of a tussock that the hub does not copy changes nothing. -/
def Obligations.TussocksCompleteAndArePublished : Prop :=
  ∀ (s : State) (gsi n key : Nat), key = keyOfGsi gsi →
    (∀ a x lost y v, s.red.tussocks.find? (fun x => decide (x.gsi = key) && decide (x.number = n) && decide (x.state = 0)) = some a →
        x = a.resolve s →
      lost = (tussockPayload s x).2.2.2 →
      y = { x with state := if lost = 0 then 1 else 2, bytes := (tussockPayload s x).1.length, pack := (tussockPayload s x).2.1,
                   flags := (tussockPayload s x).2.2.1, missing := lost, data := (tussockPayload s x).1 } →
      v = { s with red := { s.red with tussocks := s.red.tussocks.map (fun z => if z.number = n then y else z) } } →
      ∀ w, w = (if 0 < lost then post pTussock 0x0503 (handleOf 0x0B key) [vU n, vU lost, vU (if x.holes.isEmpty then 2 else 1)] v else v) →
      exec (.tussockComplete gsi n) s = .next (publishReady key w.red.tussocks.length w)) ∧
    (s.red.tussocks.find? (fun x => decide (x.gsi = key) && decide (x.number = n) && decide (x.state = 0)) = none →
      exec (.tussockComplete gsi n) s = .next s)

/-- Completion: IDLE_EXPIRY, RATE_SIGNAL_CLASSED, TS1, ADAPT_DONE, TS2 and TRAINING_TIMEOUT: each answers a next state on
every state and operands that meet the hypotheses, which speak of state and operands alone. On an existing port:
IDLE_EXPIRY takes an enabled port that no test holds from IDLE to RATE with no lane classed; RATE_SIGNAL_CLASSED adds
the lanes classed and the lowest rate seen, and enters LOCK when every lane is classed; execTs1 p (a :: rest) s = _
unfold execTs1 dsimp only in LOCK on every lane of the set counts a consistent set in order and enters ADAPT at the
eighth, and in ADAPT it enters DESKEW when both ends are done; ADAPT_DONE keeps the figures and does likewise; TS2
aligns the lanes within 16 blocks and brings the port up at the eighth slot when the partner is done; TRAINING_TIMEOUT
carries on to the next state with the largest legal set that passed; the port fails when there is none. -/
def Obligations.TrainingEventsMoveThePort : Prop :=
  ∀ (s : State),
    (∀ p, isPort p = true → (s.port p).state = .idle → portOn s p = true → (s.port p).loop = .none → inTest s p = false →
        3 ≤ startupCode s.mgmt.startup → exec (.idleExpiry p) s = .next
        (s.modPort p (fun q => { q with state := .rate, slowIdle := false, classed := 0, parRate := 2 }))) ∧
    (∀ p runs seen v, isPort p = true → (s.port p).state = .rate →
        seen = (runs.zipIdx.filter (fun x => decide (x.2 < portWidth s p))).filterMap (fun x => (classRun x.1).map (fun c => (c, x.2))) →
        v = s.modPort p (fun q => { q with classed := q.classed ||| maskOf (seen.map (·.2)), parRate := (seen.map (·.1)).foldl min q.parRate }) →
        exec (.rateSignalClassed p runs) s = .next
        (if (v.port p).classed = fullMask (portWidth v p) ∧ 0 < fullMask (portWidth v p) then enterLock p (fullMask (portWidth v p)) v else v)) ∧
    (∀ p a rest rev on w n v inv, isPort p = true → (s.port p).state = .lock → tsConsistent (a :: rest) = true →
        (a :: rest).length = (lanesOf (s.port p).rx.mask).length → on = (a :: rest).zip (lanesOf (s.port p).rx.mask) →
        w = min (portWidth s p) a.width → laneOrder w on = some rev → roleFails s p a = false →
        n = (if (s.port p).agreed = w ∧ (s.port p).rxRev = rev then (s.port p).ts1Run else 0) + 1 →
        inv = maskOf ((on.filter (·.1.inverted)).map (·.2)) → v = s.modPort p (fun q => { q with
          ts1Run := n, rxRev := rev, agreed := w, parHub := a.hub, parPort := a.port
          rxInv := ((List.range 4).map (fun i => if q.rxPol.get i = 2 || (q.rxPol.get i = 0 && inv.testBit i) then 2 ^ i else 0)).sum }) → exec (.ts1 p (a :: rest)) s = .next (if 8 ≤ n then enterAdapt p (s.port p).rx.mask v else v)) ∧
    (∀ p (a : TsFields) rest v, isPort p = true → (s.port p).state = .adapt →
        v = s.modPort p (fun q => { q with parAdapt := (a :: rest).all (·.adaptDone) }) → exec (.ts1 p (a :: rest)) s = .next
        (if (a :: rest).all (·.adaptDone) = true ∧ (s.port p).ownAdapt = true then v.modPort p (fun q => { q with state := .deskew, ts2Run := 0 }) else v)) ∧
    (∀ p ctle dfe eyes v, isPort p = true → (s.port p).state = .adapt →
        v = s.modPort p (fun q => { q with ownAdapt := true, ctle := ctle, dfe := dfe, eyes := eyes }) →
        exec (.adaptDone p ctle dfe eyes) s = .next
        (if (s.port p).parAdapt then v.modPort p (fun q => { q with state := .deskew, ts2Run := 0 }) else v)) ∧
    (∀ p lanes skew good m v, isPort p = true → (s.port p).state = .deskew →
        good = maskOf ((skew.zip (lanesOf (s.port p).rx.mask)).filterMap (fun x => if x.1 ≤ 16 then some x.2 else none)) →
        bestSet (s.port p).agreed good 0 = some m →
        v = s.modPort p (fun q => { q with ts2Run := (s.port p).ts2Run + 1, ownSkew := decide (8 ≤ (s.port p).ts2Run + 1), parSkew := lanes.all (·.deskewDone), rx := { q.rx with mask := m } }) →
        exec (.ts2 p lanes skew) s = .next
        (if 8 ≤ (s.port p).ts2Run + 1 ∧ lanes.all (·.deskewDone) = true then portUp p v else v)) ∧
    (∀ p passing w m, isPort p = true → (s.port p).state = .rate → w = portWidth s p →
        bestSet w (maskOf passing &&& (s.port p).classed &&& fullMask w) 0 = some m →
        exec (.trainingTimeout p passing) s = .next (enterLock p m s)) ∧
    (∀ p passing w m, isPort p = true → (s.port p).state = .lock →
        w = (if (s.port p).agreed = 0 then portWidth s p else (s.port p).agreed) →
        bestSet w (maskOf passing &&& (s.port p).rx.mask &&& fullMask w) 0 = some m →
        exec (.trainingTimeout p passing) s = .next (enterAdapt p m (s.modPort p (fun q => { q with agreed := w })))) ∧
    (∀ p passing w m, isPort p = true → (s.port p).state = .adapt →
        w = (if (s.port p).agreed = 0 then portWidth s p else (s.port p).agreed) →
        bestSet w (maskOf passing &&& (s.port p).rx.mask &&& fullMask w) 0 = some m →
        exec (.trainingTimeout p passing) s = .next
        (s.modPort p (fun q => { q with state := .deskew, ts2Run := 0, tx := { mask := m }, rx := { mask := m } }))) ∧
    (∀ p passing w m, isPort p = true → (s.port p).state = .deskew →
        w = (if (s.port p).agreed = 0 then portWidth s p else (s.port p).agreed) →
        bestSet w (maskOf passing &&& (s.port p).rx.mask &&& fullMask w) 0 = some m →
        exec (.trainingTimeout p passing) s = .next
        (portUp p (s.modPort p (fun q => { q with tx := { mask := m }, rx := { mask := m } })))) ∧
    (∀ p passing w, isPort p = true → (s.port p).state = .lock →
        w = (if (s.port p).agreed = 0 then portWidth s p else (s.port p).agreed) →
        bestSet w (maskOf passing &&& (s.port p).rx.mask &&& fullMask w) 0 = none → exec (.trainingTimeout p passing) s = .next
        (trainFail p 1 s))

/-- Completion: SKIP, LANE_FAULT, WIDTH, LOSS_OF_SIGNAL, LOOP and PRBS_CHECKER_LOCK: each answers a next state on every
state and operands that meet the hypotheses, which speak of state and operands alone. On an existing port in UP: SKIP
reads the blocks of the interval, ends the interval, reseeds the descrambler and makes the lanes late in two intervals
running, and those of bad sync headers, faulty; LANE_FAULT counts the lanes and stripes over the rest; WIDTH to
another legal set takes the receiver there; LOSS_OF_SIGNAL counts the lanes and brings the link down when all are
lost, or makes them faulty, and ends a far-end loop; LOOP requests, accepts or refuses a far-end loop; the PRBS
checker of a lane that checks locks on 1,024 bits that follow the polynomial, counts its bits and errors and, when it
was locked, the relock. -/
def Obligations.LaneEventsKeepThePortRunning : Prop :=
  ∀ (s : State),
    (∀ p n late raw v w x, isPort p = true → (s.port p).state = .up →
        v = each (raw.filter (fun x => (s.port p).rx.mask.testBit x.1 && decide (x.2.1 < 256))) (receiveRaw p) s →
        w = endInterval256 p (each (lanesOf (maskOf late)) (fun i s => bump (laneCtr s p i 3) s) v) →
        x = w.modPort p (fun q => { q with seeded := true, skips := n % 65536, lateSkip := maskOf late }) →
        exec (.skipBlock p n { late := late, raw := raw }) s = .next
        (rxFaults p (maskOf late &&& (s.port p).lateSkip ||| headerFaults v p) x)) ∧
    (∀ p m, isPort p = true → (s.port p).state = .up → (s.port p).tx.mask &&& m ≠ 0 → exec (.laneFault p m) s = .next
        (txReduce p m (each (lanesOf ((s.port p).tx.mask &&& m)) (fun i s => bump (laneCtr s p i 4) s) s))) ∧
    (∀ p m, isPort p = true → (s.port p).state = .up → (legalSets (s.port p).agreed).contains m = true →
        ((s.port p).rx.due = true ∨ m ≠ (s.port p).rx.mask) → exec (.widthBlock p m) s = .next
        (bump (dirCtr p 7 1) (s.modPort p (fun q => { q with rx := { mask := m } })))) ∧
    (∀ p lanes v, isPort p = true → (s.port p).state = .up → (s.port p).farEnd = false →
        v = each (lanesOf (maskOf lanes)) (fun i s => bump (laneCtr s p i 2) s) s → exec (.lossOfSignal p lanes) s = .next
        (if fullMask (s.port p).agreed &&& maskOf lanes = fullMask (s.port p).agreed then linkDown p v else rxFaults p (maskOf lanes) v)) ∧
    (∀ p lanes v, isPort p = true → (s.port p).farEnd = true →
        v = each (lanesOf (maskOf lanes)) (fun i s => bump (laneCtr s p i 2) s) s → exec (.lossOfSignal p lanes) s = .next
        (toIdle p v)) ∧
    (∀ p, isPort p = true → (s.port p).state = .up → (s.port p).loopOk = true → exec (.loopBlock p 1) s = .next
        (failPort p 4 (s.modPort p (fun q => { q with farEnd := true })))) ∧
    (∀ p t k g, isPort p = true → (s.port p).loopTag = some (t, k, g) → exec (.loopBlock p 2) s = .next
        (finishLater t k g {} (some 3) (failPort p 4 (s.modPort p (fun q => { q with loop := .farEnd, loopTag := none }))))) ∧
    (∀ p t k g, isPort p = true → (s.port p).loopTag = some (t, k, g) → exec (.loopBlock p 3) s = .next
        (finishLater t k g { status := .state } none (s.modPort p (fun q => { q with loopTag := none })))) ∧
    (∀ l received bits errs, l < 32 → (s.lane l).chk = true → prbsLocks (s.lane l).poly received = true →
        ((s.lane l).locked = false ∨ 64 ≤ errs) → exec (.prbsCheckerLock l received bits errs) s = .next
        (s.modLane l (fun x => { x with locked := true, relocks := if x.locked then x.relocks + 1 else x.relocks, bits := x.bits + BitVec.ofNat 64 bits, errors := min (x.errors + errs) (2 ^ 32 - 1) })))

/-- Completion: QUIET_IDLE_EXPIRY, QUIET_REQ, QUIET_ACK, QUIET_ENTER, QUIET_ENTRY_WITHDRAWN, WAKE_NEED, IDLE_EXIT_END and
WAKE: each answers a next state on every state and operands that meet the hypotheses, which speak of state and
operands alone. On an existing port in UP: QUIET_IDLE_EXPIRY of an awake direction of two lanes or more with quiet
policy requests quiet; QUIET_REQ is answered; QUIET_ACK commits the transmitter to its lead lane, and QUIET_ENTER the
receiver; QUIET_ENTRY_WITHDRAWN wakes a direction that has only answered; IDLE_EXIT_END and WAKE bring the sleeping
lanes back, to the best legal set with the lead lane, those not aligned becoming faulty; WAKE_NEED starts the wake. -/
def Obligations.QuietLanesSleepAndWake : Prop :=
  ∀ (s : State),
    (∀ p, isPort p = true → (s.port p).state = .up → (s.port p).quietOn = true → 2 ≤ laneCount (s.port p).tx.mask →
        (s.port p).tx.quiet = .awake → exec (.quietIdleExpiry p) s = .next
        (s.modPort p (fun q => { q with tx := { q.tx with quiet := .requested } }))) ∧
    (∀ p, isPort p = true → (s.port p).state = .up → (s.port p).rx.quiet = .awake → exec (.quietReq p) s = .next
        (s.modPort p (fun q => { q with rx := { q.rx with quiet := .acked } }))) ∧
    (∀ p m, isPort p = true → (s.port p).state = .up → (s.port p).tx.quiet = .requested → m = 2 ^ leadLane (s.port p).tx.mask →
        exec (.quietAck p) s = .next
        (s.modPort p (fun q => { q with tx := { q.tx with quiet := .acked, mask := m, sleep := maskMinus q.tx.mask m } }))) ∧
    (∀ p m, isPort p = true → (s.port p).state = .up → (s.port p).rx.quiet = .acked → exec (.quietEnter p m) s = .next
        (bump (dirCtr p 9 1) (s.modPort p (fun q => { q with rx := { q.rx with quiet := .quiet, mask := m, sleep := maskMinus q.rx.mask m } })))) ∧
    (∀ p, isPort p = true → (s.port p).rx.quiet = .acked → exec (.quietEntryWithdrawn p) s = .next
        (s.modPort p (fun q => { q with rx := { q.rx with quiet := .awake } }))) ∧
    (∀ p, isPort p = true → exec (.wakeNeed p) s = .next (wakeNeed p s)) ∧
    (∀ p a, isPort p = true → (s.port p).tx.quiet = .waking → a = (s.port p).tx.mask ||| (s.port p).tx.sleep →
        exec (.idleExitEnd p) s = .next
        (bump (dirCtr p 10 0) (s.modPort p (fun q => { q with tx := { mask := (bestSet q.agreed a (leadLane a)).getD a } })))) ∧
    (∀ p ok bad, isPort p = true → (s.port p).rx.quiet = .quiet → bad = maskMinus (s.port p).rx.sleep (maskOf ok) →
        exec (.wakeBlock p ok) s = .next
        (rxFaults p bad (bump (dirCtr p 10 1) (s.modPort p (fun q => { q with rx := { mask := q.rx.mask ||| q.rx.sleep } })))))

/-- Completion: FRAME_RECEIVE, ACK_BLOCK, CREDIT, REPLAY_TIMEOUT, ACK_TIMER, CREDIT_TIMER and TIMED_LAUNCH: each answers a
next state on every state and operands that meet the hypotheses, which speak of state and operands alone. Each of the
seven answers a next state on an existing port (the first four in UP) for every operand. FRAME_RECEIVE of a frame that
lost a word in the receive FIFO counts it and is answered with a NAK, of one that is out of sequence is answered with
a NAK, one in sequence with a good CRC advances the sequence, is buffered and is accepted, with an inverted CRC it is
counted as stomped and discarded, and with any other it is counted, answered with a NAK and its copy stomped. An ACK
block releases the frames acknowledged, and a NAK replays the rest or at the fifth time fails the port; CREDIT sets
the cumulative counts; REPLAY_TIMEOUT with frames unacknowledged replays, and after four replays without progress
restarts the port; ACK_TIMER sends the ACK that is due, CREDIT_TIMER repeats the counts, and TIMED_LAUNCH of a frame
that is due queues it, late when more than a block after its time. -/
def Obligations.LinkLayerTakesFramesOnceInOrder : Prop :=
  ∀ (s : State),
    (∀ p f t u, u = touch t s → isPort p = true → (u.port p).state = .up → (u.port p).farEnd = false → f.cross = none →
        f.seq % 4096 ≠ (u.port p).rxSeq → exec (.frameReceive p f t) s = .next (nak p u)) ∧
    (∀ p f t u lane dropped, u = touch t s → isPort p = true → (u.port p).state = .up → (u.port p).farEnd = false →
        f.cross = some (lane, dropped) → exec (.frameReceive p f t) s = .next
        (nak p (bump (portCtr p 14) (harmWord 1 lane dropped u)))) ∧
    (∀ p f t u v, u = touch t s → isPort p = true → (u.port p).state = .up → (u.port p).farEnd = false → f.cross = none →
        f.seq % 4096 = (u.port p).rxSeq →
        v = u.modPort p (fun q => { q with rxSeq := (q.rxSeq + 1) % 4096, nakSent := false, ackDue := true, buf := q.buf ++ [(f.seq % 4096, f.vc, frameBlocks f)] }) →
        f.crc = frameCrc f → exec (.frameReceive p f t) s = .next (release p (accept p f (bump (portCtr p 13) v)))) ∧
    (∀ p f t u v, u = touch t s → isPort p = true → (u.port p).state = .up → (u.port p).farEnd = false → f.cross = none →
        f.seq % 4096 = (u.port p).rxSeq →
        v = u.modPort p (fun q => { q with rxSeq := (q.rxSeq + 1) % 4096, nakSent := false, ackDue := true, buf := q.buf ++ [(f.seq % 4096, f.vc, frameBlocks f)] }) →
        f.crc = frameCrc f ^^^ 0xFFFFFFFF#32 → exec (.frameReceive p f t) s = .next (release p (bump (portCtr p 15) v))) ∧
    (∀ p f t u, u = touch t s → isPort p = true → (u.port p).state = .up → (u.port p).farEnd = false → f.cross = none →
        f.seq % 4096 = (u.port p).rxSeq → f.crc ≠ frameCrc f → f.crc ≠ frameCrc f ^^^ 0xFFFFFFFF#32 →
        exec (.frameReceive p f t) s = .next (stompCopy p f (nak p (bump (portCtr p 14) u)))) ∧
    (∀ p ack (no : Bool) xt u v w, isPort p = true → (s.port p).state = .up → (s.port p).failed = false →
        u = s.modPort p (fun q => { q with retry := ackFrames ack (s.port p).retry, replays := if (ackFrames ack (s.port p).retry).length < (s.port p).retry.length then 0 else q.replays }) →
        v = ackXtrigs p xt u → w = (if no then (if 4 ≤ (v.port p).replays then replayFail p v else replay p v) else v) →
        exec (.ackBlock p ack no xt) s = .next (pump p (w.port p).egress.length w)) ∧
    (∀ p counts u, isPort p = true → (s.port p).state = .up →
        u = s.modPort p (fun q => { q with granted := (List.range 8).foldl (fun g v => Tab.set g v ((counts.getD v (Tab.get g v)) % 4096)) q.granted }) →
        exec (.creditBlock p counts) s = .next (pump p (u.port p).egress.length u)) ∧
    (∀ p u, isPort p = true → (s.port p).state = .up → (s.port p).retry ≠ [] →
        u = s.modPort p (fun q => { q with nakSent := false }) → exec (.replayTimeout p) s = .next
        (if 4 ≤ (s.port p).replays then replayFail p u else replay p u)) ∧
    (∀ p, isPort p = true → exec (.ackTimer p) s = .next (s.modPort p (fun q => { q with ackDue := false }))) ∧
    (∀ p, isPort p = true → exec (.creditTimer p) s = .next s) ∧
    (∀ p t u x r v, u = touch t s → isPort p = true → (u.port p).timed = x :: r → x.at_.getD 0 ≤ t →
        v = (if x.at_.getD 0 + blockSpan (u.port p).rate < t then bump lateLaunch (u.modPort p (fun q => { q with timed := r })) else u.modPort p (fun q => { q with timed := r })) →
        exec (.timedLaunch p t) s = .next
        (enqueue p { x with frame := sealFrame { x.frame with timed := true, late := decide (x.at_.getD 0 + blockSpan (u.port p).rate < t) } } v))

/-- Completion: HELLO_TIMER, HELLO, NEIGHBOUR_LOSS, LSA_TIMER, ADDR_REQ, ADDR_GRANT and ADDR_REQ_RETRY: each answers a
next state on every state and operands that meet the hypotheses, which speak of state and operands alone. Each of the
seven answers a next state. On an existing port: HELLO_TIMER sends a HELLO with the next number; HELLO in UP keeps the
neighbour and its root, gives an address up by the rule of a clash and, of a new neighbour, floods an LSA;
NEIGHBOUR_LOSS counts, forgets the neighbour and fails the port; LSA_TIMER floods an LSA; ADDR_REQ is relayed, or
granted by the allocator; ADDR_GRANT for the hub itself keeps the address for the boundary, and another's goes back
the way it came; an UNADDRESSED hub asks again. -/
def Obligations.DiscoveryEventsKeepTheNetwork : Prop :=
  ∀ (s : State),
    (∀ p u v, isPort p = true → (netPorts s).contains p = true → s.clover.state ≠ .severed →
        u = (if (netPorts s).head? = some p then rankPeriod s else s) →
        v = u.modPort p (fun q => { q with hseq := (q.hseq + 1) % 65536 }) → exec (.helloTimer p) s = .next
        (sendFrame p { ftype := 5, vc := 0, dest := 0, src := u.sky.hub, body := helloBytes u p } v)) ∧
    (∀ p m u c v, isPort p = true → (s.port p).state = .up →
        u = s.modPort p (fun q => { q with missed := 0, neigh := some { uid := m.uid, hub := m.hub, port := m.port, clover := m.clover, alloc := m.alloc } }) →
        c = Cand.mk m.rprio (m.rqual.toNat / 8 % 8) (m.rqual.toNat / 2048) m.root (m.qual.toNat / 128 % 16) m.rqual →
        v = addrClash m.hub m.uid (seeUid m.uid { u with time := { u.time with heard := u.time.heard.set p (some c) } }) →
        exec (.hello p m) s = .next
        (if (s.port p).neigh.map (fun n => (n.uid, n.hub)) = some (m.uid, m.hub) then v else sendLsa v)) ∧
    (∀ p u, isPort p = true → (s.port p).neigh.isSome = true →
        u = bump (portCtr p 24) (s.modPort p (fun q => { q with neigh := none, missed := 3 })) →
        exec (.neighbourLoss p) s = .next (failPort p 3 u)) ∧
    (exec (.lsaTimer) s = .next (sendLsa s)) ∧
    (∀ p uid held t u a v, u = touch t s → isPort p = true → isAllocator u = false → u.time.parent = some a →
        v = { u with sky := { u.sky with relays := (uid, p) :: u.sky.relays.filter (fun r => decide (r.1 ≠ uid)) } } →
        exec (.addrReq p uid held t) s = .next
        (sendFrame a { ftype := 7, vc := 0, dest := 0, src := 0, aux := 2, body := leBytes 8 uid ++ leBytes 2 held } v)) ∧
    (∀ p uid held t u g, u = touch t s → isPort p = true → isAllocator u = true →
        u.sky.grants.find? (fun g => decide (g.uid = uid)) = some g → exec (.addrReq p uid held t) s = .next
        (grantAddr p uid g.addr t u)) ∧
    (∀ p uid held t u, u = touch t s → isPort p = true → isAllocator u = true →
        u.sky.grants.find? (fun g => decide (g.uid = uid)) = none → 1 ≤ held → held ≤ 1022 → addrFree u uid held = true →
        exec (.addrReq p uid held t) s = .next (grantAddr p uid held t u)) ∧
    (∀ p addr, isPort p = true → 1 ≤ addr → addr ≤ 1022 →
        exec (.addrGrant p Config.uid.toNat addr) s = .next { s with sky := { s.sky with next := some addr, former := addr, asking := false } }) ∧
    (∀ p uid addr q v, isPort p = true → uid ≠ Config.uid.toNat →
        s.sky.relays.find? (fun r => decide (r.1 = uid)) = some (uid, q) →
        v = { s with sky := { s.sky with relays := s.sky.relays.filter (fun x => decide (x.1 ≠ uid)) } } →
        exec (.addrGrant p uid addr) s = .next
        (sendFrame q { ftype := 7, vc := 0, dest := 0, src := v.sky.hub, aux := 3, body := leBytes 8 uid ++ leBytes 2 addr } v)) ∧
    (s.sky.hub = 0 → s.sky.next = none → mayAsk s = true → exec (.addrReqRetry) s = .next (askAddress s))

/-- Completion: TIME_REQUEST_TIMER, TIME_REQ, TIME_RESP, TIME_RESP_TIMEOUT, ROOT_CHANGE, PPS_OUT_LAUNCH, PPS_OUT_PULSE_END
and PIN_LAUNCH_TIME: each answers a next state on every state and operands that meet the hypotheses, which speak of
state and operands alone. Each of the eight answers a next state. On an existing port: TIME_REQUEST_TIMER of a usable
port sends a request with the next number; TIME_REQ of a usable port with fewer than 16 timed frames is answered 1 µs
after T2; TIME_RESP to the open exchange within 1 ms enters the mean of the last 64 offsets, keeps the delay and the
replay timeout by it, sets TIME_OFFSET when the port leads to the parent, and a late one or the timeout closes the
exchange. ROOT_CHANGE adopts the candidate that has led for 16 periods, journals it and follows the policy for it.
PPS_OUT_LAUNCH at or after its tick raises the output, when PPS_OUT is on, allowed and no outputs are held;
PPS_OUT_PULSE_END lowers it; PIN_LAUNCH_TIME of a launch that is due drives the pin to its level, counts it when it
comes after its tick, and completes its command, if it was not a partner's, with the actual time. -/
def Obligations.TimeExchangesRootAndTimedOutputs : Prop :=
  ∀ (s : State),
    (∀ p t u v, u = touch t s → isPort p = true → usable u p = true →
        v = modXchg p (fun x => { x with xseq := (x.xseq + 1) % 65536, open_ := some (x.xseq, t) }) u →
        exec (.timeRequestTimer p t) s = .next
        (sendFrame p { ftype := 6, vc := 0, dest := 0, src := v.sky.hub, body := [1, 0] ++ leBytes 2 (u.time.xchg.get p).xseq ++ leBytes 2 (quality v).toNat ++ List.replicate 42 0 } v)) ∧
    (∀ p xseq qual t u f v, u = modXchg p (fun x => { x with qual := qual }) (touch t s) → isPort p = true →
        usable u p = true → (u.port p).timed.length < 16 →
        f = { ftype := 6, vc := 0, timed := true, dest := 0, src := u.sky.hub, body := [2, 0] ++ leBytes 2 xseq ++ leBytes 2 (quality u).toNat ++ [0, 0] ++ tt12 t ++ tt12 (t + nsSpan 1000) ++ List.replicate 16 0 } →
        v = u.modPort p (fun q => { q with timed := q.timed ++ [{ frame := f, at_ := some (t + nsSpan 1000) }] }) →
        exec (.timeReq p xseq qual t) s = .next (noteUse 11 (v.port p).timed.length v)) ∧
    (∀ p n qual (t2 t3 t4 t1 : Inst) u (off : Int) offs mean v w, u = touch t4 s → isPort p = true →
        (u.time.xchg.get p).open_ = some (n, t1) → t4 ≤ t1 + nsSpan 1000000 →
        off = to256 ((((t2 : Int) - t1) - ((t4 : Int) - t3)) / 2) - (u.time.xchg.get p).asym * 256 / 2000 →
        offs = (off :: (u.time.xchg.get p).offs).take 64 → mean = offs.sum / offs.length →
        v = modXchg p (fun x => { x with open_ := none, offs := offs, offset := mean, delay := to256 ((((t2 : Int) - t1) + ((t4 : Int) - t3)) / 2), qual := qual }) u →
        w = v.modPort p (fun q => { q with timeout := replayTimeout (v.time.xchg.get p).delay }) →
        exec (.timeResp p n qual t2 t3 t4 false) s = .next
        (if w.time.parent = some p then { w with time := { w.time with offset := clamp32 (-mean) } } else w)) ∧
    (∀ p n qual t2 t3 t4 t1 u, u = touch t4 s → isPort p = true → (u.time.xchg.get p).open_ = some (n, t1) →
        exec (.timeResp p n qual t2 t3 t4 true) s = .next (modXchg p (fun x => { x with open_ := none }) u)) ∧
    (∀ p, isPort p = true → exec (.timeRespTimeout p) s = .next (modXchg p (fun x => { x with open_ := none }) s)) ∧
    (∀ off c, s.time.lead = some c → 16 ≤ s.time.leadRun → s.time.root.map (·.hub) ≠ some c.hub →
        exec (.rootChange off) s = .next
        (followRoot off (postAt s.now pTime 0x0702 0 [vU ((s.time.root.map (·.hub)).getD 0), vU c.hub, vU c.cls] (adoptRoot c s)))) ∧
    (∀ sec t u v, u = touch t s → u.time.outOn = true → ppsAllowed u = true → ppsTick u sec ≤ t → u.outputsHeld = false →
        v = { u with time := { u.time with outHigh := true } } → exec (.ppsOutLaunch sec t) s = .next
        (if ppsTick v sec < t then bump lateLaunch v else v)) ∧
    (exec (.ppsOutPulseEnd) s = .next { s with time := { s.time with outHigh := false } }) ∧
    (∀ pin t u j v w, u = touch t s → isPin pin = true → dueLaunch u pin t = some j →
        v = { u with host := { u.host with pinJobs := u.host.pinJobs.filter (fun x => decide (x ≠ j)) } } →
        w = (if tickAt j.at_ < tickAt t then bump lateLaunch (drivePin pin j.level v) else drivePin pin j.level v) →
        exec (.pinLaunchTime pin t) s = .next
        (if j.silent then w else finishLater j.tenant j.queue j.tag { result := ttBytes (ttOf (tickAt t)) (quality w) } none w))

/-- Completion: TACH_TRANSITION, TACH_EDGE_CONFIRMED, EDGE_DEADLINE, CODE_TIMEOUT, CODE_FLOOD, SHAFT_FALLBACK and
PREDICTED_ZERO: each answers a next state on every state and operands that meet the hypotheses, which speak of state
and operands alone. On an existing input: TACH_TRANSITION of a voltage that the comparator takes to the other level
opens a pulse, removes and counts a pulse shorter than W, or confirms the one before; TACH_EDGE_CONFIRMED confirms an
open pulse, a pulse opened before a change of settings by those of its opening; CODE_TIMEOUT ends a code; CODE_FLOOD
counts, ends a code, floods the input and makes the groups of it miss a revolution. On an existing group of a hub that
does not follow a partner: EDGE_DEADLINE of a group that awaits an edge makes the edge missing, SHAFT_FALLBACK after
64 predicted revolutions enters TIME, PREDICTED_ZERO in HOLDOVER counts the revolution. -/
def Obligations.TachEventsFollowTheEdges : Prop :=
  ∀ (s : State),
    (∀ n uv up t u, u = touch t s → isTach n = true → up = (u.tach n).compare uv → (u.tach n).level ≠ up →
        (u.tach n).before = none → (u.tach n).opened = none → exec (.tachTransition n uv t) s = .next
        (u.modTach n (fun x => { x with level := up, opened := some t }))) ∧
    (∀ n uv up t u t0, u = touch t s → isTach n = true → up = (u.tach n).compare uv → (u.tach n).level ≠ up →
        (u.tach n).before = none → (u.tach n).opened = some t0 → t - t0 < glitchSpan (u.tach n) →
        exec (.tachTransition n uv t) s = .next
        (bump (ctrKey 7 n 1 0) (u.modTach n (fun x => { x with level := up, opened := none, glitchAdj := true })))) ∧
    (∀ n uv up t u t0, u = touch t s → isTach n = true → up = (u.tach n).compare uv → (u.tach n).level ≠ up →
        (u.tach n).before = none → (u.tach n).opened = some t0 → glitchSpan (u.tach n) ≤ t - t0 →
        exec (.tachTransition n uv t) s = .next
        ((confirmPulse n u).modTach n (fun x => { x with level := up, opened := some t }))) ∧
    (∀ n uv up t u k, u = touch t s → isTach n = true → up = (u.tach n).compare uv → (u.tach n).level ≠ up →
        (u.tach n).before = some k → exec (.tachTransition n uv t) s = .next (asOpened n (openPulse n t up) u)) ∧
    (∀ n t0, isTach n = true → (s.tach n).before = none → (s.tach n).opened = some t0 → exec (.tachEdgeConfirmed n) s = .next
        (confirmPulse n (touch (t0 + glitchSpan (s.tach n)) s))) ∧
    (∀ n t0 k, isTach n = true → (s.tach n).before = some k → (s.tach n).opened = some t0 →
        exec (.tachEdgeConfirmed n) s = .next (asOpened n (fun s => confirmPulse n (touch (t0 + glitchSpan (s.tach n)) s)) s)) ∧
    (∀ g x, isTach g = true → x = s.shaft g → follows s = false → x.awaits = true →
        (x.zeroKind ≠ 2 ∨ (sourceInput s g).bind (fun n => (s.tach n).decoder) = none) → exec (.edgeDeadline g) s = .next
        (loseEdge g (touch x.deadline s))) ∧
    (∀ n, isTach n = true → (s.tach n).decoder.isSome = true → exec (.codeTimeout n) s = .next (abortCode n s)) ∧
    (∀ n u v, isTach n = true → (s.tach n).codeOn = true → u = (if (s.tach n).decoder.isSome then abortCode n s else s) →
        v = bump (ctrKey 7 n 3 0) (u.modTach n (fun x => { x with flooded := true, lastId := 128, idRun := 0 })) →
        follows v = false → exec (.codeFlood n) s = .next (each (codeGroups v n) missRevolution v)) ∧
    (∀ g u, isTach g = true → follows s = false → (s.shaft g).state = .holdover → 64 ≤ (s.shaft g).predRevs →
        u = s.modShaft g (fun x => { x with state := .time, good := 0, edges := 0, blend := none, fellBack := true, mayReturn := false }) →
        exec (.shaftFallback g) s = .next
        (sendDecision (.shaft g .time (s.shaft g).revs false) (post pApp 0x0401 (hShaft g) [vU 3, vU 4, vU (s.shaft g).revs] (bump (ctrKey 8 g 9 0) u)))) ∧
    (∀ g x t u, isTach g = true → follows s = false → x = s.shaft g → x.state = .holdover →
        (x.blend = none ∨ x.revs < x.blendRev) →
        t = (match angleInstant x (((x.revs : Int) + 1) * revAngle x) with | some (a, _) => a | none => (interpAt x.labels (((x.revs : Int) + 1) * revAngle x)).toNat) →
        u = (touch t s).modShaft g (fun x => { x with revs := x.revs + 1, predRevs := x.predRevs + 1, marked := false }) →
        exec (.predictedZero g) s = .next (sendDecision (.zero g) (zeroEvent g t true none u)))

/-- Completion: DATA, TILE_LINK_WORD and CHAIN_SAMPLE_AVAILABLE: each answers a next state on every state and operands
that meet the hypotheses, which speak of state and operands alone. DATA with the expected offset adds to the record of
its source and stream; the last segment ends it, takes a first copy with its edges or packed samples and drops a
second; any other segment discards the record so far and counts. TILE_LINK_WORD takes the four groups of wires of the
word at its cycle. CHAIN_SAMPLE_AVAILABLE of a band that is on delivers its next sample; while a tail of old settings
runs, the next one of before the change comes by those, and the tail ends with the first that does not lie before it. -/
def Obligations.DataFramesAndTileWordsArrive : Prop :=
  ∀ (s : State),
    (∀ src gsi sub (one last : Bool) off lo bytes edges k, k = (src * 65536 + sub) * 4294967296 + gsi →
        (off ≠ (if one then 0 else s.str.partials.get k) ∨ one = false ∧ (s.str.partials.get k = 0 ∨ s.str.partSeq.get k ≠ lo)) →
        exec (.dataFrame src gsi sub one last off lo bytes edges) s = .next { s with str := { s.str with partials := s.str.partials.set k 0, discarded := s.str.discarded + 1 } }) ∧
    (∀ src gsi sub (one : Bool) off lo bytes edges k, k = (src * 65536 + sub) * 4294967296 + gsi →
        off = (if one then 0 else s.str.partials.get k) → (one = true ∨ s.str.partials.get k ≠ 0 ∧ s.str.partSeq.get k = lo) →
        exec (.dataFrame src gsi sub one false off lo bytes edges) s = .next { s with str := { s.str with partials := s.str.partials.set k (off + bytes), partSeq := s.str.partSeq.set k lo } }) ∧
    (∀ src gsi sub (one : Bool) off lo bytes edges k, k = (src * 65536 + sub) * 4294967296 + gsi →
        off = (if one then 0 else s.str.partials.get k) → (one = true ∨ s.str.partials.get k ≠ 0 ∧ s.str.partSeq.get k = lo) →
        s.str.received.contains (gsi, lo) = true →
        exec (.dataFrame src gsi sub one true off lo bytes edges) s = .next { s with str := { s.str with partials := s.str.partials.set k 0 } }) ∧
    (∀ src gsi sub (one : Bool) off lo bytes edges k, k = (src * 65536 + sub) * 4294967296 + gsi →
        off = (if one then 0 else s.str.partials.get k) → (one = true ∨ s.str.partials.get k ≠ 0 ∧ s.str.partSeq.get k = lo) →
        s.str.received.contains (gsi, lo) = false → exec (.dataFrame src gsi sub one true off lo bytes edges) s = .next
        (takeRecord gsi lo edges { s with str := { s.str with partials := s.str.partials.set k 0 } })) ∧
    (∀ tile w k u, u = touch (atCycle k) s → isTile tile = true → exec (.tileLinkWord tile w k) s = .next
        (each (List.range 4) (groupIn tile k w) u)) ∧
    (∀ m b u, isModulator m = true → tailOf s m b = none → bandOn (s.chain m) b = true → bandHeld (s.pipe m) b = false →
        u = nextWord m b s → exec (.chainSampleAvailable m b) s = .next
        (match u.2 with | none => u.1 | some w => deliverWord m b w u.1)) ∧
    (∀ m b t u w, isModulator m = true → tailOf s m b = some t → u = nextWord m b (asTail m t s) → u.2 = some w →
        w.t < atCycle t.stop → exec (.chainSampleAvailable m b) s = .next (inTail m t (fun _ => deliverWord m b w u.1) s)) ∧
    (∀ m b t u w, isModulator m = true → tailOf s m b = some t → u = nextWord m b (asTail m t s) → u.2 = some w →
        atCycle t.stop ≤ w.t → exec (.chainSampleAvailable m b) s = .next (nextSample m b (endTail m t s))) ∧
    (∀ m b t u, isModulator m = true → tailOf s m b = some t → u = nextWord m b (asTail m t s) → u.2 = none →
        exec (.chainSampleAvailable m b) s = .next
        (if atCycle t.stop + availSpan (asTail m t s) m b ≤ s.now then nextSample m b (endTail m t s) else inTail m t (fun _ => u.1) s))

/-- Completion: SYNC_EXIT, FREE_RUNNING_MASTER, GRID_STEP, REF_LOST, REF_RETURNED, PTP_MESSAGE, PPS_IN_EDGE,
PPS_SOURCE_LOST, PTP_SOURCE_LOST and HOLDOVER_LIMIT_REACHED: each answers a next state on every state and operands
that meet the hypotheses, which speak of state and operands alone. SYNC_EXIT leaves SYNC as LOCKED once the condition
of step 8 holds; FREE_RUNNING_MASTER in UNSYNC makes the hub its own root; GRID_STEP in SYNC enters GRID at the named
boundary; REF_LOST sets ERR to 31 and journals, REF_RETURNED takes the offset; of the domain and transport, a peer-
delay PTP message is counted, an announce is compared and a timing message of the best master steers; the loss of the
PTP master follows the next best; a PPS edge wider than 100 ns counts; the loss of PPS, or of the last master with no
PPS, loses the source; beyond the holdover limit a root announces its declared grade. -/
def Obligations.TimeSourceEventsSteerTheTime : Prop :=
  ∀ (s : State),
    (∀ t u, u = touch t s → u.mgmt.startup = .sync → u.time.grid = true → u.time.syncLeft = none → lockSwaths ≤ u.time.within →
        rootBound u ≤ 16 → exec (.syncExit t) s = .next (leaveSync t { u with time := { u.time with state := .locked } })) ∧
    (∀ t u g v, u = touch t s → u.mgmt.startup = .sync → u.time.syncLeft = none → u.time.state = .unsync →
        g = ceilDiv t (boundary 1) →
        v = { touch (boundary g) u with time := { u.time with free := true, state := .unsync, cls := gradeClass u, err := 31, hops := 0, parent := none, root := some { prio := u.time.prio, cls := gradeClass u, err := 31, hub := u.sky.hub } } } →
        exec (.freeRunningMaster t) s = .next (leaveSync (boundary g) (enterGrid g v))) ∧
    (∀ tt g, stepBoundary tt = some g → s.mgmt.startup = .sync → s.time.grid = false → exec (.gridStep tt) s = .next
        (touch (boundary g) (enterGrid g s))) ∧
    (s.mgmt.refLost = false → exec (.refLost) s = .next
        (withHealth (fun s => post pTime 0x0701 0 [vU 1] { s with mgmt := { s.mgmt with refLost := true }, time := { s.time with err := 31 } }) s)) ∧
    (∀ off, s.mgmt.refLost = true → exec (.refReturned off) s = .next
        (withHealth (fun s => reacquire off (post pTime 0x0701 0 [vU 0] { s with mgmt := { s.mgmt with refLost := false }, time := { s.time with offset := clamp32 (256 * off) } })) s)) ∧
    (∀ src data off err t u, u = touch t s → u.time.ptp.on = true → u.time.ptp.domain = src.domain →
        u.time.ptp.transport = src.transport → exec (.ptpMessage 1 src data off err t) s = .next (bump (timeCtr 0) u)) ∧
    (∀ src data off err t u, u = touch t s → u.time.ptp.on = true → u.time.ptp.domain = src.domain →
        u.time.ptp.transport = src.transport → exec (.ptpMessage 2 src data off err t) s = .next
        (ptpAnnounce src.master data u)) ∧
    (∀ kind src data off err t u, u = touch t s → u.time.ptp.on = true → u.time.ptp.domain = src.domain →
        u.time.ptp.transport = src.transport → kind ≠ 1 → kind ≠ 2 → exec (.ptpMessage kind src data off err t) s = .next
        (ptpTiming src.master off err u)) ∧
    (∀ t high err, 100 ≤ high → exec (.ppsInEdge t high err) s = .next (ppsEdge t err s)) ∧
    (∀ t u a v, u = touch t s → u.time.ppsAt = some a → a + 3 * secSpan ≤ t →
        v = { u with time := { u.time with ppsSec := none, ppsAt := none } } → exec (.ppsSourceLost t) s = .next
        (if v.time.ptp.on = true ∧ v.time.ptp.usable = true then v else loseSource v)) ∧
    (∀ t u l (x : Ptp) v, u = touch t s → u.time.ptp.usable = true →
        l = u.time.ptp.masters.filter (fun m => decide (m.1 ≠ u.time.ptp.master)) →
        x = { u.time.ptp with masters := l, tai := false } →
        v = { u with time := { u.time with ptp := { x with usable := (bestMaster { u.time.ptp with masters := l }).isSome } } } →
        exec (.ptpSourceLost t) s = .next
        (if v.time.ptp.usable then followMaster v else if u.time.ppsSec.isSome then (if ownsTime v then { v with time := { v.time with tai := false } } else v) else loseSource v)) ∧
    (∀ g v, s.time.state = .holdover → s.time.parent = none → 4 * s.time.limitNs < holdBound s s.now → g = gradeClass s →
        v = { s with time := { s.time with cls := g, root := s.time.root.map (fun r => { r with cls := g }) } } →
        exec (.holdoverLimitReached) s = .next (post pTime 0x0702 0 [vU v.sky.hub, vU v.sky.hub, vU g] v))

/-- Completion: RESET_N_RELEASE, IMAGE_VERIFIED, PLL_LOCK, PLL_LOCK_TIMEOUT, DRAM_TRAINING_DONE and CAL_COMPLETE: each
answers a next state on every state and operands that meet the hypotheses, which speak of state and operands alone.
RESET_N_RELEASE starts a hub that no cause holds; IMAGE_VERIFIED of an image that is good in the slot chosen first
boots it, which is journalled, starts the pins and groups and enters MEM_TRAIN; with no good image the hub stays in
BOOT with cause 1; PLL_LOCK notes the lock, and a timeout holds the hub with detail 0x00FF; DRAM_TRAINING_DONE with a
supported population and no failed lane enters CAL and starts its first round on every tile; CAL_COMPLETE after the
last round enters SYNC and starts the enabled ports. -/
def Obligations.StartupEventsBringTheHubUp : Prop :=
  ∀ (s : State),
    (∀ s0 s1 s2, s.mgmt.held = false → s.mgmt.verified = false → exec (.resetNRelease s0 s1 s2) s = .next (startUp s0 s1 s2 s)) ∧
    (∀ a b buses one u v w, s.mgmt.resetLow = false → s.mgmt.held = false → s.mgmt.verified = false → s.mgmt.startup = .boot →
        pickSlot s = (one, u) → (if one then slotCause u u.mgmt.slotB b else slotCause u u.mgmt.slotA a) = 0 →
        v = post pSafety 0x0B03 0 [vU (if one then 1 else 0), vU (256 * (if one then b else a).major + (if one then b else a).minor), vU 0] { u with mgmt := { u.mgmt with slotA := { u.mgmt.slotA with info := a }, slotB := { u.mgmt.slotB with info := b } } } →
        w = { v with mgmt := { v.mgmt with verified := true, booted := some (if one then 1 else 0), fwMajor := (if one then b else a).major, fwMinor := (if one then b else a).minor, pairProto := (if one then b else a).pairProto, secver := (if one then b else a).secver } } →
        exec (.imageVerified a b buses) s = .next
        (enterMemTrain (startPins (startGroups (clearBuses buses (if w.mgmt.cause = 0 then w else post pApp 0x0B02 0 [vU w.mgmt.cause] w)))))) ∧
    (∀ p, s.mgmt.resetLow = false → s.mgmt.held = false → exec (.pllLock p) s = .next (enterMemTrain { s with mgmt := match p with
        | .measurement => { s.mgmt with measLock := true }
        | .lane => { s.mgmt with laneLock := true }
        | .dram => { s.mgmt with dramLock := true }
        | .pcie => { s.mgmt with pcieLock := true, pcieLost := false }
        | .management => { s.mgmt with mgmtLock := true } })) ∧
    (∀ p, (match p with | Pll.measurement => s.mgmt.measLock | .lane => s.mgmt.laneLock | .dram => s.mgmt.dramLock | .pcie => s.mgmt.pcieLock | .management => s.mgmt.mgmtLock) = false →
        s.mgmt.startup = .boot → s.mgmt.resetLow = false → s.mgmt.held = false →
        exec (.pllLockTimeout p) s = .next { s with mgmt := { s.mgmt with errCause := 1, errDetail := 0x00FF } }) ∧
    (∀ dimms pop lanes u, pop = populationOf dimms → s.mgmt.startup = .memTrain → s.mgmt.dramDone = false →
        s.mgmt.errCause = 0 → dimmsOk dimms = true → (∀ l ∈ lanes, LaneTrain.fails l = true → l.channel ∉ pop.channels) →
        u = each pop.channels (fun c s => s.modDram c (fun d => { d with populated := true, attempts := d.attempts + 1, trained := true })) { s with mem := { s.mem with pop := pop, lanes := lanes } } →
        exec (.dramTrainingDone dimms lanes) s = .next
        (withHealth (fun _ => each (List.range 12) (fun t s => startRound t 9 0 s) (fitBudget { u with mgmt := { u.mgmt with dramDone := true, startup := .cal } })) s)) ∧
    (∀ t u, u = touch t s → u.mgmt.startup = .cal → calFinished u = true → exec (.calComplete t) s = .next (withHealth (fun s =>
        let a := each (List.range 16) (fun p s => if portOn s p then s.modPort p (fun q => { q with state := .idle }) else s) { s with mgmt := { s.mgmt with startup := .sync } }
        let b := { a with clover := { a.clover with state := if (List.range 16).any (fun p => portOn a p && (a.port p).clover) then .search else a.clover.state } }
        each b.front.chans.keys degradePending b) u))

/-- Completion: RESET_N_ASSERT, THERMAL_TRIP, THERMAL_TRIP_RELEASE, PWRFAIL_N_ASSERT, PWRFAIL_N_DEASSERT, FLUSH_COMPLETE,
INTERNAL_RESET_RELEASE, FULL_RESET, SAFETY_WATCHDOG_EXPIRY, BROWN_OUT, REFCLK_LANE_LOST and REFCLK_PCIE_LOST: each
answers a next state on every state and operands that meet the hypotheses, which speak of state and operands alone.
RESET_N low for 1 µs or longer resets the hub for cause 4 and under 100 ns does nothing; THERMAL_TRIP flushes and then
holds the hub until its release; FLUSH_COMPLETE ends a running flush; INTERNAL_RESET_RELEASE starts a held hub;
FULL_RESET holds it for its cause 1 to 3, the safety watchdog for cause 1, and a brown-out with no flush running for
cause 5; REFCLK_LANE_LOST flushes, REFCLK_PCIE_LOST takes the link down. -/
def Obligations.ResetEventsHoldTheHub : Prop :=
  ∀ (s : State),
    (∀ low, low < 100 → exec (.resetNAssert low) s = .next (drawn s).2) ∧
    (∀ low u, 100 ≤ low → low < 1000 → u = fullReset 4 none (drawn s).2 → exec (.resetNAssert low) s = .next
        (if Config.shortReset (drawn s).1 low then { u with mgmt := { u.mgmt with resetLow := true } } else (drawn s).2)) ∧
    (∀ low u, 1000 ≤ low → u = fullReset 4 none (drawn s).2 →
        exec (.resetNAssert low) s = .next { u with mgmt := { u.mgmt with resetLow := true } }) ∧
    (∀ sensor, sensor < 48 → s.mgmt.resetLow = false → s.mgmt.held = false →
        (s.str.flush.pinLow = false ∨ s.str.flush.running = true) → exec (.thermalTrip sensor) s = .next
        (startFlush false s.now { s with mgmt := { s.mgmt with tripHeld := true } })) ∧
    (∀ s0 s1 s2 sensor (value : Int), s.mgmt.held = true → s.mgmt.tripHeld = true → s.mgmt.resetLow = false →
        exec (.thermalTripRelease s0 s1 s2 sensor value) s = .next
        (post pSafety 0x0B0A (handleOf 0x13 sensor) [vU sensor, vS value] (startUp s0 s1 s2 s))) ∧
    (∀ low t u v, u = touch t s → 500 ≤ low → u.mgmt.resetLow = false → u.mgmt.held = false → v = startFlush false t u →
        exec (.pwrfailNAssert low t) s = .next { v with str := { v.str with flush := { v.str.flush with pinLow := true } } }) ∧
    (exec (.pwrfailNDeassert) s = .next { s with str := { s.str with flush := { s.str.flush with pinLow := false, resume := s.frozen } } }) ∧
    (∀ u, s.str.flush.running = true → u = finishFlush s → s.mgmt.laneLost = false → s.mgmt.tripHeld = false →
        exec (.flushComplete) s = .next u) ∧
    (∀ u, s.str.flush.running = true → u = finishFlush s → s.mgmt.laneLost = true → exec (.flushComplete) s = .next
        (heldReset 8 none u)) ∧
    (∀ u, s.str.flush.running = true → u = heldReset 6 none (finishFlush s) → s.mgmt.laneLost = false →
        s.mgmt.tripHeld = true → exec (.flushComplete) s = .next { u with mgmt := { u.mgmt with tripHeld := true } }) ∧
    (∀ s0 s1 s2, s.mgmt.held = true → s.mgmt.resetLow = false → s.mgmt.tripHeld = false →
        exec (.internalResetRelease s0 s1 s2) s = .next
        (startUp s0 s1 s2 { s with mgmt := { s.mgmt with laneLost := false } })) ∧
    (∀ cause, 1 ≤ cause → cause ≤ 3 → s.mgmt.resetLow = false → exec (.fullReset cause) s = .next (heldReset cause none s)) ∧
    (s.mgmt.resetLow = false → s.mgmt.held = false → exec (.safetyWatchdogExpiry) s = .next (heldReset 1 none s)) ∧
    (s.mgmt.resetLow = false → s.str.flush.running = false → exec (.brownOut) s = .next
        (heldReset 5 none { (drawn s).2 with str := tearSlots (drawn s).1 (drawn s).2.str })) ∧
    (∀ w u v, s.mgmt.resetLow = false → s.str.flush.running = true → w = Config.draw (drawn s).1 % 4 →
        u = (if 2 ≤ w then journalDrain 208 (drawn s).2 else (drawn s).2) →
        v = { u with str := { u.str with flush := { s.str.flush with running := false, positions := decide (1 ≤ w), tail := decide (2 ≤ w), stats := decide (3 ≤ w) && !s.str.flush.noStats } } } →
        exec (.brownOut) s = .next (heldReset 5 none { (drawn v).2 with str := tearSlots (drawn v).1 (drawn v).2.str })) ∧
    (∀ u, s.mgmt.resetLow = false → s.mgmt.held = false → u = { s with mgmt := { s.mgmt with laneLost := true } } →
        exec (.refclkLaneLost) s = .next (startFlush true u.now u)) ∧
    (exec (.refclkPcieLost) s = .next (linkDownPcie { s with mgmt := { s.mgmt with pcieLost := true, pcieLock := false } }))

/-- Completion: START, LSA, HEARTBEAT_LAUNCH, HEARTBEAT, DECISION, JOIN_REQ, JOIN_SYNC, SEARCH_TIMEOUT, SWAP and
SWAP_HOLD_EXPIRY: each answers a next state on every state and operands that meet the hypotheses, which speak of state
and operands alone. START on a port in UP starts traffic, and on the CLOVER port the pair; a newer LSA is stored and
flooded; HEARTBEAT_LAUNCH at a cycle divisible by 3,000 sends the messages that wait and the next heartbeat; a newer
HEARTBEAT in a formed pair lets the active member drop the decisions covered and publish; a DECISION in order is
applied by the standby, one after loss is counted and journalled; JOIN_REQ that fits is answered with the join second
and JOIN_SYNC stages the configuration; SEARCH_TIMEOUT goes on alone; SWAP and SWAP_HOLD_EXPIRY agree on a boundary. -/
def Obligations.PairEventsKeepTheCloverPair : Prop :=
  ∀ (s : State),
    (∀ p lane width (e f : Bool) u, isPort p = true → (s.port p).state = .up → u = startTraffic p lane width s →
        exec (.startBlock p lane width e f) s = .next (if (u.port p).clover then cloverLinkUp p e f u else u)) ∧
    (∀ p origin uid seq hops links u, isPort p = true → (s.port p).state = .up → lsaNewer s origin uid seq = true →
        u = addrClash origin uid (seeUid uid (floodLsa (LsaRec.mk origin uid seq links) (some (p, hops)) (storeLsa (LsaRec.mk origin uid seq links) s))) →
        u.clover.state ≠ .solo → exec (.lsa p origin uid seq { hops := hops, links := links }) s = .next u) ∧
    (∀ p k u, u = sendMsgs s → cloverPort u = some p → k % 3000 = 0 → u.clover.state ≠ .unpaired →
        exec (.heartbeatLaunch k) s = .next (touch (atCycle k) (sendFrame p
        { ftype := 8, vc := 1, timed := true, dest := 0, src := u.sky.hub, aux := 1, body := heartbeatBytes u (heartbeatOf u k) }
        (u.modClover (fun c => { c with hbSeq := (c.hbSeq + 1) % 2 ^ 32 }))))) ∧
    (∀ h t u v, u = touch t s → (u.clover.last = none ∨ ∃ l, u.clover.last = some l ∧ l.sendAt < h.sendAt) →
        u.clover.state = .formed → u.clover.role = .active →
        v = u.modClover (fun c => { c with last := some h, lastAt := h.sendAt, extended := false }) →
        exec (.heartbeat h t) s = .next
        (publishCovered (v.modClover (fun c => { c with sent := c.sent.filter (fun d => !covers h.decSeq d.1) })))) ∧
    (∀ n d, s.clover.state ≠ .formed → exec (.decision n d) s = .next (post pSkecy 0x0906 0 [vU n] (bump lateDecision s))) ∧
    (∀ d, s.clover.state = .formed → s.clover.role = .standby → exec (.decision s.clover.decNext d) s = .next
        (applyDecision d (s.modClover (fun c => { c with decNext := (c.decNext + 1) % 2 ^ 32 })))) ∧
    (∀ proto uid dig strap pop t u v w, u = touch t s → u.clover.state = .joining → u.clover.role = .active →
        joinCause u proto strap pop = 0 → u.sky.hub ≠ 0 →
        v = (drawn u).2.modClover (fun c => { c with digest := Config.digest (drawn u).1 }) →
        w = v.modClover (fun c => { c with partner := uid, joinSec := some (joinSecond t), joinOk := true }) →
        exec (.joinReq proto uid dig strap pop t) s = .next
        (sendMsg { kind := 11, a := joinSecond t, b := if dig = w.clover.digest then 0 else 1 } w)) ∧
    (∀ sec uid addr config pos dec u, s.clover.state = .joining → s.clover.role = .standby → config ≠ [] →
        u = s.modClover (fun c => { c with joinSec := some sec, joinOk := true, partner := uid, positions := pos, decNext := (dec + 1) % 2 ^ 32, adopt := if strapAddr s.mgmt.strap = 0 then some addr else none }) →
        exec (.joinSync sec uid addr config pos dec) s = .next { u with host := { u.host with bank := u.host.bank ++ [{ stage := { changes := config }, at_ := u.time.swath + 3, silent := true }] } }) ∧
    (∀ u, s.clover.state = .search →
        u = s.modClover (fun c => { c with state := .solo, role := .active, timedOut := true, soloFrom := soloMarks s }) →
        exec (.searchTimeout) s = .next
        (if u.mgmt.memberB = true ∧ strapAddr u.mgmt.strap = 0 ∧ u.sky.hub = 0 then askAddress u else u)) ∧
    (∀ b, s.clover.state = .formed → s.clover.swapAt = some b → exec (.swap b true) s = .next
        (s.modClover (fun c => { c with swapOk := true }))) ∧
    (∀ b, s.clover.state = .formed → twoAhead s b = true → s.clover.swapAt = none → exec (.swap b false) s = .next
        (sendMsg { kind := 13, a := b, b := 1 } (s.modClover (fun c => { c with swapAt := some b, swapOk := true, swapWhy := if c.command then 2 else 1 })))) ∧
    (s.clover.state = .formed → s.clover.role = .standby → s.clover.command = false → preferred s (peerPref s) = true →
        s.ready = true → s.mem.streamFault = false → calClear s = true → s.clover.swapAt = none →
        exec (.swapHoldExpiry) s = .next (proposeSwap 1 s))

/-- Completion: PREPARE, READY, REFUSE, NETWORK_COMMIT_DECIDE, SEAL, ABORT, NETWORK_STAGE_EXPIRY, COMMIT_CONFIRM and
NETWORK_COMMIT_DEADLINE: each answers a next state on every state and operands that meet the hypotheses, which speak
of state and operands alone. PREPARE that passes its checks marks the stage as promised and is answered READY, one
that fails REFUSE with the status. At the originator, READY of a target is noted and seals the commit once all are
ready; REFUSE is noted; the decision 8 swaths ahead seals or aborts it; COMMIT_CONFIRM is noted and completes the
command when all have confirmed; the deadline completes it as it stands. At a target, SEAL of the promised stage
commits it for its boundary, ABORT and expiry discard it. -/
def Obligations.NetworkCommitMessagesSealOrAbort : Prop :=
  ∀ (s : State),
    (∀ src stage b t u, u = touch t s → prepareCheck src stage b u = none → exec (.prepare src stage b t) s = .next
        (sendMsg { kind := 2, dest := src, a := stage } { u with host := { u.host with stages := u.host.stages.map (fun x =>
        if x.id = stage then { x with prepared := some (src, b) } else x) } })) ∧
    (∀ src stage b t u st, u = touch t s → prepareCheck src stage b u = some st → exec (.prepare src stage b t) s = .next
        (sendMsg { kind := 3, dest := src, a := stage, st := st } u)) ∧
    (∀ src stage n u, netOf s stage = some n → n.sealed = false → src ∈ n.targets → src ∉ n.ready →
        u = journalHub n src 1 (modNet stage (fun n => { n with ready := n.ready ++ [src] }) s) →
        exec (.readyMsg src stage) s = .next
        (match netOf u stage with | some n => if n.targets.all n.ready.contains then sealNet n u else u | none => u)) ∧
    (∀ src stage st n, netOf s stage = some n → n.sealed = false → src ∈ n.targets → src ∉ n.refused.map (·.1) →
        exec (.refuseMsg src stage st) s = .next
        (journalHub n src 4 (modNet stage (fun n => { n with refused := n.refused ++ [(src, st)] }) s))) ∧
    (∀ stage n, netOf s stage = some n → n.sealed = false → exec (.networkCommitDecide stage) s = .next
        (if n.targets.all n.ready.contains then sealNet n s else abortNet n s)) ∧
    (∀ src stage x b, openStage s stage = some x → x.prepared = some (src, b) → exec (.sealStage src stage) s = .next
        (markStage x.tenant stage 2 (pushCommit { stage := { x with prepared := none }, at_ := b, tenant := x.tenant, src := some src } s))) ∧
    (∀ src stage x, openStage s stage = some x → stageFrom s x src = true → exec (.abortMsg src stage) s = .next
        (dropStage stage s)) ∧
    (∀ stage x y, openStage s stage = some x → x.prepared = some y → exec (.networkStageExpiry stage) s = .next
        (post pApp (Config.entryCode 2).toNat 0 [vU stage] (dropStage stage s))) ∧
    (∀ src stage n u, netOf s stage = some n → n.sealed = true → src ∈ n.targets → src ∉ n.confirmed →
        u = journalHub n src 3 (modNet stage (fun n => { n with confirmed := n.confirmed ++ [src] }) s) →
        exec (.commitConfirm src stage) s = .next
        (match netOf u stage with | some n => if n.targets.all n.confirmed.contains then endNet n (netReply n) u else u | none => u)) ∧
    (∀ stage n, netOf s stage = some n → n.sealed = true → exec (.networkCommitDeadline stage) s = .next
        (endNet n (netReply n) s))

/-- Completion: HK_CONVERSION, URGENT_CONVERSION, HOUSEKEEPING_PERIOD, THERMAL_LEVEL_EXIT, I2C_SCL_TIMEOUT,
I2C_STUCK_RETRY, PMBUS_POLL, SFP_POLL, MANAGEMENT_ETHERNET_LINK_UP and JTAG_TRST_N_ASSERT: each answers a next state
on every state and operands that meet the hypotheses, which speak of state and operands alone. HK_CONVERSION of a slot
takes the reading of its sensor; URGENT_CONVERSION takes it in an idle slot, or is counted as missed; a housekeeping
period of a sensor that has one emits its record; THERMAL_LEVEL_EXIT writes the level that is still kept for the next
seal; an SCL timeout leaves the bus STUCK, counted and journalled, and the retry pulses its reset pin and clears it; a
PMBus or SFP poll takes the readings and journals a fault; the management page is stored; JTAG_TRST_N resets the TAP. -/
def Obligations.HousekeepingEventsTakeTheirReadings : Prop :=
  ∀ (s : State),
    (∀ slot (code : Int) t u, u = touch t s → slot < 98 → exec (.hkConversion slot code t) s = .next
        (judgeRefs (slotSensor slot) (convert (slotSensor slot) code t u))) ∧
    (∀ sensor slot (code : Int), sensor < 98 → 98 ≤ slot → slot < 125 → exec (.urgentConversion sensor slot code) s = .next
        (judgeRefs sensor (convert sensor code s.now s))) ∧
    (∀ sensor slot (code : Int), sensor < 98 → slot < 98 → exec (.urgentConversion sensor slot code) s = .next
        (bump (ctrKey 0x13 0 0 0) s)) ∧
    (∀ sensor t u, u = touch t s → isSensor sensor = true → housePeriod u sensor ≠ 0 →
        exec (.housekeepingPeriod sensor t) s = .next (emitItem houseKey { t := t, body := houseEntry u sensor } [] false u)) ∧
    (∀ k, k = levelKept s s.time.swath → k < s.mgmt.level → exec (.thermalLevelExit) s = .next (ctlWrite (.level k) s)) ∧
    (∀ bus u, bus < 4 → (s.bus bus).state = .waitScl → u = s.modBus bus (fun x => { x with state := .stuck, byScl := true }) →
        exec (.i2cSclTimeout bus) s = .next
        (post pApp 0x0B07 (handleOf 0x14 bus) [vU bus, vU 1] (bump (ctrKey 0x14 bus 4 0) (bump (ctrKey 0x14 bus 2 0) u)))) ∧
    (∀ bus (scl : Bool) pulses u, bus < 4 → (s.bus bus).state = .stuck →
        u = (if (s.bus bus).rstPin.isSome then startPulse ((s.bus bus).rstPin.getD 0) (10 * (s.bus bus).pulse) s else s) →
        exec (.i2cStuckRetry bus scl pulses) s = .next (clearBus bus scl pulses u)) ∧
    (∀ reg (vout iout temp st : Int) u, reg < 16 → s.mgmt.pmbus.get reg ≠ 0 → (s.bus 0).state ≠ .stuck → s.mgmt.warm = false →
        u = takeReading (128 + 4 * reg + 3) 0 st false (takeReading (128 + 4 * reg + 2) 0 temp false (takeReading (128 + 4 * reg + 1) 0 iout false (takeReading (128 + 4 * reg + 0) 0 vout false s.now s).now (takeReading (128 + 4 * reg + 0) 0 vout false s.now s)).now (takeReading (128 + 4 * reg + 1) 0 iout false (takeReading (128 + 4 * reg + 0) 0 vout false s.now s).now (takeReading (128 + 4 * reg + 0) 0 vout false s.now s))).now (takeReading (128 + 4 * reg + 2) 0 temp false (takeReading (128 + 4 * reg + 1) 0 iout false (takeReading (128 + 4 * reg + 0) 0 vout false s.now s).now (takeReading (128 + 4 * reg + 0) 0 vout false s.now s)).now (takeReading (128 + 4 * reg + 1) 0 iout false (takeReading (128 + 4 * reg + 0) 0 vout false s.now s).now (takeReading (128 + 4 * reg + 0) 0 vout false s.now s))) →
        exec (.pmbusPoll reg vout iout temp st true) s = .next
        (if st = 0 then u else post pApp 0x0B0C (handleOf 0x14 0) [vU reg, vU st.toNat] u)) ∧
    (∀ reg (a b c d : Int), reg < 16 → s.mgmt.pmbus.get reg ≠ 0 → (s.bus 0).state ≠ .stuck → s.mgmt.warm = false →
        exec (.pmbusPoll reg a b c d false) s = .next (bump (ctrKey 0x14 0 1 0) s)) ∧
    (∀ vals alarms u, (s.bus 2).state ≠ .stuck → s.mgmt.warm = false →
        u = each ((vals.take 5).zipIdx) (fun p s => takeReading (192 + p.2) 0 p.1 false s.now s) s →
        exec (.sfpPoll vals alarms) s = .next
        (if alarms = 0 then u else post pApp 0x0B0D (handleOf 0x14 2) [vU alarms, vS (vals.getD (alarmed alarms) 0)] u)) ∧
    (∀ page, (s.bus 2).state ≠ .stuck → s.mgmt.warm = false →
        exec (.managementEthernetLinkUp page) s = .next { s with mgmt := { s.mgmt with sfpPage := page } }) ∧
    (exec (.jtagTrstNAssert) s = .next { s with mgmt := { s.mgmt with tapReset := true } })

/-- Completion: DRAM_READ_RETURN, REFRESH, RFM, ZQ_CALIBRATION, OSCILLATOR_READ, DRIFT_RECENTRING, PATROL_SCRUB, FURZE,
FURZE_WINDOW, BANK_IDLE_TIMER_EXPIRY, BURST_BOUNDARY, GRANT_RELEASE and GRANT_WATCHDOG: each answers a next state on
every state and operands that meet the hypotheses, which speak of state and operands alone. On a DRAM channel: a
return that answers the oldest read takes it with the writes before it, counts one bad symbol, journals more, passes
the word through the read FIFO and poisons the sample of a lost word; a return that answers no read changes nothing;
REFRESH, ZQ_CALIBRATION and PATROL_SCRUB count; OSCILLATOR_READ sets the drift and DRIFT_RECENTRING moves one step
against it; RFM acts on the bank; FURZE of a pair over the threshold refreshes the bank, throttles a requester that is
no ring writer and journals, and the window's end forgets; a bank timer closes its row. On an arbiter instance: at
BURST_BOUNDARY, after the burst is issued, the ranks waiting are applied and the requests raised, an owner of lower
rank loses the grant to the best request; GRANT_RELEASE takes the grant and passes it on; GRANT_WATCHDOG disables the
owner, records a violation of kind 7 (of its tenant, stopping its queue, for a DMA queue), journals and passes the
grant on. -/
def Obligations.MemoryEventsActOnDramAndGrants : Prop :=
  ∀ (s : State),
    (∀ req addr data bad (upset : Bool) held c, c = dramChan s addr → nextRead s c = none →
        exec (.dramReadReturn req addr data bad upset held) s = .next s) ∧
    (∀ req addr data bad (upset : Bool) held c x u rank lost v w, c = dramChan s addr → nextRead s c = some x → x.req = req →
        x.addr / 64 = addr / 64 → u = takeRead c s → rank = (placeAt u addr).rank →
        lost = (decide (2 ≤ bad) || u.mem.spoiled.get (addr / 64)) → v = (if bad = 1 then bump (eccCtr c rank) u else u) →
        w = (if lost then post pDram 0x0A01 (handleOf 0 0) [vU addr, vU c, vU rank] v else v) →
        exec (.dramReadReturn req addr data bad upset held) s = .next
        (if lost || (readWord c data upset w).1 then takePoisoned req held (readWord c data upset w).2 else (readWord c data upset w).2)) ∧
    (∀ ch rank, isDram ch = true → rank < 2 → exec (.refresh ch rank) s = .next
        (s.modDram ch (fun c => { c with refreshes := c.refreshes.mod rank (· + 1) }))) ∧
    (∀ ch bank, isDram ch = true → bank < 128 → exec (.rfm ch bank) s = .next (rfm ch bank s)) ∧
    (∀ ch rank, isDram ch = true → rank < 2 → exec (.zqCalibration ch rank) s = .next
        (s.modDram ch (fun c => { c with zqs := c.zqs.mod rank (· + 1) }))) ∧
    (∀ ch lane drift, isDram ch = true → lane < 20 → exec (.oscillatorRead ch lane drift) s = .next
        (s.modDram ch (fun c => { c with drift := c.drift.set lane drift }))) ∧
    (∀ ch lane eye (m : Int) (margin bad : Bool) u, isDram ch = true → lane < 20 → 0 < (s.dram ch).drift.get lane →
        m = (s.dram ch).moved.get lane + 1 → margin = decide (driftMargin ≤ m.natAbs) →
        bad = (decide (driftEntry < m.natAbs) || decide (eye < 32)) →
        u = withHealth (fun s => s.modDram ch (fun c => { c with moved := c.moved.set lane m, drift := c.drift.set lane ((s.dram ch).drift.get lane - 1), drifted := c.drifted.set lane bad, margin := c.margin || margin })) s →
        exec (.driftRecentring ch lane eye) s = .next
        (if bad && !(s.dram ch).drifted.get lane || margin && !(s.dram ch).margin then post pDram 0x0A02 (handleOf 0 0) [vU ch, vU lane, vS m, vU (if margin then 1 else 0)] u else u)) ∧
    (s.mgmt.level = 0 → exec (.patrolScrub) s = .next { s with mem := { s.mem with scrubbed := s.mem.scrubbed + 1 } }) ∧
    (∀ ch req bank row t u grp ring n v w, u = touch t s → isDram ch = true → req < 96 → bank < 128 → grp = row / 256 →
        ring = isRingWriter req → n = pairCount req bank grp (u.dram ch).furze →
        (u.dram ch).furze.any (fun e => e.isPair req bank grp && !e.acted && decide (u.mem.furzeThr ≤ e.count)) = true →
        v = (rfm ch bank u).modDram ch (fun c => { c with
          furze := c.furze.map (fun e => if e.isPair req bank grp then { e with acted := true } else e)
          throttled := if ring || c.throttled.contains req then c.throttled else c.throttled ++ [req]
          fEvents := min (2 ^ 32 - 1) (c.fEvents + 1), fReq := req, fBank := bank % 64, fGroup := grp, fTime := shortTime t }) → w = withHealth (fun s => { s with mem := { s.mem with furzeRing := s.mem.furzeRing || ring } }) v → exec (.furze ch req bank row t) s = .next (post pDram (if ring then 0x0A04 else 0x0A03) (handleOf 0x11 (512 * ch + req)) [vU (ch + 256 * (bank / 32 % 2) + 512 * (bank / 4 % 8) + 4096 * (bank % 4)), vU grp, vU n] w)) ∧
    (∀ u, u = each (List.range 8) (fun c s => s.modDram c (fun d => { d with furze := [], throttled := [] })) s →
        exec (.furzeWindow) s = .next { u with mem := { u.mem with window := u.mem.window + 1 } }) ∧
    (∀ ch bank, isDram ch = true → bank < 128 → exec (.bankIdleTimerExpiry ch bank) s = .next
        (s.modDram ch (fun c => { c with openRows := c.openRows.set bank none }))) ∧
    (∀ i raised burst order u o b, isInst i = true → u = applyBank i (raiseAll i raised (issueAll i burst order s)) →
        (u.inst i).owner = some o → bestRaised u i = some b →
        exec (.burstBoundary i { raised := raised, burst := burst, order := order }) s = .next
        (if rankOf u i b < rankOf u i o then u.modInst i (fun x => { x with owner := some b }) else u)) ∧
    (∀ i raised burst order u, isInst i = true → u = applyBank i (raiseAll i raised (issueAll i burst order s)) →
        (u.inst i).owner = none → exec (.burstBoundary i { raised := raised, burst := burst, order := order }) s = .next
        (grantFree i u)) ∧
    (∀ i raised burst order v o u, isInst i = true → v = issueAll i burst order s → (v.inst i).owner = some o →
        u = (v.modReq i o (fun x => { x with since := none })).modInst i (fun x => { x with owner := none }) →
        exec (.grantRelease i { raised := raised, burst := burst, order := order }) s = .next
        (grantFree i (applyBank i (raiseAll i raised u)))) ∧
    (∀ i addr t u o v w, u = touch t s → isInst i = true → (u.inst i).owner = some o → dmaOf i o = none →
        v = (u.modReq i o (fun x => { x with since := none, disabled := true, bites := (t :: x.bites).take 3 })).modInst i (fun x => { x with owner := none }) →
        w = violate none { kind := 7, addr := addr, requester := o, time := shortTime t, tenant := 0 } v →
        exec (.grantWatchdog i addr t) s = .next
        (grantFree i (post pArb 0x0A05 (handleOf 0x11 (reqKey i o)) [vU i, vU addr] w))) ∧
    (∀ i addr t u o x d v w, u = touch t s → isInst i = true → (u.inst i).owner = some o → dmaOf i o = some (x, d) →
        v = (u.modReq i o (fun x => { x with since := none, disabled := true, bites := (t :: x.bites).take 3 })).modInst i (fun x => { x with owner := none }) →
        w = (violate (tenantFn v x) { kind := 7, addr := addr, requester := o, time := shortTime t, tenant := x } v).modQueue x (4 + d) (fun k => { k with stopped := true }) →
        exec (.grantWatchdog i addr t) s = .next
        (grantFree i (post pArb 0x0A05 (handleOf 0x11 (reqKey i o)) [vU i, vU addr] w)))

/-- Completion: OPEN, OPEN_REPLY, COMMANDS, CREDITS, COMPLETIONS, DMA_COMPLETIONS, CLOSE, KEEPALIVE, REMOTE_RESEND_TIMER
and REMOTE_SESSION_TIMEOUT: each answers a next state on every state and operands that meet the hypotheses, which
speak of state and operands alone. OPEN of a hub with no session at a hub with an address takes the lowest free tenant
with the next epoch and answers it, or NO_RESOURCE; OPEN_REPLY keeps tenant and epoch; COMMANDS, CREDITS, CLOSE and a
received KEEPALIVE in order fetch the commands, post the credits, end the session or do nothing else; COMPLETIONS and
DMA_COMPLETIONS are kept for the sender; the resend timer sends again what is not acknowledged, and a timeout ends the
session. -/
def Obligations.RemoteSessionsCarryCommands : Prop :=
  ∀ (s : State),
    (∀ hub uid t u v, remoteOf s hub uid = none → s.mgmt.warm = false → s.sky.hub ≠ 0 → freeTenant s = some t →
        u = s.modTenant t (fun _ => { used := true, kind := 2, hub := hub, uid := uid, epoch := s.host.epoch, cap := newCap, bucket := bucketMax, bucketAt := s.now, rxFseq := 1, txFseq := 1, unacked := [{ kind := 7 }] }) →
        v = { u with host := { u.host with epoch := (u.host.epoch + 1) % 65536 } } → exec (.openMsg hub uid) s = .next
        (sendRemote t (writeReplays t (noteUse 1 (v.host.tenants.filter (fun p => p.2.used)).length v)))) ∧
    (∀ hub uid, remoteOf s hub uid = none → s.mgmt.warm = false → s.sky.hub ≠ 0 → freeTenant s = none →
        exec (.openMsg hub uid) s = .next
        (post pPcie 0x0105 (handleOf 0x12 0) [vU 0, vU 0x8006] (sendMsg { kind := 7, dest := hub, a := 0xFF, b := 0, st := .noResource } s))) ∧
    (∀ hub t ep st, exec (.openReply hub t ep st) s = .next { s with host := { s.host with away := s.host.away.mod hub (fun x => if x.status = some .done && decide (x.epoch = ep) then x else { status := some st, tenant := t, epoch := ep, rxFseq := 1 }) } }) ∧
    (∀ t ep n ack cmds, exec (.commandsMsg t ep n ack cmds) s = .next (acceptRemote t ep n ack (each cmds (fetchOne t 0)) s)) ∧
    (∀ t ep n ack q cr, q < 4 → exec (.creditsMsg t ep n ack q cr) s = .next
        (acceptRemote t ep n ack (fun s => if (s.queue t (4 + q)).made = true ∧ (s.queue t (4 + q)).stopped = false then postCredits t q cr s else s) s)) ∧
    (∀ hub t ep n ack tags, exec (.completionsMsg hub t ep n ack tags) s = .next
        (takeAway hub t ep n ack (fun x => { x with cpls := x.cpls ++ tags }) s)) ∧
    (∀ hub t ep n ack tags, exec (.dmaCompletionsMsg hub t ep n ack tags) s = .next
        (takeAway hub t ep n ack (fun x => { x with dmas := x.dmas ++ tags }) s)) ∧
    (∀ t ep n ack, exec (.closeMsg t ep n ack) s = .next (acceptRemote t ep n ack (endTenant t) s)) ∧
    (∀ t ep n ack, exec (.keepalive t (some (ep, n, ack))) s = .next (acceptRemote t ep n ack id s)) ∧
    (∀ t, (s.tenant t).used = true → (s.tenant t).kind = 2 → exec (.keepalive t none) s = .next
        (sendRemote t (remoteFrame t 8 [] [] s))) ∧
    (∀ t, exec (.remoteResendTimer t) s = .next
        (sendRemote t (s.modTenant t (fun x => { x with unacked := x.unacked.map (fun f => { f with sent := false }) })))) ∧
    (∀ t, (s.tenant t).used = true → (s.tenant t).kind = 2 → exec (.remoteSessionTimeout t) s = .next
        (endTenant t (cutTenant t none s)))

/-- Completion: STREAMS_START, SWATH_BOUNDARY, ADDRESS_APPLY, CONTROL_PASS, CONTROL_LOOP_SEAL, SRAM_UNCORRECTABLE,
WARM_RESTART, WARM_RESTART_DONE, PCIE_LINK_UP, PARTNER_LOSS, COMMAND and LIVE_UPDATE_RESET: each answers a next state
on every state and operands that meet the hypotheses, which speak of state and operands alone. STREAMS_START at a
second that may start makes the hub READY, starts the streams and zeroes the edge counts; SWATH_BOUNDARY of a running
hub notes the failed side-bands and turns the swath; ADDRESS_APPLY takes the address when every stream is at a window;
CONTROL_PASS runs its first tasks and defers the rest, once a swath, and the seal seals what was written; WARM_RESTART
after overruns or silence restarts, its end fetches the late commands; an uncorrectable SRAM error resets or restarts
the hub; PCIE_LINK_UP takes rate and width; PARTNER_LOSS after 6 µs without a heartbeat, extended once, loses the
partner; COMMAND mirrors a command of a formed pair. -/
def Obligations.BoundaryAndRestartEvents : Prop :=
  ∀ (s : State),
    (∀ sec u v w x, mayStart sec s = true → u = touch (sec * secSpan) s →
        v = withHealth (fun s => { s with mgmt := { s.mgmt with startup := .ready } }) { u with time := { u.time with syncFrom := sec } } →
        w = each (startKeys v) startStream v → x = { w with red := { w.red with
            tachs := Tab.keep (fun x => { x with edgeCount := 0 }) w.red.tachs
            units := Tab.keep (fun v => { v with timeK := max v.timeK (v.eventsBefore (sec * secSpan)) }) w.red.units } } → exec (.streamsStart sec) s = .next (confirmSlot false (startRetention (publishCut (startIntervals (sec * Config.swathsPerSec) x))))) ∧
    (∀ bias side, (∀ p ∈ bias, isChannel p.1 = true) → (∀ x ∈ side, isTile x = true) → s.mgmt.resetLow = false →
        s.mgmt.held = false → s.mgmt.measLock = true → exec (.swathBoundary { bias := bias, side := side }) s = .next
        (turnSwath (s.time.swath + 1) bias (each side (fun t s => s.modTile t (fun x => { x with sideFail := true })) s))) ∧
    (∀ a u v, s.sky.next = some a →
        s.str.streams.any (fun p => p.2.exists_ && decide (s.time.swath % max 1 p.2.window ≠ 0)) = false →
        u = each s.str.streams.keys (fun k s => s.modStream k (fun st => if st.exists_ then st.cut (boundary s.time.swath) st.window true else st)) s →
        v = setAddress a u → exec (.addressApply) s = .next (post pSkecy 0x0602 0 [vU u.sky.hub, vU a] v)) ∧
    (∀ n u, s.mgmt.verified = true → s.mgmt.warm = false → s.mgmt.held = false → s.mgmt.resetLow = false →
        s.mgmt.passDone = false → u = each ((passTasks s).take n) passTask s →
        exec (.controlPass n) s = .next { u with mgmt := { u.mgmt with deferred := (passTasks s).drop n, passDone := true } }) ∧
    (s.mgmt.verified = true → s.mgmt.warm = false → s.mgmt.held = false → s.mgmt.resetLow = false → s.host.sealed = false →
        exec (.controlLoopSeal) s = .next { s with host := { s.host with sealed := true, ctlSeal := s.host.ctl, ctl := [] }, time := { s.time with fSeal := s.time.fBank, fBank := none } }) ∧
    (∀ addr (safety : Bool) u, s.mgmt.resetLow = false → s.mgmt.held = false →
        u = post pSafety (Config.entryCode 0).toNat 0 [vU addr] s → exec (.sramUncorrectable safety addr) s = .next
        (if safety then heldReset 3 none (journalDrain 208 u) else warmRestart 3 u.now u)) ∧
    (∀ t u, u = touch t s → overrunLimit ≤ u.mgmt.overruns → exec (.warmRestart t) s = .next (warmRestart 1 t u)) ∧
    (∀ t u, u = touch t s → u.mgmt.overruns < overrunLimit → silentLimit ≤ u.mgmt.silent → exec (.warmRestart t) s = .next
        (warmRestart 2 t u)) ∧
    (∀ buses i u, s.mgmt.warm = true → i = (if s.mgmt.activeB then s.mgmt.slotB.info else s.mgmt.slotA.info) →
        u = { s with mgmt := { s.mgmt with warm := false, booted := some (if s.mgmt.activeB then 1 else 0), fwMajor := i.major, fwMinor := i.minor, pairProto := i.pairProto, secver := i.secver } } →
        exec (.warmRestartDone buses) s = .next (fetchLate (clearBuses buses u))) ∧
    (∀ rate width u, 1 ≤ rate → rate ≤ 5 → [1, 2, 4, 8, 16].contains width = true → u = linkUp rate width s →
        s.host.linkUp = false → exec (.pcieLinkUp rate width) s = .next u) ∧
    (∀ t u, u = touch t s → u.clover.state = .formed → t < u.clover.lastAt + nsSpan 6000 → u.clover.extended = false →
        exec (.partnerLoss t) s = .next u) ∧
    (∀ t u, u = touch t s → u.clover.state = .formed → u.clover.lastAt + nsSpan 12000 ≤ t → u.clover.extended = true →
        exec (.partnerLoss t) s = .next (losePartner mirrorCmd u)) ∧
    (∀ i t u, u = touch t s → u.clover.state = .formed → (mirrorBody i).isSome = true → exec (.command i none t) s = .next
        (fromPartner i u)) ∧
    (∀ i st t u, u = touch t s → u.clover.state = .formed → exec (.command i (some st) t) s = .next (fromHere i st u)) ∧
    (s.clover.update = true → 32 ≤ s.clover.ramp → exec (.liveUpdateReset) s = .next (heldReset Config.updateCause none s))
end

