-- ==== Sys2Proof/Laws/Tab.lean ====
section
/-! SUPPORT. Sparse tables: a read after a write, and the canonical form that every write keeps. -/

namespace Sys2Proof

variable {α : Type} [Inhabited α]

@[simp] theorem Tab.get_nil (k : Nat) : Tab.get ([] : Tab α) k = default := rfl

theorem Tab.get_cons (j : Nat) (v : α) (r : Tab α) (k : Nat) :
    Tab.get ((j, v) :: r) k = if k = j then v else Tab.get r k := rfl

theorem Tab.get_put (t : Tab α) (k : Nat) (v : α) (j : Nat) : Tab.get (Tab.put t k v) j = if j = k then v else Tab.get t j := by
  induction t with
  | nil => simp [Tab.put, Tab.get_cons]
  | cons p r ih =>
    obtain ⟨i, w⟩ := p
    simp only [Tab.put]
    by_cases h1 : k < i
    · simp [h1, Tab.get_cons]
    · by_cases h2 : k = i
      · subst h2; simp only [Nat.lt_irrefl, if_false, if_true, Tab.get_cons]; split <;> simp_all
      · simp only [h1, h2, if_false, Tab.get_cons, ih]
        by_cases hj : j = i
        · subst hj; simp [Ne.symm h2]
        · simp [hj]

theorem Tab.get_drop (t : Tab α) (k j : Nat) :
    Tab.get (t.filter (fun p => decide (p.1 ≠ k))) j = if j = k then default else Tab.get t j := by
  induction t with
  | nil => simp
  | cons p r ih =>
    obtain ⟨i, w⟩ := p
    by_cases h : i = k
    · subst h; simp only [List.filter, ne_eq, not_true_eq_false, decide_false, ih, Tab.get_cons]
      by_cases hj : j = i <;> simp [hj]
    · simp only [List.filter, ne_eq, h, not_false_eq_true, decide_true, Tab.get_cons, ih]
      by_cases hj : j = i
      · subst hj; simp [h]
      · simp [hj]

variable [DecidableEq α]

/-- A read after a write. -/
theorem Tab.get_set (t : Tab α) (k : Nat) (v : α) (j : Nat) : Tab.get (Tab.set t k v) j = if j = k then v else Tab.get t j := by
  unfold Tab.set
  by_cases hv : v = default
  · rw [if_pos hv, Tab.get_drop, hv]
  · rw [if_neg hv, Tab.get_put]

/-- A change of one entry, read back. -/
theorem Tab.get_mod (t : Tab α) (k : Nat) (f : α → α) (j : Nat) :
    Tab.get (Tab.mod t k f) j = if j = k then f (Tab.get t k) else Tab.get t j := Tab.get_set t k _ j

@[simp] theorem Tab.get_mod_self (t : Tab α) (k : Nat) (f : α → α) : Tab.get (Tab.mod t k f) k = f (Tab.get t k) := by
  simp [Tab.get_mod]

theorem Tab.get_mod_ne (t : Tab α) (k : Nat) (f : α → α) (j : Nat) (h : j ≠ k) : Tab.get (Tab.mod t k f) j = Tab.get t j := by
  simp [Tab.get_mod, h]

omit [Inhabited α] [DecidableEq α] in
theorem Tab.mem_put (t : Tab α) (k : Nat) (v : α) : ∀ p ∈ Tab.put t k v, p = (k, v) ∨ p ∈ t := by
  induction t with
  | nil => intro p hp; exact Or.inl (List.mem_singleton.1 hp)
  | cons q r ih =>
    obtain ⟨i, w⟩ := q
    intro p hp
    unfold Tab.put at hp
    split at hp
    · exact List.mem_cons.1 hp
    · split at hp
      · exact (List.mem_cons.1 hp).imp id (List.mem_cons_of_mem _)
      · rcases List.mem_cons.1 hp with h | h
        · exact Or.inr (h ▸ List.mem_cons_self ..)
        · exact (ih p h).imp id (List.mem_cons_of_mem _)

/-- Whatever a table's form, a property of every listed entry and of what is written holds of every entry after a write. -/
theorem Tab.mem_set (t : Tab α) (k : Nat) (v : α) (P : Nat → α → Prop)
    (ht : ∀ p ∈ t, P p.1 p.2) (hv : v ≠ default → P k v) : ∀ p ∈ Tab.set t k v, P p.1 p.2 := by
  intro p hp
  unfold Tab.set at hp
  split at hp
  · exact ht p (List.mem_filter.1 hp).1
  · rename_i h
    rcases Tab.mem_put t k v p hp with rfl | h'
    · exact hv h
    · exact ht p h'

omit [Inhabited α] [DecidableEq α] in
/-- A table that rises from a bound rises from a lower one. -/
theorem Tab.rising_weaken (t : Tab α) (a b : Nat) (hab : a ≤ b) (h : Tab.rising (some b) t = true) : Tab.rising (some a) t = true := by
  cases t with
  | nil => rfl
  | cons p r =>
    obtain ⟨i, w⟩ := p
    simp only [Tab.rising, Bool.and_eq_true, decide_eq_true_eq] at h ⊢
    exact ⟨by omega, h.2⟩

omit [Inhabited α] [DecidableEq α] in
theorem Tab.rising_put (t : Tab α) (b k : Nat) (v : α) (h : Tab.rising (some b) t = true) (hb : b < k) :
    Tab.rising (some b) (Tab.put t k v) = true := by
  induction t generalizing b with
  | nil => simp [Tab.put, Tab.rising, hb]
  | cons p r ih =>
    obtain ⟨i, w⟩ := p
    simp only [Tab.rising, Bool.and_eq_true, decide_eq_true_eq] at h
    simp only [Tab.put]
    split
    · rename_i h1; simp [Tab.rising, hb, h1, h.2]
    · split
      · rename_i h2; subst h2; simp [Tab.rising, hb, h.2]
      · simp only [Tab.rising, Bool.and_eq_true, decide_eq_true_eq]
        exact ⟨h.1, ih i h.2 (by omega)⟩

omit [Inhabited α] [DecidableEq α] in
theorem Tab.rising_drop (t : Tab α) (b k : Nat) (h : Tab.rising (some b) t = true) :
    Tab.rising (some b) (t.filter (fun p => decide (p.1 ≠ k))) = true := by
  induction t generalizing b with
  | nil => rfl
  | cons p r ih =>
    obtain ⟨i, w⟩ := p
    simp only [Tab.rising, Bool.and_eq_true, decide_eq_true_eq] at h
    by_cases hk : i = k
    · simp only [List.filter, ne_eq, hk, not_true_eq_false, decide_false]
      exact Tab.rising_weaken _ _ _ (by omega) (ih i h.2)
    · simp only [List.filter, ne_eq, hk, not_false_eq_true, decide_true, Tab.rising, Bool.and_eq_true, decide_eq_true_eq]
      exact ⟨h.1, ih i h.2⟩

omit [Inhabited α] [DecidableEq α] in
theorem Tab.rising_none_of (t : Tab α) (b : Nat) (h : Tab.rising (some b) t = true) : Tab.rising none t = true := by
  cases t with
  | nil => rfl
  | cons p r =>
    obtain ⟨i, w⟩ := p
    simp only [Tab.rising, Bool.and_eq_true] at h
    exact h.2

/-- Every write keeps the canonical form. -/
theorem Tab.wf_set (t : Tab α) (k : Nat) (v : α) (h : Tab.wf t = true) : Tab.wf (Tab.set t k v) = true := by
  simp only [Tab.wf, Bool.and_eq_true, List.all_eq_true, decide_eq_true_eq] at h ⊢
  refine ⟨?_, Tab.mem_set t k v (fun _ w => w ≠ default) h.2 (fun hv => hv)⟩
  unfold Tab.set
  cases t with
  | nil => split <;> rfl
  | cons p r =>
    obtain ⟨i, w⟩ := p
    have hr : Tab.rising (some i) r = true := h.1
    split
    · by_cases hk : i = k
      · simp only [List.filter, ne_eq, hk, not_true_eq_false, decide_false]
        exact Tab.rising_none_of _ _ (Tab.rising_drop r i k hr)
      · simp only [List.filter, ne_eq, hk, not_false_eq_true, decide_true]
        exact Tab.rising_drop r i k hr
    · simp only [Tab.put]
      split
      · rename_i h1; simp [Tab.rising, h1, hr]
      · split
        · rename_i h2; subst h2; exact hr
        · exact Tab.rising_put r i k v hr (by omega)

/-- A change of one entry keeps the canonical form. -/
theorem Tab.wf_mod (t : Tab α) (k : Nat) (f : α → α) (h : Tab.wf t = true) : Tab.wf (Tab.mod t k f) = true :=
  Tab.wf_set t k _ h

omit [DecidableEq α] in
/-- A property of every listed entry, and of the default, holds of every read. -/
theorem Tab.get_prop (t : Tab α) (P : Nat → α → Prop) (hd : ∀ j, P j default) (ht : ∀ p ∈ t, P p.1 p.2) (k : Nat) :
    P k (Tab.get t k) := by
  induction t with
  | nil => exact hd k
  | cons q r ih =>
    obtain ⟨i, w⟩ := q
    rw [Tab.get_cons]
    split
    · rename_i h; subst h; exact ht (k, w) (List.mem_cons_self ..)
    · exact ih (fun p hp => ht p (List.mem_cons_of_mem _ hp))

end Sys2Proof
end

