-- ==== Sys2Proof/Laws/State.lean ====
section
/-! SUPPORT. What the changes of one object leave: every other part, every object of another kind and every other object of
its own kind read as before, and the object itself reads as changed. -/

namespace Sys2Proof.Machine

variable (s : State)

/-! ### modChan -/

@[simp] theorem State.modChan_red (k : Nat) (g : Channel → Channel) : (s.modChan k g).red = s.red := rfl
@[simp] theorem State.modChan_str (k : Nat) (g : Channel → Channel) : (s.modChan k g).str = s.str := rfl
@[simp] theorem State.modChan_mem (k : Nat) (g : Channel → Channel) : (s.modChan k g).mem = s.mem := rfl
@[simp] theorem State.modChan_sky (k : Nat) (g : Channel → Channel) : (s.modChan k g).sky = s.sky := rfl
@[simp] theorem State.modChan_clover (k : Nat) (g : Channel → Channel) : (s.modChan k g).clover = s.clover := rfl
@[simp] theorem State.modChan_time (k : Nat) (g : Channel → Channel) : (s.modChan k g).time = s.time := rfl
@[simp] theorem State.modChan_host (k : Nat) (g : Channel → Channel) : (s.modChan k g).host = s.host := rfl
@[simp] theorem State.modChan_mgmt (k : Nat) (g : Channel → Channel) : (s.modChan k g).mgmt = s.mgmt := rfl
@[simp] theorem State.modChan_ctrs (k : Nat) (g : Channel → Channel) : (s.modChan k g).ctrs = s.ctrs := rfl
@[simp] theorem State.modChan_now (k : Nat) (g : Channel → Channel) : (s.modChan k g).now = s.now := rfl
@[simp] theorem State.modChan_pending (k : Nat) (g : Channel → Channel) : (s.modChan k g).pending = s.pending := rfl
@[simp] theorem State.modChan_free (k : Nat) (g : Channel → Channel) : (s.modChan k g).free = s.free := rfl
@[simp] theorem State.chan_modChan (k : Nat) (g : Channel → Channel) : (s.modChan k g).chan k = g (s.chan k) := Tab.get_mod_self s.front.chans k g
theorem State.chan_modChan_ne (k j : Nat) (g : Channel → Channel) (h : j ≠ k) : (s.modChan k g).chan j = s.chan j := Tab.get_mod_ne s.front.chans k g j h
@[simp] theorem State.group_modChan (k j : Nat) (g : Channel → Channel) : (s.modChan k g).group j = s.group j := rfl
@[simp] theorem State.tile_modChan (k j : Nat) (g : Channel → Channel) : (s.modChan k g).tile j = s.tile j := rfl
@[simp] theorem State.link_modChan (k j : Nat) (g : Channel → Channel) : (s.modChan k g).link j = s.link j := rfl
@[simp] theorem State.modu_modChan (k j : Nat) (g : Channel → Channel) : (s.modChan k g).modu j = s.modu j := rfl
@[simp] theorem State.spare_modChan (k j : Nat) (g : Channel → Channel) : (s.modChan k g).spare j = s.spare j := rfl
@[simp] theorem State.chain_modChan (k j : Nat) (g : Channel → Channel) : (s.modChan k g).chain j = s.chain j := rfl
@[simp] theorem State.pipe_modChan (k j : Nat) (g : Channel → Channel) : (s.modChan k g).pipe j = s.pipe j := rfl

/-! ### modGroup -/

@[simp] theorem State.modGroup_red (k : Nat) (g : Group → Group) : (s.modGroup k g).red = s.red := rfl
@[simp] theorem State.modGroup_str (k : Nat) (g : Group → Group) : (s.modGroup k g).str = s.str := rfl
@[simp] theorem State.modGroup_mem (k : Nat) (g : Group → Group) : (s.modGroup k g).mem = s.mem := rfl
@[simp] theorem State.modGroup_sky (k : Nat) (g : Group → Group) : (s.modGroup k g).sky = s.sky := rfl
@[simp] theorem State.modGroup_clover (k : Nat) (g : Group → Group) : (s.modGroup k g).clover = s.clover := rfl
@[simp] theorem State.modGroup_time (k : Nat) (g : Group → Group) : (s.modGroup k g).time = s.time := rfl
@[simp] theorem State.modGroup_host (k : Nat) (g : Group → Group) : (s.modGroup k g).host = s.host := rfl
@[simp] theorem State.modGroup_mgmt (k : Nat) (g : Group → Group) : (s.modGroup k g).mgmt = s.mgmt := rfl
@[simp] theorem State.modGroup_ctrs (k : Nat) (g : Group → Group) : (s.modGroup k g).ctrs = s.ctrs := rfl
@[simp] theorem State.modGroup_now (k : Nat) (g : Group → Group) : (s.modGroup k g).now = s.now := rfl
@[simp] theorem State.modGroup_pending (k : Nat) (g : Group → Group) : (s.modGroup k g).pending = s.pending := rfl
@[simp] theorem State.modGroup_free (k : Nat) (g : Group → Group) : (s.modGroup k g).free = s.free := rfl
@[simp] theorem State.group_modGroup (k : Nat) (g : Group → Group) : (s.modGroup k g).group k = g (s.group k) := Tab.get_mod_self s.front.groups k g
theorem State.group_modGroup_ne (k j : Nat) (g : Group → Group) (h : j ≠ k) : (s.modGroup k g).group j = s.group j := Tab.get_mod_ne s.front.groups k g j h
@[simp] theorem State.chan_modGroup (k j : Nat) (g : Group → Group) : (s.modGroup k g).chan j = s.chan j := rfl
@[simp] theorem State.tile_modGroup (k j : Nat) (g : Group → Group) : (s.modGroup k g).tile j = s.tile j := rfl
@[simp] theorem State.link_modGroup (k j : Nat) (g : Group → Group) : (s.modGroup k g).link j = s.link j := rfl
@[simp] theorem State.modu_modGroup (k j : Nat) (g : Group → Group) : (s.modGroup k g).modu j = s.modu j := rfl
@[simp] theorem State.spare_modGroup (k j : Nat) (g : Group → Group) : (s.modGroup k g).spare j = s.spare j := rfl
@[simp] theorem State.chain_modGroup (k j : Nat) (g : Group → Group) : (s.modGroup k g).chain j = s.chain j := rfl
@[simp] theorem State.pipe_modGroup (k j : Nat) (g : Group → Group) : (s.modGroup k g).pipe j = s.pipe j := rfl

/-! ### modTile -/

@[simp] theorem State.modTile_red (k : Nat) (g : Tile → Tile) : (s.modTile k g).red = s.red := rfl
@[simp] theorem State.modTile_str (k : Nat) (g : Tile → Tile) : (s.modTile k g).str = s.str := rfl
@[simp] theorem State.modTile_mem (k : Nat) (g : Tile → Tile) : (s.modTile k g).mem = s.mem := rfl
@[simp] theorem State.modTile_sky (k : Nat) (g : Tile → Tile) : (s.modTile k g).sky = s.sky := rfl
@[simp] theorem State.modTile_clover (k : Nat) (g : Tile → Tile) : (s.modTile k g).clover = s.clover := rfl
@[simp] theorem State.modTile_time (k : Nat) (g : Tile → Tile) : (s.modTile k g).time = s.time := rfl
@[simp] theorem State.modTile_host (k : Nat) (g : Tile → Tile) : (s.modTile k g).host = s.host := rfl
@[simp] theorem State.modTile_mgmt (k : Nat) (g : Tile → Tile) : (s.modTile k g).mgmt = s.mgmt := rfl
@[simp] theorem State.modTile_ctrs (k : Nat) (g : Tile → Tile) : (s.modTile k g).ctrs = s.ctrs := rfl
@[simp] theorem State.modTile_now (k : Nat) (g : Tile → Tile) : (s.modTile k g).now = s.now := rfl
@[simp] theorem State.modTile_pending (k : Nat) (g : Tile → Tile) : (s.modTile k g).pending = s.pending := rfl
@[simp] theorem State.modTile_free (k : Nat) (g : Tile → Tile) : (s.modTile k g).free = s.free := rfl
@[simp] theorem State.tile_modTile (k : Nat) (g : Tile → Tile) : (s.modTile k g).tile k = g (s.tile k) := Tab.get_mod_self s.front.tiles k g
theorem State.tile_modTile_ne (k j : Nat) (g : Tile → Tile) (h : j ≠ k) : (s.modTile k g).tile j = s.tile j := Tab.get_mod_ne s.front.tiles k g j h
@[simp] theorem State.chan_modTile (k j : Nat) (g : Tile → Tile) : (s.modTile k g).chan j = s.chan j := rfl
@[simp] theorem State.group_modTile (k j : Nat) (g : Tile → Tile) : (s.modTile k g).group j = s.group j := rfl
@[simp] theorem State.link_modTile (k j : Nat) (g : Tile → Tile) : (s.modTile k g).link j = s.link j := rfl
@[simp] theorem State.modu_modTile (k j : Nat) (g : Tile → Tile) : (s.modTile k g).modu j = s.modu j := rfl
@[simp] theorem State.spare_modTile (k j : Nat) (g : Tile → Tile) : (s.modTile k g).spare j = s.spare j := rfl
@[simp] theorem State.chain_modTile (k j : Nat) (g : Tile → Tile) : (s.modTile k g).chain j = s.chain j := rfl
@[simp] theorem State.pipe_modTile (k j : Nat) (g : Tile → Tile) : (s.modTile k g).pipe j = s.pipe j := rfl

/-! ### modLink -/

@[simp] theorem State.modLink_red (k : Nat) (g : LinkGroup → LinkGroup) : (s.modLink k g).red = s.red := rfl
@[simp] theorem State.modLink_str (k : Nat) (g : LinkGroup → LinkGroup) : (s.modLink k g).str = s.str := rfl
@[simp] theorem State.modLink_mem (k : Nat) (g : LinkGroup → LinkGroup) : (s.modLink k g).mem = s.mem := rfl
@[simp] theorem State.modLink_sky (k : Nat) (g : LinkGroup → LinkGroup) : (s.modLink k g).sky = s.sky := rfl
@[simp] theorem State.modLink_clover (k : Nat) (g : LinkGroup → LinkGroup) : (s.modLink k g).clover = s.clover := rfl
@[simp] theorem State.modLink_time (k : Nat) (g : LinkGroup → LinkGroup) : (s.modLink k g).time = s.time := rfl
@[simp] theorem State.modLink_host (k : Nat) (g : LinkGroup → LinkGroup) : (s.modLink k g).host = s.host := rfl
@[simp] theorem State.modLink_mgmt (k : Nat) (g : LinkGroup → LinkGroup) : (s.modLink k g).mgmt = s.mgmt := rfl
@[simp] theorem State.modLink_ctrs (k : Nat) (g : LinkGroup → LinkGroup) : (s.modLink k g).ctrs = s.ctrs := rfl
@[simp] theorem State.modLink_now (k : Nat) (g : LinkGroup → LinkGroup) : (s.modLink k g).now = s.now := rfl
@[simp] theorem State.modLink_pending (k : Nat) (g : LinkGroup → LinkGroup) : (s.modLink k g).pending = s.pending := rfl
@[simp] theorem State.modLink_free (k : Nat) (g : LinkGroup → LinkGroup) : (s.modLink k g).free = s.free := rfl
@[simp] theorem State.link_modLink (k : Nat) (g : LinkGroup → LinkGroup) : (s.modLink k g).link k = g (s.link k) := Tab.get_mod_self s.front.links k g
theorem State.link_modLink_ne (k j : Nat) (g : LinkGroup → LinkGroup) (h : j ≠ k) : (s.modLink k g).link j = s.link j := Tab.get_mod_ne s.front.links k g j h
@[simp] theorem State.chan_modLink (k j : Nat) (g : LinkGroup → LinkGroup) : (s.modLink k g).chan j = s.chan j := rfl
@[simp] theorem State.group_modLink (k j : Nat) (g : LinkGroup → LinkGroup) : (s.modLink k g).group j = s.group j := rfl
@[simp] theorem State.tile_modLink (k j : Nat) (g : LinkGroup → LinkGroup) : (s.modLink k g).tile j = s.tile j := rfl
@[simp] theorem State.modu_modLink (k j : Nat) (g : LinkGroup → LinkGroup) : (s.modLink k g).modu j = s.modu j := rfl
@[simp] theorem State.spare_modLink (k j : Nat) (g : LinkGroup → LinkGroup) : (s.modLink k g).spare j = s.spare j := rfl
@[simp] theorem State.chain_modLink (k j : Nat) (g : LinkGroup → LinkGroup) : (s.modLink k g).chain j = s.chain j := rfl
@[simp] theorem State.pipe_modLink (k j : Nat) (g : LinkGroup → LinkGroup) : (s.modLink k g).pipe j = s.pipe j := rfl

/-! ### modModu -/

@[simp] theorem State.modModu_red (k : Nat) (g : Modulator → Modulator) : (s.modModu k g).red = s.red := rfl
@[simp] theorem State.modModu_str (k : Nat) (g : Modulator → Modulator) : (s.modModu k g).str = s.str := rfl
@[simp] theorem State.modModu_mem (k : Nat) (g : Modulator → Modulator) : (s.modModu k g).mem = s.mem := rfl
@[simp] theorem State.modModu_sky (k : Nat) (g : Modulator → Modulator) : (s.modModu k g).sky = s.sky := rfl
@[simp] theorem State.modModu_clover (k : Nat) (g : Modulator → Modulator) : (s.modModu k g).clover = s.clover := rfl
@[simp] theorem State.modModu_time (k : Nat) (g : Modulator → Modulator) : (s.modModu k g).time = s.time := rfl
@[simp] theorem State.modModu_host (k : Nat) (g : Modulator → Modulator) : (s.modModu k g).host = s.host := rfl
@[simp] theorem State.modModu_mgmt (k : Nat) (g : Modulator → Modulator) : (s.modModu k g).mgmt = s.mgmt := rfl
@[simp] theorem State.modModu_ctrs (k : Nat) (g : Modulator → Modulator) : (s.modModu k g).ctrs = s.ctrs := rfl
@[simp] theorem State.modModu_now (k : Nat) (g : Modulator → Modulator) : (s.modModu k g).now = s.now := rfl
@[simp] theorem State.modModu_pending (k : Nat) (g : Modulator → Modulator) : (s.modModu k g).pending = s.pending := rfl
@[simp] theorem State.modModu_free (k : Nat) (g : Modulator → Modulator) : (s.modModu k g).free = s.free := rfl
@[simp] theorem State.modu_modModu (k : Nat) (g : Modulator → Modulator) : (s.modModu k g).modu k = g (s.modu k) := Tab.get_mod_self s.front.mods k g
theorem State.modu_modModu_ne (k j : Nat) (g : Modulator → Modulator) (h : j ≠ k) : (s.modModu k g).modu j = s.modu j := Tab.get_mod_ne s.front.mods k g j h
@[simp] theorem State.chan_modModu (k j : Nat) (g : Modulator → Modulator) : (s.modModu k g).chan j = s.chan j := rfl
@[simp] theorem State.group_modModu (k j : Nat) (g : Modulator → Modulator) : (s.modModu k g).group j = s.group j := rfl
@[simp] theorem State.tile_modModu (k j : Nat) (g : Modulator → Modulator) : (s.modModu k g).tile j = s.tile j := rfl
@[simp] theorem State.link_modModu (k j : Nat) (g : Modulator → Modulator) : (s.modModu k g).link j = s.link j := rfl
@[simp] theorem State.spare_modModu (k j : Nat) (g : Modulator → Modulator) : (s.modModu k g).spare j = s.spare j := rfl
@[simp] theorem State.chain_modModu (k j : Nat) (g : Modulator → Modulator) : (s.modModu k g).chain j = s.chain j := rfl
@[simp] theorem State.pipe_modModu (k j : Nat) (g : Modulator → Modulator) : (s.modModu k g).pipe j = s.pipe j := rfl

/-! ### modSpare -/

@[simp] theorem State.modSpare_red (k : Nat) (g : Spare → Spare) : (s.modSpare k g).red = s.red := rfl
@[simp] theorem State.modSpare_str (k : Nat) (g : Spare → Spare) : (s.modSpare k g).str = s.str := rfl
@[simp] theorem State.modSpare_mem (k : Nat) (g : Spare → Spare) : (s.modSpare k g).mem = s.mem := rfl
@[simp] theorem State.modSpare_sky (k : Nat) (g : Spare → Spare) : (s.modSpare k g).sky = s.sky := rfl
@[simp] theorem State.modSpare_clover (k : Nat) (g : Spare → Spare) : (s.modSpare k g).clover = s.clover := rfl
@[simp] theorem State.modSpare_time (k : Nat) (g : Spare → Spare) : (s.modSpare k g).time = s.time := rfl
@[simp] theorem State.modSpare_host (k : Nat) (g : Spare → Spare) : (s.modSpare k g).host = s.host := rfl
@[simp] theorem State.modSpare_mgmt (k : Nat) (g : Spare → Spare) : (s.modSpare k g).mgmt = s.mgmt := rfl
@[simp] theorem State.modSpare_ctrs (k : Nat) (g : Spare → Spare) : (s.modSpare k g).ctrs = s.ctrs := rfl
@[simp] theorem State.modSpare_now (k : Nat) (g : Spare → Spare) : (s.modSpare k g).now = s.now := rfl
@[simp] theorem State.modSpare_pending (k : Nat) (g : Spare → Spare) : (s.modSpare k g).pending = s.pending := rfl
@[simp] theorem State.modSpare_free (k : Nat) (g : Spare → Spare) : (s.modSpare k g).free = s.free := rfl
@[simp] theorem State.spare_modSpare (k : Nat) (g : Spare → Spare) : (s.modSpare k g).spare k = g (s.spare k) := Tab.get_mod_self s.front.spares k g
theorem State.spare_modSpare_ne (k j : Nat) (g : Spare → Spare) (h : j ≠ k) : (s.modSpare k g).spare j = s.spare j := Tab.get_mod_ne s.front.spares k g j h
@[simp] theorem State.chan_modSpare (k j : Nat) (g : Spare → Spare) : (s.modSpare k g).chan j = s.chan j := rfl
@[simp] theorem State.group_modSpare (k j : Nat) (g : Spare → Spare) : (s.modSpare k g).group j = s.group j := rfl
@[simp] theorem State.tile_modSpare (k j : Nat) (g : Spare → Spare) : (s.modSpare k g).tile j = s.tile j := rfl
@[simp] theorem State.link_modSpare (k j : Nat) (g : Spare → Spare) : (s.modSpare k g).link j = s.link j := rfl
@[simp] theorem State.modu_modSpare (k j : Nat) (g : Spare → Spare) : (s.modSpare k g).modu j = s.modu j := rfl
@[simp] theorem State.chain_modSpare (k j : Nat) (g : Spare → Spare) : (s.modSpare k g).chain j = s.chain j := rfl
@[simp] theorem State.pipe_modSpare (k j : Nat) (g : Spare → Spare) : (s.modSpare k g).pipe j = s.pipe j := rfl

/-! ### modChain -/

@[simp] theorem State.modChain_red (k : Nat) (g : ChainCfg → ChainCfg) : (s.modChain k g).red = s.red := rfl
@[simp] theorem State.modChain_str (k : Nat) (g : ChainCfg → ChainCfg) : (s.modChain k g).str = s.str := rfl
@[simp] theorem State.modChain_mem (k : Nat) (g : ChainCfg → ChainCfg) : (s.modChain k g).mem = s.mem := rfl
@[simp] theorem State.modChain_sky (k : Nat) (g : ChainCfg → ChainCfg) : (s.modChain k g).sky = s.sky := rfl
@[simp] theorem State.modChain_clover (k : Nat) (g : ChainCfg → ChainCfg) : (s.modChain k g).clover = s.clover := rfl
@[simp] theorem State.modChain_time (k : Nat) (g : ChainCfg → ChainCfg) : (s.modChain k g).time = s.time := rfl
@[simp] theorem State.modChain_host (k : Nat) (g : ChainCfg → ChainCfg) : (s.modChain k g).host = s.host := rfl
@[simp] theorem State.modChain_mgmt (k : Nat) (g : ChainCfg → ChainCfg) : (s.modChain k g).mgmt = s.mgmt := rfl
@[simp] theorem State.modChain_ctrs (k : Nat) (g : ChainCfg → ChainCfg) : (s.modChain k g).ctrs = s.ctrs := rfl
@[simp] theorem State.modChain_now (k : Nat) (g : ChainCfg → ChainCfg) : (s.modChain k g).now = s.now := rfl
@[simp] theorem State.modChain_pending (k : Nat) (g : ChainCfg → ChainCfg) : (s.modChain k g).pending = s.pending := rfl
@[simp] theorem State.modChain_free (k : Nat) (g : ChainCfg → ChainCfg) : (s.modChain k g).free = s.free := rfl
@[simp] theorem State.chain_modChain (k : Nat) (g : ChainCfg → ChainCfg) : (s.modChain k g).chain k = g (s.chain k) := Tab.get_mod_self s.front.chains k g
theorem State.chain_modChain_ne (k j : Nat) (g : ChainCfg → ChainCfg) (h : j ≠ k) : (s.modChain k g).chain j = s.chain j := Tab.get_mod_ne s.front.chains k g j h
@[simp] theorem State.chan_modChain (k j : Nat) (g : ChainCfg → ChainCfg) : (s.modChain k g).chan j = s.chan j := rfl
@[simp] theorem State.group_modChain (k j : Nat) (g : ChainCfg → ChainCfg) : (s.modChain k g).group j = s.group j := rfl
@[simp] theorem State.tile_modChain (k j : Nat) (g : ChainCfg → ChainCfg) : (s.modChain k g).tile j = s.tile j := rfl
@[simp] theorem State.link_modChain (k j : Nat) (g : ChainCfg → ChainCfg) : (s.modChain k g).link j = s.link j := rfl
@[simp] theorem State.modu_modChain (k j : Nat) (g : ChainCfg → ChainCfg) : (s.modChain k g).modu j = s.modu j := rfl
@[simp] theorem State.spare_modChain (k j : Nat) (g : ChainCfg → ChainCfg) : (s.modChain k g).spare j = s.spare j := rfl
@[simp] theorem State.pipe_modChain (k j : Nat) (g : ChainCfg → ChainCfg) : (s.modChain k g).pipe j = s.pipe j := rfl

/-! ### modPipe -/

@[simp] theorem State.modPipe_red (k : Nat) (g : Pipe → Pipe) : (s.modPipe k g).red = s.red := rfl
@[simp] theorem State.modPipe_str (k : Nat) (g : Pipe → Pipe) : (s.modPipe k g).str = s.str := rfl
@[simp] theorem State.modPipe_mem (k : Nat) (g : Pipe → Pipe) : (s.modPipe k g).mem = s.mem := rfl
@[simp] theorem State.modPipe_sky (k : Nat) (g : Pipe → Pipe) : (s.modPipe k g).sky = s.sky := rfl
@[simp] theorem State.modPipe_clover (k : Nat) (g : Pipe → Pipe) : (s.modPipe k g).clover = s.clover := rfl
@[simp] theorem State.modPipe_time (k : Nat) (g : Pipe → Pipe) : (s.modPipe k g).time = s.time := rfl
@[simp] theorem State.modPipe_host (k : Nat) (g : Pipe → Pipe) : (s.modPipe k g).host = s.host := rfl
@[simp] theorem State.modPipe_mgmt (k : Nat) (g : Pipe → Pipe) : (s.modPipe k g).mgmt = s.mgmt := rfl
@[simp] theorem State.modPipe_ctrs (k : Nat) (g : Pipe → Pipe) : (s.modPipe k g).ctrs = s.ctrs := rfl
@[simp] theorem State.modPipe_now (k : Nat) (g : Pipe → Pipe) : (s.modPipe k g).now = s.now := rfl
@[simp] theorem State.modPipe_pending (k : Nat) (g : Pipe → Pipe) : (s.modPipe k g).pending = s.pending := rfl
@[simp] theorem State.modPipe_free (k : Nat) (g : Pipe → Pipe) : (s.modPipe k g).free = s.free := rfl
@[simp] theorem State.pipe_modPipe (k : Nat) (g : Pipe → Pipe) : (s.modPipe k g).pipe k = g (s.pipe k) := Tab.get_mod_self s.front.pipes k g
theorem State.pipe_modPipe_ne (k j : Nat) (g : Pipe → Pipe) (h : j ≠ k) : (s.modPipe k g).pipe j = s.pipe j := Tab.get_mod_ne s.front.pipes k g j h
@[simp] theorem State.chan_modPipe (k j : Nat) (g : Pipe → Pipe) : (s.modPipe k g).chan j = s.chan j := rfl
@[simp] theorem State.group_modPipe (k j : Nat) (g : Pipe → Pipe) : (s.modPipe k g).group j = s.group j := rfl
@[simp] theorem State.tile_modPipe (k j : Nat) (g : Pipe → Pipe) : (s.modPipe k g).tile j = s.tile j := rfl
@[simp] theorem State.link_modPipe (k j : Nat) (g : Pipe → Pipe) : (s.modPipe k g).link j = s.link j := rfl
@[simp] theorem State.modu_modPipe (k j : Nat) (g : Pipe → Pipe) : (s.modPipe k g).modu j = s.modu j := rfl
@[simp] theorem State.spare_modPipe (k j : Nat) (g : Pipe → Pipe) : (s.modPipe k g).spare j = s.spare j := rfl
@[simp] theorem State.chain_modPipe (k j : Nat) (g : Pipe → Pipe) : (s.modPipe k g).chain j = s.chain j := rfl

/-! ### modTach -/

@[simp] theorem State.modTach_front (k : Nat) (g : Tach → Tach) : (s.modTach k g).front = s.front := rfl
@[simp] theorem State.modTach_str (k : Nat) (g : Tach → Tach) : (s.modTach k g).str = s.str := rfl
@[simp] theorem State.modTach_mem (k : Nat) (g : Tach → Tach) : (s.modTach k g).mem = s.mem := rfl
@[simp] theorem State.modTach_sky (k : Nat) (g : Tach → Tach) : (s.modTach k g).sky = s.sky := rfl
@[simp] theorem State.modTach_clover (k : Nat) (g : Tach → Tach) : (s.modTach k g).clover = s.clover := rfl
@[simp] theorem State.modTach_time (k : Nat) (g : Tach → Tach) : (s.modTach k g).time = s.time := rfl
@[simp] theorem State.modTach_host (k : Nat) (g : Tach → Tach) : (s.modTach k g).host = s.host := rfl
@[simp] theorem State.modTach_mgmt (k : Nat) (g : Tach → Tach) : (s.modTach k g).mgmt = s.mgmt := rfl
@[simp] theorem State.modTach_ctrs (k : Nat) (g : Tach → Tach) : (s.modTach k g).ctrs = s.ctrs := rfl
@[simp] theorem State.modTach_now (k : Nat) (g : Tach → Tach) : (s.modTach k g).now = s.now := rfl
@[simp] theorem State.modTach_pending (k : Nat) (g : Tach → Tach) : (s.modTach k g).pending = s.pending := rfl
@[simp] theorem State.modTach_free (k : Nat) (g : Tach → Tach) : (s.modTach k g).free = s.free := rfl
@[simp] theorem State.tach_modTach (k : Nat) (g : Tach → Tach) : (s.modTach k g).tach k = g (s.tach k) := Tab.get_mod_self s.red.tachs k g
theorem State.tach_modTach_ne (k j : Nat) (g : Tach → Tach) (h : j ≠ k) : (s.modTach k g).tach j = s.tach j := Tab.get_mod_ne s.red.tachs k g j h
@[simp] theorem State.shaft_modTach (k j : Nat) (g : Tach → Tach) : (s.modTach k g).shaft j = s.shaft j := rfl
@[simp] theorem State.stat_modTach (k j : Nat) (g : Tach → Tach) : (s.modTach k g).stat j = s.stat j := rfl
@[simp] theorem State.unit_modTach (k j : Nat) (g : Tach → Tach) : (s.modTach k g).unit j = s.unit j := rfl
@[simp] theorem State.pin_modTach (k j : Nat) (g : Tach → Tach) : (s.modTach k g).pin j = s.pin j := rfl

/-! ### modShaft -/

@[simp] theorem State.modShaft_front (k : Nat) (g : Shaft → Shaft) : (s.modShaft k g).front = s.front := rfl
@[simp] theorem State.modShaft_str (k : Nat) (g : Shaft → Shaft) : (s.modShaft k g).str = s.str := rfl
@[simp] theorem State.modShaft_mem (k : Nat) (g : Shaft → Shaft) : (s.modShaft k g).mem = s.mem := rfl
@[simp] theorem State.modShaft_sky (k : Nat) (g : Shaft → Shaft) : (s.modShaft k g).sky = s.sky := rfl
@[simp] theorem State.modShaft_clover (k : Nat) (g : Shaft → Shaft) : (s.modShaft k g).clover = s.clover := rfl
@[simp] theorem State.modShaft_time (k : Nat) (g : Shaft → Shaft) : (s.modShaft k g).time = s.time := rfl
@[simp] theorem State.modShaft_host (k : Nat) (g : Shaft → Shaft) : (s.modShaft k g).host = s.host := rfl
@[simp] theorem State.modShaft_mgmt (k : Nat) (g : Shaft → Shaft) : (s.modShaft k g).mgmt = s.mgmt := rfl
@[simp] theorem State.modShaft_ctrs (k : Nat) (g : Shaft → Shaft) : (s.modShaft k g).ctrs = s.ctrs := rfl
@[simp] theorem State.modShaft_now (k : Nat) (g : Shaft → Shaft) : (s.modShaft k g).now = s.now := rfl
@[simp] theorem State.modShaft_pending (k : Nat) (g : Shaft → Shaft) : (s.modShaft k g).pending = s.pending := rfl
@[simp] theorem State.modShaft_free (k : Nat) (g : Shaft → Shaft) : (s.modShaft k g).free = s.free := rfl
@[simp] theorem State.shaft_modShaft (k : Nat) (g : Shaft → Shaft) : (s.modShaft k g).shaft k = g (s.shaft k) := Tab.get_mod_self s.red.shafts k g
theorem State.shaft_modShaft_ne (k j : Nat) (g : Shaft → Shaft) (h : j ≠ k) : (s.modShaft k g).shaft j = s.shaft j := Tab.get_mod_ne s.red.shafts k g j h
@[simp] theorem State.tach_modShaft (k j : Nat) (g : Shaft → Shaft) : (s.modShaft k g).tach j = s.tach j := rfl
@[simp] theorem State.stat_modShaft (k j : Nat) (g : Shaft → Shaft) : (s.modShaft k g).stat j = s.stat j := rfl
@[simp] theorem State.unit_modShaft (k j : Nat) (g : Shaft → Shaft) : (s.modShaft k g).unit j = s.unit j := rfl
@[simp] theorem State.pin_modShaft (k j : Nat) (g : Shaft → Shaft) : (s.modShaft k g).pin j = s.pin j := rfl

/-! ### modStat -/

@[simp] theorem State.modStat_front (k : Nat) (g : StatDef → StatDef) : (s.modStat k g).front = s.front := rfl
@[simp] theorem State.modStat_str (k : Nat) (g : StatDef → StatDef) : (s.modStat k g).str = s.str := rfl
@[simp] theorem State.modStat_mem (k : Nat) (g : StatDef → StatDef) : (s.modStat k g).mem = s.mem := rfl
@[simp] theorem State.modStat_sky (k : Nat) (g : StatDef → StatDef) : (s.modStat k g).sky = s.sky := rfl
@[simp] theorem State.modStat_clover (k : Nat) (g : StatDef → StatDef) : (s.modStat k g).clover = s.clover := rfl
@[simp] theorem State.modStat_time (k : Nat) (g : StatDef → StatDef) : (s.modStat k g).time = s.time := rfl
@[simp] theorem State.modStat_host (k : Nat) (g : StatDef → StatDef) : (s.modStat k g).host = s.host := rfl
@[simp] theorem State.modStat_mgmt (k : Nat) (g : StatDef → StatDef) : (s.modStat k g).mgmt = s.mgmt := rfl
@[simp] theorem State.modStat_ctrs (k : Nat) (g : StatDef → StatDef) : (s.modStat k g).ctrs = s.ctrs := rfl
@[simp] theorem State.modStat_now (k : Nat) (g : StatDef → StatDef) : (s.modStat k g).now = s.now := rfl
@[simp] theorem State.modStat_pending (k : Nat) (g : StatDef → StatDef) : (s.modStat k g).pending = s.pending := rfl
@[simp] theorem State.modStat_free (k : Nat) (g : StatDef → StatDef) : (s.modStat k g).free = s.free := rfl
@[simp] theorem State.stat_modStat (k : Nat) (g : StatDef → StatDef) : (s.modStat k g).stat k = g (s.stat k) := Tab.get_mod_self s.red.stats k g
theorem State.stat_modStat_ne (k j : Nat) (g : StatDef → StatDef) (h : j ≠ k) : (s.modStat k g).stat j = s.stat j := Tab.get_mod_ne s.red.stats k g j h
@[simp] theorem State.tach_modStat (k j : Nat) (g : StatDef → StatDef) : (s.modStat k g).tach j = s.tach j := rfl
@[simp] theorem State.shaft_modStat (k j : Nat) (g : StatDef → StatDef) : (s.modStat k g).shaft j = s.shaft j := rfl
@[simp] theorem State.unit_modStat (k j : Nat) (g : StatDef → StatDef) : (s.modStat k g).unit j = s.unit j := rfl
@[simp] theorem State.pin_modStat (k j : Nat) (g : StatDef → StatDef) : (s.modStat k g).pin j = s.pin j := rfl

/-! ### modUnit -/

@[simp] theorem State.modUnit_front (k : Nat) (g : TrigUnit → TrigUnit) : (s.modUnit k g).front = s.front := rfl
@[simp] theorem State.modUnit_str (k : Nat) (g : TrigUnit → TrigUnit) : (s.modUnit k g).str = s.str := rfl
@[simp] theorem State.modUnit_mem (k : Nat) (g : TrigUnit → TrigUnit) : (s.modUnit k g).mem = s.mem := rfl
@[simp] theorem State.modUnit_sky (k : Nat) (g : TrigUnit → TrigUnit) : (s.modUnit k g).sky = s.sky := rfl
@[simp] theorem State.modUnit_clover (k : Nat) (g : TrigUnit → TrigUnit) : (s.modUnit k g).clover = s.clover := rfl
@[simp] theorem State.modUnit_time (k : Nat) (g : TrigUnit → TrigUnit) : (s.modUnit k g).time = s.time := rfl
@[simp] theorem State.modUnit_host (k : Nat) (g : TrigUnit → TrigUnit) : (s.modUnit k g).host = s.host := rfl
@[simp] theorem State.modUnit_mgmt (k : Nat) (g : TrigUnit → TrigUnit) : (s.modUnit k g).mgmt = s.mgmt := rfl
@[simp] theorem State.modUnit_ctrs (k : Nat) (g : TrigUnit → TrigUnit) : (s.modUnit k g).ctrs = s.ctrs := rfl
@[simp] theorem State.modUnit_now (k : Nat) (g : TrigUnit → TrigUnit) : (s.modUnit k g).now = s.now := rfl
@[simp] theorem State.modUnit_pending (k : Nat) (g : TrigUnit → TrigUnit) : (s.modUnit k g).pending = s.pending := rfl
@[simp] theorem State.modUnit_free (k : Nat) (g : TrigUnit → TrigUnit) : (s.modUnit k g).free = s.free := rfl
@[simp] theorem State.unit_modUnit (k : Nat) (g : TrigUnit → TrigUnit) : (s.modUnit k g).unit k = g (s.unit k) := Tab.get_mod_self s.red.units k g
theorem State.unit_modUnit_ne (k j : Nat) (g : TrigUnit → TrigUnit) (h : j ≠ k) : (s.modUnit k g).unit j = s.unit j := Tab.get_mod_ne s.red.units k g j h
@[simp] theorem State.tach_modUnit (k j : Nat) (g : TrigUnit → TrigUnit) : (s.modUnit k g).tach j = s.tach j := rfl
@[simp] theorem State.shaft_modUnit (k j : Nat) (g : TrigUnit → TrigUnit) : (s.modUnit k g).shaft j = s.shaft j := rfl
@[simp] theorem State.stat_modUnit (k j : Nat) (g : TrigUnit → TrigUnit) : (s.modUnit k g).stat j = s.stat j := rfl
@[simp] theorem State.pin_modUnit (k j : Nat) (g : TrigUnit → TrigUnit) : (s.modUnit k g).pin j = s.pin j := rfl

/-! ### modPin -/

@[simp] theorem State.modPin_front (k : Nat) (g : FieldPin → FieldPin) : (s.modPin k g).front = s.front := rfl
@[simp] theorem State.modPin_str (k : Nat) (g : FieldPin → FieldPin) : (s.modPin k g).str = s.str := rfl
@[simp] theorem State.modPin_mem (k : Nat) (g : FieldPin → FieldPin) : (s.modPin k g).mem = s.mem := rfl
@[simp] theorem State.modPin_sky (k : Nat) (g : FieldPin → FieldPin) : (s.modPin k g).sky = s.sky := rfl
@[simp] theorem State.modPin_clover (k : Nat) (g : FieldPin → FieldPin) : (s.modPin k g).clover = s.clover := rfl
@[simp] theorem State.modPin_time (k : Nat) (g : FieldPin → FieldPin) : (s.modPin k g).time = s.time := rfl
@[simp] theorem State.modPin_host (k : Nat) (g : FieldPin → FieldPin) : (s.modPin k g).host = s.host := rfl
@[simp] theorem State.modPin_mgmt (k : Nat) (g : FieldPin → FieldPin) : (s.modPin k g).mgmt = s.mgmt := rfl
@[simp] theorem State.modPin_ctrs (k : Nat) (g : FieldPin → FieldPin) : (s.modPin k g).ctrs = s.ctrs := rfl
@[simp] theorem State.modPin_now (k : Nat) (g : FieldPin → FieldPin) : (s.modPin k g).now = s.now := rfl
@[simp] theorem State.modPin_pending (k : Nat) (g : FieldPin → FieldPin) : (s.modPin k g).pending = s.pending := rfl
@[simp] theorem State.modPin_free (k : Nat) (g : FieldPin → FieldPin) : (s.modPin k g).free = s.free := rfl
@[simp] theorem State.pin_modPin (k : Nat) (g : FieldPin → FieldPin) : (s.modPin k g).pin k = g (s.pin k) := Tab.get_mod_self s.red.pins k g
theorem State.pin_modPin_ne (k j : Nat) (g : FieldPin → FieldPin) (h : j ≠ k) : (s.modPin k g).pin j = s.pin j := Tab.get_mod_ne s.red.pins k g j h
@[simp] theorem State.tach_modPin (k j : Nat) (g : FieldPin → FieldPin) : (s.modPin k g).tach j = s.tach j := rfl
@[simp] theorem State.shaft_modPin (k j : Nat) (g : FieldPin → FieldPin) : (s.modPin k g).shaft j = s.shaft j := rfl
@[simp] theorem State.stat_modPin (k j : Nat) (g : FieldPin → FieldPin) : (s.modPin k g).stat j = s.stat j := rfl
@[simp] theorem State.unit_modPin (k j : Nat) (g : FieldPin → FieldPin) : (s.modPin k g).unit j = s.unit j := rfl

/-! ### modStream -/

@[simp] theorem State.modStream_front (k : Nat) (g : Stream → Stream) : (s.modStream k g).front = s.front := rfl
@[simp] theorem State.modStream_red (k : Nat) (g : Stream → Stream) : (s.modStream k g).red = s.red := rfl
@[simp] theorem State.modStream_mem (k : Nat) (g : Stream → Stream) : (s.modStream k g).mem = s.mem := rfl
@[simp] theorem State.modStream_sky (k : Nat) (g : Stream → Stream) : (s.modStream k g).sky = s.sky := rfl
@[simp] theorem State.modStream_clover (k : Nat) (g : Stream → Stream) : (s.modStream k g).clover = s.clover := rfl
@[simp] theorem State.modStream_time (k : Nat) (g : Stream → Stream) : (s.modStream k g).time = s.time := rfl
@[simp] theorem State.modStream_host (k : Nat) (g : Stream → Stream) : (s.modStream k g).host = s.host := rfl
@[simp] theorem State.modStream_mgmt (k : Nat) (g : Stream → Stream) : (s.modStream k g).mgmt = s.mgmt := rfl
@[simp] theorem State.modStream_ctrs (k : Nat) (g : Stream → Stream) : (s.modStream k g).ctrs = s.ctrs := rfl
@[simp] theorem State.modStream_now (k : Nat) (g : Stream → Stream) : (s.modStream k g).now = s.now := rfl
@[simp] theorem State.modStream_pending (k : Nat) (g : Stream → Stream) : (s.modStream k g).pending = s.pending := rfl
@[simp] theorem State.modStream_free (k : Nat) (g : Stream → Stream) : (s.modStream k g).free = s.free := rfl
@[simp] theorem State.stream_modStream (k : Nat) (g : Stream → Stream) : (s.modStream k g).stream k = g (s.stream k) := Tab.get_mod_self s.str.streams k g
theorem State.stream_modStream_ne (k j : Nat) (g : Stream → Stream) (h : j ≠ k) : (s.modStream k g).stream j = s.stream j := Tab.get_mod_ne s.str.streams k g j h
@[simp] theorem State.sub_modStream (k j : Nat) (g : Stream → Stream) : (s.modStream k g).sub j = s.sub j := rfl

/-! ### modSub -/

@[simp] theorem State.modSub_front (k : Nat) (g : Sub → Sub) : (s.modSub k g).front = s.front := rfl
@[simp] theorem State.modSub_red (k : Nat) (g : Sub → Sub) : (s.modSub k g).red = s.red := rfl
@[simp] theorem State.modSub_mem (k : Nat) (g : Sub → Sub) : (s.modSub k g).mem = s.mem := rfl
@[simp] theorem State.modSub_sky (k : Nat) (g : Sub → Sub) : (s.modSub k g).sky = s.sky := rfl
@[simp] theorem State.modSub_clover (k : Nat) (g : Sub → Sub) : (s.modSub k g).clover = s.clover := rfl
@[simp] theorem State.modSub_time (k : Nat) (g : Sub → Sub) : (s.modSub k g).time = s.time := rfl
@[simp] theorem State.modSub_host (k : Nat) (g : Sub → Sub) : (s.modSub k g).host = s.host := rfl
@[simp] theorem State.modSub_mgmt (k : Nat) (g : Sub → Sub) : (s.modSub k g).mgmt = s.mgmt := rfl
@[simp] theorem State.modSub_ctrs (k : Nat) (g : Sub → Sub) : (s.modSub k g).ctrs = s.ctrs := rfl
@[simp] theorem State.modSub_now (k : Nat) (g : Sub → Sub) : (s.modSub k g).now = s.now := rfl
@[simp] theorem State.modSub_pending (k : Nat) (g : Sub → Sub) : (s.modSub k g).pending = s.pending := rfl
@[simp] theorem State.modSub_free (k : Nat) (g : Sub → Sub) : (s.modSub k g).free = s.free := rfl
@[simp] theorem State.sub_modSub (k : Nat) (g : Sub → Sub) : (s.modSub k g).sub k = (s.sub k).map g := Tab.get_mod_self s.str.subs k _
theorem State.sub_modSub_ne (k j : Nat) (g : Sub → Sub) (h : j ≠ k) : (s.modSub k g).sub j = s.sub j := Tab.get_mod_ne s.str.subs k _ j h
@[simp] theorem State.stream_modSub (k j : Nat) (g : Sub → Sub) : (s.modSub k g).stream j = s.stream j := rfl

/-! ### modPort -/

@[simp] theorem State.modPort_front (k : Nat) (g : Port → Port) : (s.modPort k g).front = s.front := rfl
@[simp] theorem State.modPort_red (k : Nat) (g : Port → Port) : (s.modPort k g).red = s.red := rfl
@[simp] theorem State.modPort_str (k : Nat) (g : Port → Port) : (s.modPort k g).str = s.str := rfl
@[simp] theorem State.modPort_mem (k : Nat) (g : Port → Port) : (s.modPort k g).mem = s.mem := rfl
@[simp] theorem State.modPort_clover (k : Nat) (g : Port → Port) : (s.modPort k g).clover = s.clover := rfl
@[simp] theorem State.modPort_time (k : Nat) (g : Port → Port) : (s.modPort k g).time = s.time := rfl
@[simp] theorem State.modPort_host (k : Nat) (g : Port → Port) : (s.modPort k g).host = s.host := rfl
@[simp] theorem State.modPort_mgmt (k : Nat) (g : Port → Port) : (s.modPort k g).mgmt = s.mgmt := rfl
@[simp] theorem State.modPort_ctrs (k : Nat) (g : Port → Port) : (s.modPort k g).ctrs = s.ctrs := rfl
@[simp] theorem State.modPort_now (k : Nat) (g : Port → Port) : (s.modPort k g).now = s.now := rfl
@[simp] theorem State.modPort_pending (k : Nat) (g : Port → Port) : (s.modPort k g).pending = s.pending := rfl
@[simp] theorem State.modPort_free (k : Nat) (g : Port → Port) : (s.modPort k g).free = s.free := rfl
@[simp] theorem State.port_modPort (k : Nat) (g : Port → Port) : (s.modPort k g).port k = g (s.port k) := Tab.get_mod_self s.sky.ports k g
theorem State.port_modPort_ne (k j : Nat) (g : Port → Port) (h : j ≠ k) : (s.modPort k g).port j = s.port j := Tab.get_mod_ne s.sky.ports k g j h
@[simp] theorem State.lane_modPort (k j : Nat) (g : Port → Port) : (s.modPort k g).lane j = s.lane j := rfl

/-! ### modDram -/

@[simp] theorem State.modDram_front (k : Nat) (g : DramChan → DramChan) : (s.modDram k g).front = s.front := rfl
@[simp] theorem State.modDram_red (k : Nat) (g : DramChan → DramChan) : (s.modDram k g).red = s.red := rfl
@[simp] theorem State.modDram_str (k : Nat) (g : DramChan → DramChan) : (s.modDram k g).str = s.str := rfl
@[simp] theorem State.modDram_sky (k : Nat) (g : DramChan → DramChan) : (s.modDram k g).sky = s.sky := rfl
@[simp] theorem State.modDram_clover (k : Nat) (g : DramChan → DramChan) : (s.modDram k g).clover = s.clover := rfl
@[simp] theorem State.modDram_time (k : Nat) (g : DramChan → DramChan) : (s.modDram k g).time = s.time := rfl
@[simp] theorem State.modDram_host (k : Nat) (g : DramChan → DramChan) : (s.modDram k g).host = s.host := rfl
@[simp] theorem State.modDram_mgmt (k : Nat) (g : DramChan → DramChan) : (s.modDram k g).mgmt = s.mgmt := rfl
@[simp] theorem State.modDram_ctrs (k : Nat) (g : DramChan → DramChan) : (s.modDram k g).ctrs = s.ctrs := rfl
@[simp] theorem State.modDram_now (k : Nat) (g : DramChan → DramChan) : (s.modDram k g).now = s.now := rfl
@[simp] theorem State.modDram_pending (k : Nat) (g : DramChan → DramChan) : (s.modDram k g).pending = s.pending := rfl
@[simp] theorem State.modDram_free (k : Nat) (g : DramChan → DramChan) : (s.modDram k g).free = s.free := rfl
@[simp] theorem State.dram_modDram (k : Nat) (g : DramChan → DramChan) : (s.modDram k g).dram k = g (s.dram k) := Tab.get_mod_self s.mem.chans k g
theorem State.dram_modDram_ne (k j : Nat) (g : DramChan → DramChan) (h : j ≠ k) : (s.modDram k g).dram j = s.dram j := Tab.get_mod_ne s.mem.chans k g j h
@[simp] theorem State.inst_modDram (k j : Nat) (g : DramChan → DramChan) : (s.modDram k g).inst j = s.inst j := rfl

/-! ### modFunc -/

@[simp] theorem State.modFunc_front (k : Nat) (g : Func → Func) : (s.modFunc k g).front = s.front := rfl
@[simp] theorem State.modFunc_red (k : Nat) (g : Func → Func) : (s.modFunc k g).red = s.red := rfl
@[simp] theorem State.modFunc_str (k : Nat) (g : Func → Func) : (s.modFunc k g).str = s.str := rfl
@[simp] theorem State.modFunc_mem (k : Nat) (g : Func → Func) : (s.modFunc k g).mem = s.mem := rfl
@[simp] theorem State.modFunc_sky (k : Nat) (g : Func → Func) : (s.modFunc k g).sky = s.sky := rfl
@[simp] theorem State.modFunc_clover (k : Nat) (g : Func → Func) : (s.modFunc k g).clover = s.clover := rfl
@[simp] theorem State.modFunc_time (k : Nat) (g : Func → Func) : (s.modFunc k g).time = s.time := rfl
@[simp] theorem State.modFunc_mgmt (k : Nat) (g : Func → Func) : (s.modFunc k g).mgmt = s.mgmt := rfl
@[simp] theorem State.modFunc_ctrs (k : Nat) (g : Func → Func) : (s.modFunc k g).ctrs = s.ctrs := rfl
@[simp] theorem State.modFunc_now (k : Nat) (g : Func → Func) : (s.modFunc k g).now = s.now := rfl
@[simp] theorem State.modFunc_pending (k : Nat) (g : Func → Func) : (s.modFunc k g).pending = s.pending := rfl
@[simp] theorem State.modFunc_free (k : Nat) (g : Func → Func) : (s.modFunc k g).free = s.free := rfl
@[simp] theorem State.func_modFunc (k : Nat) (g : Func → Func) : (s.modFunc k g).func k = g (s.func k) := Tab.get_mod_self s.host.funcs k g
theorem State.func_modFunc_ne (k j : Nat) (g : Func → Func) (h : j ≠ k) : (s.modFunc k g).func j = s.func j := Tab.get_mod_ne s.host.funcs k g j h
@[simp] theorem State.tenant_modFunc (k j : Nat) (g : Func → Func) : (s.modFunc k g).tenant j = s.tenant j := rfl

/-! ### modTenant -/

@[simp] theorem State.modTenant_front (k : Nat) (g : Tenant → Tenant) : (s.modTenant k g).front = s.front := rfl
@[simp] theorem State.modTenant_red (k : Nat) (g : Tenant → Tenant) : (s.modTenant k g).red = s.red := rfl
@[simp] theorem State.modTenant_str (k : Nat) (g : Tenant → Tenant) : (s.modTenant k g).str = s.str := rfl
@[simp] theorem State.modTenant_mem (k : Nat) (g : Tenant → Tenant) : (s.modTenant k g).mem = s.mem := rfl
@[simp] theorem State.modTenant_sky (k : Nat) (g : Tenant → Tenant) : (s.modTenant k g).sky = s.sky := rfl
@[simp] theorem State.modTenant_clover (k : Nat) (g : Tenant → Tenant) : (s.modTenant k g).clover = s.clover := rfl
@[simp] theorem State.modTenant_time (k : Nat) (g : Tenant → Tenant) : (s.modTenant k g).time = s.time := rfl
@[simp] theorem State.modTenant_mgmt (k : Nat) (g : Tenant → Tenant) : (s.modTenant k g).mgmt = s.mgmt := rfl
@[simp] theorem State.modTenant_ctrs (k : Nat) (g : Tenant → Tenant) : (s.modTenant k g).ctrs = s.ctrs := rfl
@[simp] theorem State.modTenant_now (k : Nat) (g : Tenant → Tenant) : (s.modTenant k g).now = s.now := rfl
@[simp] theorem State.modTenant_pending (k : Nat) (g : Tenant → Tenant) : (s.modTenant k g).pending = s.pending := rfl
@[simp] theorem State.modTenant_free (k : Nat) (g : Tenant → Tenant) : (s.modTenant k g).free = s.free := rfl
@[simp] theorem State.tenant_modTenant (k : Nat) (g : Tenant → Tenant) : (s.modTenant k g).tenant k = g (s.tenant k) := Tab.get_mod_self s.host.tenants k g
theorem State.tenant_modTenant_ne (k j : Nat) (g : Tenant → Tenant) (h : j ≠ k) : (s.modTenant k g).tenant j = s.tenant j := Tab.get_mod_ne s.host.tenants k g j h
@[simp] theorem State.func_modTenant (k j : Nat) (g : Tenant → Tenant) : (s.modTenant k g).func j = s.func j := rfl

/-! ### modSensor -/

@[simp] theorem State.modSensor_front (k : Nat) (g : Sensor → Sensor) : (s.modSensor k g).front = s.front := rfl
@[simp] theorem State.modSensor_red (k : Nat) (g : Sensor → Sensor) : (s.modSensor k g).red = s.red := rfl
@[simp] theorem State.modSensor_str (k : Nat) (g : Sensor → Sensor) : (s.modSensor k g).str = s.str := rfl
@[simp] theorem State.modSensor_mem (k : Nat) (g : Sensor → Sensor) : (s.modSensor k g).mem = s.mem := rfl
@[simp] theorem State.modSensor_sky (k : Nat) (g : Sensor → Sensor) : (s.modSensor k g).sky = s.sky := rfl
@[simp] theorem State.modSensor_clover (k : Nat) (g : Sensor → Sensor) : (s.modSensor k g).clover = s.clover := rfl
@[simp] theorem State.modSensor_time (k : Nat) (g : Sensor → Sensor) : (s.modSensor k g).time = s.time := rfl
@[simp] theorem State.modSensor_host (k : Nat) (g : Sensor → Sensor) : (s.modSensor k g).host = s.host := rfl
@[simp] theorem State.modSensor_ctrs (k : Nat) (g : Sensor → Sensor) : (s.modSensor k g).ctrs = s.ctrs := rfl
@[simp] theorem State.modSensor_now (k : Nat) (g : Sensor → Sensor) : (s.modSensor k g).now = s.now := rfl
@[simp] theorem State.modSensor_pending (k : Nat) (g : Sensor → Sensor) : (s.modSensor k g).pending = s.pending := rfl
@[simp] theorem State.modSensor_free (k : Nat) (g : Sensor → Sensor) : (s.modSensor k g).free = s.free := rfl
@[simp] theorem State.sensor_modSensor (k : Nat) (g : Sensor → Sensor) : (s.modSensor k g).sensor k = g (s.sensor k) := Tab.get_mod_self s.mgmt.sensors k g
theorem State.sensor_modSensor_ne (k j : Nat) (g : Sensor → Sensor) (h : j ≠ k) : (s.modSensor k g).sensor j = s.sensor j := Tab.get_mod_ne s.mgmt.sensors k g j h
@[simp] theorem State.bus_modSensor (k j : Nat) (g : Sensor → Sensor) : (s.modSensor k g).bus j = s.bus j := rfl

/-! ### modBus -/

@[simp] theorem State.modBus_front (k : Nat) (g : Bus → Bus) : (s.modBus k g).front = s.front := rfl
@[simp] theorem State.modBus_red (k : Nat) (g : Bus → Bus) : (s.modBus k g).red = s.red := rfl
@[simp] theorem State.modBus_str (k : Nat) (g : Bus → Bus) : (s.modBus k g).str = s.str := rfl
@[simp] theorem State.modBus_mem (k : Nat) (g : Bus → Bus) : (s.modBus k g).mem = s.mem := rfl
@[simp] theorem State.modBus_sky (k : Nat) (g : Bus → Bus) : (s.modBus k g).sky = s.sky := rfl
@[simp] theorem State.modBus_clover (k : Nat) (g : Bus → Bus) : (s.modBus k g).clover = s.clover := rfl
@[simp] theorem State.modBus_time (k : Nat) (g : Bus → Bus) : (s.modBus k g).time = s.time := rfl
@[simp] theorem State.modBus_host (k : Nat) (g : Bus → Bus) : (s.modBus k g).host = s.host := rfl
@[simp] theorem State.modBus_ctrs (k : Nat) (g : Bus → Bus) : (s.modBus k g).ctrs = s.ctrs := rfl
@[simp] theorem State.modBus_now (k : Nat) (g : Bus → Bus) : (s.modBus k g).now = s.now := rfl
@[simp] theorem State.modBus_pending (k : Nat) (g : Bus → Bus) : (s.modBus k g).pending = s.pending := rfl
@[simp] theorem State.modBus_free (k : Nat) (g : Bus → Bus) : (s.modBus k g).free = s.free := rfl
@[simp] theorem State.bus_modBus (k : Nat) (g : Bus → Bus) : (s.modBus k g).bus k = g (s.bus k) := Tab.get_mod_self s.mgmt.buses k g
theorem State.bus_modBus_ne (k j : Nat) (g : Bus → Bus) (h : j ≠ k) : (s.modBus k g).bus j = s.bus j := Tab.get_mod_ne s.mgmt.buses k g j h
@[simp] theorem State.sensor_modBus (k j : Nat) (g : Bus → Bus) : (s.modBus k g).sensor j = s.sensor j := rfl

/-! ### modLane -/

@[simp] theorem State.modLane_front (k : Nat) (g : Prbs → Prbs) : (s.modLane k g).front = s.front := rfl
@[simp] theorem State.modLane_red (k : Nat) (g : Prbs → Prbs) : (s.modLane k g).red = s.red := rfl
@[simp] theorem State.modLane_str (k : Nat) (g : Prbs → Prbs) : (s.modLane k g).str = s.str := rfl
@[simp] theorem State.modLane_mem (k : Nat) (g : Prbs → Prbs) : (s.modLane k g).mem = s.mem := rfl
@[simp] theorem State.modLane_clover (k : Nat) (g : Prbs → Prbs) : (s.modLane k g).clover = s.clover := rfl
@[simp] theorem State.modLane_time (k : Nat) (g : Prbs → Prbs) : (s.modLane k g).time = s.time := rfl
@[simp] theorem State.modLane_host (k : Nat) (g : Prbs → Prbs) : (s.modLane k g).host = s.host := rfl
@[simp] theorem State.modLane_mgmt (k : Nat) (g : Prbs → Prbs) : (s.modLane k g).mgmt = s.mgmt := rfl
@[simp] theorem State.modLane_ctrs (k : Nat) (g : Prbs → Prbs) : (s.modLane k g).ctrs = s.ctrs := rfl
@[simp] theorem State.modLane_now (k : Nat) (g : Prbs → Prbs) : (s.modLane k g).now = s.now := rfl
@[simp] theorem State.modLane_pending (k : Nat) (g : Prbs → Prbs) : (s.modLane k g).pending = s.pending := rfl
@[simp] theorem State.modLane_free (k : Nat) (g : Prbs → Prbs) : (s.modLane k g).free = s.free := rfl
@[simp] theorem State.lane_modLane (k : Nat) (g : Prbs → Prbs) : (s.modLane k g).lane k = g (s.lane k) := Tab.get_mod_self s.sky.prbs k g
theorem State.lane_modLane_ne (k j : Nat) (g : Prbs → Prbs) (h : j ≠ k) : (s.modLane k g).lane j = s.lane j := Tab.get_mod_ne s.sky.prbs k g j h
@[simp] theorem State.port_modLane (k j : Nat) (g : Prbs → Prbs) : (s.modLane k g).port j = s.port j := rfl

/-! ### modInst -/

@[simp] theorem State.modInst_front (k : Nat) (g : ArbInst → ArbInst) : (s.modInst k g).front = s.front := rfl
@[simp] theorem State.modInst_red (k : Nat) (g : ArbInst → ArbInst) : (s.modInst k g).red = s.red := rfl
@[simp] theorem State.modInst_str (k : Nat) (g : ArbInst → ArbInst) : (s.modInst k g).str = s.str := rfl
@[simp] theorem State.modInst_sky (k : Nat) (g : ArbInst → ArbInst) : (s.modInst k g).sky = s.sky := rfl
@[simp] theorem State.modInst_clover (k : Nat) (g : ArbInst → ArbInst) : (s.modInst k g).clover = s.clover := rfl
@[simp] theorem State.modInst_time (k : Nat) (g : ArbInst → ArbInst) : (s.modInst k g).time = s.time := rfl
@[simp] theorem State.modInst_host (k : Nat) (g : ArbInst → ArbInst) : (s.modInst k g).host = s.host := rfl
@[simp] theorem State.modInst_mgmt (k : Nat) (g : ArbInst → ArbInst) : (s.modInst k g).mgmt = s.mgmt := rfl
@[simp] theorem State.modInst_ctrs (k : Nat) (g : ArbInst → ArbInst) : (s.modInst k g).ctrs = s.ctrs := rfl
@[simp] theorem State.modInst_now (k : Nat) (g : ArbInst → ArbInst) : (s.modInst k g).now = s.now := rfl
@[simp] theorem State.modInst_pending (k : Nat) (g : ArbInst → ArbInst) : (s.modInst k g).pending = s.pending := rfl
@[simp] theorem State.modInst_free (k : Nat) (g : ArbInst → ArbInst) : (s.modInst k g).free = s.free := rfl
@[simp] theorem State.inst_modInst (k : Nat) (g : ArbInst → ArbInst) : (s.modInst k g).inst k = g (s.inst k) := Tab.get_mod_self s.mem.insts k g
theorem State.inst_modInst_ne (k j : Nat) (g : ArbInst → ArbInst) (h : j ≠ k) : (s.modInst k g).inst j = s.inst j := Tab.get_mod_ne s.mem.insts k g j h
@[simp] theorem State.dram_modInst (k j : Nat) (g : ArbInst → ArbInst) : (s.modInst k g).dram j = s.dram j := rfl

/-! ### Keys of two numbers -/

@[simp] theorem State.modQueue_front (i k : Nat) (g : Queue → Queue) : (s.modQueue i k g).front = s.front := rfl
@[simp] theorem State.modQueue_red (i k : Nat) (g : Queue → Queue) : (s.modQueue i k g).red = s.red := rfl
@[simp] theorem State.modQueue_str (i k : Nat) (g : Queue → Queue) : (s.modQueue i k g).str = s.str := rfl
@[simp] theorem State.modQueue_mem (i k : Nat) (g : Queue → Queue) : (s.modQueue i k g).mem = s.mem := rfl
@[simp] theorem State.modQueue_sky (i k : Nat) (g : Queue → Queue) : (s.modQueue i k g).sky = s.sky := rfl
@[simp] theorem State.modQueue_clover (i k : Nat) (g : Queue → Queue) : (s.modQueue i k g).clover = s.clover := rfl
@[simp] theorem State.modQueue_time (i k : Nat) (g : Queue → Queue) : (s.modQueue i k g).time = s.time := rfl
@[simp] theorem State.modQueue_mgmt (i k : Nat) (g : Queue → Queue) : (s.modQueue i k g).mgmt = s.mgmt := rfl
@[simp] theorem State.modQueue_ctrs (i k : Nat) (g : Queue → Queue) : (s.modQueue i k g).ctrs = s.ctrs := rfl
@[simp] theorem State.modQueue_now (i k : Nat) (g : Queue → Queue) : (s.modQueue i k g).now = s.now := rfl
@[simp] theorem State.modQueue_pending (i k : Nat) (g : Queue → Queue) : (s.modQueue i k g).pending = s.pending := rfl
@[simp] theorem State.modQueue_free (i k : Nat) (g : Queue → Queue) : (s.modQueue i k g).free = s.free := rfl
@[simp] theorem State.queue_modQueue (i k : Nat) (g : Queue → Queue) : (s.modQueue i k g).queue i k = g (s.queue i k) :=
  Tab.get_mod_self s.host.queues (8 * i + k) g
theorem State.queue_modQueue_ne (i k j l : Nat) (g : Queue → Queue) (h : 8 * j + l ≠ 8 * i + k) : (s.modQueue i k g).queue j l = s.queue j l :=
  Tab.get_mod_ne s.host.queues (8 * i + k) g (8 * j + l) h
@[simp] theorem State.func_modQueue (i k j : Nat) (g : Queue → Queue) : (s.modQueue i k g).func j = s.func j := rfl
@[simp] theorem State.tenant_modQueue (i k j : Nat) (g : Queue → Queue) : (s.modQueue i k g).tenant j = s.tenant j := rfl

@[simp] theorem State.modReq_front (i k : Nat) (g : Requester → Requester) : (s.modReq i k g).front = s.front := rfl
@[simp] theorem State.modReq_red (i k : Nat) (g : Requester → Requester) : (s.modReq i k g).red = s.red := rfl
@[simp] theorem State.modReq_str (i k : Nat) (g : Requester → Requester) : (s.modReq i k g).str = s.str := rfl
@[simp] theorem State.modReq_sky (i k : Nat) (g : Requester → Requester) : (s.modReq i k g).sky = s.sky := rfl
@[simp] theorem State.modReq_clover (i k : Nat) (g : Requester → Requester) : (s.modReq i k g).clover = s.clover := rfl
@[simp] theorem State.modReq_time (i k : Nat) (g : Requester → Requester) : (s.modReq i k g).time = s.time := rfl
@[simp] theorem State.modReq_host (i k : Nat) (g : Requester → Requester) : (s.modReq i k g).host = s.host := rfl
@[simp] theorem State.modReq_mgmt (i k : Nat) (g : Requester → Requester) : (s.modReq i k g).mgmt = s.mgmt := rfl
@[simp] theorem State.modReq_ctrs (i k : Nat) (g : Requester → Requester) : (s.modReq i k g).ctrs = s.ctrs := rfl
@[simp] theorem State.modReq_now (i k : Nat) (g : Requester → Requester) : (s.modReq i k g).now = s.now := rfl
@[simp] theorem State.modReq_pending (i k : Nat) (g : Requester → Requester) : (s.modReq i k g).pending = s.pending := rfl
@[simp] theorem State.modReq_free (i k : Nat) (g : Requester → Requester) : (s.modReq i k g).free = s.free := rfl
@[simp] theorem State.req_modReq (i k : Nat) (g : Requester → Requester) : (s.modReq i k g).req i k = g (s.req i k) :=
  Tab.get_mod_self s.mem.reqs (reqKey i k) g
theorem State.req_modReq_ne (i k j l : Nat) (g : Requester → Requester) (h : reqKey j l ≠ reqKey i k) : (s.modReq i k g).req j l = s.req j l :=
  Tab.get_mod_ne s.mem.reqs (reqKey i k) g (reqKey j l) h
@[simp] theorem State.dram_modReq (i k j : Nat) (g : Requester → Requester) : (s.modReq i k g).dram j = s.dram j := rfl
@[simp] theorem State.inst_modReq (i k j : Nat) (g : Requester → Requester) : (s.modReq i k g).inst j = s.inst j := rfl

@[simp] theorem State.queue_modFunc (k i j : Nat) (g : Func → Func) : (s.modFunc k g).queue i j = s.queue i j := rfl
@[simp] theorem State.queue_modTenant (k i j : Nat) (g : Tenant → Tenant) : (s.modTenant k g).queue i j = s.queue i j := rfl

/-! ### touch, counters and journal ports -/

@[simp] theorem touch_now (t : Inst) : (touch t s).now = if s.now < t then t else s.now := rfl

@[simp] theorem touch_front (t : Inst) : (touch t s).front = s.front := rfl
@[simp] theorem touch_red (t : Inst) : (touch t s).red = s.red := rfl
@[simp] theorem touch_str (t : Inst) : (touch t s).str = s.str := rfl
@[simp] theorem touch_mem (t : Inst) : (touch t s).mem = s.mem := rfl
@[simp] theorem touch_sky (t : Inst) : (touch t s).sky = s.sky := rfl
@[simp] theorem touch_clover (t : Inst) : (touch t s).clover = s.clover := rfl
@[simp] theorem touch_time_grid (t : Inst) : (touch t s).time.grid = s.time.grid := rfl
@[simp] theorem touch_time_inc (t : Inst) : (touch t s).time.inc = s.time.inc := rfl
@[simp] theorem touch_time_sec (t : Inst) : (touch t s).time.sec = s.time.sec := rfl
@[simp] theorem touch_time_ns (t : Inst) : (touch t s).time.ns = s.time.ns := rfl
@[simp] theorem touch_time_frac40 (t : Inst) : (touch t s).time.frac40 = s.time.frac40 := rfl
@[simp] theorem touch_time_setAt (t : Inst) : (touch t s).time.setAt = s.time.setAt := rfl
@[simp] theorem touch_time_swath (t : Inst) : (touch t s).time.swath = s.time.swath := rfl
@[simp] theorem touch_time_state (t : Inst) : (touch t s).time.state = s.time.state := rfl
@[simp] theorem touch_time_tai (t : Inst) : (touch t s).time.tai = s.time.tai := rfl
@[simp] theorem touch_time_cls (t : Inst) : (touch t s).time.cls = s.time.cls := rfl
@[simp] theorem touch_time_hops (t : Inst) : (touch t s).time.hops = s.time.hops := rfl
@[simp] theorem touch_time_err (t : Inst) : (touch t s).time.err = s.time.err := rfl
@[simp] theorem touch_time_prio (t : Inst) : (touch t s).time.prio = s.time.prio := rfl
@[simp] theorem touch_time_root (t : Inst) : (touch t s).time.root = s.time.root := rfl
@[simp] theorem touch_time_lead (t : Inst) : (touch t s).time.lead = s.time.lead := rfl
@[simp] theorem touch_time_leadRun (t : Inst) : (touch t s).time.leadRun = s.time.leadRun := rfl
@[simp] theorem touch_time_parent (t : Inst) : (touch t s).time.parent = s.time.parent := rfl
@[simp] theorem touch_time_alt (t : Inst) : (touch t s).time.alt = s.time.alt := rfl
@[simp] theorem touch_time_xchg (t : Inst) : (touch t s).time.xchg = s.time.xchg := rfl
@[simp] theorem touch_time_heard (t : Inst) : (touch t s).time.heard = s.time.heard := rfl
@[simp] theorem touch_time_f (t : Inst) : (touch t s).time.f = s.time.f := rfl
@[simp] theorem touch_time_fWant (t : Inst) : (touch t s).time.fWant = s.time.fWant := rfl
@[simp] theorem touch_time_fBank (t : Inst) : (touch t s).time.fBank = s.time.fBank := rfl
@[simp] theorem touch_time_fSeal (t : Inst) : (touch t s).time.fSeal = s.time.fSeal := rfl
@[simp] theorem touch_time_integ (t : Inst) : (touch t s).time.integ = s.time.integ := rfl
@[simp] theorem touch_time_fRuns (t : Inst) : (touch t s).time.fRuns = s.time.fRuns := rfl
@[simp] theorem touch_time_offset (t : Inst) : (touch t s).time.offset = s.time.offset := rfl
@[simp] theorem touch_time_within (t : Inst) : (touch t s).time.within = s.time.within := rfl
@[simp] theorem touch_time_syncLeft (t : Inst) : (touch t s).time.syncLeft = s.time.syncLeft := rfl
@[simp] theorem touch_time_syncFrom (t : Inst) : (touch t s).time.syncFrom = s.time.syncFrom := rfl
@[simp] theorem touch_time_free (t : Inst) : (touch t s).time.free = s.time.free := rfl
@[simp] theorem touch_time_bandmHz (t : Inst) : (touch t s).time.bandmHz = s.time.bandmHz := rfl
@[simp] theorem touch_time_limitNs (t : Inst) : (touch t s).time.limitNs = s.time.limitNs := rfl
@[simp] theorem touch_time_policy (t : Inst) : (touch t s).time.policy = s.time.policy := rfl
@[simp] theorem touch_time_slew (t : Inst) : (touch t s).time.slew = s.time.slew := rfl
@[simp] theorem touch_time_stepUs (t : Inst) : (touch t s).time.stepUs = s.time.stepUs := rfl
@[simp] theorem touch_time_yPpb (t : Inst) : (touch t s).time.yPpb = s.time.yPpb := rfl
@[simp] theorem touch_time_aPpb (t : Inst) : (touch t s).time.aPpb = s.time.aPpb := rfl
@[simp] theorem touch_time_tcxo (t : Inst) : (touch t s).time.tcxo = s.time.tcxo := rfl
@[simp] theorem touch_time_holdFrom (t : Inst) : (touch t s).time.holdFrom = s.time.holdFrom := rfl
@[simp] theorem touch_time_holdE0 (t : Inst) : (touch t s).time.holdE0 = s.time.holdE0 := rfl
@[simp] theorem touch_time_slewing (t : Inst) : (touch t s).time.slewing = s.time.slewing := rfl
@[simp] theorem touch_time_restart (t : Inst) : (touch t s).time.restart = s.time.restart := rfl
@[simp] theorem touch_time_ppsComp (t : Inst) : (touch t s).time.ppsComp = s.time.ppsComp := rfl
@[simp] theorem touch_time_ppsNamed (t : Inst) : (touch t s).time.ppsNamed = s.time.ppsNamed := rfl
@[simp] theorem touch_time_ppsSec (t : Inst) : (touch t s).time.ppsSec = s.time.ppsSec := rfl
@[simp] theorem touch_time_ppsFrom (t : Inst) : (touch t s).time.ppsFrom = s.time.ppsFrom := rfl
@[simp] theorem touch_time_ppsAt (t : Inst) : (touch t s).time.ppsAt = s.time.ppsAt := rfl
@[simp] theorem touch_time_srcErr (t : Inst) : (touch t s).time.srcErr = s.time.srcErr := rfl
@[simp] theorem touch_time_outOn (t : Inst) : (touch t s).time.outOn = s.time.outOn := rfl
@[simp] theorem touch_time_outComp (t : Inst) : (touch t s).time.outComp = s.time.outComp := rfl
@[simp] theorem touch_time_outWidth (t : Inst) : (touch t s).time.outWidth = s.time.outWidth := rfl
@[simp] theorem touch_time_outMask (t : Inst) : (touch t s).time.outMask = s.time.outMask := rfl
@[simp] theorem touch_time_outHigh (t : Inst) : (touch t s).time.outHigh = s.time.outHigh := rfl
@[simp] theorem touch_time_ptp (t : Inst) : (touch t s).time.ptp = s.time.ptp := rfl
@[simp] theorem touch_host (t : Inst) : (touch t s).host = s.host := rfl
@[simp] theorem touch_mgmt (t : Inst) : (touch t s).mgmt = s.mgmt := rfl
@[simp] theorem touch_ctrs (t : Inst) : (touch t s).ctrs = s.ctrs := rfl
@[simp] theorem touch_pending (t : Inst) : (touch t s).pending = s.pending := rfl
@[simp] theorem touch_free (t : Inst) : (touch t s).free = s.free := rfl

/-- A counter that advances. -/
theorem ctrOf_bumpBy (k n : Nat) : ctrOf (bumpBy k n s) k = (ctrOf s k).add (ctrTop k) n :=
  Tab.get_mod_self s.ctrs k (fun c => c.add (ctrTop k) n)
/-- Any other counter. -/
theorem ctrOf_bumpBy_ne (k n j : Nat) (h : j ≠ k) : ctrOf (bumpBy k n s) j = ctrOf s j :=
  Tab.get_mod_ne s.ctrs k (fun c => c.add (ctrTop k) n) j h
/-- The port at which an entry is posted. -/
theorem port_postAt (t : Inst) (p code handle : Nat) (vals : List (Nat × BitVec 64)) :
    (postAt t p code handle vals s).mgmt.ports.get p = (s.mgmt.ports.get p).put (entryAt (quality s) t p code handle vals)
      (entryAt (quality s) t p 0x0B0B 0 [vU p, vU (s.mgmt.ports.get p).dropped]) :=
  Tab.get_mod_self s.mgmt.ports p (fun x => x.put (entryAt (quality s) t p code handle vals)
    (entryAt (quality s) t p 0x0B0B 0 [vU p, vU (s.mgmt.ports.get p).dropped]))
/-- Any other port. -/
theorem port_postAt_ne (t : Inst) (p code handle j : Nat) (vals : List (Nat × BitVec 64)) (h : j ≠ p) :
    (postAt t p code handle vals s).mgmt.ports.get j = s.mgmt.ports.get j :=
  Tab.get_mod_ne s.mgmt.ports p (fun x => x.put (entryAt (quality s) t p code handle vals)
    (entryAt (quality s) t p 0x0B0B 0 [vU p, vU (s.mgmt.ports.get p).dropped])) j h
/-- Filling the journal ring changes no mark of a lost clock or a trip. -/
theorem journalTick_marks : (journalTick s).mgmt.laneLost = s.mgmt.laneLost ∧ (journalTick s).mgmt.tripHeld = s.mgmt.tripHeld := by
  unfold journalTick takeEntry
  split
  · exact ⟨rfl, rfl⟩
  · split <;> exact ⟨rfl, rfl⟩
theorem journalDrain_marks (n : Nat) (s : State) :
    (journalDrain n s).mgmt.laneLost = s.mgmt.laneLost ∧ (journalDrain n s).mgmt.tripHeld = s.mgmt.tripHeld := by
  induction n generalizing s with
  | zero => exact ⟨rfl, rfl⟩
  | succ n ih => exact ⟨(ih _).1.trans (journalTick_marks s).1, (ih _).2.trans (journalTick_marks s).2⟩

end Sys2Proof.Machine
end

