-- ==== Sys2Proof/Laws/Command.lean ====
section
/-! SUPPORT. What a Dwehild command answers when the hub carries it out. -/

namespace Sys2Proof.Machine

/-- A command that runs answers what its body answers; a refusal leaves the state as it was but for the answer. -/
theorem command_runs (op : Nat) (self : Instr) (c : Cmd) (body : State → Reply × State) (s : State) (h : Runs op c s) :
    command op self c body s = .next (if statusCode (body (touch c.at_ s)).1.status < 0x8000
      then replied op c (body (touch c.at_ s)).1 (body (touch c.at_ s)).2
      else answer op c false (body (touch c.at_ s)).1 (body (touch c.at_ s)).2) := by
  obtain ⟨h1, h2, h3, h4, h5, h6⟩ := h
  have hp : (privOps.contains op && decide (c.tenant ≠ 0)) = false := by
    rcases h5 with h5 | h5
    · rw [h5]; rfl
    · simp [h5]
  simp only [command, h1, h2, h3, h4, withMarks, hp, h6, Bool.not_true, Bool.or_self, Bool.false_and, if_false, Bool.false_eq_true]
  unfold replied noted when
  by_cases hs : statusCode (body (touch c.at_ s)).1.status < 0x8000
  · simp only [hs, decide_true, Bool.true_and, if_true]
    cases localOps.contains op <;> cases readOps.contains op <;> rfl
  · simp only [hs, decide_false, Bool.false_and, if_false, Bool.false_eq_true]

/-- The same with what the body answers. -/
theorem command_replies (op : Nat) (self : Instr) (c : Cmd) (body : State → Reply × State) (s : State) (r : Reply) (t : State)
    (h : Runs op c s) (hb : body (touch c.at_ s) = (r, t)) (hr : statusCode r.status < 0x8000) :
    command op self c body s = .next (replied op c r t) := by
  rw [command_runs op self c body s h, hb]
  simp [hr]

/-- The same with a name for the state at the command's instant. -/
theorem command_at (op : Nat) (self : Instr) (c : Cmd) (body : State → Reply × State) (s u : State) (r : Reply) (t : State)
    (hu : u = touch c.at_ s) (h : Runs op c s) (hb : body u = (r, t)) (hr : statusCode r.status < 0x8000) :
    command op self c body s = .next (replied op c r t) :=
  command_replies op self c body s r t h (hu ▸ hb) hr

theorem code_done : statusCode .done < 0x8000 := by decide
theorem code_accepted : statusCode .accepted < 0x8000 := by decide
theorem code_partial : statusCode .partialDone < 0x8000 := by decide
theorem code_staged : statusCode .staged < 0x8000 := by decide

/-- No check fails exactly when every check holds. -/
theorem firstFail_none (l : List (Bool × Status)) : firstFail l = none ↔ ∀ p ∈ l, p.1 = true := by
  induction l with
  | nil => simp [firstFail]
  | cons p r ih =>
    obtain ⟨ok, st⟩ := p
    simp only [List.mem_cons, forall_eq_or_imp, ← ih]
    cases ok <;> simp only [firstFail] <;> cases firstFail r <;> simp

theorem firstFail_nil : firstFail [] = none := rfl

/-- A check that holds is passed over. -/
theorem firstFail_cons {ok : Bool} {st : Status} {r : List (Bool × Status)} (h : ok = true) (hr : firstFail r = none) :
    firstFail ((ok, st) :: r) = none := by
  subst h; simp only [firstFail, hr]

/-- A body whose checks hold runs. -/
theorem checked_pass {l : List (Bool × Status)} (h : firstFail l = none) (s : State) (body : State → Reply × State) :
    checked l s body = body s := by
  unfold checked; rw [h]

theorem firstFail_append (a b : List (Bool × Status)) : firstFail (a ++ b) = none ↔ firstFail a = none ∧ firstFail b = none := by
  simp only [firstFail_none, List.mem_append]
  exact ⟨fun h => ⟨fun p hp => h p (.inl hp), fun p hp => h p (.inr hp)⟩, fun h p hp => hp.elim (h.1 p) (h.2 p)⟩

/-- A listing completes with DONE, or with PARTIAL when not all of it fits. -/
theorem report_status (c : Cmd) (n : Nat) (l : List (List Byte)) (k : Nat → List Byte) (s : State) :
    (report c n l k s).1.status = .done ∨ (report c n l k s).1.status = .partialDone := by
  unfold report; dsimp only
  by_cases h : (l.take (bufLen c / n)).length < l.length
  · rw [if_pos h]; exact .inr rfl
  · rw [if_neg h]; exact .inl rfl

theorem report_code (c : Cmd) (n : Nat) (l : List (List Byte)) (k : Nat → List Byte) (s : State) :
    statusCode (report c n l k s).1.status < 0x8000 := by
  rcases report_status c n l k s with h | h <;> rw [h] <;> decide

/-! ## What an answer may change -/

/-- A state whose host interface alone may have changed. -/
theorem raise_host (fn v : Nat) (s : State) : ∃ h, raise fn v s = { s with host := h } := ⟨_, rfl⟩

theorem putSlot_host (t q : Nat) (x : CplSlot) (s : State) : ∃ h, putSlot t q x s = { s with host := h } := by
  unfold putSlot
  dsimp only
  by_cases h1 : (s.tenant t).kind = 2
  · rw [if_pos h1]; exact ⟨_, rfl⟩
  · rw [if_neg h1]
    cases h2 : (s.queue t q).made
    · rw [if_pos (by rfl)]; exact ⟨s.host, rfl⟩
    · rw [if_neg (by decide)]
      unfold when
      cases ((s.queue t q).held.isEmpty && !(s.queue t q).full)
      · rw [if_neg (by decide)]; exact ⟨_, rfl⟩
      · rw [if_pos rfl]; exact ⟨_, rfl⟩

theorem journalReply_host (op : Nat) (c : Cmd) (r : Reply) (s : State) : ∃ h, journalReply op c r s = { s with host := h } := by
  unfold journalReply
  cases readOps.contains op
  · rw [if_neg (by decide)]; exact ⟨_, rfl⟩
  · rw [if_pos rfl]; exact ⟨s.host, rfl⟩

theorem finish_host (t q : Nat) (tag : BitVec 32) (r : Reply) (m : Bool) (s : State) :
    ∃ h, finish t q tag r m s = { s with host := h } := by
  obtain ⟨h, e⟩ := putSlot_host t q { cpl := some { tag := tag, status := r.status, progress := r.progress, result := r.result, mirrored := m } }
    (leaveExec t tag s)
  exact ⟨h, e⟩

/-- An answer changes the host interface and the journal's port queues alone. -/
theorem answer_host (op : Nat) (c : Cmd) (m : Bool) (r : Reply) (s : State) :
    ∃ h p, answer op c m r s = { s with host := h, mgmt := { s.mgmt with ports := p } } := by
  have key : ∀ v : State, (∃ h, v = { s with host := h }) →
      ∃ h p, (if r.later then stayExec op c true (noResourceEntry op c r (journalReply op c r v))
        else if r.status = .accepted then
          putCpl c.tenant c.queue { tag := c.tag, status := .accepted, more := true, mirrored := m }
            (stayExec op c false (noResourceEntry op c r (journalReply op c r v)))
        else finish c.tenant c.queue c.tag r m (noResourceEntry op c r (journalReply op c r v)))
        = { s with host := h, mgmt := { s.mgmt with ports := p } } := by
    rintro v ⟨h, rfl⟩
    obtain ⟨h1, e1⟩ := journalReply_host op c r { s with host := h }
    rw [e1]
    have e2 : ∃ p, noResourceEntry op c r { s with host := h1 } = { s with host := h1, mgmt := { s.mgmt with ports := p } } := by
      unfold noResourceEntry when
      by_cases hs : r.status = .noResource
      · rw [if_pos (by simpa using hs)]; exact ⟨_, rfl⟩
      · rw [if_neg (by simpa using hs)]; exact ⟨s.mgmt.ports, rfl⟩
    obtain ⟨p, e2⟩ := e2
    rw [e2]
    by_cases hl : r.later = true
    · rw [if_pos hl]; exact ⟨_, p, rfl⟩
    · rw [if_neg hl]
      by_cases ha : r.status = .accepted
      · rw [if_pos ha]
        obtain ⟨h3, e3⟩ := putSlot_host c.tenant c.queue { cpl := some { tag := c.tag, status := .accepted, more := true, mirrored := m } }
          (stayExec op c false { s with host := h1, mgmt := { s.mgmt with ports := p } })
        exact ⟨h3, p, e3⟩
      · rw [if_neg ha]
        obtain ⟨h3, e3⟩ := finish_host c.tenant c.queue c.tag r m { s with host := h1, mgmt := { s.mgmt with ports := p } }
        exact ⟨h3, p, e3⟩
  unfold answer
  cases r.out with
  | none => exact key s ⟨s.host, rfl⟩
  | some b => exact key (putBuf c b s) ⟨_, rfl⟩

/-- The end of a flush changes no mark of a lost clock or a trip. -/
theorem finishFlush_marks (s : State) :
    (finishFlush s).mgmt.laneLost = s.mgmt.laneLost ∧ (finishFlush s).mgmt.tripHeld = s.mgmt.tripHeld := by
  have h := journalDrain_marks 208 s
  unfold finishFlush
  generalize journalDrain 208 s = u at h ⊢
  exact h

end Sys2Proof.Machine
end

