-- ==== Sys2Proof/Laws/Safe.lean ====
section
/-! SUPPORT. The operations that touch what `Safe` names (the journal queues and ring, the counters, INC and F), and the
combinators through which every other operation is built. -/

namespace Sys2Proof.Machine

/-- `Safe` reads eight parts of the state only. -/
theorem Safe.fold {s : State} (h : Safe s) :
    SafeParts s.mgmt.ports s.mgmt.ring s.time.grid s.time.inc s.time.f s.time.fBank s.time.fSeal s.ctrs := h

/-- A seal that is taken back leaves no F in the bank. -/
theorem Safe.noBank {s : State} (h : Safe s) :
    SafeParts s.mgmt.ports s.mgmt.ring s.time.grid s.time.inc s.time.f none s.time.fSeal s.ctrs :=
  ⟨h.ports, h.ring, h.grid, h.freq, (fun x e => by cases e), h.sealedF, h.ctrs⟩

theorem each_safe {α : Type} (l : List α) (f : α → State → State) (s : State)
    (hf : ∀ a s, Safe s → Safe (f a s)) (h : Safe s) : Safe (each l f s) := by
  unfold each
  induction l generalizing s with
  | nil => exact h
  | cons a r ih => exact ih _ (hf a s h)

theorem when_safe (c : Bool) (f : State → State) (s : State) (hf : ∀ s, Safe s → Safe (f s)) (h : Safe s) :
    Safe (when c f s) := by
  unfold when; split
  · exact hf s h
  · exact h

theorem safe_ite {c : Prop} [Decidable c] {a b : State} (ha : c → Safe a) (hb : ¬c → Safe b) : Safe (if c then a else b) := by
  split
  · exact ha (by assumption)
  · exact hb (by assumption)

/-- The state of a pair that has been taken apart. -/
theorem safe_snd {α : Type} {x : α × State} {a : α} {s : State} (h : Safe x.2) (e : x = (a, s)) : Safe s := by
  subst e; exact h

theorem safe_fst {α : Type} {x : State × α} {a : α} {s : State} (h : Safe x.1) (e : x = (s, a)) : Safe s := by
  subst e; exact h

/-- Every next state of an outcome is safe. -/
structure OutSafe (o : Out) : Prop where
  safe : ∀ t, o = .next t → Safe t

theorem outSafe_next {s : State} (h : Safe s) : OutSafe (.next s) := ⟨by
  intro t e; cases e; exact h⟩

theorem event_safe (ok : Bool) (s : State) (h : Safe s) : OutSafe (event ok s) := by
  unfold event; split
  · exact outSafe_next h
  · exact ⟨by intro t e; cases e⟩

/-- The state of an option, if there is one, is safe. -/
structure OptSafe (o : Option State) : Prop where
  safe : ∀ t, o = some t → Safe t

theorem optSafe_some {s : State} (h : Safe s) : OptSafe (some s) := ⟨by
  intro t e; cases e; exact h⟩

theorem optSafe_none : OptSafe none := ⟨by intro t e; cases e⟩

theorem optSafe_map {α : Type} (o : Option α) (f : α → State) (h : ∀ a, Safe (f a)) : OptSafe (o.map f) := ⟨by
  intro t e; cases o with
  | none => cases e
  | some a => cases e; exact h a⟩

theorem optSafe_bind {α : Type} (o : Option α) (f : α → Option State) (h : ∀ a, OptSafe (f a)) : OptSafe (o.bind f) := ⟨by
  intro t e; cases o with
  | none => cases e
  | some a => exact (h a).safe t e⟩

theorem optSafe_ite {c : Prop} [Decidable c] {o : Option State} (h : OptSafe o) : OptSafe (if c then o else none) := by
  split
  · exact h
  · exact optSafe_none

theorem optSafe_getD {o : Option State} {s : State} (h : Safe s) (ho : OptSafe o) : Safe (o.getD s) := by
  cases o with
  | none => exact h
  | some a => exact ho.safe a rfl

theorem safe_snd_ite {α : Type} {c : Prop} [Decidable c] {a b : α × State} (ha : c → Safe a.2) (hb : ¬c → Safe b.2) :
    Safe (if c then a else b).2 := by
  split
  · exact ha (by assumption)
  · exact hb (by assumption)

/-- A fold over a list keeps the state inside its accumulator safe when each of its steps does. -/
theorem foldl_safe {α β : Type} (p : α → State) (f : α → β → α) (l : List β) (hf : ∀ a b, Safe (p a) → Safe (p (f a b)))
    (a : α) (h : Safe (p a)) : Safe (p (l.foldl f a)) := by
  induction l generalizing a with
  | nil => exact h
  | cons b r ih => exact ih _ (hf a b h)

/-- The time unit's fields that `Safe` reads. -/
structure TimeU.Keeps (a b : TimeU) : Prop where
  grid : b.grid = a.grid
  inc : b.inc = a.inc
  f : b.f = a.f
  fBank : b.fBank = a.fBank
  fSeal : b.fSeal = a.fSeal

theorem Safe.withTime {s : State} {x : TimeU} (h : Safe s) (k : TimeU.Keeps s.time x) : Safe { s with time := x } :=
  ⟨h.ports, h.ring, (by rw [k.grid, k.inc]; exact h.grid), (by rw [k.f]; exact h.freq), (by rw [k.fBank]; exact h.bank), (by rw [k.fSeal]; exact h.sealedF), h.ctrs⟩

theorem freq_zero : -fLimit ≤ 0 ∧ 0 ≤ fLimit := by decide

/-- A change of the time counter alone. -/
theorem Safe.counter {s : State} (a b c d : Nat) (h : Safe s) :
    Safe { s with time := { s.time with swath := a, sec := b, ns := c, frac40 := d } } := h

/-- A re-acquisition at an instant. -/
theorem Safe.reacquired {s : State} (t : Inst) (h : Safe s) :
    Safe { s with time := { s.time with restart := none, slewing := 0, holdFrom := none, state := .acquire }, now := t } := h

/-- A change of the error figure alone. -/
theorem Safe.errAs {s : State} (e : Nat) (h : Safe s) : Safe { s with time := { s.time with err := e } } := h

theorem withPairs_keeps (set_ : Pair → TimeU → Option TimeU) (l : List Pair)
    (hp : ∀ p a b, set_ p a = some b → TimeU.Keeps a b) : ∀ (a b : TimeU), withPairs set_ l a = some b → TimeU.Keeps a b := by
  induction l with
  | nil => intro a b e; cases e; exact ⟨rfl, rfl, rfl, rfl, rfl⟩
  | cons p r ih =>
    intro a b e
    unfold withPairs at e
    cases h : set_ p a with
    | none => rw [h] at e; cases e
    | some x =>
      rw [h] at e
      have k1 := hp p a x h
      have k2 := ih x b e
      exact ⟨k2.grid.trans k1.grid, k2.inc.trans k1.inc, k2.f.trans k1.f, k2.fBank.trans k1.fBank, k2.fSeal.trans k1.fSeal⟩

theorem TimeU.Keeps.of_one {a b : TimeU} {p : Pair} {x : Option TimeU} (h : ∀ y, x = some y → TimeU.Keeps a y)
    (e : one p x = some b) : TimeU.Keeps a b := by
  unfold one at e; split at e
  · exact h b e
  · cases e

theorem TimeU.Keeps.of_map {α : Type} {a : TimeU} {o : Option α} {f : α → TimeU} (h : ∀ v, TimeU.Keeps a (f v)) :
    ∀ y, o.map f = some y → TimeU.Keeps a y := by
  intro y e; cases o with
  | none => cases e
  | some v => cases e; exact h v

theorem setTime_keeps (p : Pair) (a b : TimeU) (e : setTime p a = some b) : TimeU.Keeps a b := by
  unfold setTime at e
  split at e <;> first
    | cases e; done
    | (refine TimeU.Keeps.of_one ?_ e
       first
         | exact TimeU.Keeps.of_map (fun _ => ⟨rfl, rfl, rfl, rfl, rfl⟩)
         | (intro y hy; cases hy; exact ⟨rfl, rfl, rfl, rfl, rfl⟩))

theorem setPps_keeps (p : Pair) (a b : TimeU) (e : setPps p a = some b) : TimeU.Keeps a b := by
  unfold setPps at e
  split at e <;> first
    | cases e; done
    | (refine TimeU.Keeps.of_one ?_ e
       first
         | exact TimeU.Keeps.of_map (fun _ => ⟨rfl, rfl, rfl, rfl, rfl⟩)
         | (intro y hy; cases hy; exact ⟨rfl, rfl, rfl, rfl, rfl⟩))

theorem JPort.put_le (p : JPort) (e lost : Entry) (h : p.queue.length ≤ portDepth) : (p.put e lost).queue.length ≤ portDepth := by
  unfold JPort.put
  split
  · exact h
  · rename_i h1
    split
    · simp only [List.length_append, List.length_cons, List.length_nil]; omega
    · simp only [List.length_append, List.length_cons, List.length_nil]
      split
      · simp only [List.length_append, List.length_cons, List.length_nil]; omega
      · simp only [List.length_append, List.length_cons, List.length_nil]; omega

theorem PortsOk.get {t : Tab JPort} (h : PortsOk t) (p : Nat) : (Tab.get t p).queue.length ≤ portDepth :=
  Tab.get_prop t (fun _ q => q.queue.length ≤ portDepth) (fun _ => Nat.zero_le _) h p

theorem CtrsOk.get {t : Tab Ctr} (h : CtrsOk t) (k : Nat) : (Tab.get t k).val ≤ ctrTop k :=
  Tab.get_prop t (fun j c => c.val ≤ ctrTop j) (fun _ => Nat.zero_le _) h k

theorem postAt_safe (t : Inst) (port code handle : Nat) (vals : List (Nat × BitVec 64)) (s : State) (h : Safe s) :
    Safe (postAt t port code handle vals s) :=
  ⟨Tab.mem_set _ _ _ (fun _ (q : JPort) => q.queue.length ≤ portDepth) h.ports
      (fun _ => JPort.put_le _ _ _ (PortsOk.get h.ports port)), h.ring, h.grid, h.freq, h.bank, h.sealedF, h.ctrs⟩

theorem post_safe (port code handle : Nat) (vals : List (Nat × BitVec 64)) (s : State) (h : Safe s) :
    Safe (post port code handle vals s) := postAt_safe _ _ _ _ _ s h

theorem bumpBy_safe (key n : Nat) (s : State) (h : Safe s) : Safe (bumpBy key n s) :=
  ⟨h.ports, h.ring, h.grid, h.freq, h.bank, h.sealedF, Tab.mem_set _ _ _ (fun j (c : Ctr) => c.val ≤ ctrTop j) h.ctrs (fun _ => by
      dsimp only; unfold Ctr.add; split
      · exact Nat.le_of_lt (by assumption)
      · exact Nat.le_refl _)⟩

theorem bump_safe (key : Nat) (s : State) (h : Safe s) : Safe (bump key s) := bumpBy_safe _ _ s h

theorem writeCtr_safe (key v : Nat) (s : State) (h : Safe s) : Safe (writeCtr key v s) :=
  ⟨h.ports, h.ring, h.grid, h.freq, h.bank, h.sealedF, Tab.mem_set _ _ _ (fun j (c : Ctr) => c.val ≤ ctrTop j) h.ctrs
      (fun _ => Nat.lt_succ_iff.1 (Nat.mod_lt _ (Nat.succ_pos _)))⟩

theorem takeEntry_safe (p : Nat) (s : State) (h : Safe s) : Safe (takeEntry p s) := by
  unfold takeEntry
  split
  · exact h
  · rename_i e r hq
    refine ⟨Tab.mem_set _ _ _ (fun _ (q : JPort) => q.queue.length ≤ portDepth) h.ports (fun _ => ?_),
      (by simp only [List.length_take]; exact Nat.min_le_left _ _), h.grid, h.freq, h.bank, h.sealedF, h.ctrs⟩
    have := PortsOk.get h.ports p
    rw [hq] at this
    exact Nat.le_of_succ_le this

theorem journalTick_safe (s : State) (h : Safe s) : Safe (journalTick s) := by
  unfold journalTick
  split
  · exact h
  · exact takeEntry_safe _ s h

theorem journalDrain_safe (n : Nat) (s : State) (h : Safe s) : Safe (journalDrain n s) := by
  induction n generalizing s with
  | zero => exact h
  | succ n ih => exact ih _ (journalTick_safe s h)

theorem enterGrid_safe (g : Nat) (s : State) (h : Safe s) : Safe (enterGrid g s) := ⟨h.ports, h.ring, fun _ => rfl, h.freq, h.bank, h.sealedF, h.ctrs⟩

theorem within_le (b v : Int) (hb : 0 ≤ b) : -b ≤ within b v ∧ within b v ≤ b := by unfold within; omega

/-- F of a safe state, as sealed or in force, lies within ±100 ppm. -/
theorem Safe.sealed {s : State} (h : Safe s) : -fLimit ≤ s.time.fSeal.getD s.time.f ∧ s.time.fSeal.getD s.time.f ≤ fLimit := by
  cases e : s.time.fSeal with
  | none => exact h.freq
  | some x => exact h.sealedF x e

theorem requestF_safe (want : Int) (s : State) (h : Safe s) : Safe (requestF want s) := by
  unfold requestF
  extract_lets c f n
  have hc := within_le fLimit want (by decide)
  have hn : -fLimit ≤ n ∧ n ≤ fLimit := by
    have hf : -fLimit ≤ f ∧ f ≤ fLimit := h.sealed
    have e : n = f + max (-fStep) (min fStep (within fLimit want - f)) := rfl
    have hs : (0 : Int) ≤ fStep := by decide
    omega
  have hb : ∀ (c : Bool) (k : Nat) (s : State), Safe s → Safe (when c (bump k) s) := fun c k s h => when_safe c _ s (fun s h => bump_safe k s h) h
  have := hb (decide (n ≠ c)) (timeCtr 3) _ (hb (decide (c ≠ want)) (timeCtr 2) s h)
  exact ⟨this.ports, this.ring, this.grid, this.freq, fun x hx => by cases hx; exact hn, this.sealedF, this.ctrs⟩

end Sys2Proof.Machine
end

