-- ==== Sys2Proof/Laws/SafeBase.lean ====
section
/-! SUPPORT. Every operation of the shared operations, the front end, calibration, streams, the host interface and the links keeps `Safe`: one lemma
per operation, cited by the operations that call it. -/

namespace Sys2Proof.Machine

theorem drawn_safe (s : State) (hsafe : Safe s) : Safe (drawn s).2 := hsafe

theorem ctlWrite_safe (c : CtlSet) (s : State) (hsafe : Safe s) : Safe (ctlWrite c s) := hsafe

theorem touch_safe (t : Inst) (s : State) (hsafe : Safe s) : Safe (touch t s) := hsafe

theorem State.modChan_safe (s : State) (c : Nat) (f : Channel → Channel) (hsafe : Safe s) :
    Safe (State.modChan s c f) := hsafe

theorem State.modGroup_safe (s : State) (g : Nat) (f : Group → Group) (hsafe : Safe s) : Safe (State.modGroup s g f) := hsafe

theorem State.modTile_safe (s : State) (t : Nat) (f : Tile → Tile) (hsafe : Safe s) : Safe (State.modTile s t f) := hsafe

theorem State.modLink_safe (s : State) (k : Nat) (f : LinkGroup → LinkGroup) (hsafe : Safe s) :
    Safe (State.modLink s k f) := hsafe

theorem State.modModu_safe (s : State) (m : Nat) (f : Modulator → Modulator) (hsafe : Safe s) :
    Safe (State.modModu s m f) := hsafe

theorem State.modSpare_safe (s : State) (m : Nat) (f : Spare → Spare) (hsafe : Safe s) : Safe (State.modSpare s m f) := hsafe

theorem State.modChain_safe (s : State) (m : Nat) (f : ChainCfg → ChainCfg) (hsafe : Safe s) :
    Safe (State.modChain s m f) := hsafe

theorem State.modPipe_safe (s : State) (m : Nat) (f : Pipe → Pipe) (hsafe : Safe s) : Safe (State.modPipe s m f) := hsafe

theorem State.modTach_safe (s : State) (n : Nat) (f : Tach → Tach) (hsafe : Safe s) : Safe (State.modTach s n f) := hsafe

theorem State.modShaft_safe (s : State) (g : Nat) (f : Shaft → Shaft) (hsafe : Safe s) : Safe (State.modShaft s g f) := hsafe

theorem State.modStat_safe (s : State) (k : Nat) (f : StatDef → StatDef) (hsafe : Safe s) :
    Safe (State.modStat s k f) := hsafe

theorem State.modUnit_safe (s : State) (u : Nat) (f : TrigUnit → TrigUnit) (hsafe : Safe s) :
    Safe (State.modUnit s u f) := hsafe

theorem State.modPin_safe (s : State) (p : Nat) (f : FieldPin → FieldPin) (hsafe : Safe s) :
    Safe (State.modPin s p f) := hsafe

theorem State.modStream_safe (s : State) (gsi : Nat) (f : Stream → Stream) (hsafe : Safe s) :
    Safe (State.modStream s gsi f) := hsafe

theorem State.modSub_safe (s : State) (h : Nat) (f : Sub → Sub) (hsafe : Safe s) : Safe (State.modSub s h f) := hsafe

theorem State.modPort_safe (s : State) (p : Nat) (f : Port → Port) (hsafe : Safe s) : Safe (State.modPort s p f) := hsafe

theorem State.modDram_safe (s : State) (c : Nat) (f : DramChan → DramChan) (hsafe : Safe s) :
    Safe (State.modDram s c f) := hsafe

theorem State.modFunc_safe (s : State) (f : Nat) (g : Func → Func) (hsafe : Safe s) : Safe (State.modFunc s f g) := hsafe

theorem State.modTenant_safe (s : State) (t : Nat) (f : Tenant → Tenant) (hsafe : Safe s) :
    Safe (State.modTenant s t f) := hsafe

theorem State.modQueue_safe (s : State) (t : Nat) (q : Nat) (f : Queue → Queue) (hsafe : Safe s) :
    Safe (State.modQueue s t q f) := hsafe

theorem State.modSensor_safe (s : State) (i : Nat) (f : Sensor → Sensor) (hsafe : Safe s) :
    Safe (State.modSensor s i f) := hsafe

theorem State.modBus_safe (s : State) (b : Nat) (f : Bus → Bus) (hsafe : Safe s) : Safe (State.modBus s b f) := hsafe

theorem State.modLane_safe (s : State) (l : Nat) (f : Prbs → Prbs) (hsafe : Safe s) : Safe (State.modLane s l f) := hsafe

theorem State.modReq_safe (s : State) (i : Nat) (r : Nat) (f : Requester → Requester) (hsafe : Safe s) :
    Safe (State.modReq s i r f) := hsafe

theorem State.modInst_safe (s : State) (i : Nat) (f : ArbInst → ArbInst) (hsafe : Safe s) :
    Safe (State.modInst s i f) := hsafe

theorem sendDecision_safe (d : Decision) (s : State) (hsafe : Safe s) : Safe (sendDecision d s) := by
  unfold sendDecision; dsimp only
  repeat' (first | with_reducible assumption  | exact Safe.fold (by assumption) | split | intro _)

theorem drivePin_safe (p : Nat) (level : Bool) (s : State) (hsafe : Safe s) : Safe (drivePin p level s) := by
  unfold drivePin
  repeat' (first | with_reducible assumption | with_reducible apply State.modPin_safe | split | intro _)

theorem execSpanExcursion_safe (ch : Nat) (pin : Nat) (start : Bool) (t : Inst) (s : State) (hsafe : Safe s) :
    OutSafe (execSpanExcursion ch pin start t s) := by
  unfold execSpanExcursion; dsimp only
  repeat' (first
      | with_reducible assumption | apply outSafe_next | with_reducible apply touch_safe | with_reducible apply event_safe
      | with_reducible apply State.modChan_safe | with_reducible apply postAt_safe | exact Safe.fold (by assumption)
      | split | intro _)

theorem reportBias_safe (ch : Nat) (new : Bias) (s : State) (hsafe : Safe s) : Safe (reportBias ch new s) := by
  unfold reportBias; dsimp only
  repeat' (first
      | with_reducible assumption | with_reducible apply State.modChan_safe | with_reducible apply post_safe
      | exact Safe.fold (by assumption) | split | intro _)

theorem startAcquisition_safe (ch : Nat) (g : Nat) (s : State) (hsafe : Safe s) : Safe (startAcquisition ch g s) := by
  unfold startAcquisition
  repeat' (first
      | with_reducible assumption | with_reducible apply reportBias_safe | with_reducible apply State.modChan_safe | split
      | intro _)

theorem biasSwath_safe (ch : Nat) (vb : Int) (s : State) (hsafe : Safe s) : Safe (biasSwath ch vb s) := hsafe

theorem execBiasState_safe (ch : Nat) (s : State) (hsafe : Safe s) : OutSafe (execBiasState ch s) := by
  unfold execBiasState; dsimp only
  repeat' (first
      | with_reducible assumption | apply outSafe_next | with_reducible apply event_safe
      | with_reducible apply reportBias_safe | exact Safe.fold (by assumption) | split | intro _)

theorem execFastAcquisitionEnd_safe (ch : Nat) (s : State) (hsafe : Safe s) : OutSafe (execFastAcquisitionEnd ch s) := by
  unfold execFastAcquisitionEnd; dsimp only
  repeat' (first
      | with_reducible assumption | apply outSafe_next | with_reducible apply event_safe
      | with_reducible apply State.modChan_safe | with_reducible apply reportBias_safe | exact Safe.fold (by assumption)
      | split | intro _)

theorem execExcLimit_safe (g : Nat) (mv : Nat) (ua : Nat) (s : State) (hsafe : Safe s) :
    OutSafe (execExcLimit g mv ua s) := by
  unfold execExcLimit; dsimp only
  repeat' (first
      | with_reducible assumption | apply outSafe_next | with_reducible apply event_safe
      | with_reducible apply State.modGroup_safe | with_reducible apply post_safe | exact Safe.fold (by assumption)
      | split | intro _)

theorem execExcLimitExit_safe (g : Nat) (mv : Nat) (ua : Nat) (s : State) (hsafe : Safe s) :
    OutSafe (execExcLimitExit g mv ua s) := by
  unfold execExcLimitExit
  repeat' (first
      | with_reducible assumption | apply outSafe_next | with_reducible apply event_safe
      | with_reducible apply State.modGroup_safe | with_reducible apply post_safe | split | intro _)

theorem execExcFault_safe (g : Nat) (s : State) (hsafe : Safe s) : OutSafe (execExcFault g s) := by
  unfold execExcFault; dsimp only
  repeat' (first
      | with_reducible assumption | apply outSafe_next | with_reducible apply event_safe
      | with_reducible apply State.modGroup_safe | with_reducible apply post_safe | exact Safe.fold (by assumption)
      | split | intro _)

theorem execExcRetry_safe (g : Nat) (s : State) (hsafe : Safe s) : OutSafe (execExcRetry g s) := by
  unfold execExcRetry; dsimp only
  repeat' (first
      | with_reducible assumption | apply outSafe_next | with_reducible apply event_safe
      | with_reducible apply State.modGroup_safe | with_reducible apply post_safe | exact Safe.fold (by assumption)
      | split | intro _)

theorem execExcWindowFlag_safe (g : Nat) (outside : Bool) (mv : Nat) (s : State) (hsafe : Safe s) :
    OutSafe (execExcWindowFlag g outside mv s) := by
  unfold execExcWindowFlag
  repeat' (first
      | with_reducible assumption | apply outSafe_next | with_reducible apply event_safe
      | with_reducible apply State.modGroup_safe | split | intro _)

theorem groupSwath_safe (n : Nat) (g : Nat) (s : State) (hsafe : Safe s) : Safe (groupSwath n g s) := hsafe

theorem groupSwaths_safe (s : State) (hsafe : Safe s) : Safe (groupSwaths s) := by
  unfold groupSwaths
  repeat' (first
      | with_reducible assumption | with_reducible apply drawn_safe | with_reducible apply each_safe
      | with_reducible apply groupSwath_safe | split | intro _)

theorem execExcSettled_safe (g : Nat) (s : State) (hsafe : Safe s) : OutSafe (execExcSettled g s) := by
  unfold execExcSettled; dsimp only
  repeat' (first
      | with_reducible assumption | apply outSafe_next | with_reducible apply event_safe
      | with_reducible apply State.modGroup_safe | exact Safe.fold (by assumption) | split | intro _)

theorem execExcLocalSense_safe (g : Nat) (mv : Nat) (s : State) (hsafe : Safe s) : OutSafe (execExcLocalSense g mv s) := by
  unfold execExcLocalSense; dsimp only
  repeat' (first
      | with_reducible assumption | apply outSafe_next | with_reducible apply event_safe | with_reducible apply post_safe
      | with_reducible apply State.modGroup_safe | exact Safe.fold (by assumption) | split | intro _)

theorem execExcRemoteSenseReturn_safe (g : Nat) (mv : Nat) (s : State) (hsafe : Safe s) :
    OutSafe (execExcRemoteSenseReturn g mv s) := by
  unfold execExcRemoteSenseReturn
  repeat' (first
      | with_reducible assumption | apply outSafe_next | with_reducible apply event_safe | with_reducible apply post_safe
      | with_reducible apply State.modGroup_safe | split | intro _)

theorem keepDriver_safe (g : Nat) (was : Group) (code : Nat) (s : State) (hsafe : Safe s) :
    Safe (keepDriver g was code s) := hsafe

theorem setVoltage_safe (g : Nat) (code : Nat) (b : Inst) (s : State) (hsafe : Safe s) : Safe (setVoltage g code b s) := by
  unfold setVoltage
  repeat' (first | with_reducible assumption | with_reducible apply State.modGroup_safe | split | intro _)

theorem setRole_safe (g : Nat) (r : ExcRole) (s : State) (hsafe : Safe s) : Safe (setRole g r s) := hsafe

theorem setRoles_safe (r : ExcRole) (s : State) (hsafe : Safe s) : Safe (setRoles r s) := by
  unfold setRoles
  repeat' (first
      | with_reducible assumption | with_reducible apply each_safe | with_reducible apply setRole_safe | split | intro _)

theorem takeLoad_safe (s : State) (hsafe : Safe s) : Safe (takeLoad s) := by
  unfold takeLoad
  repeat' (first
      | with_reducible assumption | with_reducible apply each_safe | with_reducible apply State.modGroup_safe | split
      | intro _)

theorem recoverGroups_safe (s : State) (hsafe : Safe s) : Safe (recoverGroups s) := by
  unfold recoverGroups
  repeat' (first
      | with_reducible assumption | with_reducible apply each_safe | with_reducible apply State.modGroup_safe
      | with_reducible apply setRoles_safe | split | intro _)

theorem followCurrent_safe (g : Nat) (ua : Nat) (s : State) (hsafe : Safe s) : Safe (followCurrent g ua s) := by
  unfold followCurrent
  repeat' (first
      | with_reducible assumption | with_reducible apply State.modGroup_safe | with_reducible apply when_safe
      | with_reducible apply post_safe | split | intro _)

theorem State.modFifo_safe (s : State) (key : Nat) (f : Fifo → Fifo) (hsafe : Safe s) : Safe (State.modFifo s key f) := hsafe

theorem pushWord_safe (row : Nat) (inst : Nat) (bits : Nat) (s : State) (hsafe : Safe s) :
    Safe (pushWord row inst bits s) := by
  unfold pushWord; dsimp only
  repeat' (first
      | with_reducible assumption | with_reducible apply bump_safe | with_reducible apply State.modFifo_safe
      | exact Safe.fold (by assumption) | split | intro _)

theorem popWord_safe (row : Nat) (inst : Nat) (s : State) (hsafe : Safe s) : Safe (popWord row inst s).2 := by
  unfold popWord; dsimp only
  repeat' (first
      | with_reducible assumption | with_reducible apply when_safe | with_reducible apply bump_safe
      | with_reducible apply State.modFifo_safe | exact Safe.fold (by assumption) | split | intro _)

theorem harmWord_safe (row : Nat) (inst : Nat) (dropped : Bool) (s : State) (hsafe : Safe s) :
    Safe (harmWord row inst dropped s) := by
  unfold harmWord; apply bump_safe; exact hsafe

theorem refuse_safe (st : Status) (s : State) (hsafe : Safe s) : Safe (refuse st s).2 := hsafe

theorem refuseFull_safe (limit : Nat) (s : State) (hsafe : Safe s) : Safe (refuseFull limit s).2 := hsafe

theorem checked_safe (l : List (Bool × Status)) (s : State) (body : State → Reply × State)
    (hb : ∀ s, Safe s → Safe (body s).2) (h : Safe s) : Safe (checked l s body).2 := by
  unfold checked; split
  · exact h
  · exact hb s h

theorem raise_safe (fn : Nat) (v : Nat) (s : State) (hsafe : Safe s) : Safe (raise fn v s) := hsafe

theorem raiseQueue_safe (fn : Nat) (v : Nat) (s : State) (hsafe : Safe s) : Safe (raiseQueue fn v s) := hsafe

theorem raiseDue_safe (s : State) (hsafe : Safe s) : Safe (raiseDue s) := by
  unfold raiseDue
  repeat' (first
      | with_reducible assumption | with_reducible apply each_safe | with_reducible apply raiseQueue_safe | split | intro _)

theorem withHealth_safe (f : State → State) (s : State) (hf : ∀ s, Safe s → Safe (f s)) (h : Safe s) :
    Safe (withHealth f s) := by
  unfold withHealth; dsimp only; split
  · exact hf s h
  · exact each_safe _ _ _ (fun a s h => when_safe _ _ _ (fun s h => raise_safe a 9 s h) h) (hf s h)

theorem remoteFrame_safe (t : Nat) (kind : Nat) (cpls : List Cpl) (dmas : List DmaCpl) (s : State) (hsafe : Safe s) :
    Safe (remoteFrame t kind cpls dmas s) := hsafe

theorem putSlot_safe (t : Nat) (q : Nat) (slot : CplSlot) (s : State) (hsafe : Safe s) : Safe (putSlot t q slot s) := by
  unfold putSlot; dsimp only
  repeat' (first
      | with_reducible assumption | with_reducible apply remoteFrame_safe | with_reducible apply when_safe
      | with_reducible apply raiseQueue_safe | with_reducible apply State.modQueue_safe | exact Safe.fold (by assumption)
      | split | intro _)

theorem putCpl_safe (t : Nat) (q : Nat) (c : Cpl) (s : State) (hsafe : Safe s) : Safe (putCpl t q c s) := by
  unfold putCpl; apply putSlot_safe; exact hsafe

theorem putDma_safe (t : Nat) (q : Nat) (d : DmaCpl) (s : State) (hsafe : Safe s) : Safe (putDma t q d s) := by
  unfold putDma; apply putSlot_safe; exact hsafe

theorem noteUse_safe (id : Nat) (n : Nat) (s : State) (hsafe : Safe s) : Safe (noteUse id n s) := hsafe

theorem journalWrite_safe (r : JRec) (s : State) (hsafe : Safe s) : Safe (journalWrite r s) := hsafe

theorem journalReply_safe (op : Nat) (c : Cmd) (r : Reply) (s : State) (hsafe : Safe s) : Safe (journalReply op c r s) := by
  unfold journalReply
  repeat' (first
      | with_reducible assumption | with_reducible apply journalWrite_safe | with_reducible apply noteUse_safe | split
      | intro _)

theorem journalEnd_safe (key : Nat × Nat) (tag : BitVec 32) (st : Status) (n : Nat) (objState : Option Nat) (s :
    State) (hsafe : Safe s) : Safe (journalEnd key tag st n objState s) := hsafe

theorem leaveExec_safe (t : Nat) (tag : BitVec 32) (s : State) (hsafe : Safe s) : Safe (leaveExec t tag s) := hsafe

theorem stayExec_safe (op : Nat) (c : Cmd) (holds : Bool) (s : State) (hsafe : Safe s) :
    Safe (stayExec op c holds s) := hsafe

theorem discard_safe (c : Cmd) (s : State) (hsafe : Safe s) : Safe (discard c s) := by
  unfold discard
  repeat' (first
      | with_reducible assumption | with_reducible apply bump_safe | with_reducible apply putCpl_safe | split | intro _)

theorem finish_safe (t : Nat) (q : Nat) (tag : BitVec 32) (r : Reply) (mirrored : Bool) (s : State) (hsafe : Safe s) :
    Safe (finish t q tag r mirrored s) := by
  unfold finish
  repeat' (first
      | with_reducible assumption | with_reducible apply putCpl_safe | with_reducible apply leaveExec_safe | split | intro _)

theorem finishLater_safe (t : Nat) (q : Nat) (tag : BitVec 32) (r : Reply) (objState : Option Nat) (s : State) (hsafe :
    Safe s) : Safe (finishLater t q tag r objState s) := by
  unfold finishLater
  repeat' (first
      | with_reducible assumption | with_reducible apply finish_safe | with_reducible apply journalEnd_safe | split
      | intro _)

theorem putBuf_safe (c : Cmd) (bytes : List Byte) (s : State) (hsafe : Safe s) : Safe (putBuf c bytes s) := hsafe

theorem noResourceEntry_safe (op : Nat) (c : Cmd) (r : Reply) (s : State) (hsafe : Safe s) :
    Safe (noResourceEntry op c r s) := by
  unfold noResourceEntry
  repeat' (first
      | with_reducible assumption | with_reducible apply when_safe | with_reducible apply post_safe | split | intro _)

theorem answer_safe (op : Nat) (c : Cmd) (mirrored : Bool) (r : Reply) (s : State) (hsafe : Safe s) :
    Safe (answer op c mirrored r s) := by
  unfold answer
  repeat' (first
      | with_reducible assumption | with_reducible apply putBuf_safe | with_reducible apply noResourceEntry_safe
      | with_reducible apply journalReply_safe | with_reducible apply stayExec_safe | with_reducible apply putCpl_safe
      | with_reducible apply finish_safe | split | intro _)

theorem withMarks_safe (op : Nat) (c : Cmd) (body : State → Reply × State) (s : State)
    (hb : ∀ s, Safe s → Safe (body s).2) (h : Safe s) : Safe (withMarks op c body s).2 := by
  unfold withMarks; split
  · exact h
  · dsimp only; split
    · exact h
    · exact hb s h

theorem command_safe (op : Nat) (self : Instr) (c : Cmd) (body : State → Reply × State) (s : State)
    (hb : ∀ s, Safe s → Safe (body s).2) (h : Safe s) : OutSafe (command op self c body s) := by
  unfold command; dsimp only
  refine outSafe_next ?_
  have ht : Safe (touch c.at_ s) := touch_safe _ _ h
  generalize touch c.at_ s = u at ht ⊢
  split
  · exact discard_safe _ _ ht
  split
  · exact putCpl_safe _ _ _ _ ht
  have hm := withMarks_safe op c body u hb ht
  split
  · split
    · exact stayExec_safe op c true _ ht
    · exact answer_safe _ _ _ _ _ ht
  · refine answer_safe _ _ _ _ _ (when_safe _ _ _ (fun s h => h) hm)

theorem report_safe (c : Cmd) (size : Nat) (items : List (List Byte)) (result : Nat → List Byte) (s : State) (hsafe :
    Safe s) : Safe (report c size items result s).2 := hsafe

theorem done_safe (result : List Byte) (s : State) (hsafe : Safe s) : Safe (done result s).2 := hsafe

theorem switchSource_safe (ch : Nat) (g : Nat) (src : Option Nat) (s : State) (hsafe : Safe s) :
    Safe (switchSource ch g src s) := hsafe

theorem holdSamples_safe (ch : Nat) (p : Patch) (s : State) (hsafe : Safe s) : Safe (holdSamples ch p s) := hsafe

theorem endHolds_safe (ch : Nat) (t : Inst) (s : State) (hsafe : Safe s) : Safe (endHolds ch t s) := hsafe

theorem checkLastSpare_safe (t : Nat) (s : State) (hsafe : Safe s) : Safe (checkLastSpare t s) := by
  unfold checkLastSpare; dsimp only
  repeat' (first
      | with_reducible assumption | with_reducible apply post_safe | with_reducible apply State.modTile_safe
      | exact Safe.fold (by assumption) | split | intro _)

theorem setSpare_safe (m : Nat) (g : Nat) (st : SpareState) (src : Option Nat) (s : State) (hsafe : Safe s) :
    Safe (setSpare m g st src s) := by
  unfold setSpare; dsimp only
  repeat' (first
      | with_reducible assumption | with_reducible apply State.modSpare_safe | with_reducible apply checkLastSpare_safe
      | with_reducible apply postAt_safe | exact Safe.fold (by assumption) | split | intro _)

theorem setCalState_safe (ch : Nat) (st : CalState) (s : State) (hsafe : Safe s) : Safe (setCalState ch st s) := by
  unfold setCalState
  repeat' (first
      | with_reducible assumption | with_reducible apply withHealth_safe | with_reducible apply State.modChan_safe | split
      | intro _)

theorem calOutcome_safe (m : Nat) (code : Nat) (s : State) (hsafe : Safe s) : Safe (calOutcome m code s) := by
  unfold calOutcome
  repeat' (first
      | with_reducible assumption | with_reducible apply finishLater_safe | with_reducible apply State.modModu_safe
      | split | intro _)

theorem keepSet_safe (m : Nat) (s : State) (hsafe : Safe s) : Safe (keepSet m s) := hsafe

theorem markSettle_safe (m : Nat) (cyc : Nat) (s : State) (hsafe : Safe s) : Safe (markSettle m cyc s) := hsafe

theorem applyTrims_safe (m : Nat) (g : Nat) (gain : Nat) (offs : Int) (s : State) (hsafe : Safe s) :
    Safe (applyTrims m g gain offs s) := by
  unfold applyTrims; dsimp only
  repeat' (first
      | with_reducible assumption | with_reducible apply keepSet_safe | with_reducible apply markSettle_safe
      | with_reducible apply State.modModu_safe | exact Safe.fold (by assumption) | split | intro _)

theorem startEst_safe (m : Nat) (g : Nat) (s : State) (hsafe : Safe s) : Safe (startEst m g s) := hsafe

theorem roundsOver_safe (t : Nat) (s : State) (hsafe : Safe s) : Safe (roundsOver t s) := by
  unfold roundsOver
  repeat' (first
      | with_reducible assumption | with_reducible apply each_safe | with_reducible apply State.modChan_safe
      | with_reducible apply State.modTile_safe | split | intro _)

theorem startRound_safe (t : Nat) (n k : Nat) (s : State) (hsafe : Safe s) : Safe (startRound t n k s) := by
  induction n generalizing k s with
  | zero => exact roundsOver_safe t s hsafe
  | succ n ih =>
    unfold startRound
    refine safe_ite (fun _ => roundsOver_safe t s hsafe) (fun _ => safe_ite (fun _ => ih _ _ hsafe) (fun _ => ?_))
    exact each_safe _ _ _ (fun _ _ h => startEst_safe _ _ _ h) (State.modTile_safe _ _ _ hsafe)

theorem roundDone_safe (m : Nat) (s : State) (hsafe : Safe s) : Safe (roundDone m s) := by
  unfold roundDone; dsimp only
  repeat' (first
      | with_reducible assumption | with_reducible apply State.modTile_safe | with_reducible apply startRound_safe
      | exact Safe.fold (by assumption) | split | intro _)

theorem dropCal_safe (m : Nat) (s : State) (hsafe : Safe s) : Safe (dropCal m s) := by
  unfold dropCal
  repeat' (first
      | with_reducible assumption | with_reducible apply roundDone_safe | with_reducible apply State.modModu_safe | split
      | intro _)

theorem claimSpare_safe (ch : Nat) (m : Nat) (cv : Cover) (s : State) (hsafe : Safe s) : Safe (claimSpare ch m cv s).2 := by
  unfold claimSpare
  repeat' (first
      | with_reducible assumption | with_reducible apply State.modChan_safe | with_reducible apply dropCal_safe
      | with_reducible apply State.modSpare_safe | split | intro _)

theorem askStop_safe (ch : Nat) (g : Nat) (s : State) (hsafe : Safe s) : Safe (askStop ch g s) := by
  unfold askStop; dsimp only
  repeat' (first
      | with_reducible assumption | with_reducible apply State.modChan_safe | with_reducible apply sendDecision_safe
      | exact Safe.fold (by assumption) | split | intro _)

theorem applySet_safe (n k : Nat) (s : State) (hsafe : Safe s) : Safe (applySet n k s) := by
  induction n generalizing k s with
  | zero => exact hsafe
  | succ n ih =>
    unfold applySet
    try dsimp only
    iterate 60 all_goals (try (first
        | with_reducible assumption | with_reducible apply State.modModu_safe | with_reducible apply State.modChan_safe
        | with_reducible apply claimSpare_safe | with_reducible apply askStop_safe | with_reducible apply setCalState_safe
        | with_reducible apply roundDone_safe| with_reducible apply ih | with_reducible apply outSafe_next
        | with_reducible apply optSafe_some | with_reducible exact optSafe_none | with_reducible apply safe_ite
        | (intro _; try dsimp only) | split | (with_reducible refine safe_snd ?_ (by assumption))
        | (with_reducible refine safe_fst ?_ (by assumption))
        | (change SafeParts _ _ _ _ _ _ _ _; try dsimp only; with_reducible refine Safe.fold ?_)))

theorem failChannel_safe (ch : Nat) (criterion : Nat) (valid : Bool) (s : State) (hsafe : Safe s) :
    Safe (failChannel ch criterion valid s) := by
  unfold failChannel
  repeat' (first
      | with_reducible assumption | with_reducible apply withHealth_safe | with_reducible apply State.modChan_safe
      | with_reducible apply postAt_safe | with_reducible apply holdSamples_safe | split | intro _)

theorem remap_safe (ch : Nat) (criterion : Nat) (valid : Bool) (s : State) (hsafe : Safe s) :
    Safe (remap ch criterion valid s) := by
  unfold remap; dsimp only
  repeat' (first
      | with_reducible assumption | with_reducible apply holdSamples_safe | with_reducible apply State.modChan_safe
      | with_reducible apply failChannel_safe | with_reducible apply claimSpare_safe | with_reducible apply applySet_safe
      | exact Safe.fold (by assumption) | split | intro _)

theorem claimFor_safe (ch : Nat) (m : Nat) (cv : Cover) (s : State) (hsafe : Safe s) : Safe (claimFor ch m cv s) := by
  unfold claimFor
  try dsimp only
  iterate 60 all_goals (try (first
      | with_reducible assumption | with_reducible apply claimSpare_safe | with_reducible apply applySet_safe
      | with_reducible apply outSafe_next | with_reducible apply optSafe_some | with_reducible exact optSafe_none
      | with_reducible apply safe_ite | (intro _; try dsimp only) | split
      | (with_reducible refine safe_snd ?_ (by assumption)) | (with_reducible refine safe_fst ?_ (by assumption))
      | (change SafeParts _ _ _ _ _ _ _ _; try dsimp only; with_reducible refine Safe.fold ?_)))

theorem moveCover_safe (ch : Nat) (s : State) (hsafe : Safe s) : Safe (moveCover ch s) := by
  unfold moveCover
  repeat' (first | with_reducible assumption | with_reducible apply claimFor_safe | split | intro _)

theorem spareFreed_safe (t : Nat) (s : State) (hsafe : Safe s) : Safe (spareFreed t s) := by
  unfold spareFreed
  repeat' (first
      | with_reducible assumption | with_reducible apply claimSpare_safe | with_reducible apply remap_safe
      | with_reducible apply applySet_safe | with_reducible apply moveCover_safe | split | intro _)

theorem loseCover_safe (ch : Nat) (s : State) (hsafe : Safe s) : Safe (loseCover ch s) := by
  unfold loseCover
  repeat' (first
      | with_reducible assumption | with_reducible apply moveCover_safe | with_reducible apply State.modChan_safe
      | with_reducible apply remap_safe | with_reducible apply applySet_safe | split | intro _)

theorem failSpare_safe (m : Nat) (criterion : Nat) (valid : Bool) (s : State) (hsafe : Safe s) :
    Safe (failSpare m criterion valid s) := by
  unfold failSpare; dsimp only
  repeat' (first
      | with_reducible assumption | with_reducible apply State.modSpare_safe | with_reducible apply State.modModu_safe
      | with_reducible apply loseCover_safe | with_reducible apply remap_safe | with_reducible apply holdSamples_safe
      | with_reducible apply State.modChan_safe | exact Safe.fold (by assumption) | split | intro _)

theorem declareFailed_safe (m : Nat) (criterion : Nat) (valid : Bool) (s : State) (hsafe : Safe s) :
    Safe (declareFailed m criterion valid s) := by
  unfold declareFailed
  repeat' (first
      | with_reducible assumption | with_reducible apply dropCal_safe | with_reducible apply calOutcome_safe
      | with_reducible apply post_safe | with_reducible apply failSpare_safe | with_reducible apply remap_safe | split
      | intro _)

theorem execModFailed_safe (m : Nat) (criterion : Nat) (validCodes : Bool) (s : State) (hsafe : Safe s) :
    OutSafe (execModFailed m criterion validCodes s) := by
  unfold execModFailed
  repeat' (first
      | with_reducible assumption | apply outSafe_next | with_reducible apply event_safe
      | with_reducible apply declareFailed_safe | split | intro _)

theorem execSpareSuspect_safe (m : Nat) (s : State) (hsafe : Safe s) : OutSafe (execSpareSuspect m s) := by
  unfold execSpareSuspect; dsimp only
  repeat' (first
      | with_reducible assumption | apply outSafe_next | with_reducible apply event_safe
      | with_reducible apply State.modSpare_safe | with_reducible apply post_safe | with_reducible apply moveCover_safe
      | with_reducible apply loseCover_safe | exact Safe.fold (by assumption) | split | intro _)

theorem execModLoopReset_safe (m : Nat) (s : State) (hsafe : Safe s) : OutSafe (execModLoopReset m s) := by
  unfold execModLoopReset; dsimp only
  repeat' (first
      | with_reducible assumption | apply outSafe_next | with_reducible apply event_safe | with_reducible apply bump_safe
      | with_reducible apply State.modModu_safe | exact Safe.fold (by assumption) | split | intro _)

theorem execModLoopRestart_safe (m : Nat) (s : State) (hsafe : Safe s) : OutSafe (execModLoopRestart m s) := by
  unfold execModLoopRestart
  repeat' (first
      | with_reducible assumption | apply outSafe_next | with_reducible apply event_safe
      | with_reducible apply State.modModu_safe | split | intro _)

theorem execModulatorStart_safe (tile : Nat) (s : State) (hsafe : Safe s) : OutSafe (execModulatorStart tile s) := by
  unfold execModulatorStart; dsimp only
  repeat' (first
      | with_reducible assumption | apply outSafe_next | with_reducible apply event_safe | with_reducible apply each_safe
      | with_reducible apply State.modModu_safe | with_reducible apply State.modTile_safe
      | exact Safe.fold (by assumption) | split | intro _)

theorem linkEntry_safe (tile : Nat) (grp : Nat) (ev : Nat) (wire : Nat) (s : State) (hsafe : Safe s) :
    Safe (linkEntry tile grp ev wire s) := by
  unfold linkEntry; apply post_safe; exact hsafe

theorem trainGroup_safe (tile : Nat) (grp : Nat) (bad : List Nat) (s : State) (hsafe : Safe s) :
    Safe (trainGroup tile grp bad s) := by
  unfold trainGroup; dsimp only
  repeat' (first
      | with_reducible assumption | with_reducible apply State.modLink_safe | with_reducible apply linkEntry_safe
      | exact Safe.fold (by assumption) | split | intro _)

theorem execTileLinkTrainingDone_safe (tile : Nat) (bad : List Nat) (s : State) (hsafe : Safe s) :
    OutSafe (execTileLinkTrainingDone tile bad s) := by
  unfold execTileLinkTrainingDone
  repeat' (first
      | with_reducible assumption | apply outSafe_next | with_reducible apply event_safe | with_reducible apply each_safe
      | with_reducible apply trainGroup_safe | with_reducible apply State.modTile_safe
      | with_reducible apply declareFailed_safe | split | intro _)

theorem suspendCovers_safe (tile : Nat) (s : State) (hsafe : Safe s) : Safe (suspendCovers tile s) := by
  unfold suspendCovers
  repeat' (first
      | with_reducible assumption | with_reducible apply each_safe | with_reducible apply State.modChan_safe
      | with_reducible apply State.modModu_safe | split | intro _)

theorem resumeCovers_safe (tile : Nat) (s : State) (hsafe : Safe s) : Safe (resumeCovers tile s) := by
  unfold resumeCovers
  repeat' (first
      | with_reducible assumption | with_reducible apply each_safe | with_reducible apply State.modChan_safe | split
      | intro _)

theorem execRefSettled_safe (tile : Nat) (s : State) (hsafe : Safe s) : OutSafe (execRefSettled tile s) := by
  unfold execRefSettled; dsimp only
  repeat' (first
      | with_reducible assumption | apply outSafe_next | with_reducible apply event_safe
      | with_reducible apply State.modTile_safe | with_reducible apply when_safe | with_reducible apply post_safe
      | with_reducible apply resumeCovers_safe | exact Safe.fold (by assumption) | split | intro _)

theorem execTileClockLost_safe (tile : Nat) (grp : Nat) (s : State) (hsafe : Safe s) :
    OutSafe (execTileClockLost tile grp s) := by
  unfold execTileClockLost
  repeat' (first
      | with_reducible assumption | apply outSafe_next | with_reducible apply event_safe
      | with_reducible apply State.modLink_safe | with_reducible apply suspendCovers_safe
      | with_reducible apply linkEntry_safe | split | intro _)

theorem execTileGroupRetrain_safe (tile : Nat) (grp : Nat) (clockBack : Bool) (s : State) (hsafe : Safe s) :
    OutSafe (execTileGroupRetrain tile grp clockBack s) := by
  unfold execTileGroupRetrain
  repeat' (first
      | with_reducible assumption | apply outSafe_next | with_reducible apply event_safe
      | with_reducible apply linkEntry_safe | with_reducible apply State.modLink_safe | with_reducible apply when_safe
      | with_reducible apply resumeCovers_safe | split | intro _)

theorem execTileRepairSwitch_safe (tile : Nat) (grp : Nat) (s : State) (hsafe : Safe s) :
    OutSafe (execTileRepairSwitch tile grp s) := by
  unfold execTileRepairSwitch; dsimp only
  repeat' (first
      | with_reducible assumption | apply outSafe_next | with_reducible apply event_safe
      | with_reducible apply State.modLink_safe | exact Safe.fold (by assumption) | split | intro _)

theorem turnLink_safe (key : Nat) (g : Nat) (s : State) (hsafe : Safe s) : Safe (turnLink key g s) := by
  unfold turnLink; dsimp only
  repeat' (first
      | with_reducible assumption | with_reducible apply postAt_safe | with_reducible apply State.modLink_safe
      | exact Safe.fold (by assumption) | split | intro _)

theorem orderRepair_safe (tile : Nat) (grp : Nat) (wire : Nat) (s : State) (hsafe : Safe s) :
    Safe (orderRepair tile grp wire s) := by
  unfold orderRepair; dsimp only
  repeat' (first
      | with_reducible assumption | with_reducible apply linkEntry_safe | with_reducible apply State.modLink_safe
      | exact Safe.fold (by assumption) | split | intro _)

theorem reviewTile_safe (tile : Nat) (s : State) (hsafe : Safe s) : Safe (reviewTile tile s) := by
  unfold reviewTile
  try dsimp only
  iterate 60 all_goals (try (first
      | with_reducible assumption | with_reducible apply each_safe | with_reducible apply when_safe
      | with_reducible apply ctlWrite_safe | with_reducible apply outSafe_next | with_reducible apply optSafe_some
      | with_reducible exact optSafe_none | with_reducible apply safe_ite | (intro _; try dsimp only) | split
      | (with_reducible refine safe_snd ?_ (by assumption)) | (with_reducible refine safe_fst ?_ (by assumption))
      | (change SafeParts _ _ _ _ _ _ _ _; try dsimp only; with_reducible refine Safe.fold ?_)))

theorem calStamp_safe (ch : Nat) (apply : Bool) (s : State) (hsafe : Safe s) : Safe (calStamp ch apply s) := hsafe

theorem degrade_safe (m : Nat) (cause : Nat) (attempts : Nat) (s : State) (hsafe : Safe s) :
    Safe (degrade m cause attempts s) := by
  unfold degrade
  try dsimp only
  iterate 60 all_goals (try (first
      | with_reducible assumption | with_reducible apply State.modModu_safe | with_reducible apply setCalState_safe
      | with_reducible apply State.modChan_safe | with_reducible apply postAt_safe | with_reducible apply calOutcome_safe
      | with_reducible apply State.modSpare_safe | with_reducible apply roundDone_safe | with_reducible apply outSafe_next
      | with_reducible apply optSafe_some | with_reducible exact optSafe_none | with_reducible apply safe_ite
      | (intro _; try dsimp only) | split | (with_reducible refine safe_snd ?_ (by assumption))
      | (with_reducible refine safe_fst ?_ (by assumption))
      | (change SafeParts _ _ _ _ _ _ _ _; try dsimp only; with_reducible refine Safe.fold ?_)))

theorem setApplied_safe (m : Nat) (g : Nat) (mode : Nat) (s : State) (hsafe : Safe s) : Safe (setApplied m g mode s) := by
  unfold setApplied
  repeat' (first
      | with_reducible assumption | with_reducible apply keepSet_safe | with_reducible apply State.modModu_safe
      | with_reducible apply calStamp_safe | with_reducible apply setCalState_safe
      | with_reducible apply State.modChan_safe | with_reducible apply postAt_safe | with_reducible apply calOutcome_safe
      | split | intro _)

theorem attemptDone_safe (m : Nat) (r : CalRun) (s : State) (hsafe : Safe s) : Safe (attemptDone m r s) := by
  unfold attemptDone; dsimp only
  repeat' (first
      | with_reducible assumption | with_reducible apply State.modModu_safe | with_reducible apply State.modChan_safe
      | with_reducible apply calStamp_safe | with_reducible apply calOutcome_safe | with_reducible apply postAt_safe
      | with_reducible apply bump_safe | with_reducible apply applySet_safe | exact Safe.fold (by assumption) | split
      | intro _)

theorem runCounts_safe (m : Nat) (r : CalRun) (s : State) (hsafe : Safe s) : Safe (runCounts m r s) := by
  unfold runCounts
  try dsimp only
  iterate 60 all_goals (try (first
      | with_reducible assumption | with_reducible apply State.modModu_safe | with_reducible apply startEst_safe
      | with_reducible apply attemptDone_safe | with_reducible apply degrade_safe | with_reducible apply outSafe_next
      | with_reducible apply optSafe_some | with_reducible exact optSafe_none | with_reducible apply safe_ite
      | (intro _; try dsimp only) | split | (with_reducible refine safe_snd ?_ (by assumption))
      | (with_reducible refine safe_fst ?_ (by assumption))
      | (change SafeParts _ _ _ _ _ _ _ _; try dsimp only; with_reducible refine Safe.fold ?_)))

theorem execCalRunDone_safe (m : Nat) (r : CalRun) (s : State) (hsafe : Safe s) : OutSafe (execCalRunDone m r s) := by
  unfold execCalRunDone
  try dsimp only
  iterate 60 all_goals (try (first
      | with_reducible assumption | with_reducible apply event_safe | with_reducible apply State.modModu_safe
      | with_reducible apply degrade_safe | with_reducible apply startEst_safe | with_reducible apply runCounts_safe
      | with_reducible apply outSafe_next | with_reducible apply optSafe_some | with_reducible exact optSafe_none
      | with_reducible apply safe_ite | (intro _; try dsimp only) | split
      | (with_reducible refine safe_snd ?_ (by assumption)) | (with_reducible refine safe_fst ?_ (by assumption))
      | (change SafeParts _ _ _ _ _ _ _ _; try dsimp only; with_reducible refine Safe.fold ?_)))

theorem execCoverTakeover_safe (ch : Nat) (gain : Nat × Nat) (offs : Int × Nat) (s : State) (hsafe : Safe s) :
    OutSafe (execCoverTakeover ch gain offs s) := by
  unfold execCoverTakeover; dsimp only
  repeat' (first
      | with_reducible assumption | apply outSafe_next | with_reducible apply event_safe
      | with_reducible apply State.modModu_safe | with_reducible apply State.modChan_safe
      | exact Safe.fold (by assumption) | split | intro _)

theorem execPrimaryRestart_safe (at_ : Nat × Inst) (s : State) (hsafe : Safe s) : OutSafe (execPrimaryRestart at_ s) := by
  unfold execPrimaryRestart; dsimp only
  repeat' (first
      | with_reducible assumption | apply outSafe_next | with_reducible apply touch_safe | with_reducible apply event_safe
      | with_reducible apply State.modModu_safe | with_reducible apply State.modChan_safe
      | with_reducible apply setApplied_safe | with_reducible apply State.modSpare_safe | exact Safe.fold (by assumption)
      | split | intro _)

theorem execCoverHandback_safe (ch : Nat) (gain : Nat × Nat) (offs : Int × Nat) (s : State) (hsafe : Safe s) :
    OutSafe (execCoverHandback ch gain offs s) := by
  unfold execCoverHandback
  repeat' (first
      | with_reducible assumption | apply outSafe_next | with_reducible apply event_safe
      | with_reducible apply State.modModu_safe | with_reducible apply State.modChan_safe | split | intro _)

theorem execRefcheckDone_safe (m : Nat) (gain : Nat) (s : State) (hsafe : Safe s) : OutSafe (execRefcheckDone m gain s) := by
  unfold execRefcheckDone; dsimp only
  repeat' (first
      | with_reducible assumption | apply outSafe_next | with_reducible apply event_safe
      | with_reducible apply State.modSpare_safe | exact Safe.fold (by assumption) | split | intro _)

theorem execSubstitutionEnd_safe (ch : Nat) (s : State) (hsafe : Safe s) : OutSafe (execSubstitutionEnd ch s) := by
  unfold execSubstitutionEnd; dsimp only
  repeat' (first
      | with_reducible assumption | apply outSafe_next | with_reducible apply event_safe
      | with_reducible apply State.modChan_safe | with_reducible apply roundDone_safe
      | with_reducible apply State.modModu_safe | with_reducible apply setApplied_safe | exact Safe.fold (by assumption)
      | split | intro _)

theorem scheduleCal_safe (ch : Nat) (s : State) (hsafe : Safe s) : Safe (scheduleCal ch s) := by
  unfold scheduleCal; dsimp only
  repeat' (first
      | with_reducible assumption | with_reducible apply State.modChan_safe | exact Safe.fold (by assumption) | split
      | intro _)

theorem calTile_safe (t : Nat) (s : State) (hsafe : Safe s) : Safe (calTile t s) := by
  unfold calTile; dsimp only
  repeat' (first
      | with_reducible assumption | with_reducible apply each_safe | with_reducible apply applySet_safe
      | with_reducible apply startEst_safe | exact Safe.fold (by assumption) | split | intro _)

theorem calTask_safe (s : State) (hsafe : Safe s) : Safe (calTask s) := by
  unfold calTask
  repeat' (first
      | with_reducible assumption | with_reducible apply each_safe | with_reducible apply scheduleCal_safe
      | with_reducible apply ctlWrite_safe | split | intro _)

theorem release_safe (i : Nat) (s : State) (hsafe : Safe s) : Safe (release i s) := hsafe

theorem pump_safe (p : Nat) (n : Nat) (s : State) (hsafe : Safe s) : Safe (pump p n s) := by
  induction n generalizing s with
  | zero => exact hsafe
  | succ n ih =>
    unfold pump
    try dsimp only
    iterate 60 all_goals (try (first
        | with_reducible assumption | with_reducible apply State.modPort_safe | with_reducible apply release_safe
        | with_reducible apply bump_safe| with_reducible apply ih | with_reducible apply outSafe_next
        | with_reducible apply optSafe_some | with_reducible exact optSafe_none | with_reducible apply safe_ite
        | (intro _; try dsimp only) | split | (with_reducible refine safe_snd ?_ (by assumption))
        | (with_reducible refine safe_fst ?_ (by assumption))
        | (change SafeParts _ _ _ _ _ _ _ _; try dsimp only; with_reducible refine Safe.fold ?_)))

theorem enqueue_safe (p : Nat) (x : Sent) (s : State) (hsafe : Safe s) : Safe (enqueue p x s) := by
  unfold enqueue
  repeat' (first
      | with_reducible assumption | with_reducible apply State.modPort_safe | with_reducible apply pump_safe | split
      | intro _)

theorem sendFrame_safe (p : Nat) (f : Frame) (s : State) (hsafe : Safe s) : Safe (sendFrame p f s) := by
  unfold sendFrame; apply enqueue_safe; exact hsafe

theorem sendTo_safe (f : Frame) (s : State) (hsafe : Safe s) : Safe (sendTo f s) := by
  unfold sendTo
  repeat' (first | with_reducible assumption | with_reducible apply sendFrame_safe | split | intro _)

theorem forwardOn_safe (p : Nat) (a : Nat) (mark : Option (Nat × Nat)) (f : Frame) (s : State) (hsafe : Safe s) :
    Safe (forwardOn p a mark f s) := by
  unfold forwardOn; apply enqueue_safe; exact hsafe

theorem sendRecord_safe (dest : Nat) (vc : Nat) (gsi : Nat) (h : Nat) (first : Nat) (image : List Byte) (s : State) (hsafe :
    Safe s) : Safe (sendRecord dest vc gsi h first image s) := by
  unfold sendRecord
  repeat' (first
      | with_reducible assumption | with_reducible apply each_safe | with_reducible apply sendTo_safe | split | intro _)

theorem writeOut_safe (b : OutBuf) (s : State) (hsafe : Safe s) : Safe (writeOut b s) := hsafe

theorem cutJob_safe (x : Job) (s : State) (hsafe : Safe s) : Safe (cutJob x s).2 := hsafe

theorem rfm_safe (ch : Nat) (bank : Nat) (s : State) (hsafe : Safe s) : Safe (rfm ch bank s) := hsafe

theorem openRow_safe (req : Nat) (c : Nat) (d : DramPlace) (s : State) (hsafe : Safe s) : Safe (openRow req c d s) := by
  unfold openRow; dsimp only
  repeat' (first
      | with_reducible assumption | with_reducible apply when_safe | with_reducible apply rfm_safe
      | with_reducible apply State.modDram_safe | exact Safe.fold (by assumption) | split | intro _)

theorem issue_safe (req : Nat) (c : Nat) (a : Access) (s : State) (hsafe : Safe s) : Safe (issue req c a s) := by
  unfold issue
  repeat' (first
      | with_reducible assumption | with_reducible apply pushWord_safe | with_reducible apply popWord_safe
      | with_reducible apply when_safe | with_reducible apply State.modFifo_safe | with_reducible apply openRow_safe
      | with_reducible apply State.modDram_safe | split | intro _)

theorem issueOrWait_safe (req : Nat) (c : Nat) (a : Access) (s : State) (hsafe : Safe s) : Safe (issueOrWait req c a s) := by
  unfold issueOrWait
  repeat' (first
      | with_reducible assumption | with_reducible apply State.modDram_safe | with_reducible apply issue_safe | split
      | intro _)

theorem retryWaiting_safe (c : Nat) (s : State) (hsafe : Safe s) : Safe (retryWaiting c s) := by
  unfold retryWaiting
  repeat' (first
      | with_reducible assumption | with_reducible apply each_safe | with_reducible apply issueOrWait_safe
      | with_reducible apply State.modDram_safe | split | intro _)

theorem issueAll_safe (inst : Nat) (burst : List Access) (order : List Nat) (s : State) (hsafe : Safe s) :
    Safe (issueAll inst burst order s) := by
  unfold issueAll; dsimp only
  repeat' (first
      | with_reducible assumption | with_reducible apply retryWaiting_safe | with_reducible apply each_safe
      | with_reducible apply issueOrWait_safe | exact Safe.fold (by assumption) | split | intro _)

theorem store_safe (x : Xact) (s : State) (hsafe : Safe s) : Safe (store x s) := hsafe

theorem storeFront_safe (c : Nat) (s : State) (hsafe : Safe s) : Safe (storeFront c s) := by
  unfold storeFront
  repeat' (first
      | with_reducible assumption | with_reducible apply each_safe | with_reducible apply store_safe
      | with_reducible apply State.modDram_safe | split | intro _)

theorem takeRead_safe (c : Nat) (s : State) (hsafe : Safe s) : Safe (takeRead c s) := by
  unfold takeRead
  repeat' (first
      | with_reducible assumption | with_reducible apply storeFront_safe | with_reducible apply State.modDram_safe | split
      | intro _)

theorem readWord_safe (c : Nat) (data : Nat) (upset : Bool) (s : State) (hsafe : Safe s) :
    Safe (readWord c data upset s).2 := by
  unfold readWord
  repeat' (first
      | with_reducible assumption | with_reducible apply pushWord_safe | with_reducible apply popWord_safe
      | with_reducible apply when_safe | with_reducible apply State.modFifo_safe | split | intro _)

theorem setAddress_safe (a : Nat) (s : State) (hsafe : Safe s) : Safe (setAddress a s) := hsafe

/-- A change of the memory part alone. -/
theorem Safe.memAs {s : State} (x : Mem) (h : Safe s) : Safe { s with mem := x } := h

theorem emitItem_safe (key : Nat) (it : Item) (desc : List Byte) (angle : Bool) (s : State) (hsafe : Safe s) :
    Safe (emitItem key it desc angle s) := by
  unfold emitItem
  refine safe_ite (fun _ => hsafe) (fun _ => safe_ite (fun _ => ?_) (fun _ => ?_))
  · exact bump_safe _ _ (Safe.memAs _ (State.modStream_safe _ _ _ hsafe))
  · exact Safe.memAs _ (State.modStream_safe _ _ _ hsafe)

theorem rateChange_safe (key : Nat) (s : State) (hsafe : Safe s) : Safe (rateChange key s) := by
  unfold rateChange
  repeat' (first
      | with_reducible assumption | with_reducible apply sendDecision_safe | with_reducible apply State.modStream_safe
      | split | intro _)

theorem startStream_safe (key : Nat) (s : State) (hsafe : Safe s) : Safe (startStream key s) := by
  unfold startStream
  repeat' (first
      | with_reducible assumption | with_reducible apply State.modStream_safe | with_reducible apply noteUse_safe | split
      | intro _)

theorem endStream_safe (key : Nat) (t : Inst) (s : State) (hsafe : Safe s) : Safe (endStream key t s) := by
  unfold endStream
  repeat' (first | with_reducible assumption | with_reducible apply State.modStream_safe | split | intro _)

theorem dropEntry_safe (key : Nat) (h : Nat) (reason : Nat) (first : Nat) (last : Nat) (s : State) (hsafe : Safe s) :
    Safe (dropEntry key h reason first last s) := by
  unfold dropEntry; apply post_safe; exact hsafe

theorem outrunAll_safe (key : Nat) (gone : List Record) (s : State) (hsafe : Safe s) : Safe (outrunAll key gone s) := by
  unfold outrunAll
  repeat' (first
      | with_reducible assumption | with_reducible apply each_safe | with_reducible apply State.modSub_safe | split
      | intro _)

theorem ringWrite_safe (key : Nat) (r : Record) (s : State) (hsafe : Safe s) : Safe (ringWrite key r s) := by
  unfold ringWrite
  repeat' (first
      | with_reducible assumption | with_reducible apply State.modStream_safe | with_reducible apply outrunAll_safe
      | split | intro _)

theorem publishOne_safe (key : Nat) (s : State) (hsafe : Safe s) : Safe (publishOne key s) := by
  unfold publishOne
  try dsimp only
  iterate 60 all_goals (try (first
      | with_reducible assumption | with_reducible apply State.modStream_safe | with_reducible apply bump_safe
      | with_reducible apply outSafe_next | with_reducible apply optSafe_some | with_reducible exact optSafe_none
      | with_reducible apply safe_ite | (intro _; try dsimp only) | split
      | (with_reducible refine safe_snd ?_ (by assumption)) | (with_reducible refine safe_fst ?_ (by assumption))
      | (change SafeParts _ _ _ _ _ _ _ _; try dsimp only; with_reducible refine Safe.fold ?_)))

theorem publishAll_safe (g : Nat) (s : State) (hsafe : Safe s) : Safe (publishAll g s) := by
  unfold publishAll
  try dsimp only
  iterate 60 all_goals (try (first
      | with_reducible assumption | with_reducible apply each_safe | with_reducible apply publishOne_safe
      | with_reducible apply outSafe_next | with_reducible apply optSafe_some | with_reducible exact optSafe_none
      | with_reducible apply safe_ite | (intro _; try dsimp only) | split
      | (with_reducible refine safe_snd ?_ (by assumption)) | (with_reducible refine safe_fst ?_ (by assumption))
      | (change SafeParts _ _ _ _ _ _ _ _; try dsimp only; with_reducible refine Safe.fold ?_)))

theorem completeAt_safe (h : Nat) (i : Nat) (err : Bool) (s : State) (hsafe : Safe s) : Safe (completeAt h i err s) := by
  unfold completeAt
  repeat' (first
      | with_reducible assumption | with_reducible apply State.modSub_safe | with_reducible apply putDma_safe | split
      | intro _)

theorem completeCredit_safe (h : Nat) (err : Bool) (s : State) (hsafe : Safe s) : Safe (completeCredit h err s) := by
  unfold completeCredit; apply completeAt_safe; exact hsafe

theorem abortCredits_safe (h : Nat) (write : Bool) (s : State) (hsafe : Safe s) : Safe (abortCredits h write s) := by
  unfold abortCredits
  repeat' (first
      | with_reducible assumption | with_reducible apply State.modSub_safe | with_reducible apply each_safe
      | with_reducible apply putDma_safe | split | intro _)

theorem exportRecord_safe (key : Nat) (r : Record) (s : State) (hsafe : Safe s) : Safe (exportRecord key r s).2 := by
  unfold exportRecord; dsimp only
  repeat' (first
      | with_reducible assumption | with_reducible apply State.reset_safe | with_reducible apply when_safe
      | with_reducible apply State.modStream_safe | exact Safe.fold (by assumption) | split | intro _)

theorem drawBytes_safe (tenant : Nat) (n : Nat) (s : State) (hsafe : Safe s) : Safe (drawBytes tenant n s) := hsafe

theorem asDelivered_safe (u : Sub) (r : Record) (s : State) (hsafe : Safe s) : Safe (asDelivered u r s).2 := by
  unfold asDelivered; dsimp only
  repeat' (first
      | with_reducible assumption | with_reducible apply exportRecord_safe | exact Safe.fold (by assumption) | split
      | intro _)

theorem pushRecord_safe (h : Nat) (u : Sub) (addr : Nat) (r : Record) (s : State) (hsafe : Safe s) :
    Safe (pushRecord h u addr r s) := by
  unfold pushRecord; dsimp only
  repeat' (first
      | with_reducible assumption | with_reducible apply sendRecord_safe | exact Safe.fold (by assumption) | split | intro _)

theorem noteGap_safe (h : Nat) (u : Sub) (s : State) (hsafe : Safe s) : Safe (noteGap h u s) := by
  unfold noteGap
  repeat' (first | with_reducible assumption | with_reducible apply dropEntry_safe | split | intro _)

theorem putRecord_safe (h : Nat) (i : Nat) (c : Credit) (r : Record) (t : Inst) (u : Sub) (s : State) (hsafe : Safe s) :
    Safe (putRecord h i c r t u s) := by
  unfold putRecord
  repeat' (first
      | with_reducible assumption | with_reducible apply pushRecord_safe | with_reducible apply drawBytes_safe
      | with_reducible apply when_safe | with_reducible apply noteGap_safe | with_reducible apply State.modStream_safe
      | with_reducible apply State.modSub_safe | split | intro _)

theorem place_safe (h : Nat) (t : Inst) (n : Nat) (s : State) (hsafe : Safe s) : Safe (place h t n s) := by
  induction n generalizing s with
  | zero => exact hsafe
  | succ n ih =>
    unfold place
    try dsimp only
    iterate 60 all_goals (try (first
        | with_reducible assumption | with_reducible apply State.modSub_safe | with_reducible apply asDelivered_safe
        | with_reducible apply putRecord_safe | with_reducible apply completeAt_safe| with_reducible apply ih
        | with_reducible apply outSafe_next | with_reducible apply optSafe_some | with_reducible exact optSafe_none
        | with_reducible apply safe_ite | (intro _; try dsimp only) | split
        | (with_reducible refine safe_snd ?_ (by assumption)) | (with_reducible refine safe_fst ?_ (by assumption))
        | (change SafeParts _ _ _ _ _ _ _ _; try dsimp only; with_reducible refine Safe.fold ?_)))

theorem deliver_safe (h : Nat) (t : Inst) (s : State) (hsafe : Safe s) : Safe (deliver h t s) := by
  unfold deliver; dsimp only
  repeat' (first
      | with_reducible assumption | with_reducible apply State.modTenant_safe | with_reducible apply State.modSub_safe
      | with_reducible apply place_safe | exact Safe.fold (by assumption) | split | intro _)

theorem closeSub_safe (h : Nat) (retention : Bool) (s : State) (hsafe : Safe s) : Safe (closeSub h retention s) := by
  unfold closeSub
  repeat' (first
      | with_reducible assumption | with_reducible apply each_safe | with_reducible apply dropEntry_safe
      | with_reducible apply State.modSub_safe | with_reducible apply when_safe | with_reducible apply State.modQueue_safe
      | split | intro _)

theorem subEvent_safe (h : Nat) (e : SubEvent) (s : State) (hsafe : Safe s) : Safe (subEvent h e s) := by
  unfold subEvent
  repeat' (first
      | with_reducible assumption | with_reducible apply State.modSub_safe | with_reducible apply abortCredits_safe
      | with_reducible apply closeSub_safe | split | intro _)

theorem applySubEvents_safe (s : State) (hsafe : Safe s) : Safe (applySubEvents s) := by
  unfold applySubEvents
  repeat' (first
      | with_reducible assumption | with_reducible apply each_safe | with_reducible apply State.modSub_safe
      | with_reducible apply subEvent_safe | split | intro _)

theorem queueEvent_safe (h : Nat) (e : SubEvent) (s : State) (hsafe : Safe s) : Safe (queueEvent h e s) := hsafe

theorem detachTenant_safe (t : Nat) (s : State) (hsafe : Safe s) : Safe (detachTenant t s) := by
  unfold detachTenant
  repeat' (first
      | with_reducible assumption | with_reducible apply each_safe | with_reducible apply queueEvent_safe | split | intro _)

theorem skipAll_safe (s : State) (hsafe : Safe s) : Safe (skipAll s) := by
  unfold skipAll
  repeat' (first
      | with_reducible assumption | with_reducible apply each_safe | with_reducible apply State.modSub_safe | split
      | intro _)

theorem completeLatency_safe (s : State) (hsafe : Safe s) : Safe (completeLatency s) := by
  unfold completeLatency
  repeat' (first
      | with_reducible assumption | with_reducible apply each_safe | with_reducible apply completeCredit_safe | split
      | intro _)

theorem streamEvents_safe (s : State) (hsafe : Safe s) : Safe (streamEvents s) := by
  unfold streamEvents
  try dsimp only
  iterate 60 all_goals (try (first
      | with_reducible assumption | with_reducible apply each_safe | with_reducible apply emitItem_safe
      | with_reducible apply outSafe_next | with_reducible apply optSafe_some | with_reducible exact optSafe_none
      | with_reducible apply safe_ite | (intro _; try dsimp only) | split
      | (with_reducible refine safe_snd ?_ (by assumption)) | (with_reducible refine safe_fst ?_ (by assumption))
      | (change SafeParts _ _ _ _ _ _ _ _; try dsimp only; with_reducible refine Safe.fold ?_)))

theorem execDramWriteComplete_safe (gsi : Nat) (bytes : Nat) (s : State) (hsafe : Safe s) :
    OutSafe (execDramWriteComplete gsi bytes s) := by
  unfold execDramWriteComplete; dsimp only
  repeat' (first
      | with_reducible assumption | apply outSafe_next | with_reducible apply each_safe
      | with_reducible apply storeFront_safe | with_reducible apply State.modStream_safe | exact Safe.fold (by assumption)
      | split | intro _)

theorem execMramWriteComplete_safe (gsi : Nat) (s : State) (hsafe : Safe s) : OutSafe (execMramWriteComplete gsi s) := by
  unfold execMramWriteComplete
  repeat' (first
      | with_reducible assumption | apply outSafe_next | with_reducible apply State.modStream_safe | split | intro _)

theorem execRecordDelivery_safe (sub : Nat) (t : Inst) (s : State) (hsafe : Safe s) :
    OutSafe (execRecordDelivery sub t s) := by
  unfold execRecordDelivery
  repeat' (first
      | with_reducible assumption | apply outSafe_next | with_reducible apply event_safe
      | with_reducible apply deliver_safe | with_reducible apply touch_safe | split | intro _)

theorem execBulkCreditTimeout_safe (sub : Nat) (s : State) (hsafe : Safe s) : OutSafe (execBulkCreditTimeout sub s) := by
  unfold execBulkCreditTimeout
  repeat' (first
      | with_reducible assumption | apply outSafe_next | with_reducible apply event_safe
      | with_reducible apply completeCredit_safe | split | intro _)

theorem execRetentionExpiry_safe (sub : Nat) (s : State) (hsafe : Safe s) : OutSafe (execRetentionExpiry sub s) := by
  unfold execRetentionExpiry
  repeat' (first
      | with_reducible assumption | apply outSafe_next | with_reducible apply event_safe
      | with_reducible apply queueEvent_safe | split | intro _)

theorem clearLost_safe (s : State) (hsafe : Safe s) : Safe (clearLost s) := by
  unfold clearLost
  repeat' (first
      | with_reducible assumption | with_reducible apply each_safe | with_reducible apply State.modStream_safe | split
      | intro _)

theorem execStagingRecover_safe (bytes : Nat) (s : State) (hsafe : Safe s) : OutSafe (execStagingRecover bytes s) := by
  unfold execStagingRecover; dsimp only
  repeat' (first
      | with_reducible assumption | apply outSafe_next | with_reducible apply clearLost_safe
      | exact Safe.fold (by assumption) | split | intro _)

theorem logViol_safe (fn : Nat) (v : Viol) (s : State) (hsafe : Safe s) : Safe (logViol fn v s) := hsafe

theorem violate_safe (fn : Option Nat) (v : Viol) (s : State) (hsafe : Safe s) : Safe (violate fn v s) := by
  unfold violate
  repeat' (first | with_reducible assumption | with_reducible apply logViol_safe | split | intro _)

theorem writeReplays_safe (t : Nat) (s : State) (hsafe : Safe s) : Safe (writeReplays t s) := by
  unfold writeReplays; dsimp only
  repeat' (first
      | with_reducible assumption | with_reducible apply each_safe | with_reducible apply putCpl_safe
      | exact Safe.fold (by assumption) | split | intro _)

theorem openSession_safe (fn : Nat) (t : Nat) (s : State) (hsafe : Safe s) : Safe (openSession fn t s) := by
  unfold openSession
  repeat' (first
      | with_reducible assumption | with_reducible apply State.modTenant_safe | with_reducible apply State.modQueue_safe
      | with_reducible apply State.modFunc_safe | with_reducible apply noteUse_safe
      | with_reducible apply writeReplays_safe | split | intro _)

theorem failOpen_safe (fn : Nat) (st : Status) (s : State) (hsafe : Safe s) : Safe (failOpen fn st s) := hsafe

theorem execAdmEnableSet_safe (fn : Nat) (s : State) (hsafe : Safe s) : OutSafe (execAdmEnableSet fn s) := by
  unfold execAdmEnableSet; dsimp only
  repeat' (first
      | with_reducible assumption | apply outSafe_next | with_reducible apply event_safe
      | with_reducible apply failOpen_safe | with_reducible apply openSession_safe | with_reducible apply post_safe
      | exact Safe.fold (by assumption) | split | intro _)

theorem forgetTenant_safe (t : Nat) (s : State) (hsafe : Safe s) : Safe (forgetTenant t s) := hsafe

theorem endTenant_safe (t : Nat) (s : State) (hsafe : Safe s) : Safe (endTenant t s) := by
  unfold endTenant
  try dsimp only
  iterate 60 all_goals (try (first
      | with_reducible assumption | with_reducible apply forgetTenant_safe | with_reducible apply detachTenant_safe
      | with_reducible apply State.modTenant_safe | with_reducible apply outSafe_next | with_reducible apply optSafe_some
      | with_reducible exact optSafe_none | with_reducible apply safe_ite | (intro _; try dsimp only) | split
      | (with_reducible refine safe_snd ?_ (by assumption)) | (with_reducible refine safe_fst ?_ (by assumption))
      | (change SafeParts _ _ _ _ _ _ _ _; try dsimp only; with_reducible refine Safe.fold ?_)))

theorem interruptJobs_safe (t : Nat) (s : State) (hsafe : Safe s) : Safe (interruptJobs t s) := by
  unfold interruptJobs; dsimp only
  repeat' (first
      | with_reducible assumption | with_reducible apply each_safe | with_reducible apply cutJob_safe
      | exact Safe.fold (by assumption) | split | intro _)

theorem endSession_safe (fn : Nat) (enable : Bool) (s : State) (hsafe : Safe s) : Safe (endSession fn enable s) := by
  unfold endSession
  repeat' (first
      | with_reducible assumption | with_reducible apply endTenant_safe | with_reducible apply interruptJobs_safe
      | with_reducible apply State.modFunc_safe | split | intro _)

theorem endSessions_safe (fns : List Nat) (enable : Bool) (s : State) (hsafe : Safe s) :
    Safe (endSessions fns enable s) := by
  unfold endSessions
  repeat' (first
      | with_reducible assumption | with_reducible apply each_safe | with_reducible apply endSession_safe | split | intro _)

theorem execAdmEnableClear_safe (fn : Nat) (s : State) (hsafe : Safe s) : OutSafe (execAdmEnableClear fn s) := by
  unfold execAdmEnableClear
  repeat' (first
      | with_reducible assumption | apply outSafe_next | with_reducible apply event_safe
      | with_reducible apply endSession_safe | split | intro _)

theorem execFlr_safe (fn : Nat) (s : State) (hsafe : Safe s) : OutSafe (execFlr fn s) := by
  unfold execFlr
  repeat' (first
      | with_reducible assumption | apply outSafe_next | with_reducible apply event_safe | with_reducible apply each_safe
      | with_reducible apply State.modFunc_safe | with_reducible apply endSessions_safe | split | intro _)

theorem execD3hotEntry_safe (fn : Nat) (s : State) (hsafe : Safe s) : OutSafe (execD3hotEntry fn s) := by
  unfold execD3hotEntry
  repeat' (first
      | with_reducible assumption | apply outSafe_next | with_reducible apply event_safe
      | with_reducible apply endSession_safe | split | intro _)

theorem execVfEnableClear_safe (s : State) (hsafe : Safe s) : OutSafe (execVfEnableClear s) := by
  unfold execVfEnableClear
  repeat' (first
      | with_reducible assumption | apply outSafe_next | with_reducible apply each_safe
      | with_reducible apply State.modFunc_safe | with_reducible apply endSessions_safe | split | intro _)

theorem execHotReset_safe (s : State) (hsafe : Safe s) : OutSafe (execHotReset s) := by
  unfold execHotReset
  repeat' (first
      | with_reducible assumption | apply outSafe_next | with_reducible apply each_safe
      | with_reducible apply State.modFunc_safe | with_reducible apply endSessions_safe | split | intro _)

theorem linkDownPcie_safe (s : State) (hsafe : Safe s) : Safe (linkDownPcie s) := by
  unfold linkDownPcie
  try dsimp only
  iterate 60 all_goals (try (first
      | with_reducible assumption | with_reducible apply each_safe | with_reducible apply State.modFunc_safe
      | with_reducible apply endSessions_safe | with_reducible apply linkUp_safe | with_reducible apply outSafe_next
      | with_reducible apply optSafe_some | with_reducible exact optSafe_none | with_reducible apply safe_ite
      | (intro _; try dsimp only) | split | (with_reducible refine safe_snd ?_ (by assumption))
      | (with_reducible refine safe_fst ?_ (by assumption))
      | (change SafeParts _ _ _ _ _ _ _ _; try dsimp only; with_reducible refine Safe.fold ?_)))

theorem execPcieLinkDown_safe (s : State) (hsafe : Safe s) : OutSafe (execPcieLinkDown s) := by
  unfold execPcieLinkDown
  repeat' (first | with_reducible assumption | apply outSafe_next | with_reducible apply linkDownPcie_safe | split | intro _)

theorem fetchOne_safe (t : Nat) (q : Nat) (f : Fetch) (s : State) (hsafe : Safe s) : Safe (fetchOne t q f s) := by
  unfold fetchOne
  repeat' (first
      | with_reducible assumption | with_reducible apply putCpl_safe | with_reducible apply State.modTenant_safe | split
      | intro _)

theorem postCredit_safe (t : Nat) (d : Nat) (pos : Nat) (e : CreditEntry) (s : State) (hsafe : Safe s) :
    Safe (postCredit t d pos e s) := by
  unfold postCredit
  repeat' (first
      | with_reducible assumption | with_reducible apply putDma_safe | with_reducible apply violate_safe
      | with_reducible apply State.modSub_safe | with_reducible apply when_safe | with_reducible apply queueEvent_safe
      | split | intro _)

theorem postCredits_safe (t : Nat) (d : Nat) (n : List CreditEntry) (s : State) (hsafe : Safe s) :
    Safe (postCredits t d n s) := by
  induction n generalizing s with
  | nil => exact hsafe
  | cons a r ih =>
    unfold postCredits
    try dsimp only
    iterate 60 all_goals (try (first
        | with_reducible assumption | with_reducible apply postCredit_safe
        | with_reducible apply State.modQueue_safe| with_reducible apply ih | with_reducible apply outSafe_next
        | with_reducible apply optSafe_some | with_reducible exact optSafe_none | with_reducible apply safe_ite
        | (intro _; try dsimp only) | split | (with_reducible refine safe_snd ?_ (by assumption))
        | (with_reducible refine safe_fst ?_ (by assumption))
        | (change SafeParts _ _ _ _ _ _ _ _; try dsimp only; with_reducible refine Safe.fold ?_)))

theorem badDoorbell_safe (fn : Nat) (off : Nat) (t : Inst) (s : State) (hsafe : Safe s) : Safe (badDoorbell fn off t s) := by
  unfold badDoorbell; apply violate_safe; exact hsafe

theorem execDbSqTailWrite_safe (fn : Nat) (q : Nat) (tail : Nat) (cmds : List Fetch) (credits : List CreditEntry) (t :
    Inst) (s : State) (hsafe : Safe s) : OutSafe (execDbSqTailWrite fn q tail cmds credits t s) := by
  unfold execDbSqTailWrite; dsimp only
  repeat' (first
      | with_reducible assumption | apply outSafe_next | with_reducible apply touch_safe | with_reducible apply event_safe
      | with_reducible apply badDoorbell_safe | with_reducible apply State.modQueue_safe
      | with_reducible apply postCredits_safe | with_reducible apply each_safe | with_reducible apply fetchOne_safe
      | exact Safe.fold (by assumption) | split | intro _)

theorem execDbCqHeadWrite_safe (fn : Nat) (q : Nat) (head : Nat) (t : Inst) (s : State) (hsafe : Safe s) :
    OutSafe (execDbCqHeadWrite fn q head t s) := by
  unfold execDbCqHeadWrite; dsimp only
  repeat' (first
      | with_reducible assumption | apply outSafe_next | with_reducible apply touch_safe | with_reducible apply event_safe
      | with_reducible apply badDoorbell_safe | with_reducible apply State.modQueue_safe | with_reducible apply when_safe
      | with_reducible apply raiseQueue_safe | exact Safe.fold (by assumption) | split | intro _)

theorem execDmaFault_safe (fn : Nat) (q : Nat) (addr : Nat) (tag : Option (BitVec 32)) (t : Inst) (s : State) (hsafe :
    Safe s) : OutSafe (execDmaFault fn q addr tag t s) := by
  unfold execDmaFault
  try dsimp only
  iterate 60 all_goals (try (first
      | with_reducible assumption | with_reducible apply touch_safe | with_reducible apply event_safe
      | with_reducible apply violate_safe | with_reducible apply finishLater_safe | with_reducible apply when_safe
      | with_reducible apply State.modQueue_safe | with_reducible apply outSafe_next | with_reducible apply optSafe_some
      | with_reducible exact optSafe_none | with_reducible apply safe_ite | (intro _; try dsimp only) | split
      | (with_reducible refine safe_snd ?_ (by assumption)) | (with_reducible refine safe_fst ?_ (by assumption))
      | (change SafeParts _ _ _ _ _ _ _ _; try dsimp only; with_reducible refine Safe.fold ?_)))

theorem execViolClear_safe (fn : Nat) (t : Inst) (s : State) (hsafe : Safe s) : OutSafe (execViolClear fn t s) := by
  unfold execViolClear
  repeat' (first
      | with_reducible assumption | apply outSafe_next | with_reducible apply touch_safe | with_reducible apply event_safe
      | with_reducible apply badDoorbell_safe | with_reducible apply State.modFunc_safe | split | intro _)

theorem execViolLostClear_safe (fn : Nat) (s : State) (hsafe : Safe s) : OutSafe (execViolLostClear fn s) := by
  unfold execViolLostClear
  repeat' (first
      | with_reducible assumption | apply outSafe_next | with_reducible apply event_safe
      | with_reducible apply State.modFunc_safe | split | intro _)

theorem armSnap_safe (fn : Nat) (mode : Nat) (s : State) (hsafe : Safe s) : Safe (armSnap fn mode s) := hsafe

theorem takeArmed_safe (mode : Nat) (t : Inst) (s : State) (hsafe : Safe s) : Safe (takeArmed mode t s) := by
  unfold takeArmed
  repeat' (first
      | with_reducible assumption | with_reducible apply each_safe | with_reducible apply State.modFunc_safe | split
      | intro _)

theorem snapNow_safe (fn : Nat) (t : Inst) (s : State) (hsafe : Safe s) : Safe (snapNow fn t s) := hsafe

theorem writeSnap_safe (fn : Nat) (value : BitVec 64) (t : Inst) (s : State) (hsafe : Safe s) :
    Safe (writeSnap fn value t s) := by
  unfold writeSnap; dsimp only
  repeat' (first
      | with_reducible assumption | with_reducible apply snapNow_safe | with_reducible apply armSnap_safe
      | with_reducible apply State.modFunc_safe | exact Safe.fold (by assumption) | split | intro _)

theorem execSnapTakeNow_safe (fn : Nat) (t : Inst) (s : State) (hsafe : Safe s) : OutSafe (execSnapTakeNow fn t s) := by
  unfold execSnapTakeNow
  repeat' (first
      | with_reducible assumption | apply outSafe_next | with_reducible apply touch_safe | with_reducible apply event_safe
      | with_reducible apply snapNow_safe | split | intro _)

theorem execSnapTakePps_safe (fn : Nat) (s : State) (hsafe : Safe s) : OutSafe (execSnapTakePps fn s) := by
  unfold execSnapTakePps
  repeat' (first
      | with_reducible assumption | apply outSafe_next | with_reducible apply event_safe
      | with_reducible apply armSnap_safe | split | intro _)

theorem execSnapTakeSwath_safe (fn : Nat) (s : State) (hsafe : Safe s) : OutSafe (execSnapTakeSwath fn s) := by
  unfold execSnapTakeSwath
  repeat' (first
      | with_reducible assumption | apply outSafe_next | with_reducible apply event_safe
      | with_reducible apply armSnap_safe | split | intro _)

theorem badAccess_safe (fn : Nat) (kind : Nat) (off : Nat) (write : Bool) (t : Inst) (s : State) (hsafe : Safe s) :
    Safe (badAccess fn kind off write t s) := by
  unfold badAccess; apply violate_safe; exact hsafe

theorem execRegisterWrite_safe (fn : Nat) (offset : Nat) (width : Nat) (value : BitVec 64) (t : Inst) (s : State) (hsafe :
    Safe s) : OutSafe (execRegisterWrite fn offset width value t s) := by
  unfold execRegisterWrite; dsimp only
  repeat' (first
      | with_reducible assumption | apply outSafe_next | with_reducible apply touch_safe | with_reducible apply event_safe
      | with_reducible apply badAccess_safe | with_reducible apply State.modFunc_safe
      | with_reducible apply writeSnap_safe | exact Safe.fold (by assumption) | split | intro _)

theorem linkUp_safe (rate : Nat) (width : Nat) (s : State) (hsafe : Safe s) : Safe (linkUp rate width s) := hsafe

theorem holdoverEntry_safe (s : State) (hsafe : Safe s) : Safe (holdoverEntry s) :=
  safe_ite (fun _ => hsafe) (fun _ => hsafe.noBank)

theorem withAlt_safe (s : State) (hsafe : Safe s) : Safe (withAlt s) := hsafe

theorem changeParent_safe (new : Option Nat) (s : State) (hsafe : Safe s) : Safe (changeParent new s) := by
  unfold changeParent; dsimp only
  repeat' (first
      | with_reducible assumption | with_reducible apply withAlt_safe | with_reducible apply post_safe
      | with_reducible apply holdoverEntry_safe | exact Safe.fold (by assumption) | split | intro _)

theorem floodLsa_safe (l : LsaRec) (ingress : Option (Nat × Nat)) (s : State) (hsafe : Safe s) :
    Safe (floodLsa l ingress s) := by
  unfold floodLsa
  repeat' (first
      | with_reducible assumption | with_reducible apply each_safe | with_reducible apply sendFrame_safe
      | with_reducible apply forwardOn_safe | split | intro _)

theorem storeLsa_safe (l : LsaRec) (s : State) (hsafe : Safe s) : Safe (storeLsa l s) := hsafe

theorem sendLsa_safe (s : State) (hsafe : Safe s) : Safe (sendLsa s) := by
  unfold sendLsa; dsimp only
  repeat' (first
      | with_reducible assumption | with_reducible apply floodLsa_safe | with_reducible apply storeLsa_safe
      | exact Safe.fold (by assumption) | split | intro _)

theorem requeue_safe (p : Nat) (x : Sent) (s : State) (hsafe : Safe s) : Safe (requeue p x s) := by
  unfold requeue; dsimp only
  repeat' (first
      | with_reducible assumption | with_reducible apply bump_safe | with_reducible apply State.modPort_safe
      | with_reducible apply noteUse_safe | exact Safe.fold (by assumption) | split | intro _)

theorem rewindRemote_safe (p : Nat) (s : State) (hsafe : Safe s) : Safe (rewindRemote p s) := by
  unfold rewindRemote; dsimp only
  repeat' (first
      | with_reducible assumption | with_reducible apply each_safe | with_reducible apply State.modSub_safe
      | exact Safe.fold (by assumption) | split | intro _)

theorem failPort_safe (p : Nat) (cause : Nat) (s : State) (hsafe : Safe s) : Safe (failPort p cause s) := by
  unfold failPort
  try dsimp only
  iterate 60 all_goals (try (first
      | with_reducible assumption | with_reducible apply State.modPort_safe | with_reducible apply rewindRemote_safe
      | with_reducible apply each_safe | with_reducible apply requeue_safe | with_reducible apply release_safe
      | with_reducible apply pump_safe | with_reducible apply postAt_safe | with_reducible apply bump_safe
      | with_reducible apply sendLsa_safe | with_reducible apply changeParent_safe | with_reducible apply outSafe_next
      | with_reducible apply optSafe_some | with_reducible exact optSafe_none | with_reducible apply safe_ite
      | (intro _; try dsimp only) | split | (with_reducible refine safe_snd ?_ (by assumption))
      | (with_reducible refine safe_fst ?_ (by assumption))
      | (change SafeParts _ _ _ _ _ _ _ _; try dsimp only; with_reducible refine Safe.fold ?_)))

theorem toIdle_safe (p : Nat) (s : State) (hsafe : Safe s) : Safe (toIdle p s) := hsafe

theorem linkDown_safe (p : Nat) (s : State) (hsafe : Safe s) : Safe (linkDown p s) := by
  unfold linkDown
  repeat' (first
      | with_reducible assumption | with_reducible apply toIdle_safe | with_reducible apply failPort_safe
      | with_reducible apply bump_safe | split | intro _)

theorem trainFail_safe (p : Nat) (cause : Nat) (s : State) (hsafe : Safe s) : Safe (trainFail p cause s) := by
  unfold trainFail; dsimp only
  repeat' (first
      | with_reducible assumption | with_reducible apply bump_safe | with_reducible apply State.modPort_safe
      | exact Safe.fold (by assumption) | split | intro _)

theorem portUp_safe (p : Nat) (s : State) (hsafe : Safe s) : Safe (portUp p s) := by
  unfold portUp
  repeat' (first
      | with_reducible assumption | with_reducible apply each_safe | with_reducible apply State.modPort_safe | split
      | intro _)

end Sys2Proof.Machine
end

