-- ==== Sys2Proof/Laws/SafeFlow.lean ====
section
/-! SUPPORT. Every operation of acquisition, packing, the Skecy lanes and network, the tacho unit and the chains keeps `Safe`: one lemma
per operation, cited by the operations that call it. -/

namespace Sys2Proof.Machine

theorem addStats_safe (m : Nat) (kind : Nat) (t : Inst) (y : Int) (fl : BitVec 8) (s : State) (hsafe : Safe s) :
    Safe (addStats m kind t y fl s) := by
  unfold addStats; dsimp only
  repeat' (first
      | with_reducible assumption | with_reducible apply each_safe | with_reducible apply State.modStat_safe
      | exact Safe.fold (by assumption) | split | intro _)

theorem openInterval_safe (k : Nat) (g : Nat) (held : List StatSamp) (s : State) (hsafe : Safe s) :
    Safe (openInterval k g held s) := by
  unfold openInterval; dsimp only
  repeat' (first
      | with_reducible assumption | with_reducible apply State.modStat_safe | exact Safe.fold (by assumption) | split
      | intro _)

theorem cutInterval_safe (k : Nat) (g : Nat) (s : State) (hsafe : Safe s) : Safe (cutInterval k g s) := by
  unfold cutInterval
  repeat' (first
      | with_reducible assumption | with_reducible apply sendDecision_safe | with_reducible apply openInterval_safe
      | with_reducible apply State.modStat_safe | split | intro _)

theorem cutStats_safe (m : Nat) (kind : Nat) (g : Nat) (s : State) (hsafe : Safe s) : Safe (cutStats m kind g s) := by
  unfold cutStats
  repeat' (first
      | with_reducible assumption | with_reducible apply each_safe | with_reducible apply cutInterval_safe | split | intro _)

theorem turnSwathIntervals_safe (g : Nat) (s : State) (hsafe : Safe s) : Safe (turnSwathIntervals g s) := by
  unfold turnSwathIntervals; dsimp only
  repeat' (first
      | with_reducible assumption | with_reducible apply each_safe | with_reducible apply State.modStat_safe
      | exact Safe.fold (by assumption) | split | intro _)

theorem zeroStats_safe (grp : Nat) (t : Inst) (revs : Nat) (s : State) (hsafe : Safe s) : Safe (zeroStats grp t revs s) := by
  unfold zeroStats; dsimp only
  repeat' (first
      | with_reducible assumption | with_reducible apply State.modShaft_safe | with_reducible apply each_safe
      | with_reducible apply State.modStat_safe | exact Safe.fold (by assumption) | split | intro _)

theorem fallStats_safe (grp : Nat) (g : Nat) (s : State) (hsafe : Safe s) : Safe (fallStats grp g s) := by
  unfold fallStats; dsimp only
  repeat' (first
      | with_reducible assumption | with_reducible apply each_safe | with_reducible apply State.modStat_safe
      | exact Safe.fold (by assumption) | split | intro _)

theorem retireTussock_safe (x : Tussock) (s : State) (hsafe : Safe s) : Safe (retireTussock x s) := by
  unfold retireTussock; dsimp only
  repeat' (first
      | with_reducible assumption | with_reducible apply each_safe | with_reducible apply State.modSub_safe
      | with_reducible apply State.modStream_safe | exact Safe.fold (by assumption) | split | intro _)

theorem makeRoom_safe (need : Nat) (cap : Nat) (n : Nat) (s : State) (hsafe : Safe s) : Safe (makeRoom need cap n s) := by
  induction n generalizing s with
  | zero => exact hsafe
  | succ n ih =>
    unfold makeRoom
    try dsimp only
    iterate 60 all_goals (try (first
        | with_reducible assumption | with_reducible apply retireTussock_safe| with_reducible apply ih
        | with_reducible apply outSafe_next | with_reducible apply optSafe_some | with_reducible exact optSafe_none
        | with_reducible apply safe_ite | (intro _; try dsimp only) | split
        | (with_reducible refine safe_snd ?_ (by assumption)) | (with_reducible refine safe_fst ?_ (by assumption))
        | (change SafeParts _ _ _ _ _ _ _ _; try dsimp only; with_reducible refine Safe.fold ?_)))

theorem refuseFire_safe (u : Nat) (trig : Inst) (reason : Nat) (s : State) (hsafe : Safe s) :
    Safe (refuseFire u trig reason s) := by
  unfold refuseFire
  try dsimp only
  iterate 60 all_goals (try (first
      | with_reducible assumption | with_reducible apply bump_safe | with_reducible apply State.modUnit_safe
      | with_reducible apply outSafe_next | with_reducible apply optSafe_some | with_reducible exact optSafe_none
      | with_reducible apply safe_ite | (intro _; try dsimp only) | split
      | (with_reducible refine safe_snd ?_ (by assumption)) | (with_reducible refine safe_fst ?_ (by assumption))
      | (change SafeParts _ _ _ _ _ _ _ _; try dsimp only; with_reducible refine Safe.fold ?_)))

theorem cutOne_safe (u : Nat) (desc : Nat) (d : Descriptor) (trig : Inst) (x : Option XTrig) (dec : Nat) (finish :
    Inst) (p : Placed) (s : State) (hsafe : Safe s) : Safe (cutOne u desc d trig x dec finish p s) := hsafe

theorem admitSet_safe (u : Nat) (trig : Inst) (x : Option XTrig) (horizon : Inst) (d : Descriptor) (set : List Placed) (s :
    State) (hsafe : Safe s) : Safe (admitSet u trig x horizon d set s) := by
  unfold admitSet
  try dsimp only
  iterate 60 all_goals (try (first
      | with_reducible assumption | with_reducible apply makeRoom_safe | with_reducible apply sendDecision_safe
      | with_reducible apply finish_safe | with_reducible apply each_safe | with_reducible apply cutOne_safe
      | with_reducible apply bump_safe | with_reducible apply State.modUnit_safe | with_reducible apply outSafe_next
      | with_reducible apply optSafe_some | with_reducible exact optSafe_none | with_reducible apply safe_ite
      | (intro _; try dsimp only) | split | (with_reducible refine safe_snd ?_ (by assumption))
      | (with_reducible refine safe_fst ?_ (by assumption))
      | (change SafeParts _ _ _ _ _ _ _ _; try dsimp only; with_reducible refine Safe.fold ?_)))

theorem registerJump_safe (u : Nat) (target : Option Nat) (s : State) (hsafe : Safe s) : Safe (registerJump u target s) := by
  unfold registerJump; dsimp only
  repeat' (first
      | with_reducible assumption | with_reducible apply State.modUnit_safe | with_reducible apply bump_safe
      | exact Safe.fold (by assumption) | split | intro _)

theorem enterPair_safe (x : XTrig) (t : Inst) (s : State) (hsafe : Safe s) : Safe (enterPair x t s) := by
  unfold enterPair; dsimp only
  repeat' (first
      | with_reducible assumption | with_reducible apply noteUse_safe | with_reducible apply when_safe
      | with_reducible apply bump_safe | exact Safe.fold (by assumption) | split | intro _)

theorem sendXtrig_safe (p : Nat) (x : XTrig) (s : State) (hsafe : Safe s) : Safe (sendXtrig p x s) := by
  unfold sendXtrig; dsimp only
  repeat' (first
      | with_reducible assumption | with_reducible apply State.modPort_safe | with_reducible apply bump_safe
      | exact Safe.fold (by assumption) | split | intro _)

theorem spreadXtrig_safe (ingress : Option Nat) (x : XTrig) (s : State) (hsafe : Safe s) :
    Safe (spreadXtrig ingress x s) := by
  unfold spreadXtrig
  repeat' (first
      | with_reducible assumption | with_reducible apply each_safe | with_reducible apply sendXtrig_safe | split | intro _)

theorem originate_safe (u : Nat) (cls : Nat) (trig : Inst) (s : State) (hsafe : Safe s) :
    Safe (originate u cls trig s).1 := by
  unfold originate; dsimp only
  repeat' (first
      | with_reducible assumption | with_reducible apply bump_safe | with_reducible apply sendDecision_safe
      | with_reducible apply spreadXtrig_safe | with_reducible apply enterPair_safe | exact Safe.fold (by assumption)
      | split | intro _)

theorem startPulse_safe (pin : Nat) (width : Nat) (s : State) (hsafe : Safe s) : Safe (startPulse pin width s) := by
  unfold startPulse
  repeat' (first
      | with_reducible assumption | with_reducible apply drivePin_safe | with_reducible apply State.modPin_safe | split
      | intro _)

theorem capture_safe (u : Nat) (trig : Inst) (own : Option Placed) (x : Option XTrig) (s : State) (hsafe : Safe s) :
    Safe (capture u trig own x s) := by
  unfold capture
  repeat' (first
      | with_reducible assumption | with_reducible apply sendDecision_safe | with_reducible apply refuse_safe
      | with_reducible apply refuseFire_safe | with_reducible apply admitSet_safe | split | intro _)

theorem leading_safe {α : Type} (f : State → State × α) (s : State) (hf : ∀ s, Safe s → Safe (f s).1) (hsafe : Safe s) :
    Safe (leading f s).1 := by
  unfold leading
  split
  · have h := hf { s with clover := { s.clover with role := .active } } hsafe.fold
    dsimp only
    generalize f _ = p at h ⊢
    exact h.fold
  · exact hf s hsafe

theorem judgeShots_safe (s : State) (hsafe : Safe s) : Safe (judgeShots s) := by
  unfold judgeShots
  exact each_safe _ _ _ (fun _ _ h => leading_safe _ _ (fun s h => capture_safe _ _ _ _ s h) h) hsafe.fold

theorem askCapture_safe (u : Nat) (trig : Inst) (own : Option Placed) (x : Option XTrig) (s : State) (hsafe : Safe s) :
    Safe (askCapture u trig own x s) := hsafe

theorem actions_safe (u : Nat) (trig : Inst) (own : Option Placed) (x : Option XTrig) (s : State) (hsafe : Safe s) :
    Safe (actions u trig own x s).1 := by
  unfold actions; dsimp only
  repeat' (first
      | with_reducible assumption | with_reducible apply when_safe | with_reducible apply post_safe
      | with_reducible apply originate_safe | with_reducible apply startPulse_safe
      | with_reducible apply registerJump_safe | with_reducible apply askCapture_safe
      | with_reducible apply State.modUnit_safe | exact Safe.fold (by assumption) | split | intro _)

theorem governed_safe {α : Type} (u : Nat) (t : Inst) (f : State → State × α) (s : State)
    (hf : ∀ s, Safe s → Safe (f s).1) (hsafe : Safe s) : Safe (governed u t f s).1 := by
  unfold governed
  dsimp only
  split
  · exact hf s hsafe
  · exact State.modUnit_safe _ _ _ (hf _ (State.modUnit_safe _ _ _ hsafe))

theorem judgeEvent_safe (u : Nat) (trig : Inst) (own : Option Placed) (x : Option XTrig) (s : State) (hsafe : Safe s) :
    Safe (judgeEvent u trig own x s).1 := by
  unfold judgeEvent
  dsimp only
  split
  · exact bump_safe _ _ hsafe
  · exact hsafe
  · exact hsafe
  · have h1 := State.modUnit_safe s u (fun y => { y with sinceArm := y.sinceArm + 1 }) hsafe
    repeat' (first
      | exact bump_safe _ _ h1
      | exact leading_safe _ _ (fun s h => actions_safe _ _ _ _ s h) (bump_safe _ _ (State.modUnit_safe _ _ _ h1))
      | exact State.modUnit_safe _ _ _ (when_safe _ _ _ (fun s h => h.fold) (bump_safe _ _ (State.modUnit_safe _ _ _ h1)))
      | split)

theorem unitEvent_safe (u : Nat) (trig : Inst) (own : Option Placed) (x : Option XTrig) (s : State) (hsafe : Safe s) :
    Safe (unitEvent u trig own x s).1 := by
  unfold unitEvent
  repeat' (first
      | with_reducible assumption | with_reducible apply governed_safe | with_reducible apply judgeEvent_safe | split
      | intro _)

theorem crossOnce_safe (x : XTrig) (s : State) (hsafe : Safe s) : Safe (crossOnce x s).1 := by
  unfold crossOnce
  refine foldl_safe Prod.fst _ _ (fun a u h => ?_) (s, []) hsafe
  exact unitEvent_safe u (instOf x.tt) none (some x) a.1 h

theorem crossFires_safe (x : XTrig) (s : State) (hsafe : Safe s) : Safe (crossFires x s) := by
  unfold crossFires
  repeat' (first
      | with_reducible assumption | with_reducible apply crossOnce_safe | with_reducible apply each_safe | split | intro _)

theorem fireUnit_safe (u : Nat) (trig : Inst) (own : Option Placed) (s : State) (hsafe : Safe s) :
    Safe (fireUnit u trig own s) := by
  unfold fireUnit
  try dsimp only
  iterate 60 all_goals (try (first
      | with_reducible assumption | with_reducible apply unitEvent_safe | with_reducible apply crossFires_safe
      | with_reducible apply outSafe_next | with_reducible apply optSafe_some | with_reducible exact optSafe_none
      | with_reducible apply safe_ite | (intro _; try dsimp only) | split
      | (with_reducible refine safe_snd ?_ (by assumption)) | (with_reducible refine safe_fst ?_ (by assumption))
      | (change SafeParts _ _ _ _ _ _ _ _; try dsimp only; with_reducible refine Safe.fold ?_)))

theorem unitSample_safe (u : Nat) (x : TrigSamp) (fl : BitVec 8) (s : State) (hsafe : Safe s) :
    Safe (unitSample u x fl s) := by
  unfold unitSample; dsimp only
  repeat' (first
      | with_reducible assumption | with_reducible apply State.modUnit_safe | with_reducible apply bump_safe
      | exact Safe.fold (by assumption) | split | intro _)

theorem clearCrossing_safe (key : Nat) (u : Nat) (s : State) (hsafe : Safe s) : Safe (clearCrossing key u s) := hsafe

theorem trigSample_safe (key : Nat) (x : TrigSamp) (fl : BitVec 8) (s : State) (hsafe : Safe s) :
    Safe (trigSample key x fl s) := by
  unfold trigSample
  repeat' (first
      | with_reducible assumption | with_reducible apply judgeShots_safe | with_reducible apply each_safe
      | with_reducible apply clearCrossing_safe | with_reducible apply fireUnit_safe | with_reducible apply governed_safe
      | with_reducible apply unitSample_safe | split | intro _)

theorem zeroFires_safe (g : Nat) (t : Inst) (s : State) (hsafe : Safe s) : Safe (zeroFires g t s) := by
  unfold zeroFires
  repeat' (first
      | with_reducible assumption | with_reducible apply judgeShots_safe | with_reducible apply each_safe
      | with_reducible apply fireUnit_safe | split | intro _)

theorem execTriggerTimeExpiry_safe (u : Nat) (s : State) (hsafe : Safe s) : OutSafe (execTriggerTimeExpiry u s) := by
  unfold execTriggerTimeExpiry; dsimp only
  repeat' (first
      | with_reducible assumption | apply outSafe_next | with_reducible apply event_safe
      | with_reducible apply judgeShots_safe | with_reducible apply fireUnit_safe | with_reducible apply touch_safe
      | with_reducible apply State.modUnit_safe | exact Safe.fold (by assumption) | split | intro _)

theorem execFieldPinEdge_safe (pin : Nat) (rising : Bool) (t : Inst) (s : State) (hsafe : Safe s) :
    OutSafe (execFieldPinEdge pin rising t s) := by
  unfold execFieldPinEdge
  repeat' (first
      | with_reducible assumption | apply outSafe_next | with_reducible apply touch_safe | with_reducible apply event_safe
      | with_reducible apply State.modPin_safe | with_reducible apply each_safe | with_reducible apply fireUnit_safe
      | with_reducible apply judgeShots_safe | with_reducible apply registerJump_safe | split | intro _)

theorem execPinPulseEnd_safe (pin : Nat) (s : State) (hsafe : Safe s) : OutSafe (execPinPulseEnd pin s) := by
  unfold execPinPulseEnd
  repeat' (first
      | with_reducible assumption | apply outSafe_next | with_reducible apply event_safe
      | with_reducible apply State.modPin_safe | split | intro _)

theorem execTriggerRearm_safe (u : Nat) (s : State) (hsafe : Safe s) : OutSafe (execTriggerRearm u s) := by
  unfold execTriggerRearm; dsimp only
  repeat' (first
      | with_reducible assumption | apply outSafe_next | with_reducible apply event_safe
      | with_reducible apply judgeShots_safe | with_reducible apply State.modUnit_safe | exact Safe.fold (by assumption)
      | split | intro _)

theorem execTussockSetWritten_safe (u : Nat) (s : State) (hsafe : Safe s) : OutSafe (execTussockSetWritten u s) := by
  unfold execTussockSetWritten; dsimp only
  repeat' (first
      | with_reducible assumption | apply outSafe_next | with_reducible apply event_safe
      | with_reducible apply State.modUnit_safe | with_reducible apply bump_safe | with_reducible apply sendDecision_safe
      | with_reducible apply done_safe | exact Safe.fold (by assumption) | split | intro _)

theorem execXtrig_safe (p : Nat) (x : XTrig) (t : Inst) (s : State) (hsafe : Safe s) : OutSafe (execXtrig p x t s) := by
  unfold execXtrig; dsimp only
  repeat' (first
      | with_reducible assumption | apply outSafe_next | with_reducible apply touch_safe | with_reducible apply event_safe
      | with_reducible apply State.modPort_safe | with_reducible apply bump_safe | with_reducible apply enterPair_safe
      | with_reducible apply spreadXtrig_safe | with_reducible apply judgeShots_safe
      | with_reducible apply crossFires_safe | exact Safe.fold (by assumption) | split | intro _)

theorem execDuplicatePairExpiry_safe (origin : Nat) (count : Nat) (s : State) (hsafe : Safe s) :
    OutSafe (execDuplicatePairExpiry origin count s) := by
  unfold execDuplicatePairExpiry; dsimp only
  repeat' (first | with_reducible assumption | apply outSafe_next  | exact Safe.fold (by assumption) | split | intro _)

theorem tallyRefusals_safe (s : State) (hsafe : Safe s) : Safe (tallyRefusals s) := by
  unfold tallyRefusals
  try dsimp only
  iterate 60 all_goals (try (first
      | with_reducible assumption | with_reducible apply each_safe | with_reducible apply post_safe
      | with_reducible apply outSafe_next | with_reducible apply optSafe_some | with_reducible exact optSafe_none
      | with_reducible apply safe_ite | (intro _; try dsimp only) | split
      | (with_reducible refine safe_snd ?_ (by assumption)) | (with_reducible refine safe_fst ?_ (by assumption))
      | (change SafeParts _ _ _ _ _ _ _ _; try dsimp only; with_reducible refine Safe.fold ?_)))

theorem receiveRaw_safe (p : Nat) (x : Nat × Nat × BlockBits) (s : State) (hsafe : Safe s) : Safe (receiveRaw p x s) := by
  unfold receiveRaw
  repeat' (first
      | with_reducible assumption | with_reducible apply bump_safe | with_reducible apply State.modPort_safe
      | with_reducible apply when_safe | split | intro _)

theorem endInterval256_safe (p : Nat) (s : State) (hsafe : Safe s) : Safe (endInterval256 p s) := hsafe

theorem packRecord_safe (key : Nat) (r : Record) (s : State) (hsafe : Safe s) : Safe (packRecord key r s).2 := by
  unfold packRecord; dsimp only
  repeat' (first
      | with_reducible assumption | with_reducible apply State.modStream_safe | exact Safe.fold (by assumption) | split
      | intro _)

theorem execRecordWrite_safe (gsi : Nat) (s : State) (hsafe : Safe s) : OutSafe (execRecordWrite gsi s) := by
  unfold execRecordWrite
  repeat' (first
      | with_reducible assumption | apply outSafe_next | with_reducible apply State.modStream_safe
      | with_reducible apply packRecord_safe | with_reducible apply ringWrite_safe | split | intro _)

theorem markPublished_safe (x : Tussock) (s : State) (hsafe : Safe s) : Safe (markPublished x s) := hsafe

theorem publishTussock_safe (x : Tussock) (body : List Byte) (s : State) (hsafe : Safe s) :
    Safe (publishTussock x body s) := by
  unfold publishTussock
  repeat' (first
      | with_reducible assumption | with_reducible apply startStream_safe | with_reducible apply markPublished_safe
      | with_reducible apply State.modStream_safe | split | intro _)

theorem publishReady_safe (key : Nat) (n : Nat) (s : State) (hsafe : Safe s) : Safe (publishReady key n s) := by
  induction n generalizing s with
  | zero => exact hsafe
  | succ n ih =>
    unfold publishReady
    try dsimp only
    iterate 60 all_goals (try (first
        | with_reducible assumption | with_reducible apply publishTussock_safe| with_reducible apply ih
        | with_reducible apply outSafe_next | with_reducible apply optSafe_some | with_reducible exact optSafe_none
        | with_reducible apply safe_ite | (intro _; try dsimp only) | split
        | (with_reducible refine safe_snd ?_ (by assumption)) | (with_reducible refine safe_fst ?_ (by assumption))
        | (change SafeParts _ _ _ _ _ _ _ _; try dsimp only; with_reducible refine Safe.fold ?_)))

theorem execTussockComplete_safe (gsi : Nat) (number : Nat) (s : State) (hsafe : Safe s) :
    OutSafe (execTussockComplete gsi number s) := by
  unfold execTussockComplete; dsimp only
  repeat' (first
      | with_reducible assumption | apply outSafe_next | with_reducible apply when_safe | with_reducible apply post_safe
      | with_reducible apply publishReady_safe | exact Safe.fold (by assumption) | split | intro _)

theorem bodySpkJob_safe (c : Cmd) (dmaq : Nat) (j : JobIn) (ctx : SpkCtx) (s : State) (hsafe : Safe s) :
    Safe (bodySpkJob c dmaq j ctx s).2 := by
  unfold bodySpkJob; dsimp only
  repeat' (first
      | with_reducible assumption | with_reducible apply checked_safe | exact Safe.fold (by assumption) | split | intro _)

theorem execSpkJobComplete_safe (tenant : Nat) (tag : BitVec 32) (s : State) (hsafe : Safe s) :
    OutSafe (execSpkJobComplete tenant tag s) := by
  unfold execSpkJobComplete; dsimp only
  repeat' (first
      | with_reducible assumption | apply outSafe_next | with_reducible apply drawn_safe
      | with_reducible apply writeOut_safe | with_reducible apply drawBytes_safe
      | with_reducible apply State.modTenant_safe | with_reducible apply finishLater_safe
      | exact Safe.fold (by assumption) | split | intro _)

theorem execSpkJob_safe (c : Cmd) (queue : Nat) (j : JobIn) (ctx : SpkCtx) (s : State) (hsafe : Safe s) :
    OutSafe (execSpkJob c queue j ctx s) := by
  refine command_safe _ _ _ _ _ (fun s h => ?_) hsafe
  apply bodySpkJob_safe; exact h

theorem execIdleExpiry_safe (p : Nat) (s : State) (hsafe : Safe s) : OutSafe (execIdleExpiry p s) := by
  unfold execIdleExpiry
  repeat' (first
      | with_reducible assumption | apply outSafe_next | with_reducible apply event_safe
      | with_reducible apply State.modPort_safe | split | intro _)

theorem enterLock_safe (p : Nat) (mask : Nat) (s : State) (hsafe : Safe s) : Safe (enterLock p mask s) := hsafe

theorem execRateSignalClassed_safe (p : Nat) (runs : List Nat) (s : State) (hsafe : Safe s) :
    OutSafe (execRateSignalClassed p runs s) := by
  unfold execRateSignalClassed; dsimp only
  repeat' (first
      | with_reducible assumption | apply outSafe_next | with_reducible apply event_safe
      | with_reducible apply State.modPort_safe | with_reducible apply enterLock_safe | exact Safe.fold (by assumption)
      | split | intro _)

theorem enterAdapt_safe (p : Nat) (mask : Nat) (s : State) (hsafe : Safe s) : Safe (enterAdapt p mask s) := by
  unfold enterAdapt; dsimp only
  repeat' (first
      | with_reducible assumption | with_reducible apply trainFail_safe | with_reducible apply State.modPort_safe
      | exact Safe.fold (by assumption) | split | intro _)

theorem execTs1_safe (p : Nat) (lanes : List TsFields) (s : State) (hsafe : Safe s) : OutSafe (execTs1 p lanes s) := by
  unfold execTs1; dsimp only
  repeat' (first
      | with_reducible assumption | apply outSafe_next | with_reducible apply event_safe
      | with_reducible apply State.modPort_safe | with_reducible apply trainFail_safe
      | with_reducible apply enterAdapt_safe | exact Safe.fold (by assumption) | split | intro _)

theorem execAdaptDone_safe (p : Nat) (ctle : List Nat) (dfe : List Int) (eyes : List (Nat × Nat)) (s : State) (hsafe :
    Safe s) : OutSafe (execAdaptDone p ctle dfe eyes s) := by
  unfold execAdaptDone; dsimp only
  repeat' (first
      | with_reducible assumption | apply outSafe_next | with_reducible apply event_safe
      | with_reducible apply State.modPort_safe | exact Safe.fold (by assumption) | split | intro _)

theorem execTs2_safe (p : Nat) (lanes : List TsFields) (skew : List Nat) (s : State) (hsafe : Safe s) :
    OutSafe (execTs2 p lanes skew s) := by
  unfold execTs2; dsimp only
  repeat' (first
      | with_reducible assumption | apply outSafe_next | with_reducible apply event_safe
      | with_reducible apply trainFail_safe | with_reducible apply State.modPort_safe | with_reducible apply portUp_safe
      | exact Safe.fold (by assumption) | split | intro _)

theorem execTrainingTimeout_safe (p : Nat) (passing : List Nat) (s : State) (hsafe : Safe s) :
    OutSafe (execTrainingTimeout p passing s) := by
  unfold execTrainingTimeout; dsimp only
  repeat' (first
      | with_reducible assumption | apply outSafe_next | with_reducible apply event_safe
      | with_reducible apply trainFail_safe | with_reducible apply enterLock_safe | with_reducible apply enterAdapt_safe
      | with_reducible apply State.modPort_safe | with_reducible apply portUp_safe | exact Safe.fold (by assumption)
      | split | intro _)

theorem startTraffic_safe (p : Nat) (lane : Nat) (width : Nat) (s : State) (hsafe : Safe s) :
    Safe (startTraffic p lane width s) := by
  unfold startTraffic
  repeat' (first
      | with_reducible assumption | with_reducible apply State.modPort_safe | with_reducible apply pump_safe | split
      | intro _)

theorem rxFaults_safe (p : Nat) (mask : Nat) (s : State) (hsafe : Safe s) : Safe (rxFaults p mask s) := by
  unfold rxFaults; dsimp only
  repeat' (first
      | with_reducible assumption | with_reducible apply each_safe | with_reducible apply bump_safe
      | with_reducible apply linkDown_safe | with_reducible apply State.modPort_safe | exact Safe.fold (by assumption)
      | split | intro _)

theorem txReduce_safe (p : Nat) (mask : Nat) (s : State) (hsafe : Safe s) : Safe (txReduce p mask s) := by
  unfold txReduce; dsimp only
  repeat' (first
      | with_reducible assumption | with_reducible apply linkDown_safe | with_reducible apply bump_safe
      | with_reducible apply State.modPort_safe | exact Safe.fold (by assumption) | split | intro _)

theorem execSkipBlock_safe (p : Nat) (count : Nat) (x : SkipIn) (s : State) (hsafe : Safe s) :
    OutSafe (execSkipBlock p count x s) := by
  unfold execSkipBlock; dsimp only
  repeat' (first
      | with_reducible assumption | apply outSafe_next | with_reducible apply event_safe | with_reducible apply each_safe
      | with_reducible apply receiveRaw_safe | with_reducible apply endInterval256_safe | with_reducible apply bump_safe
      | with_reducible apply State.modPort_safe | with_reducible apply rxFaults_safe | exact Safe.fold (by assumption)
      | split | intro _)

theorem execLaneFault_safe (p : Nat) (mask : Nat) (s : State) (hsafe : Safe s) : OutSafe (execLaneFault p mask s) := by
  unfold execLaneFault; dsimp only
  repeat' (first
      | with_reducible assumption | apply outSafe_next | with_reducible apply event_safe
      | with_reducible apply txReduce_safe | with_reducible apply each_safe | with_reducible apply bump_safe
      | exact Safe.fold (by assumption) | split | intro _)

theorem execWidthBlock_safe (p : Nat) (mask : Nat) (s : State) (hsafe : Safe s) : OutSafe (execWidthBlock p mask s) := by
  unfold execWidthBlock; dsimp only
  repeat' (first
      | with_reducible assumption | apply outSafe_next | with_reducible apply event_safe | with_reducible apply bump_safe
      | with_reducible apply State.modPort_safe | exact Safe.fold (by assumption) | split | intro _)

theorem execLossOfSignal_safe (p : Nat) (lanes : List Nat) (s : State) (hsafe : Safe s) :
    OutSafe (execLossOfSignal p lanes s) := by
  unfold execLossOfSignal; dsimp only
  repeat' (first
      | with_reducible assumption | apply outSafe_next | with_reducible apply event_safe | with_reducible apply each_safe
      | with_reducible apply bump_safe | with_reducible apply toIdle_safe | with_reducible apply linkDown_safe
      | with_reducible apply rxFaults_safe | exact Safe.fold (by assumption) | split | intro _)

theorem execQuietIdleExpiry_safe (p : Nat) (s : State) (hsafe : Safe s) : OutSafe (execQuietIdleExpiry p s) := by
  unfold execQuietIdleExpiry; dsimp only
  repeat' (first
      | with_reducible assumption | apply outSafe_next | with_reducible apply event_safe
      | with_reducible apply State.modPort_safe | exact Safe.fold (by assumption) | split | intro _)

theorem execQuietReq_safe (p : Nat) (s : State) (hsafe : Safe s) : OutSafe (execQuietReq p s) := by
  unfold execQuietReq
  repeat' (first
      | with_reducible assumption | apply outSafe_next | with_reducible apply event_safe
      | with_reducible apply State.modPort_safe | split | intro _)

theorem startWake_safe (p : Nat) (s : State) (hsafe : Safe s) : Safe (startWake p s) := hsafe

theorem execQuietAck_safe (p : Nat) (s : State) (hsafe : Safe s) : OutSafe (execQuietAck p s) := by
  unfold execQuietAck; dsimp only
  repeat' (first
      | with_reducible assumption | apply outSafe_next | with_reducible apply event_safe
      | with_reducible apply State.modPort_safe | exact Safe.fold (by assumption) | split | intro _)

theorem finishEntries_safe (s : State) (hsafe : Safe s) : Safe (finishEntries s) := by
  unfold finishEntries
  repeat' (first
      | with_reducible assumption | with_reducible apply each_safe | with_reducible apply bump_safe
      | with_reducible apply State.modPort_safe | split | intro _)

theorem execQuietEnter_safe (p : Nat) (mask : Nat) (s : State) (hsafe : Safe s) : OutSafe (execQuietEnter p mask s) := by
  unfold execQuietEnter; dsimp only
  repeat' (first
      | with_reducible assumption | apply outSafe_next | with_reducible apply event_safe | with_reducible apply bump_safe
      | with_reducible apply State.modPort_safe | exact Safe.fold (by assumption) | split | intro _)

theorem execQuietEntryWithdrawn_safe (p : Nat) (s : State) (hsafe : Safe s) : OutSafe (execQuietEntryWithdrawn p s) := by
  unfold execQuietEntryWithdrawn
  repeat' (first
      | with_reducible assumption | apply outSafe_next | with_reducible apply event_safe
      | with_reducible apply State.modPort_safe | split | intro _)

theorem wakeNeed_safe (p : Nat) (s : State) (hsafe : Safe s) : Safe (wakeNeed p s) := by
  unfold wakeNeed
  repeat' (first
      | with_reducible assumption | with_reducible apply State.modPort_safe | with_reducible apply bump_safe
      | with_reducible apply startWake_safe | split | intro _)

theorem execWakeNeed_safe (p : Nat) (s : State) (hsafe : Safe s) : OutSafe (execWakeNeed p s) := by
  unfold execWakeNeed
  repeat' (first
      | with_reducible assumption | apply outSafe_next | with_reducible apply event_safe
      | with_reducible apply wakeNeed_safe | split | intro _)

theorem execIdleExitEnd_safe (p : Nat) (s : State) (hsafe : Safe s) : OutSafe (execIdleExitEnd p s) := by
  unfold execIdleExitEnd; dsimp only
  repeat' (first
      | with_reducible assumption | apply outSafe_next | with_reducible apply event_safe | with_reducible apply bump_safe
      | with_reducible apply State.modPort_safe | exact Safe.fold (by assumption) | split | intro _)

theorem execWakeBlock_safe (p : Nat) (aligned : List Nat) (s : State) (hsafe : Safe s) :
    OutSafe (execWakeBlock p aligned s) := by
  unfold execWakeBlock; dsimp only
  repeat' (first
      | with_reducible assumption | apply outSafe_next | with_reducible apply event_safe | with_reducible apply bump_safe
      | with_reducible apply State.modPort_safe | with_reducible apply rxFaults_safe | exact Safe.fold (by assumption)
      | split | intro _)

theorem execLoopBlock_safe (p : Nat) (code : Nat) (s : State) (hsafe : Safe s) : OutSafe (execLoopBlock p code s) := by
  unfold execLoopBlock; dsimp only
  repeat' (first
      | with_reducible assumption | apply outSafe_next | with_reducible apply event_safe
      | with_reducible apply failPort_safe | with_reducible apply State.modPort_safe
      | with_reducible apply finishLater_safe | exact Safe.fold (by assumption) | split | intro _)

theorem execPrbsCheckerLock_safe (lane : Nat) (received : List Bool) (bits : Nat) (errors : Nat) (s : State) (hsafe :
    Safe s) : OutSafe (execPrbsCheckerLock lane received bits errors s) := by
  unfold execPrbsCheckerLock; dsimp only
  repeat' (first
      | with_reducible assumption | apply outSafe_next | with_reducible apply event_safe
      | with_reducible apply State.modLane_safe | exact Safe.fold (by assumption) | split | intro _)

theorem nak_safe (p : Nat) (s : State) (hsafe : Safe s) : Safe (nak p s) := by
  unfold nak
  repeat' (first
      | with_reducible assumption | with_reducible apply bump_safe | with_reducible apply State.modPort_safe | split
      | intro _)

theorem forwardMcast_safe (p : Nat) (f : Frame) (s : State) (hsafe : Safe s) : Safe (forwardMcast p f s) := by
  unfold forwardMcast
  repeat' (first
      | with_reducible assumption | with_reducible apply bump_safe | with_reducible apply each_safe
      | with_reducible apply forwardOn_safe | split | intro _)

theorem forwardUni_safe (p : Nat) (f : Frame) (s : State) (hsafe : Safe s) : Safe (forwardUni p f s) := by
  unfold forwardUni
  repeat' (first
      | with_reducible assumption | with_reducible apply bump_safe | with_reducible apply forwardOn_safe | split | intro _)

theorem accept_safe (p : Nat) (f : Frame) (s : State) (hsafe : Safe s) : Safe (accept p f s) := by
  unfold accept
  repeat' (first
      | with_reducible assumption | with_reducible apply bump_safe | with_reducible apply forwardMcast_safe
      | with_reducible apply forwardUni_safe | split | intro _)

theorem stompCopy_safe (p : Nat) (f : Frame) (s : State) (hsafe : Safe s) : Safe (stompCopy p f s) := by
  unfold stompCopy
  repeat' (first
      | with_reducible assumption | with_reducible apply each_safe | with_reducible apply bump_safe
      | with_reducible apply forwardOn_safe | split | intro _)

theorem execFrameReceive_safe (p : Nat) (f : Frame) (t : Inst) (s : State) (hsafe : Safe s) :
    OutSafe (execFrameReceive p f t s) := by
  unfold execFrameReceive; dsimp only
  repeat' (first
      | with_reducible assumption | apply outSafe_next | with_reducible apply touch_safe | with_reducible apply event_safe
      | with_reducible apply nak_safe | with_reducible apply bump_safe | with_reducible apply harmWord_safe
      | with_reducible apply State.modPort_safe | with_reducible apply release_safe | with_reducible apply stompCopy_safe
      | with_reducible apply accept_safe | exact Safe.fold (by assumption) | split | intro _)

theorem replay_safe (p : Nat) (s : State) (hsafe : Safe s) : Safe (replay p s) := by
  unfold replay
  repeat' (first
      | with_reducible assumption | with_reducible apply bump_safe | with_reducible apply State.modPort_safe
      | with_reducible apply bumpBy_safe | split | intro _)

theorem ackXtrigs_safe (p : Nat) (xtAck : Nat) (s : State) (hsafe : Safe s) : Safe (ackXtrigs p xtAck s) := hsafe

theorem replayFail_safe (p : Nat) (s : State) (hsafe : Safe s) : Safe (replayFail p s) := by
  unfold replayFail
  repeat' (first
      | with_reducible assumption | with_reducible apply toIdle_safe | with_reducible apply failPort_safe | split | intro _)

theorem execAckBlock_safe (p : Nat) (ack : Nat) (nak : Bool) (xtAck : Nat) (s : State) (hsafe : Safe s) :
    OutSafe (execAckBlock p ack nak xtAck s) := by
  unfold execAckBlock; dsimp only
  repeat' (first
      | with_reducible assumption | apply outSafe_next | with_reducible apply event_safe
      | with_reducible apply State.modPort_safe | with_reducible apply ackXtrigs_safe | with_reducible apply nak_safe
      | with_reducible apply replayFail_safe | with_reducible apply replay_safe | with_reducible apply pump_safe
      | exact Safe.fold (by assumption) | split | intro _)

theorem execCreditBlock_safe (p : Nat) (counts : List Nat) (s : State) (hsafe : Safe s) :
    OutSafe (execCreditBlock p counts s) := by
  unfold execCreditBlock
  repeat' (first
      | with_reducible assumption | apply outSafe_next | with_reducible apply event_safe
      | with_reducible apply State.modPort_safe | with_reducible apply pump_safe | split | intro _)

theorem execReplayTimeout_safe (p : Nat) (s : State) (hsafe : Safe s) : OutSafe (execReplayTimeout p s) := by
  unfold execReplayTimeout; dsimp only
  repeat' (first
      | with_reducible assumption | apply outSafe_next | with_reducible apply event_safe
      | with_reducible apply State.modPort_safe | with_reducible apply replayFail_safe | with_reducible apply replay_safe
      | exact Safe.fold (by assumption) | split | intro _)

theorem execAckTimer_safe (p : Nat) (s : State) (hsafe : Safe s) : OutSafe (execAckTimer p s) := by
  unfold execAckTimer
  repeat' (first
      | with_reducible assumption | apply outSafe_next | with_reducible apply event_safe
      | with_reducible apply State.modPort_safe | split | intro _)

theorem execCreditTimer_safe (p : Nat) (s : State) (hsafe : Safe s) : OutSafe (execCreditTimer p s) := by
  unfold execCreditTimer; apply event_safe; exact hsafe

theorem execTimedLaunch_safe (p : Nat) (t : Inst) (s : State) (hsafe : Safe s) : OutSafe (execTimedLaunch p t s) := by
  unfold execTimedLaunch
  repeat' (first
      | with_reducible assumption | apply outSafe_next | with_reducible apply touch_safe | with_reducible apply event_safe
      | with_reducible apply State.modPort_safe | with_reducible apply enqueue_safe | with_reducible apply when_safe
      | with_reducible apply bump_safe | split | intro _)

theorem chooseParent_safe (s : State) (hsafe : Safe s) : Safe (chooseParent s) := by
  unfold chooseParent
  repeat' (first
      | with_reducible assumption | with_reducible apply withAlt_safe | with_reducible apply changeParent_safe | split
      | intro _)

theorem rankPeriod_safe (s : State) (hsafe : Safe s) : Safe (rankPeriod s) := by
  unfold rankPeriod; apply chooseParent_safe; exact hsafe

theorem execHelloTimer_safe (p : Nat) (s : State) (hsafe : Safe s) : OutSafe (execHelloTimer p s) := by
  unfold execHelloTimer
  repeat' (first
      | with_reducible assumption | apply outSafe_next | with_reducible apply event_safe | with_reducible apply when_safe
      | with_reducible apply rankPeriod_safe | with_reducible apply sendFrame_safe
      | with_reducible apply State.modPort_safe | split | intro _)

theorem askAddress_safe (s : State) (hsafe : Safe s) : Safe (askAddress s) := by
  unfold askAddress; dsimp only
  repeat' (first
      | with_reducible assumption | with_reducible apply each_safe | with_reducible apply sendFrame_safe
      | exact Safe.fold (by assumption) | split | intro _)

theorem giveUpAddress_safe (other : Nat) (s : State) (hsafe : Safe s) : Safe (giveUpAddress other s) := by
  unfold giveUpAddress
  try dsimp only
  iterate 60 all_goals (try (first
      | with_reducible assumption | with_reducible apply postAt_safe | with_reducible apply askAddress_safe
      | with_reducible apply outSafe_next | with_reducible apply optSafe_some | with_reducible exact optSafe_none
      | with_reducible apply safe_ite | (intro _; try dsimp only) | split
      | (with_reducible refine safe_snd ?_ (by assumption)) | (with_reducible refine safe_fst ?_ (by assumption))
      | (change SafeParts _ _ _ _ _ _ _ _; try dsimp only; with_reducible refine Safe.fold ?_)))

theorem seeUid_safe (uid : Nat) (s : State) (hsafe : Safe s) : Safe (seeUid uid s) := hsafe

theorem addrClash_safe (hub : Nat) (uid : Nat) (s : State) (hsafe : Safe s) : Safe (addrClash hub uid s) := by
  unfold addrClash; dsimp only
  repeat' (first
      | with_reducible assumption | with_reducible apply giveUpAddress_safe | exact Safe.fold (by assumption) | split
      | intro _)

theorem execHello_safe (p : Nat) (m : HelloMsg) (s : State) (hsafe : Safe s) : OutSafe (execHello p m s) := by
  unfold execHello; dsimp only
  repeat' (first
      | with_reducible assumption | apply outSafe_next | with_reducible apply event_safe
      | with_reducible apply State.modPort_safe | with_reducible apply addrClash_safe | with_reducible apply seeUid_safe
      | with_reducible apply sendLsa_safe | exact Safe.fold (by assumption) | split | intro _)

theorem execLsaTimer_safe (s : State) (hsafe : Safe s) : OutSafe (execLsaTimer s) := by
  unfold execLsaTimer
  repeat' (first | with_reducible assumption | apply outSafe_next | with_reducible apply sendLsa_safe | split | intro _)

theorem execNeighbourLoss_safe (p : Nat) (s : State) (hsafe : Safe s) : OutSafe (execNeighbourLoss p s) := by
  unfold execNeighbourLoss
  repeat' (first
      | with_reducible assumption | apply outSafe_next | with_reducible apply event_safe | with_reducible apply bump_safe
      | with_reducible apply State.modPort_safe | with_reducible apply failPort_safe | split | intro _)

theorem reacquire_safe (off : Int) (s : State) (hsafe : Safe s) : Safe (reacquire off s) := by
  unfold reacquire; dsimp only
  repeat' (first
      | with_reducible assumption | with_reducible apply step_safe | exact Safe.fold (by assumption) | split | intro _)

theorem followRoot_safe (off : Int) (s : State) (hsafe : Safe s) : Safe (followRoot off s) := by
  unfold followRoot; dsimp only
  repeat' (first
      | with_reducible assumption | with_reducible apply holdoverEntry_safe | with_reducible apply reacquire_safe
      | exact Safe.fold (by assumption) | split | intro _)

theorem adoptRoot_safe (c : Cand) (s : State) (hsafe : Safe s) : Safe (adoptRoot c s) := hsafe

theorem execRootChange_safe (offset : Int) (s : State) (hsafe : Safe s) : OutSafe (execRootChange offset s) := by
  unfold execRootChange
  repeat' (first
      | with_reducible assumption | apply outSafe_next | with_reducible apply followRoot_safe
      | with_reducible apply postAt_safe | with_reducible apply adoptRoot_safe | split | intro _)

theorem grantAddr_safe (p : Nat) (uid : Nat) (a : Nat) (t : Inst) (s : State) (hsafe : Safe s) :
    Safe (grantAddr p uid a t s) := by
  unfold grantAddr; dsimp only
  repeat' (first
      | with_reducible assumption | with_reducible apply noteUse_safe | with_reducible apply sendFrame_safe
      | exact Safe.fold (by assumption) | split | intro _)

theorem execAddrReq_safe (p : Nat) (uid : Nat) (held : Nat) (t : Inst) (s : State) (hsafe : Safe s) :
    OutSafe (execAddrReq p uid held t s) := by
  unfold execAddrReq
  try dsimp only
  iterate 60 all_goals (try (first
      | with_reducible assumption | with_reducible apply touch_safe | with_reducible apply event_safe
      | with_reducible apply sendFrame_safe | with_reducible apply grantAddr_safe | with_reducible apply postAt_safe
      | with_reducible apply outSafe_next | with_reducible apply optSafe_some | with_reducible exact optSafe_none
      | with_reducible apply safe_ite | (intro _; try dsimp only) | split
      | (with_reducible refine safe_snd ?_ (by assumption)) | (with_reducible refine safe_fst ?_ (by assumption))
      | (change SafeParts _ _ _ _ _ _ _ _; try dsimp only; with_reducible refine Safe.fold ?_)))

theorem execAddrGrant_safe (p : Nat) (uid : Nat) (addr : Nat) (s : State) (hsafe : Safe s) :
    OutSafe (execAddrGrant p uid addr s) := by
  unfold execAddrGrant; dsimp only
  repeat' (first
      | with_reducible assumption | apply outSafe_next | with_reducible apply event_safe
      | with_reducible apply sendFrame_safe | exact Safe.fold (by assumption) | split | intro _)

theorem execAddrReqRetry_safe (s : State) (hsafe : Safe s) : OutSafe (execAddrReqRetry s) := by
  unfold execAddrReqRetry
  repeat' (first | with_reducible assumption | apply outSafe_next | with_reducible apply askAddress_safe | split | intro _)

theorem modXchg_safe (p : Nat) (f : Xchg → Xchg) (s : State) (hsafe : Safe s) : Safe (modXchg p f s) := hsafe

theorem execTimeRequestTimer_safe (p : Nat) (t : Inst) (s : State) (hsafe : Safe s) :
    OutSafe (execTimeRequestTimer p t s) := by
  unfold execTimeRequestTimer
  repeat' (first
      | with_reducible assumption | apply outSafe_next | with_reducible apply touch_safe | with_reducible apply event_safe
      | with_reducible apply modXchg_safe | with_reducible apply sendFrame_safe | split | intro _)

theorem execTimeReq_safe (p : Nat) (xseq : Nat) (qual : BitVec 16) (t : Inst) (s : State) (hsafe : Safe s) :
    OutSafe (execTimeReq p xseq qual t s) := by
  unfold execTimeReq; dsimp only
  repeat' (first
      | with_reducible assumption | apply outSafe_next | with_reducible apply touch_safe | with_reducible apply event_safe
      | with_reducible apply modXchg_safe | with_reducible apply State.modPort_safe | with_reducible apply noteUse_safe
      | exact Safe.fold (by assumption) | split | intro _)

theorem execTimeResp_safe (p : Nat) (xseq : Nat) (qual : BitVec 16) (t2 : Inst) (t3 : Inst) (t4 : Inst) (late : Bool) (s :
    State) (hsafe : Safe s) : OutSafe (execTimeResp p xseq qual t2 t3 t4 late s) := by
  unfold execTimeResp; dsimp only
  repeat' (first
      | with_reducible assumption | apply outSafe_next | with_reducible apply touch_safe | with_reducible apply event_safe
      | with_reducible apply modXchg_safe | with_reducible apply State.modPort_safe | exact Safe.fold (by assumption)
      | split | intro _)

theorem execTimeRespTimeout_safe (p : Nat) (s : State) (hsafe : Safe s) : OutSafe (execTimeRespTimeout p s) := by
  unfold execTimeRespTimeout
  repeat' (first
      | with_reducible assumption | apply outSafe_next | with_reducible apply event_safe
      | with_reducible apply modXchg_safe | split | intro _)

theorem zeroEvent_safe (g : Nat) (t : Inst) (hold : Bool) (code : Option Nat) (s : State) (hsafe : Safe s) :
    Safe (zeroEvent g t hold code s) := by
  unfold zeroEvent
  repeat' (first
      | with_reducible assumption | with_reducible apply zeroStats_safe | with_reducible apply zeroFires_safe
      | with_reducible apply emitItem_safe | split | intro _)

theorem shaftResult_safe (g : Nat) (t : Inst) (code : Option Nat) (x : Shaft) (v : Verdict) (s : State) (hsafe : Safe s) :
    Safe (shaftResult g t code x v s) := by
  unfold shaftResult; dsimp only
  repeat' (first
      | with_reducible assumption | with_reducible apply State.modShaft_safe | with_reducible apply when_safe
      | with_reducible apply bump_safe | with_reducible apply post_safe | with_reducible apply zeroEvent_safe
      | with_reducible apply sendDecision_safe | exact Safe.fold (by assumption) | split | intro _)

theorem shaftEdge_safe (g : Nat) (t : Inst) (code : Option Nat) (s : State) (hsafe : Safe s) :
    Safe (shaftEdge g t code s).1 := by
  unfold shaftEdge
  repeat' (first
      | with_reducible assumption | with_reducible apply sendDecision_safe | with_reducible apply shaftResult_safe | split
      | intro _)

theorem missRevolution_safe (g : Nat) (s : State) (hsafe : Safe s) : Safe (missRevolution g s) := by
  unfold missRevolution; dsimp only
  repeat' (first
      | with_reducible assumption | with_reducible apply shaftResult_safe | with_reducible apply sendDecision_safe
      | exact Safe.fold (by assumption) | split | intro _)

theorem loseEdge_safe (g : Nat) (s : State) (hsafe : Safe s) : Safe (loseEdge g s) := by
  unfold loseEdge; dsimp only
  repeat' (first
      | with_reducible assumption | with_reducible apply shaftResult_safe | with_reducible apply State.modTach_safe
      | exact Safe.fold (by assumption) | split | intro _)

theorem emitEdge_safe (n : Nat) (e : Inst × Bool × Nat) (v : Verdict) (s : State) (hsafe : Safe s) :
    Safe (emitEdge n e v s) := by
  unfold emitEdge; apply emitItem_safe; exact hsafe

theorem flushEdges_safe (n : Nat) (v : Verdict) (s : State) (hsafe : Safe s) : Safe (flushEdges n v s) := by
  unfold flushEdges; dsimp only
  repeat' (first
      | with_reducible assumption | with_reducible apply State.modTach_safe | with_reducible apply each_safe
      | with_reducible apply emitEdge_safe | exact Safe.fold (by assumption) | split | intro _)

theorem edgeEntry_safe (n : Nat) (t : Inst) (near : Bool) (v : Verdict) (s : State) (hsafe : Safe s) :
    Safe (edgeEntry n t near v s) := by
  unfold edgeEntry; dsimp only
  repeat' (first
      | with_reducible assumption | with_reducible apply State.modTach_safe | with_reducible apply emitEdge_safe
      | exact Safe.fold (by assumption) | split | intro _)

theorem abortCode_safe (n : Nat) (s : State) (hsafe : Safe s) : Safe (abortCode n s) := by
  unfold abortCode; dsimp only
  repeat' (first
      | with_reducible assumption | with_reducible apply bump_safe | with_reducible apply State.modTach_safe
      | with_reducible apply flushEdges_safe | with_reducible apply each_safe | with_reducible apply missRevolution_safe
      | exact Safe.fold (by assumption) | split | intro _)

theorem judgeCode_safe (n : Nat) (t : Inst) (code : Nat) (s : State) (hsafe : Safe s) : Safe (judgeCode n t code s).1 := by
  unfold judgeCode
  refine foldl_safe Prod.fst _ _ (fun a g h => ?_) (s, _) hsafe
  exact shaftEdge_safe g t (some code) a.1 h

theorem dropCode_safe (n : Nat) (s : State) (hsafe : Safe s) : Safe (dropCode n s) := by
  unfold dropCode; dsimp only
  repeat' (first
      | with_reducible assumption | with_reducible apply flushEdges_safe | with_reducible apply State.modTach_safe
      | with_reducible apply each_safe | with_reducible apply loseEdge_safe | exact Safe.fold (by assumption) | split
      | intro _)

theorem codeDone_safe (n : Nat) (d : Decoder) (s : State) (hsafe : Safe s) : Safe (codeDone n d s) := by
  unfold codeDone; dsimp only
  repeat' (first
      | with_reducible assumption | with_reducible apply State.modTach_safe | with_reducible apply flushEdges_safe
      | with_reducible apply bump_safe | with_reducible apply each_safe | with_reducible apply missRevolution_safe
      | with_reducible apply judgeCode_safe | exact Safe.fold (by assumption) | split | intro _)

theorem startCode_safe (n : Nat) (t : Inst) (s : State) (hsafe : Safe s) : Safe (startCode n t s) := hsafe

theorem decode1_safe (n : Nat) (stripe : Bool) (t : Inst) (s : State) (hsafe : Safe s) : Safe (decode1 n stripe t s) := by
  unfold decode1; dsimp only
  repeat' (first
      | with_reducible assumption | with_reducible apply startCode_safe | with_reducible apply State.modTach_safe
      | with_reducible apply abortCode_safe | with_reducible apply codeDone_safe | exact Safe.fold (by assumption) | split
      | intro _)

theorem feedGroups_safe (n : Nat) (t : Inst) (s : State) (hsafe : Safe s) : Safe (feedGroups n t s).1 := by
  unfold feedGroups
  split
  · exact hsafe
  · dsimp only
    refine foldl_safe Prod.fst _ _ (fun a g h => ?_) (_, _) ?_
    · exact shaftEdge_safe g t none a.1 h
    · exact each_safe _ _ _ (fun _ _ h => State.modShaft_safe _ _ _ h) hsafe

theorem asOpened_safe (n : Nat) (f : State → State) (s : State) (hf : ∀ s, Safe s → Safe (f s)) (hsafe : Safe s) :
    Safe (asOpened n f s) := by
  unfold asOpened
  dsimp only
  split
  · exact hf s hsafe
  · refine State.modTach_safe _ _ _ (safe_ite (fun _ => ?_) (fun _ => dropCode_safe _ _ ?_)) <;>
      exact hf _ (State.modTach_safe _ _ _ hsafe)

theorem confirmPulse_safe (n : Nat) (s : State) (hsafe : Safe s) : Safe (confirmPulse n s) := by
  unfold confirmPulse; dsimp only
  repeat' (first
      | with_reducible assumption | with_reducible apply State.modTach_safe | with_reducible apply drivePin_safe
      | with_reducible apply decode1_safe | with_reducible apply bump_safe | with_reducible apply feedGroups_safe
      | with_reducible apply edgeEntry_safe | exact Safe.fold (by assumption) | split | intro _)

theorem openPulse_safe (n : Nat) (t : Inst) (high : Bool) (s : State) (hsafe : Safe s) : Safe (openPulse n t high s) := by
  unfold openPulse
  repeat' (first
      | with_reducible assumption | with_reducible apply State.modTach_safe | with_reducible apply bump_safe
      | with_reducible apply confirmPulse_safe | split | intro _)

theorem execTachTransition_safe (n : Nat) (uv : Int) (t : Inst) (s : State) (hsafe : Safe s) :
    OutSafe (execTachTransition n uv t s) := by
  unfold execTachTransition; dsimp only
  repeat' (first
      | with_reducible assumption | apply outSafe_next | with_reducible apply touch_safe | with_reducible apply event_safe
      | with_reducible apply asOpened_safe | with_reducible apply openPulse_safe | exact Safe.fold (by assumption) | split
      | intro _)

theorem execTachEdgeConfirmed_safe (n : Nat) (s : State) (hsafe : Safe s) : OutSafe (execTachEdgeConfirmed n s) := by
  unfold execTachEdgeConfirmed
  repeat' (first
      | with_reducible assumption | apply outSafe_next | with_reducible apply event_safe
      | with_reducible apply asOpened_safe | with_reducible apply confirmPulse_safe | with_reducible apply touch_safe
      | split | intro _)

theorem execEdgeDeadline_safe (g : Nat) (s : State) (hsafe : Safe s) : OutSafe (execEdgeDeadline g s) := by
  unfold execEdgeDeadline; dsimp only
  repeat' (first
      | with_reducible assumption | apply outSafe_next | with_reducible apply event_safe
      | with_reducible apply loseEdge_safe | with_reducible apply touch_safe | exact Safe.fold (by assumption) | split
      | intro _)

theorem execCodeTimeout_safe (n : Nat) (s : State) (hsafe : Safe s) : OutSafe (execCodeTimeout n s) := by
  unfold execCodeTimeout
  repeat' (first
      | with_reducible assumption | apply outSafe_next | with_reducible apply event_safe
      | with_reducible apply abortCode_safe | split | intro _)

theorem execCodeFlood_safe (n : Nat) (s : State) (hsafe : Safe s) : OutSafe (execCodeFlood n s) := by
  unfold execCodeFlood; dsimp only
  repeat' (first
      | with_reducible assumption | apply outSafe_next | with_reducible apply event_safe
      | with_reducible apply abortCode_safe | with_reducible apply bump_safe | with_reducible apply State.modTach_safe
      | with_reducible apply each_safe | with_reducible apply missRevolution_safe | exact Safe.fold (by assumption)
      | split | intro _)

theorem execShaftFallback_safe (g : Nat) (s : State) (hsafe : Safe s) : OutSafe (execShaftFallback g s) := by
  unfold execShaftFallback; dsimp only
  repeat' (first
      | with_reducible assumption | apply outSafe_next | with_reducible apply event_safe
      | with_reducible apply State.modShaft_safe | with_reducible apply bump_safe | with_reducible apply post_safe
      | with_reducible apply sendDecision_safe | exact Safe.fold (by assumption) | split | intro _)

theorem predictedZero_safe (g : Nat) (s : State) (hsafe : Safe s) : Safe (predictedZero g s) := by
  unfold predictedZero; dsimp only
  repeat' (first
      | with_reducible assumption | with_reducible apply touch_safe | with_reducible apply State.modShaft_safe
      | with_reducible apply sendDecision_safe | with_reducible apply zeroEvent_safe | exact Safe.fold (by assumption)
      | split | intro _)

theorem execPredictedZero_safe (g : Nat) (s : State) (hsafe : Safe s) : OutSafe (execPredictedZero g s) := by
  unfold execPredictedZero
  repeat' (first
      | with_reducible assumption | apply outSafe_next | with_reducible apply event_safe
      | with_reducible apply predictedZero_safe | split | intro _)

theorem remoteEdges_safe (gsi : Nat) (ts : List Inst) (s : State) (hsafe : Safe s) : Safe (remoteEdges gsi ts s) := by
  unfold remoteEdges
  repeat' (first
      | with_reducible assumption | with_reducible apply each_safe | with_reducible apply shaftEdge_safe | split | intro _)

theorem takePacked_safe (gsi : Nat) (seqLo : Nat) (p : PackedIn) (s : State) (hsafe : Safe s) :
    Safe (takePacked gsi seqLo p s) := by
  unfold takePacked; dsimp only
  repeat' (first
      | with_reducible assumption | with_reducible apply done_safe | exact Safe.fold (by assumption) | split | intro _)

theorem takeRecord_safe (gsi : Nat) (seqLo : Nat) (x : DataIn) (s : State) (hsafe : Safe s) :
    Safe (takeRecord gsi seqLo x s) := by
  unfold takeRecord; dsimp only
  repeat' (first
      | with_reducible assumption | with_reducible apply takePacked_safe | with_reducible apply remoteEdges_safe
      | exact Safe.fold (by assumption) | split | intro _)

theorem execDataFrame_safe (src : Nat) (gsi : Nat) (sub : Nat) (first : Bool) (last : Bool) (offset : Nat)
    (seqLo : Nat) (bytes : Nat) (x : DataIn) (s : State) (hsafe : Safe s) : OutSafe (execDataFrame src gsi sub first last offset seqLo bytes x s) := by
  unfold execDataFrame; dsimp only
  repeat' (first
      | with_reducible assumption | apply outSafe_next | with_reducible apply takeRecord_safe
      | exact Safe.fold (by assumption) | split | intro _)

theorem asTail_safe (m : Nat) (t : Tail) (s : State) (hsafe : Safe s) : Safe (asTail m t s) := by
  unfold asTail
  repeat' (first
      | with_reducible assumption | with_reducible apply State.modChain_safe | with_reducible apply State.modPipe_safe
      | with_reducible apply State.modShaft_safe | split | intro _)

theorem feedCode_safe (m : Nat) (w : Samp) (loaded : Bool) (s : State) (hsafe : Safe s) : Safe (feedCode m w loaded s) := by
  unfold feedCode; dsimp only
  repeat' (first
      | with_reducible assumption | with_reducible apply State.modPipe_safe | with_reducible apply asTail_safe
      | exact Safe.fold (by assumption) | split | intro _)

theorem codeWord_safe (m : Nat) (code : Nat) (cycle : Nat) (poisoned : Bool) (s : State) (hsafe : Safe s) :
    Safe (codeWord m code cycle poisoned s) := by
  unfold codeWord
  repeat' (first
      | with_reducible assumption | with_reducible apply State.modModu_safe | with_reducible apply when_safe
      | with_reducible apply bump_safe | with_reducible apply feedCode_safe | split | intro _)

theorem sliceWord_safe (tile : Nat) (cycle : Nat) (sl : Nat) (b : BitVec 16) (lost : Bool) (s : State) (hsafe : Safe s) :
    Safe (sliceWord tile cycle sl b lost s) := by
  unfold sliceWord
  repeat' (first
      | with_reducible assumption | with_reducible apply when_safe | with_reducible apply bump_safe
      | with_reducible apply each_safe | with_reducible apply codeWord_safe | split | intro _)

theorem groupIn_safe (tile : Nat) (cycle : Nat) (x : LinkIn) (g : Nat) (s : State) (hsafe : Safe s) :
    Safe (groupIn tile cycle x g s) := by
  unfold groupIn
  repeat' (first
      | with_reducible assumption | with_reducible apply State.modLink_safe | with_reducible apply pushWord_safe
      | with_reducible apply when_safe | with_reducible apply State.modFifo_safe | with_reducible apply popWord_safe
      | with_reducible apply each_safe | with_reducible apply sliceWord_safe | split | intro _)

theorem execTileLinkWord_safe (tile : Nat) (x : LinkIn) (cycle : Nat) (s : State) (hsafe : Safe s) :
    OutSafe (execTileLinkWord tile x cycle s) := by
  unfold execTileLinkWord
  repeat' (first
      | with_reducible assumption | apply outSafe_next | with_reducible apply touch_safe | with_reducible apply event_safe
      | with_reducible apply each_safe | with_reducible apply groupIn_safe | split | intro _)

theorem setIndex_safe (m : Nat) (b : Band) (j : Nat) (s : State) (hsafe : Safe s) : Safe (setIndex m b j s) := hsafe

theorem deliverWord_safe (m : Nat) (b : Band) (w : Word) (s : State) (hsafe : Safe s) : Safe (deliverWord m b w s) := by
  unfold deliverWord; dsimp only
  repeat' (first
      | with_reducible assumption | with_reducible apply State.modPipe_safe | with_reducible apply touch_safe
      | with_reducible apply emitItem_safe | with_reducible apply addStats_safe | with_reducible apply trigSample_safe
      | exact Safe.fold (by assumption) | split | intro _)

theorem nextLow_safe (m : Nat) (n : Nat) (s : State) (hsafe : Safe s) : Safe (nextLow m n s).1 := by
  induction n generalizing s with
  | zero => exact hsafe
  | succ n ih =>
    unfold nextLow
    try dsimp only
    iterate 60 all_goals (try (first
        | with_reducible assumption | with_reducible apply setIndex_safe | with_reducible apply State.modPipe_safe
        | with_reducible apply State.modChain_safe| with_reducible apply ih | with_reducible apply outSafe_next
        | with_reducible apply optSafe_some | with_reducible exact optSafe_none | with_reducible apply safe_ite
        | (intro _; try dsimp only) | split | (with_reducible refine safe_snd ?_ (by assumption))
        | (with_reducible refine safe_fst ?_ (by assumption))
        | (change SafeParts _ _ _ _ _ _ _ _; try dsimp only; with_reducible refine Safe.fold ?_)))

theorem nextEnv_safe (m : Nat) (s : State) (hsafe : Safe s) : Safe (nextEnv m s).1 := by
  unfold nextEnv; dsimp only
  repeat' (first
      | with_reducible assumption | with_reducible apply setIndex_safe | exact Safe.fold (by assumption) | split | intro _)

theorem nextWide_safe (m : Nat) (s : State) (hsafe : Safe s) : Safe (nextWide m s).1 := by
  unfold nextWide
  repeat' (first | with_reducible assumption | with_reducible apply State.modPipe_safe | split | intro _)

theorem nextWord_safe (m : Nat) (b : Band) (s : State) (hsafe : Safe s) : Safe (nextWord m b s).1 := by
  unfold nextWord
  repeat' (first
      | with_reducible assumption | with_reducible apply nextLow_safe | with_reducible apply nextWide_safe
      | with_reducible apply nextEnv_safe | split | intro _)

theorem inTail_safe (m : Nat) (t : Tail) (f : State → State) (s : State) (hf : ∀ s, Safe s → Safe (f s)) (hsafe : Safe s) :
    Safe (inTail m t f s) := by
  have h := hf _ (asTail_safe m t s hsafe)
  unfold inTail
  dsimp only
  split <;> exact h.fold

theorem endTail_safe (m : Nat) (t : Tail) (s : State) (hsafe : Safe s) : Safe (endTail m t s) := by
  unfold endTail; dsimp only
  repeat' (first
      | with_reducible assumption | with_reducible apply endStream_safe | with_reducible apply startStream_safe
      | with_reducible apply rateChange_safe | exact Safe.fold (by assumption) | split | intro _)

theorem nextSample_safe (m : Nat) (b : Band) (s : State) (hsafe : Safe s) : Safe (nextSample m b s) := by
  unfold nextSample; dsimp only
  repeat' (first
      | with_reducible assumption | with_reducible apply nextWord_safe | with_reducible apply deliverWord_safe
      | exact Safe.fold (by assumption) | split | intro _)

theorem closeStats_safe (g : Nat) (s : State) (hsafe : Safe s) : Safe (closeStats g s) := by
  unfold closeStats
  repeat' (first
      | with_reducible assumption | with_reducible apply each_safe | with_reducible apply done_safe
      | with_reducible apply State.modStat_safe | with_reducible apply emitItem_safe | split | intro _)

theorem execChainSampleAvailable_safe (m : Nat) (b : Band) (s : State) (hsafe : Safe s) :
    OutSafe (execChainSampleAvailable m b s) := by
  unfold execChainSampleAvailable; dsimp only
  repeat' (first
      | with_reducible assumption | apply outSafe_next | with_reducible apply event_safe
      | with_reducible apply nextSample_safe | with_reducible apply nextWord_safe | with_reducible apply asTail_safe
      | with_reducible apply endTail_safe | with_reducible apply inTail_safe | with_reducible apply deliverWord_safe
      | exact Safe.fold (by assumption) | split | intro _)

end Sys2Proof.Machine
end

