-- ==== Sys2Proof/Laws/SafeBoot.lean ====
section
/-! SUPPORT. Every operation of staged settings, the time unit, resets and the Clover pair keeps `Safe`: one lemma
per operation, cited by the operations that call it. -/

namespace Sys2Proof.Machine

theorem changeObj_safe (ch : Change) (i : Nat) (s : State) (hsafe : Safe s) : OptSafe (changeObj ch i s) := by
  unfold changeObj
  split
  · exact optSafe_map _ _ (fun _ => each_safe _ _ _ (fun _ _ h => State.modChain_safe _ _ _ h) (State.modChan_safe _ _ _ hsafe))
  · exact optSafe_map _ _ (fun _ => State.modGroup_safe _ _ _ hsafe)
  · exact optSafe_map _ _ (fun _ => State.modTile_safe _ _ _ hsafe)
  · exact optSafe_map _ _ (fun _ => each_safe _ _ _ (fun _ _ h => State.modPipe_safe _ _ _ (State.modChain_safe _ _ _ h)) hsafe)
  · exact optSafe_map _ _ (fun _ => each_safe _ _ _ (fun _ _ h => State.modPipe_safe _ _ _ (State.modChain_safe _ _ _ h)) hsafe)
  · exact optSafe_map _ _ (fun _ => State.modTach_safe _ _ _ hsafe)
  · exact optSafe_map _ _ (fun _ => State.modShaft_safe _ _ _ hsafe)
  · exact optSafe_map _ _ (fun _ => State.modStat_safe _ _ _ hsafe)
  · exact optSafe_bind _ _ (fun _ => optSafe_map _ _ (fun _ => State.modUnit_safe _ _ _ hsafe))
  · exact optSafe_map _ _ (fun _ => hsafe)
  · exact optSafe_map _ _ (fun _ => State.modStream_safe _ _ _ hsafe)
  · exact optSafe_map _ _ (fun _ => State.modPort_safe _ _ _ hsafe)
  · exact optSafe_none

theorem changeAll_safe (ch : Change) (s : State) (hsafe : Safe s) : Safe (changeAll ch s) :=
  each_safe _ _ _ (fun _ _ h => optSafe_getD h (changeObj_safe _ _ _ h)) hsafe

theorem standing_safe (b : Nat) (s : State) (hsafe : Safe s) : Safe (standing b s) := by
  unfold standing
  repeat' (first
      | with_reducible assumption | with_reducible apply each_safe | with_reducible apply changeAll_safe | split | intro _)

theorem addTail_safe (a : State) (cyc : Nat) (m : Nat) (b : Band) (ends : Bool) (s : State) (hsafe : Safe s) :
    Safe (addTail a cyc m b ends s) := hsafe

theorem turnPipe_safe (a : State) (g : Nat) (m : Nat) (b : Band) (s : State) (hsafe : Safe s) :
    Safe (turnPipe a g m b s) := by
  unfold turnPipe; dsimp only
  repeat' (first
      | with_reducible assumption | with_reducible apply State.modPipe_safe | with_reducible apply when_safe
      | with_reducible apply addTail_safe | with_reducible apply State.modModu_safe | exact Safe.fold (by assumption)
      | split | intro _)

theorem turnStream_safe (a : State) (g : Nat) (m : Nat) (b : Band) (s : State) (hsafe : Safe s) :
    Safe (turnStream a g m b s) := by
  unfold turnStream; dsimp only
  repeat' (first
      | with_reducible assumption | with_reducible apply cutStats_safe | with_reducible apply when_safe
      | with_reducible apply startStream_safe | exact Safe.fold (by assumption) | split | intro _)

theorem turnMod_safe (a : State) (g : Nat) (m : Nat) (bands : List Band) (s : State) (hsafe : Safe s) :
    Safe (turnMod a g m bands s) := by
  unfold turnMod
  repeat' (first
      | with_reducible assumption | with_reducible apply each_safe | with_reducible apply turnStream_safe
      | with_reducible apply turnPipe_safe | split | intro _)

theorem turnChains_safe (a : State) (g : Nat) (m : Nat) (s : State) (hsafe : Safe s) : Safe (turnChains a g m s) := by
  unfold turnChains
  repeat' (first
      | with_reducible assumption | with_reducible apply each_safe | with_reducible apply turnMod_safe | split | intro _)

theorem markShown_safe (g : Nat) (c : Nat) (s : State) (hsafe : Safe s) : Safe (markShown g c s) := by
  unfold markShown
  repeat' (first
      | with_reducible assumption | with_reducible apply State.modChan_safe | with_reducible apply each_safe
      | with_reducible apply State.modModu_safe | split | intro _)

theorem turnChannel_safe (a : State) (g : Nat) (c : Nat) (s : State) (hsafe : Safe s) : Safe (turnChannel a g c s) := by
  unfold turnChannel
  repeat' (first
      | with_reducible assumption | with_reducible apply turnChains_safe | with_reducible apply when_safe
      | with_reducible apply State.modChan_safe | with_reducible apply startAcquisition_safe
      | with_reducible apply markShown_safe | split | intro _)

theorem turnRef_safe (a : State) (t : Nat) (s : State) (hsafe : Safe s) : Safe (turnRef a t s) := by
  unfold turnRef
  repeat' (first | with_reducible assumption | with_reducible apply State.modTile_safe | split | intro _)

theorem turnTach_safe (a : State) (n : Nat) (s : State) (hsafe : Safe s) : Safe (turnTach a n s) := by
  unfold turnTach; dsimp only
  repeat' (first
      | with_reducible assumption | with_reducible apply State.modTach_safe | with_reducible apply State.modPin_safe
      | with_reducible apply drivePin_safe | with_reducible apply dropCode_safe | exact Safe.fold (by assumption) | split
      | intro _)

theorem keepSpans_safe (g : Nat) (x : Shaft) (s : State) (hsafe : Safe s) : Safe (keepSpans g x s) := hsafe

theorem turnShaft_safe (a : State) (g : Nat) (s : State) (hsafe : Safe s) : Safe (turnShaft a g s) := by
  unfold turnShaft; dsimp only
  repeat' (first
      | with_reducible assumption | with_reducible apply keepSpans_safe | with_reducible apply State.modShaft_safe
      | with_reducible apply when_safe | with_reducible apply post_safe | exact Safe.fold (by assumption) | split | intro _)

theorem turnStats_safe (a : State) (g : Nat) (k : Nat) (s : State) (hsafe : Safe s) : Safe (turnStats a g k s) := by
  unfold turnStats
  repeat' (first
      | with_reducible assumption | with_reducible apply when_safe | with_reducible apply startStream_safe
      | with_reducible apply State.modStat_safe | with_reducible apply cutInterval_safe | split | intro _)

theorem turnUnit_safe (a : State) (g : Nat) (u : Nat) (s : State) (hsafe : Safe s) : Safe (turnUnit a g u s) := hsafe

theorem turnRing_safe (a : State) (key : Nat) (s : State) (hsafe : Safe s) : Safe (turnRing a key s) := by
  unfold turnRing; dsimp only
  repeat' (first
      | with_reducible assumption | with_reducible apply when_safe | with_reducible apply State.modStream_safe
      | with_reducible apply outrunAll_safe | exact Safe.fold (by assumption) | split | intro _)

theorem turnPort_safe (a : State) (p : Nat) (s : State) (hsafe : Safe s) : Safe (turnPort a p s) := by
  unfold turnPort; dsimp only
  repeat' (first
      | with_reducible assumption | with_reducible apply when_safe | with_reducible apply failPort_safe
      | with_reducible apply bump_safe | with_reducible apply State.modPort_safe | with_reducible apply linkDown_safe
      | exact Safe.fold (by assumption) | split | intro _)

theorem turnPairing_safe (s : State) (hsafe : Safe s) : Safe (turnPairing s) := by
  unfold turnPairing; dsimp only
  repeat' (first | with_reducible assumption  | exact Safe.fold (by assumption) | split | intro _)

theorem turnObj_safe (ch : Change) (g : Nat) (i : Nat) (a : State) (s : State) (hsafe : Safe s) :
    Safe (turnObj ch g i a s) := by
  unfold turnObj
  repeat' (first
      | with_reducible assumption | with_reducible apply turnChannel_safe | with_reducible apply keepDriver_safe
      | with_reducible apply setVoltage_safe | with_reducible apply State.modGroup_safe
      | with_reducible apply turnRef_safe | with_reducible apply turnChains_safe | with_reducible apply turnTach_safe
      | with_reducible apply turnShaft_safe | with_reducible apply turnStats_safe | with_reducible apply turnUnit_safe
      | with_reducible apply turnRing_safe | with_reducible apply turnPairing_safe | with_reducible apply turnPort_safe
      | split | intro _)

theorem applyObj_safe (ch : Change) (g i : Nat) (s : State) (hsafe : Safe s) : Safe (applyObj ch g i s) := by
  unfold applyObj
  split
  · exact hsafe
  · rename_i b e
    exact turnObj_safe _ _ _ _ _ ((changeObj_safe _ _ _ hsafe).safe b e)

theorem applyChange_safe (g : Nat) (ch : Change) (s : State) (hsafe : Safe s) : Safe (applyChange g ch s) := by
  unfold applyChange
  repeat' (first
      | with_reducible assumption | with_reducible apply each_safe | with_reducible apply applyObj_safe | split | intro _)

theorem applyStage_safe (g : Nat) (k : Commit) (s : State) (hsafe : Safe s) : Safe (applyStage g k s) := by
  unfold applyStage
  repeat' (first
      | with_reducible assumption | with_reducible apply each_safe | with_reducible apply applyChange_safe | split | intro _)

theorem turnGroup_safe (g : Nat) (grp : Nat) (fell : Bool) (s : State) (hsafe : Safe s) : Safe (turnGroup g grp fell s) := by
  unfold turnGroup; dsimp only
  repeat' (first
      | with_reducible assumption | with_reducible apply each_safe | with_reducible apply State.modPipe_safe
      | with_reducible apply turnMod_safe | exact Safe.fold (by assumption) | split | intro _)

theorem takeSource_safe (cls : Nat) (tai : Bool) (off : Int) (err : Nat) (s : State) (hsafe : Safe s) :
    Safe (takeSource cls tai off err s) := by
  unfold takeSource; dsimp only
  repeat' (first
      | with_reducible assumption | with_reducible apply reacquire_safe | exact Safe.fold (by assumption) | split | intro _)

theorem followMaster_safe (s : State) (hsafe : Safe s) : Safe (followMaster s) := by
  unfold followMaster; dsimp only
  repeat' (first | with_reducible assumption  | exact Safe.fold (by assumption) | split | intro _)

theorem ptpAnnounce_safe (master : Nat) (data : PtpData) (s : State) (hsafe : Safe s) :
    Safe (ptpAnnounce master data s) := by
  unfold ptpAnnounce; apply followMaster_safe; exact hsafe

theorem ptpTiming_safe (master : Nat) (offset : Int) (err : Nat) (s : State) (hsafe : Safe s) :
    Safe (ptpTiming master offset err s) := by
  unfold ptpTiming; dsimp only
  repeat' (first
      | with_reducible assumption | with_reducible apply takeSource_safe | exact Safe.fold (by assumption) | split | intro _)

theorem execPtpMessage_safe (kind : Nat) (src : PtpFrom) (data : PtpData) (offset : Int) (err : Nat) (t : Inst) (s :
    State) (hsafe : Safe s) : OutSafe (execPtpMessage kind src data offset err t s) := by
  unfold execPtpMessage
  repeat' (first
      | with_reducible assumption | apply outSafe_next | with_reducible apply touch_safe | with_reducible apply bump_safe
      | with_reducible apply ptpAnnounce_safe | with_reducible apply ptpTiming_safe | split | intro _)

theorem loseSource_safe (s : State) (hsafe : Safe s) : Safe (loseSource s) := by
  unfold loseSource; dsimp only
  repeat' (first
      | with_reducible assumption | with_reducible apply holdoverEntry_safe | exact Safe.fold (by assumption) | split
      | intro _)

theorem execPtpSourceLost_safe (t : Inst) (s : State) (hsafe : Safe s) : OutSafe (execPtpSourceLost t s) := by
  unfold execPtpSourceLost; dsimp only
  repeat' (first
      | with_reducible assumption | apply outSafe_next | with_reducible apply touch_safe
      | with_reducible apply followMaster_safe | with_reducible apply loseSource_safe | exact Safe.fold (by assumption)
      | split | intro _)

theorem ppsNamedEdge_safe (e : Inst) (err : Nat) (sec : Nat) (s : State) (hsafe : Safe s) :
    Safe (ppsNamedEdge e err sec s) := by
  unfold ppsNamedEdge; dsimp only
  repeat' (first
      | with_reducible assumption | with_reducible apply bump_safe | with_reducible apply takeSource_safe
      | exact Safe.fold (by assumption) | split | intro _)

theorem ppsEdge_safe (t : Inst) (err : Nat) (s : State) (hsafe : Safe s) : Safe (ppsEdge t err s) := by
  unfold ppsEdge
  try dsimp only
  iterate 60 all_goals (try (first
      | with_reducible assumption | with_reducible apply takeArmed_safe | with_reducible apply touch_safe
      | with_reducible apply ppsNamedEdge_safe | with_reducible apply outSafe_next | with_reducible apply optSafe_some
      | with_reducible exact optSafe_none | with_reducible apply safe_ite | (intro _; try dsimp only) | split
      | (with_reducible refine safe_snd ?_ (by assumption)) | (with_reducible refine safe_fst ?_ (by assumption))
      | (change SafeParts _ _ _ _ _ _ _ _; try dsimp only; with_reducible refine Safe.fold ?_)))

theorem execPpsInEdge_safe (t : Inst) (highNs : Nat) (err : Nat) (s : State) (hsafe : Safe s) :
    OutSafe (execPpsInEdge t highNs err s) := by
  unfold execPpsInEdge; dsimp only
  repeat' (first
      | with_reducible assumption | apply outSafe_next | with_reducible apply drawn_safe
      | with_reducible apply ppsEdge_safe | exact Safe.fold (by assumption) | split | intro _)

theorem execPpsSourceLost_safe (t : Inst) (s : State) (hsafe : Safe s) : OutSafe (execPpsSourceLost t s) := by
  unfold execPpsSourceLost; dsimp only
  repeat' (first
      | with_reducible assumption | apply outSafe_next | with_reducible apply touch_safe
      | with_reducible apply loseSource_safe | exact Safe.fold (by assumption) | split | intro _)

theorem execHoldoverLimitReached_safe (s : State) (hsafe : Safe s) : OutSafe (execHoldoverLimitReached s) := by
  unfold execHoldoverLimitReached; dsimp only
  repeat' (first
      | with_reducible assumption | apply outSafe_next | with_reducible apply post_safe | exact Safe.fold (by assumption)
      | split | intro _)

theorem execRefLost_safe (s : State) (hsafe : Safe s) : OutSafe (execRefLost s) := by
  unfold execRefLost; dsimp only
  repeat' (first
      | with_reducible assumption | apply outSafe_next | with_reducible apply withHealth_safe
      | with_reducible apply post_safe | exact Safe.fold (by assumption) | split | intro _)

theorem execRefReturned_safe (offset : Int) (s : State) (hsafe : Safe s) : OutSafe (execRefReturned offset s) := by
  unfold execRefReturned; dsimp only
  repeat' (first
      | with_reducible assumption | apply outSafe_next | with_reducible apply withHealth_safe
      | with_reducible apply reacquire_safe | with_reducible apply post_safe | exact Safe.fold (by assumption) | split
      | intro _)

theorem restartStreams_safe (t : Inst) (s : State) (hsafe : Safe s) : Safe (restartStreams t s) := by
  unfold restartStreams
  try dsimp only
  iterate 60 all_goals (try (first
      | with_reducible assumption | with_reducible apply each_safe | with_reducible apply State.modStream_safe
      | with_reducible apply outSafe_next | with_reducible apply optSafe_some | with_reducible exact optSafe_none
      | with_reducible apply safe_ite | (intro _; try dsimp only) | split
      | (with_reducible refine safe_snd ?_ (by assumption)) | (with_reducible refine safe_fst ?_ (by assumption))
      | (change SafeParts _ _ _ _ _ _ _ _; try dsimp only; with_reducible refine Safe.fold ?_)))

theorem execGridStep_safe (parent : TT) (s : State) (hsafe : Safe s) : OutSafe (execGridStep parent s) := by
  unfold execGridStep
  refine outSafe_next ?_
  split
  · exact hsafe
  · rename_i g _
    refine safe_ite (fun _ => touch_safe _ _ (enterGrid_safe _ _ hsafe)) (fun _ => ?_)
    split
    · exact hsafe
    · with_reducible exact Safe.reacquired _ (enterGrid_safe g _ (restartStreams_safe _ _ (post_safe _ _ _ _ _ hsafe)))

theorem leaveSync_safe (t : Inst) (s : State) (hsafe : Safe s) : Safe (leaveSync t s) := hsafe

theorem execSyncExit_safe (t : Inst) (s : State) (hsafe : Safe s) : OutSafe (execSyncExit t s) := by
  unfold execSyncExit; dsimp only
  repeat' (first
      | with_reducible assumption | apply outSafe_next | with_reducible apply touch_safe
      | with_reducible apply leaveSync_safe | exact Safe.fold (by assumption) | split | intro _)

theorem execFreeRunningMaster_safe (t : Inst) (s : State) (hsafe : Safe s) : OutSafe (execFreeRunningMaster t s) := by
  unfold execFreeRunningMaster; dsimp only
  repeat' (first
      | with_reducible assumption | apply outSafe_next | with_reducible apply touch_safe
      | with_reducible apply enterGrid_safe | with_reducible apply leaveSync_safe | exact Safe.fold (by assumption)
      | split | intro _)

theorem execPpsOutLaunch_safe (sec : Nat) (t : Inst) (s : State) (hsafe : Safe s) : OutSafe (execPpsOutLaunch sec t s) := by
  unfold execPpsOutLaunch; dsimp only
  repeat' (first
      | with_reducible assumption | apply outSafe_next | with_reducible apply touch_safe | with_reducible apply when_safe
      | with_reducible apply bump_safe | exact Safe.fold (by assumption) | split | intro _)

theorem execPpsOutPulseEnd_safe (s : State) (hsafe : Safe s) : OutSafe (execPpsOutPulseEnd s) := by
  unfold execPpsOutPulseEnd; dsimp only
  repeat' (first | with_reducible assumption | apply outSafe_next  | exact Safe.fold (by assumption) | split | intro _)

theorem execPinLaunchTime_safe (pin : Nat) (t : Inst) (s : State) (hsafe : Safe s) :
    OutSafe (execPinLaunchTime pin t s) := by
  unfold execPinLaunchTime; dsimp only
  repeat' (first
      | with_reducible assumption | apply outSafe_next | with_reducible apply touch_safe | with_reducible apply event_safe
      | with_reducible apply drivePin_safe | with_reducible apply when_safe | with_reducible apply bump_safe
      | with_reducible apply finishLater_safe | exact Safe.fold (by assumption) | split | intro _)

theorem markStage_safe (t : Nat) (id : Nat) (state : Nat) (s : State) (hsafe : Safe s) :
    Safe (markStage t id state s) := hsafe

theorem discardAll_safe (s : State) (hsafe : Safe s) : Safe (discardAll s) := hsafe

theorem cutOff_safe (t : Nat) (e : InExec) (isReset : Bool) (s : State) (hsafe : Safe s) : Safe (cutOff t e isReset s) := by
  unfold cutOff; dsimp only
  repeat' (first
      | with_reducible assumption | with_reducible apply cutJob_safe | with_reducible apply journalEnd_safe
      | exact Safe.fold (by assumption) | split | intro _)

theorem cutTenant_safe (t : Nat) (resetTag : Option (Nat × BitVec 32)) (s : State) (hsafe : Safe s) :
    Safe (cutTenant t resetTag s) := by
  unfold cutTenant
  repeat' (first
      | with_reducible assumption | with_reducible apply each_safe | with_reducible apply cutOff_safe | split | intro _)

theorem startFlush_safe (noStats : Bool) (t : Inst) (s : State) (hsafe : Safe s) : Safe (startFlush noStats t s) := by
  unfold startFlush; dsimp only
  repeat' (first | with_reducible assumption  | exact Safe.fold (by assumption) | split | intro _)

theorem execPwrfailNAssert_safe (lowNs : Nat) (t : Inst) (s : State) (hsafe : Safe s) :
    OutSafe (execPwrfailNAssert lowNs t s) := by
  unfold execPwrfailNAssert
  try dsimp only
  iterate 60 all_goals (try (first
      | with_reducible assumption | with_reducible apply touch_safe | with_reducible apply startFlush_safe
      | with_reducible apply outSafe_next | with_reducible apply optSafe_some | with_reducible exact optSafe_none
      | with_reducible apply safe_ite | (intro _; try dsimp only) | split
      | (with_reducible refine safe_snd ?_ (by assumption)) | (with_reducible refine safe_fst ?_ (by assumption))
      | (change SafeParts _ _ _ _ _ _ _ _; try dsimp only; with_reducible refine Safe.fold ?_)))

theorem finishFlush_safe (s : State) (hsafe : Safe s) : Safe (finishFlush s) := by
  unfold finishFlush
  try dsimp only
  iterate 60 all_goals (try (first
      | with_reducible assumption | with_reducible apply journalDrain_safe | with_reducible apply outSafe_next
      | with_reducible apply optSafe_some | with_reducible exact optSafe_none | with_reducible apply safe_ite
      | (intro _; try dsimp only) | split | (with_reducible refine safe_snd ?_ (by assumption))
      | (with_reducible refine safe_fst ?_ (by assumption))
      | (change SafeParts _ _ _ _ _ _ _ _; try dsimp only; with_reducible refine Safe.fold ?_)))

theorem execPwrfailNDeassert_safe (s : State) (hsafe : Safe s) : OutSafe (execPwrfailNDeassert s) := by
  unfold execPwrfailNDeassert; dsimp only
  repeat' (first | with_reducible assumption | apply outSafe_next  | exact Safe.fold (by assumption) | split | intro _)

theorem fullReset_safe (cause : Nat) (resetTag : Option (Nat × BitVec 32)) (s : State) (hsafe : Safe s) :
    Safe (fullReset cause resetTag s) := by
  have h : Safe (each s.host.tenants.keys (fun t s => cutTenant t resetTag s) (discardAll s)) :=
    each_safe _ _ _ (fun _ _ h => cutTenant_safe _ _ _ h) (discardAll_safe _ hsafe)
  unfold fullReset Safe
  dsimp only
  exact ⟨(fun _ e => by cases e), h.ring, (fun e => by cases e), freq_zero, (fun _ e => by cases e), (fun _ e => by cases e), (fun _ e => by cases e)⟩

theorem heldReset_safe (cause : Nat) (resetTag : Option (Nat × BitVec 32)) (s : State) (hsafe : Safe s) :
    Safe (heldReset cause resetTag s) := by
  unfold heldReset
  try dsimp only
  iterate 60 all_goals (try (first
      | with_reducible assumption | with_reducible apply fullReset_safe | with_reducible apply outSafe_next
      | with_reducible apply optSafe_some | with_reducible exact optSafe_none | with_reducible apply safe_ite
      | (intro _; try dsimp only) | split | (with_reducible refine safe_snd ?_ (by assumption))
      | (with_reducible refine safe_fst ?_ (by assumption))
      | (change SafeParts _ _ _ _ _ _ _ _; try dsimp only; with_reducible refine Safe.fold ?_)))

theorem execResetNAssert_safe (lowNs : Nat) (s : State) (hsafe : Safe s) : OutSafe (execResetNAssert lowNs s) := by
  unfold execResetNAssert
  try dsimp only
  iterate 60 all_goals (try (first
      | with_reducible assumption | with_reducible apply drawn_safe | with_reducible apply fullReset_safe
      | with_reducible apply outSafe_next | with_reducible apply optSafe_some | with_reducible exact optSafe_none
      | with_reducible apply safe_ite | (intro _; try dsimp only) | split
      | (with_reducible refine safe_snd ?_ (by assumption)) | (with_reducible refine safe_fst ?_ (by assumption))
      | (change SafeParts _ _ _ _ _ _ _ _; try dsimp only; with_reducible refine Safe.fold ?_)))

theorem execFullReset_safe (cause : Nat) (s : State) (hsafe : Safe s) : OutSafe (execFullReset cause s) := by
  unfold execFullReset
  repeat' (first
      | with_reducible assumption | apply outSafe_next | with_reducible apply event_safe
      | with_reducible apply heldReset_safe | split | intro _)

theorem execSafetyWatchdogExpiry_safe (s : State) (hsafe : Safe s) : OutSafe (execSafetyWatchdogExpiry s) := by
  unfold execSafetyWatchdogExpiry
  repeat' (first | with_reducible assumption | apply outSafe_next | with_reducible apply heldReset_safe | split | intro _)

theorem execBrownOut_safe (s : State) (hsafe : Safe s) : OutSafe (execBrownOut s) := by
  unfold execBrownOut
  try dsimp only
  iterate 60 all_goals (try (first
      | with_reducible assumption | with_reducible apply drawn_safe | with_reducible apply journalDrain_safe
      | with_reducible apply heldReset_safe | with_reducible apply outSafe_next | with_reducible apply optSafe_some
      | with_reducible exact optSafe_none | with_reducible apply safe_ite | (intro _; try dsimp only) | split
      | (with_reducible refine safe_snd ?_ (by assumption)) | (with_reducible refine safe_fst ?_ (by assumption))
      | (change SafeParts _ _ _ _ _ _ _ _; try dsimp only; with_reducible refine Safe.fold ?_)))

theorem execFlushComplete_safe (s : State) (hsafe : Safe s) : OutSafe (execFlushComplete s) := by
  unfold execFlushComplete
  try dsimp only
  iterate 60 all_goals (try (first
      | with_reducible assumption | with_reducible apply finishFlush_safe | with_reducible apply heldReset_safe
      | with_reducible apply outSafe_next | with_reducible apply optSafe_some | with_reducible exact optSafe_none
      | with_reducible apply safe_ite | (intro _; try dsimp only) | split
      | (with_reducible refine safe_snd ?_ (by assumption)) | (with_reducible refine safe_fst ?_ (by assumption))
      | (change SafeParts _ _ _ _ _ _ _ _; try dsimp only; with_reducible refine Safe.fold ?_)))

theorem execThermalTrip_safe (sensor : Nat) (s : State) (hsafe : Safe s) : OutSafe (execThermalTrip sensor s) := by
  unfold execThermalTrip
  try dsimp only
  iterate 60 all_goals (try (first
      | with_reducible assumption | with_reducible apply event_safe | with_reducible apply heldReset_safe
      | with_reducible apply startFlush_safe | with_reducible apply outSafe_next | with_reducible apply optSafe_some
      | with_reducible exact optSafe_none | with_reducible apply safe_ite | (intro _; try dsimp only) | split
      | (with_reducible refine safe_snd ?_ (by assumption)) | (with_reducible refine safe_fst ?_ (by assumption))
      | (change SafeParts _ _ _ _ _ _ _ _; try dsimp only; with_reducible refine Safe.fold ?_)))

theorem execRefclkLaneLost_safe (s : State) (hsafe : Safe s) : OutSafe (execRefclkLaneLost s) := by
  unfold execRefclkLaneLost; dsimp only
  repeat' (first
      | with_reducible assumption | apply outSafe_next | with_reducible apply startFlush_safe
      | exact Safe.fold (by assumption) | split | intro _)

theorem execRefclkPcieLost_safe (s : State) (hsafe : Safe s) : OutSafe (execRefclkPcieLost s) := by
  unfold execRefclkPcieLost; dsimp only
  repeat' (first
      | with_reducible assumption | apply outSafe_next | with_reducible apply linkDownPcie_safe
      | exact Safe.fold (by assumption) | split | intro _)

theorem sampleStraps_safe (s0 : BitVec 12) (s1 : BitVec 12) (s2 : BitVec 12) (s : State) (hsafe : Safe s) :
    Safe (sampleStraps s0 s1 s2 s) := by
  unfold sampleStraps
  try dsimp only
  iterate 60 all_goals (try (first
      | with_reducible assumption | with_reducible apply each_safe | with_reducible apply when_safe
      | with_reducible apply post_safe | with_reducible apply outSafe_next | with_reducible apply optSafe_some
      | with_reducible exact optSafe_none | with_reducible apply safe_ite | (intro _; try dsimp only) | split
      | (with_reducible refine safe_snd ?_ (by assumption)) | (with_reducible refine safe_fst ?_ (by assumption))
      | (change SafeParts _ _ _ _ _ _ _ _; try dsimp only; with_reducible refine Safe.fold ?_)))

theorem startUp_safe (s0 : BitVec 12) (s1 : BitVec 12) (s2 : BitVec 12) (s : State) (hsafe : Safe s) :
    Safe (startUp s0 s1 s2 s) := by
  unfold startUp; dsimp only
  repeat' (first
      | with_reducible assumption | with_reducible apply sampleStraps_safe | exact Safe.fold (by assumption) | split
      | intro _)

theorem execResetNRelease_safe (s0 : BitVec 12) (s1 : BitVec 12) (s2 : BitVec 12) (s : State) (hsafe : Safe s) :
    OutSafe (execResetNRelease s0 s1 s2 s) := by
  unfold execResetNRelease
  repeat' (first | with_reducible assumption | apply outSafe_next | with_reducible apply startUp_safe | split | intro _)

theorem execInternalResetRelease_safe (s0 : BitVec 12) (s1 : BitVec 12) (s2 : BitVec 12) (s : State) (hsafe : Safe s) :
    OutSafe (execInternalResetRelease s0 s1 s2 s) := by
  unfold execInternalResetRelease; dsimp only
  repeat' (first
      | with_reducible assumption | apply outSafe_next | with_reducible apply startUp_safe
      | exact Safe.fold (by assumption) | split | intro _)

theorem execThermalTripRelease_safe (s0 : BitVec 12) (s1 : BitVec 12) (s2 : BitVec 12) (sensor : Nat) (value : Int) (s :
    State) (hsafe : Safe s) : OutSafe (execThermalTripRelease s0 s1 s2 sensor value s) := by
  unfold execThermalTripRelease
  repeat' (first
      | with_reducible assumption | apply outSafe_next | with_reducible apply post_safe
      | with_reducible apply startUp_safe | split | intro _)

theorem clearBus_safe (b : Nat) (sclLow : Bool) (pulses : Option Nat) (s : State) (hsafe : Safe s) :
    Safe (clearBus b sclLow pulses s) := by
  unfold clearBus
  repeat' (first
      | with_reducible assumption | with_reducible apply State.modBus_safe | with_reducible apply bump_safe
      | with_reducible apply post_safe | with_reducible apply when_safe | split | intro _)

theorem clearBuses_safe (l : List (Bool × Option Nat)) (s : State) (hsafe : Safe s) : Safe (clearBuses l s) := by
  unfold clearBuses
  repeat' (first
      | with_reducible assumption | with_reducible apply each_safe | with_reducible apply clearBus_safe | split | intro _)

theorem startPins_safe (s : State) (hsafe : Safe s) : Safe (startPins s) := by
  unfold startPins
  repeat' (first
      | with_reducible assumption | with_reducible apply each_safe | with_reducible apply drivePin_safe | split | intro _)

theorem startGroups_safe (s : State) (hsafe : Safe s) : Safe (startGroups s) := by
  unfold startGroups
  repeat' (first
      | with_reducible assumption | with_reducible apply each_safe | with_reducible apply State.modGroup_safe | split
      | intro _)

theorem journalFormer_safe (m : Nat) (s : State) (hsafe : Safe s) : Safe (journalFormer m s) := by
  unfold journalFormer; dsimp only
  repeat' (first
      | with_reducible assumption | with_reducible apply checkLastSpare_safe | with_reducible apply postAt_safe
      | with_reducible apply State.modSpare_safe | exact Safe.fold (by assumption) | split | intro _)

theorem enterMemTrain_safe (s : State) (hsafe : Safe s) : Safe (enterMemTrain s) := by
  unfold enterMemTrain; dsimp only
  repeat' (first
      | with_reducible assumption | with_reducible apply withHealth_safe | with_reducible apply each_safe
      | with_reducible apply journalFormer_safe | with_reducible apply post_safe | with_reducible apply spareFreed_safe
      | with_reducible apply State.modTile_safe | exact Safe.fold (by assumption) | split | intro _)

theorem pickSlot_safe (s : State) (hsafe : Safe s) : Safe (pickSlot s).2 := by
  unfold pickSlot; dsimp only
  repeat' (first
      | with_reducible assumption | with_reducible apply post_safe | exact Safe.fold (by assumption) | split | intro _)

theorem execImageVerified_safe (a : ImageInfo) (b : ImageInfo) (buses : List (Bool × Option Nat)) (s : State) (hsafe :
    Safe s) : OutSafe (execImageVerified a b buses s) := by
  unfold execImageVerified
  try dsimp only
  iterate 60 all_goals (try (first
      | with_reducible assumption | with_reducible apply pickSlot_safe | with_reducible apply post_safe
      | with_reducible apply when_safe | with_reducible apply enterMemTrain_safe | with_reducible apply startPins_safe
      | with_reducible apply startGroups_safe | with_reducible apply clearBuses_safe | with_reducible apply outSafe_next
      | with_reducible apply optSafe_some | with_reducible exact optSafe_none | with_reducible apply safe_ite
      | (intro _; try dsimp only) | split | (with_reducible refine safe_snd ?_ (by assumption))
      | (with_reducible refine safe_fst ?_ (by assumption))
      | (change SafeParts _ _ _ _ _ _ _ _; try dsimp only; with_reducible refine Safe.fold ?_)))

theorem execPllLock_safe (p : Pll) (s : State) (hsafe : Safe s) : OutSafe (execPllLock p s) := by
  unfold execPllLock; dsimp only
  repeat' (first
      | with_reducible assumption | apply outSafe_next | with_reducible apply enterMemTrain_safe
      | exact Safe.fold (by assumption) | split | intro _)

theorem execPllLockTimeout_safe (p : Pll) (s : State) (hsafe : Safe s) : OutSafe (execPllLockTimeout p s) := by
  unfold execPllLockTimeout; dsimp only
  repeat' (first | with_reducible assumption | apply outSafe_next  | exact Safe.fold (by assumption) | split | intro _)

theorem holdUntil_safe (n : List Nat) (s : State) (hsafe : Safe s) : Safe (holdUntil n s) := by
  induction n generalizing s with
  | nil => exact hsafe
  | cons a r ih =>
    unfold holdUntil
    try dsimp only
    iterate 60 all_goals (try (first
        | with_reducible assumption | with_reducible apply State.modPipe_safe| with_reducible apply ih
        | with_reducible apply outSafe_next | with_reducible apply optSafe_some | with_reducible exact optSafe_none
        | with_reducible apply safe_ite | (intro _; try dsimp only) | split
        | (with_reducible refine safe_snd ?_ (by assumption)) | (with_reducible refine safe_fst ?_ (by assumption))
        | (change SafeParts _ _ _ _ _ _ _ _; try dsimp only; with_reducible refine Safe.fold ?_)))

theorem fitBudget_safe (s : State) (hsafe : Safe s) : Safe (fitBudget s) := by
  unfold fitBudget; dsimp only
  repeat' (first
      | with_reducible assumption | with_reducible apply holdUntil_safe | with_reducible apply post_safe
      | exact Safe.fold (by assumption) | split | intro _)

theorem execDramTrainingDone_safe (dimms : List Dimm) (lanes : List LaneTrain) (s : State) (hsafe : Safe s) :
    OutSafe (execDramTrainingDone dimms lanes s) := by
  unfold execDramTrainingDone
  try dsimp only
  iterate 60 all_goals (try (first
      | with_reducible assumption | with_reducible apply withHealth_safe | with_reducible apply each_safe
      | with_reducible apply State.modDram_safe | with_reducible apply startRound_safe
      | with_reducible apply fitBudget_safe | with_reducible apply outSafe_next | with_reducible apply optSafe_some
      | with_reducible exact optSafe_none | with_reducible apply safe_ite | (intro _; try dsimp only) | split
      | (with_reducible refine safe_snd ?_ (by assumption)) | (with_reducible refine safe_fst ?_ (by assumption))
      | (change SafeParts _ _ _ _ _ _ _ _; try dsimp only; with_reducible refine Safe.fold ?_)))

theorem degradePending_safe (c : Nat) (s : State) (hsafe : Safe s) : Safe (degradePending c s) := by
  unfold degradePending
  repeat' (first
      | with_reducible assumption | with_reducible apply State.modChan_safe | with_reducible apply postAt_safe | split
      | intro _)

theorem execCalComplete_safe (t : Inst) (s : State) (hsafe : Safe s) : OutSafe (execCalComplete t s) := by
  unfold execCalComplete
  try dsimp only
  iterate 60 all_goals (try (first
      | with_reducible assumption | with_reducible apply touch_safe | with_reducible apply withHealth_safe
      | with_reducible apply each_safe | with_reducible apply State.modPort_safe
      | with_reducible apply degradePending_safe | with_reducible apply outSafe_next | with_reducible apply optSafe_some
      | with_reducible exact optSafe_none | with_reducible apply safe_ite | (intro _; try dsimp only) | split
      | (with_reducible refine safe_snd ?_ (by assumption)) | (with_reducible refine safe_fst ?_ (by assumption))
      | (change SafeParts _ _ _ _ _ _ _ _; try dsimp only; with_reducible refine Safe.fold ?_)))

theorem State.modClover_safe (s : State) (f : Clover → Clover) (hsafe : Safe s) : Safe (State.modClover s f) := hsafe

theorem sendMsg_safe (m : Msg) (s : State) (hsafe : Safe s) : Safe (sendMsg m s) := hsafe

theorem reviveGroups_safe (s : State) (hsafe : Safe s) : Safe (reviveGroups s) := by
  unfold reviveGroups
  repeat' (first
      | with_reducible assumption | with_reducible apply each_safe | with_reducible apply State.modGroup_safe | split
      | intro _)

theorem leaveJoin_safe (cause : Nat) (s : State) (hsafe : Safe s) : Safe (leaveJoin cause s) := by
  unfold leaveJoin
  repeat' (first
      | with_reducible assumption | with_reducible apply State.modClover_safe | with_reducible apply when_safe
      | with_reducible apply reviveGroups_safe | split | intro _)

theorem sendOne_safe (m : Msg) (s : State) (hsafe : Safe s) : Safe (sendOne m s) := by
  unfold sendOne
  repeat' (first
      | with_reducible assumption | with_reducible apply sendTo_safe | with_reducible apply sendFrame_safe | split | intro _)

theorem sendDecisions_safe (s : State) (hsafe : Safe s) : Safe (sendDecisions s) := by
  unfold sendDecisions
  repeat' (first
      | with_reducible assumption | with_reducible apply each_safe | with_reducible apply sendFrame_safe
      | with_reducible apply State.modClover_safe | split | intro _)

theorem sendMsgs_safe (s : State) (hsafe : Safe s) : Safe (sendMsgs s) := by
  unfold sendMsgs; dsimp only
  repeat' (first
      | with_reducible assumption | with_reducible apply sendDecisions_safe | with_reducible apply each_safe
      | with_reducible apply sendOne_safe | exact Safe.fold (by assumption) | split | intro _)

theorem cloverLinkUp_safe (p : Nat) (emits : Bool) (pref : Bool) (s : State) (hsafe : Safe s) :
    Safe (cloverLinkUp p emits pref s) := by
  unfold cloverLinkUp
  try dsimp only
  iterate 60 all_goals (try (first
      | with_reducible assumption | with_reducible apply when_safe | with_reducible apply post_safe
      | with_reducible apply State.modClover_safe | with_reducible apply changeParent_safe
      | with_reducible apply drawn_safe | with_reducible apply sendMsg_safe | with_reducible apply outSafe_next
      | with_reducible apply optSafe_some | with_reducible exact optSafe_none | with_reducible apply safe_ite
      | (intro _; try dsimp only) | split | (with_reducible refine safe_snd ?_ (by assumption))
      | (with_reducible refine safe_fst ?_ (by assumption))
      | (change SafeParts _ _ _ _ _ _ _ _; try dsimp only; with_reducible refine Safe.fold ?_)))

theorem execStartBlock_safe (p : Nat) (lane : Nat) (width : Nat) (peerEmits : Bool) (peerPref : Bool) (s : State) (hsafe :
    Safe s) : OutSafe (execStartBlock p lane width peerEmits peerPref s) := by
  unfold execStartBlock; dsimp only
  repeat' (first
      | with_reducible assumption | apply outSafe_next | with_reducible apply event_safe
      | with_reducible apply startTraffic_safe | with_reducible apply cloverLinkUp_safe | exact Safe.fold (by assumption)
      | split | intro _)

theorem execHeartbeatLaunch_safe (k : Nat) (s : State) (hsafe : Safe s) : OutSafe (execHeartbeatLaunch k s) := by
  unfold execHeartbeatLaunch
  repeat' (first
      | with_reducible assumption | apply outSafe_next | with_reducible apply sendMsgs_safe
      | with_reducible apply touch_safe | with_reducible apply sendFrame_safe | with_reducible apply State.modClover_safe
      | split | intro _)

theorem publishCovered_safe (s : State) (hsafe : Safe s) : Safe (publishCovered s) := by
  unfold publishCovered
  repeat' (first
      | with_reducible assumption | with_reducible apply each_safe | with_reducible apply publishReady_safe | split
      | intro _)

theorem followPartner_safe (prev : List Nat) (h : HeartbeatMsg) (s : State) (hsafe : Safe s) :
    Safe (followPartner prev h s) := by
  unfold followPartner
  repeat' (first
      | with_reducible assumption | with_reducible apply each_safe | with_reducible apply setRole_safe
      | with_reducible apply followCurrent_safe | split | intro _)

theorem becomeFollower_safe (s : State) (hsafe : Safe s) : Safe (becomeFollower s) := by
  unfold becomeFollower
  repeat' (first
      | with_reducible assumption | with_reducible apply each_safe | with_reducible apply setRole_safe | split | intro _)

theorem healthTakeover_safe (s : State) (hsafe : Safe s) : Safe (healthTakeover s) := hsafe

theorem execHeartbeat_safe (h : HeartbeatMsg) (t : Inst) (s : State) (hsafe : Safe s) : OutSafe (execHeartbeat h t s) := by
  unfold execHeartbeat
  try dsimp only
  iterate 60 all_goals (try (first
      | with_reducible assumption | with_reducible apply touch_safe | with_reducible apply State.modClover_safe
      | with_reducible apply leaveJoin_safe | with_reducible apply publishCovered_safe
      | with_reducible apply followPartner_safe | with_reducible apply healthTakeover_safe
      | with_reducible apply outSafe_next | with_reducible apply optSafe_some | with_reducible exact optSafe_none
      | with_reducible apply safe_ite | (intro _; try dsimp only) | split
      | (with_reducible refine safe_snd ?_ (by assumption)) | (with_reducible refine safe_fst ?_ (by assumption))
      | (change SafeParts _ _ _ _ _ _ _ _; try dsimp only; with_reducible refine Safe.fold ?_)))

theorem takeFires_safe (s : State) (hsafe : Safe s) : Safe (takeFires s) := by
  unfold takeFires
  try dsimp only
  iterate 60 all_goals (try (first
      | with_reducible assumption | with_reducible apply State.modClover_safe | with_reducible apply judgeShots_safe
      | with_reducible apply each_safe | with_reducible apply actions_safe | with_reducible apply crossFires_safe
      | with_reducible apply outSafe_next | with_reducible apply optSafe_some | with_reducible exact optSafe_none
      | with_reducible apply safe_ite | (intro _; try dsimp only) | split
      | (with_reducible refine safe_snd ?_ (by assumption)) | (with_reducible refine safe_fst ?_ (by assumption))
      | (change SafeParts _ _ _ _ _ _ _ _; try dsimp only; with_reducible refine Safe.fold ?_)))

theorem dropMirrors_safe (cmd : Instr → Option Cmd) (s : State) (hsafe : Safe s) : Safe (dropMirrors cmd s) := by
  unfold dropMirrors
  repeat' (first
      | with_reducible assumption | with_reducible apply each_safe | with_reducible apply finishLater_safe
      | with_reducible apply State.modClover_safe | split | intro _)

theorem goSolo_safe (s : State) (hsafe : Safe s) : Safe (goSolo s) := by
  unfold goSolo; dsimp only
  repeat' (first
      | with_reducible assumption | with_reducible apply State.modClover_safe | with_reducible apply post_safe
      | with_reducible apply publishCovered_safe | with_reducible apply takeLoad_safe
      | with_reducible apply takeFires_safe | with_reducible apply recoverGroups_safe
      | with_reducible apply changeParent_safe | exact Safe.fold (by assumption) | split | intro _)

theorem losePartner_safe (cmd : Instr → Option Cmd) (s : State) (hsafe : Safe s) : Safe (losePartner cmd s) := by
  unfold losePartner
  repeat' (first
      | with_reducible assumption | with_reducible apply dropMirrors_safe | with_reducible apply goSolo_safe
      | with_reducible apply leaveJoin_safe | split | intro _)

theorem cutAs_safe (u : Nat) (at_ : Inst) (number : Nat) (x : Option XTrig) (s : State) (hsafe : Safe s) :
    Safe (cutAs u at_ number x s) := by
  unfold cutAs; dsimp only
  repeat' (first
      | with_reducible assumption | with_reducible apply place_safe | with_reducible apply State.modClover_safe
      | with_reducible apply admitSet_safe | with_reducible apply State.modUnit_safe | exact Safe.fold (by assumption)
      | split | intro _)

theorem applyDecision_safe (d : Decision) (s : State) (hsafe : Safe s) : Safe (applyDecision d s) := by
  unfold applyDecision; dsimp only
  repeat' (first
      | with_reducible assumption | with_reducible apply cutAs_safe | with_reducible apply refuse_safe
      | with_reducible apply refuseFire_safe | with_reducible apply State.modUnit_safe | with_reducible apply done_safe
      | with_reducible apply when_safe | with_reducible apply bump_safe | with_reducible apply judgeShots_safe
      | with_reducible apply crossFires_safe | with_reducible apply spreadXtrig_safe | with_reducible apply enterPair_safe
      | with_reducible apply shaftEdge_safe | with_reducible apply State.modShaft_safe
      | with_reducible apply predictedZero_safe | with_reducible apply State.modClover_safe
      | with_reducible apply State.modStream_safe | with_reducible apply State.modStat_safe
      | exact Safe.fold (by assumption) | split | intro _)

theorem execDecision_safe (seq : Nat) (d : Decision) (s : State) (hsafe : Safe s) : OutSafe (execDecision seq d s) := by
  unfold execDecision
  repeat' (first
      | with_reducible assumption | apply outSafe_next | with_reducible apply post_safe | with_reducible apply bump_safe
      | with_reducible apply applyDecision_safe | with_reducible apply State.modClover_safe | split | intro _)

theorem execJoinReq_safe (proto : Nat) (uid : Nat) (digest : Nat) (strap : Nat) (pop : Population) (t : Inst) (s :
    State) (hsafe : Safe s) : OutSafe (execJoinReq proto uid digest strap pop t s) := by
  unfold execJoinReq; dsimp only
  repeat' (first
      | with_reducible assumption | apply outSafe_next | with_reducible apply touch_safe
      | with_reducible apply leaveJoin_safe | with_reducible apply State.modClover_safe | with_reducible apply drawn_safe
      | with_reducible apply sendMsg_safe | exact Safe.fold (by assumption) | split | intro _)

theorem execJoinSync_safe (sec : Nat) (uid : Nat) (addr : Nat) (config : List Change) (positions : List StreamPos)
    (decSeq : Nat) (s : State) (hsafe : Safe s) : OutSafe (execJoinSync sec uid addr config positions decSeq s) := by
  unfold execJoinSync; dsimp only
  repeat' (first
      | with_reducible assumption | apply outSafe_next | with_reducible apply State.modClover_safe
      | exact Safe.fold (by assumption) | split | intro _)

theorem adoptAddress_safe (s : State) (hsafe : Safe s) : Safe (adoptAddress s) := by
  unfold adoptAddress
  repeat' (first
      | with_reducible assumption | with_reducible apply State.modClover_safe | with_reducible apply post_safe
      | with_reducible apply setAddress_safe | split | intro _)

theorem replaceNumbering_safe (s : State) (hsafe : Safe s) : Safe (replaceNumbering s) := by
  unfold replaceNumbering
  repeat' (first
      | with_reducible assumption | with_reducible apply each_safe | with_reducible apply State.modStream_safe
      | with_reducible apply State.modClover_safe | with_reducible apply when_safe | with_reducible apply post_safe
      | split | intro _)

theorem sendShafts_safe (s : State) (hsafe : Safe s) : Safe (sendShafts s) := by
  unfold sendShafts
  repeat' (first
      | with_reducible assumption | with_reducible apply each_safe | with_reducible apply sendDecision_safe | split
      | intro _)

theorem formPair_safe (g : Nat) (s : State) (hsafe : Safe s) : Safe (formPair g s) := by
  unfold formPair; dsimp only
  repeat' (first
      | with_reducible assumption | with_reducible apply State.modClover_safe | with_reducible apply sendShafts_safe
      | with_reducible apply adoptAddress_safe | with_reducible apply replaceNumbering_safe
      | with_reducible apply becomeFollower_safe | with_reducible apply reviveGroups_safe
      | exact Safe.fold (by assumption) | split | intro _)

theorem execSearchTimeout_safe (s : State) (hsafe : Safe s) : OutSafe (execSearchTimeout s) := by
  unfold execSearchTimeout
  repeat' (first
      | with_reducible assumption | apply outSafe_next | with_reducible apply State.modClover_safe
      | with_reducible apply when_safe | with_reducible apply askAddress_safe | split | intro _)

theorem proposeSwap_safe (why : Nat) (s : State) (hsafe : Safe s) : Safe (proposeSwap why s) := hsafe

theorem execSwap_safe (boundary : Nat) (confirm : Bool) (s : State) (hsafe : Safe s) :
    OutSafe (execSwap boundary confirm s) := by
  unfold execSwap
  repeat' (first
      | with_reducible assumption | apply outSafe_next | with_reducible apply State.modClover_safe
      | with_reducible apply sendMsg_safe | split | intro _)

theorem execSwapHoldExpiry_safe (s : State) (hsafe : Safe s) : OutSafe (execSwapHoldExpiry s) := by
  unfold execSwapHoldExpiry; dsimp only
  repeat' (first
      | with_reducible assumption | apply outSafe_next | with_reducible apply proposeSwap_safe
      | exact Safe.fold (by assumption) | split | intro _)

theorem swapRoles_safe (g : Nat) (s : State) (hsafe : Safe s) : Safe (swapRoles g s) := by
  unfold swapRoles; dsimp only
  repeat' (first
      | with_reducible assumption | with_reducible apply State.modClover_safe | with_reducible apply setRoles_safe
      | with_reducible apply becomeFollower_safe | with_reducible apply post_safe | exact Safe.fold (by assumption)
      | split | intro _)

theorem severe_safe (s : State) (hsafe : Safe s) : Safe (severe s) := by
  unfold severe
  repeat' (first
      | with_reducible assumption | with_reducible apply State.modClover_safe | with_reducible apply each_safe
      | with_reducible apply State.modGroup_safe | with_reducible apply when_safe | with_reducible apply post_safe | split
      | intro _)

theorem execLsa_safe (p : Nat) (origin : Nat) (uid : Nat) (seq : Nat) (x : LsaIn) (s : State) (hsafe : Safe s) :
    OutSafe (execLsa p origin uid seq x s) := by
  unfold execLsa; dsimp only
  repeat' (first
      | with_reducible assumption | apply outSafe_next | with_reducible apply event_safe
      | with_reducible apply addrClash_safe | with_reducible apply seeUid_safe | with_reducible apply floodLsa_safe
      | with_reducible apply storeLsa_safe | with_reducible apply severe_safe | exact Safe.fold (by assumption) | split
      | intro _)

end Sys2Proof.Machine
end

