-- ==== Sys2Proof/Laws/SafeRows.lean ====
section
/-! SUPPORT. Every operation of staging, the control core, housekeeping and memory keeps `Safe`: one lemma
per operation, cited by the operations that call it. -/

namespace Sys2Proof.Machine

theorem addChange_safe (id : Nat) (t : Nat) (ch : Change) (s : State) (hsafe : Safe s) : Safe (addChange id t ch s) := hsafe

theorem pushCommit_safe (k : Commit) (s : State) (hsafe : Safe s) : Safe (pushCommit k s) := hsafe

theorem refuseCommit_safe (st : Status) (l : List Change) (b : Nat) (s : State) (hsafe : Safe s) :
    Safe (refuseCommit st l b s).2 := by
  unfold refuseCommit
  repeat' (first
      | with_reducible assumption | with_reducible apply each_safe | with_reducible apply changeAll_safe
      | with_reducible apply standing_safe | with_reducible apply refuseFull_safe | with_reducible apply refuse_safe
      | split | intro _)

theorem stageBody_safe (op : Nat) (c : Cmd) (ch : Change) (formed : Bool) (s : State) (hsafe : Safe s) :
    Safe (stageBody op c ch formed s).2 := by
  unfold stageBody; dsimp only
  repeat' (first
      | with_reducible assumption | with_reducible apply refuseCommit_safe | with_reducible apply refuseFull_safe
      | with_reducible apply done_safe | with_reducible apply pushCommit_safe | with_reducible apply refuse_safe
      | with_reducible apply addChange_safe | exact Safe.fold (by assumption) | split | intro _)

theorem setBody_safe (op : Nat) (c : Cmd) (pairs : List Pair) (s : State) (hsafe : Safe s) :
    Safe (setBody op c pairs s).2 := by
  unfold setBody; apply stageBody_safe; exact hsafe

theorem bodyChannelSet_safe (c : Cmd) (pairs : List Pair) (s : State) (hsafe : Safe s) :
    Safe (bodyChannelSet c pairs s).2 := by
  unfold bodyChannelSet; apply setBody_safe; exact hsafe

theorem execChannelSet_safe (c : Cmd) (pairs : List Pair) (s : State) (hsafe : Safe s) :
    OutSafe (execChannelSet c pairs s) := by
  refine command_safe _ _ _ _ _ (fun s h => ?_) hsafe
  apply bodyChannelSet_safe; exact h

theorem bodyExcSet_safe (c : Cmd) (pairs : List Pair) (s : State) (hsafe : Safe s) : Safe (bodyExcSet c pairs s).2 := by
  unfold bodyExcSet; apply setBody_safe; exact hsafe

theorem execExcSet_safe (c : Cmd) (pairs : List Pair) (s : State) (hsafe : Safe s) : OutSafe (execExcSet c pairs s) := by
  refine command_safe _ _ _ _ _ (fun s h => ?_) hsafe
  apply bodyExcSet_safe; exact h

theorem bodyRefbufSet_safe (c : Cmd) (pairs : List Pair) (s : State) (hsafe : Safe s) :
    Safe (bodyRefbufSet c pairs s).2 := by
  unfold bodyRefbufSet; apply setBody_safe; exact hsafe

theorem execRefbufSet_safe (c : Cmd) (pairs : List Pair) (s : State) (hsafe : Safe s) :
    OutSafe (execRefbufSet c pairs s) := by
  refine command_safe _ _ _ _ _ (fun s h => ?_) hsafe
  apply bodyRefbufSet_safe; exact h

theorem bodyChainSet_safe (c : Cmd) (pairs : List Pair) (s : State) (hsafe : Safe s) : Safe (bodyChainSet c pairs s).2 := by
  unfold bodyChainSet; apply setBody_safe; exact hsafe

theorem execChainSet_safe (c : Cmd) (pairs : List Pair) (s : State) (hsafe : Safe s) : OutSafe (execChainSet c pairs s) := by
  refine command_safe _ _ _ _ _ (fun s h => ?_) hsafe
  apply bodyChainSet_safe; exact h

theorem bodyChainTaps_safe (c : Cmd) (tap : Nat) (taps : List Int) (s : State) (hsafe : Safe s) :
    Safe (bodyChainTaps c tap taps s).2 := by
  unfold bodyChainTaps; apply stageBody_safe; exact hsafe

theorem execChainTaps_safe (c : Cmd) (tap : Nat) (taps : List Int) (s : State) (hsafe : Safe s) :
    OutSafe (execChainTaps c tap taps s) := by
  refine command_safe _ _ _ _ _ (fun s h => ?_) hsafe
  apply bodyChainTaps_safe; exact h

theorem bodyTachSet_safe (c : Cmd) (pairs : List Pair) (s : State) (hsafe : Safe s) : Safe (bodyTachSet c pairs s).2 := by
  unfold bodyTachSet; apply setBody_safe; exact hsafe

theorem execTachSet_safe (c : Cmd) (pairs : List Pair) (s : State) (hsafe : Safe s) : OutSafe (execTachSet c pairs s) := by
  refine command_safe _ _ _ _ _ (fun s h => ?_) hsafe
  apply bodyTachSet_safe; exact h

theorem bodyShaftSet_safe (c : Cmd) (pairs : List Pair) (s : State) (hsafe : Safe s) : Safe (bodyShaftSet c pairs s).2 := by
  unfold bodyShaftSet; apply setBody_safe; exact hsafe

theorem execShaftSet_safe (c : Cmd) (pairs : List Pair) (s : State) (hsafe : Safe s) : OutSafe (execShaftSet c pairs s) := by
  refine command_safe _ _ _ _ _ (fun s h => ?_) hsafe
  apply bodyShaftSet_safe; exact h

theorem bodyStatsSet_safe (c : Cmd) (pairs : List Pair) (s : State) (hsafe : Safe s) : Safe (bodyStatsSet c pairs s).2 := by
  unfold bodyStatsSet; apply setBody_safe; exact hsafe

theorem execStatsSet_safe (c : Cmd) (pairs : List Pair) (s : State) (hsafe : Safe s) : OutSafe (execStatsSet c pairs s) := by
  refine command_safe _ _ _ _ _ (fun s h => ?_) hsafe
  apply bodyStatsSet_safe; exact h

theorem bodyTriggerSet_safe (c : Cmd) (pairs : List Pair) (s : State) (hsafe : Safe s) :
    Safe (bodyTriggerSet c pairs s).2 := by
  unfold bodyTriggerSet; apply setBody_safe; exact hsafe

theorem execTriggerSet_safe (c : Cmd) (pairs : List Pair) (s : State) (hsafe : Safe s) :
    OutSafe (execTriggerSet c pairs s) := by
  refine command_safe _ _ _ _ _ (fun s h => ?_) hsafe
  apply bodyTriggerSet_safe; exact h

theorem bodyAdmissionSet_safe (c : Cmd) (pairs : List Pair) (s : State) (hsafe : Safe s) :
    Safe (bodyAdmissionSet c pairs s).2 := by
  unfold bodyAdmissionSet; apply setBody_safe; exact hsafe

theorem execAdmissionSet_safe (c : Cmd) (pairs : List Pair) (s : State) (hsafe : Safe s) :
    OutSafe (execAdmissionSet c pairs s) := by
  refine command_safe _ _ _ _ _ (fun s h => ?_) hsafe
  apply bodyAdmissionSet_safe; exact h

theorem bodyRingSet_safe (c : Cmd) (pairs : List Pair) (s : State) (hsafe : Safe s) : Safe (bodyRingSet c pairs s).2 := by
  unfold bodyRingSet; apply setBody_safe; exact hsafe

theorem execRingSet_safe (c : Cmd) (pairs : List Pair) (s : State) (hsafe : Safe s) : OutSafe (execRingSet c pairs s) := by
  refine command_safe _ _ _ _ _ (fun s h => ?_) hsafe
  apply bodyRingSet_safe; exact h

theorem bodyPortSet_safe (c : Cmd) (pairs : List Pair) (s : State) (hsafe : Safe s) : Safe (bodyPortSet c pairs s).2 := by
  unfold bodyPortSet; apply setBody_safe; exact hsafe

theorem execPortSet_safe (c : Cmd) (pairs : List Pair) (s : State) (hsafe : Safe s) : OutSafe (execPortSet c pairs s) := by
  refine command_safe _ _ _ _ _ (fun s h => ?_) hsafe
  apply bodyPortSet_safe; exact h

theorem bodyStageStatus_safe (c : Cmd) (s : State) (hsafe : Safe s) : Safe (bodyStageStatus c s).2 := by
  unfold bodyStageStatus
  repeat' (first
      | with_reducible assumption | with_reducible apply checked_safe | with_reducible apply done_safe
      | with_reducible apply refuse_safe | split | intro _)

theorem execStageStatus_safe (c : Cmd) (s : State) (hsafe : Safe s) : OutSafe (execStageStatus c s) := by
  refine command_safe _ _ _ _ _ (fun s h => ?_) hsafe
  apply bodyStageStatus_safe; exact h

theorem dropStage_safe (id : Nat) (s : State) (hsafe : Safe s) : Safe (dropStage id s) := by
  unfold dropStage; dsimp only
  repeat' (first
      | with_reducible assumption | with_reducible apply markStage_safe | exact Safe.fold (by assumption) | split | intro _)

theorem bodyStageDiscard_safe (c : Cmd) (s : State) (hsafe : Safe s) : Safe (bodyStageDiscard c s).2 := by
  unfold bodyStageDiscard
  repeat' (first
      | with_reducible assumption | with_reducible apply checked_safe | with_reducible apply dropStage_safe | split
      | intro _)

theorem execStageDiscard_safe (c : Cmd) (s : State) (hsafe : Safe s) : OutSafe (execStageDiscard c s) := by
  refine command_safe _ _ _ _ _ (fun s h => ?_) hsafe
  apply bodyStageDiscard_safe; exact h

theorem modNet_safe (stage : Nat) (f : NetCommit → NetCommit) (s : State) (hsafe : Safe s) : Safe (modNet stage f s) := hsafe

theorem journalHub_safe (n : NetCommit) (hub : Nat) (state : Nat) (s : State) (hsafe : Safe s) :
    Safe (journalHub n hub state s) := hsafe

theorem prepareStage_safe (src : Nat) (stage : Nat) (boundary : Nat) (s : State) (hsafe : Safe s) :
    Safe (prepareStage src stage boundary s).2 := by
  unfold prepareStage; dsimp only
  repeat' (first | with_reducible assumption  | exact Safe.fold (by assumption) | split | intro _)

theorem execPrepare_safe (src : Nat) (stage : Nat) (boundary : Nat) (now : Inst) (s : State) (hsafe : Safe s) :
    OutSafe (execPrepare src stage boundary now s) := by
  unfold execPrepare; dsimp only
  repeat' (first
      | with_reducible assumption | apply outSafe_next | with_reducible apply prepareStage_safe
      | with_reducible apply touch_safe | with_reducible apply sendMsg_safe | exact Safe.fold (by assumption) | split
      | intro _)

theorem sealStage_safe (src : Nat) (stage : Nat) (s : State) (hsafe : Safe s) : Safe (sealStage src stage s) := by
  unfold sealStage
  repeat' (first
      | with_reducible assumption | with_reducible apply markStage_safe | with_reducible apply pushCommit_safe | split
      | intro _)

theorem execSeal_safe (src : Nat) (stage : Nat) (s : State) (hsafe : Safe s) : OutSafe (execSeal src stage s) := by
  unfold execSeal
  repeat' (first | with_reducible assumption | apply outSafe_next | with_reducible apply sealStage_safe | split | intro _)

theorem abortStage_safe (src : Nat) (stage : Nat) (s : State) (hsafe : Safe s) : Safe (abortStage src stage s) := by
  unfold abortStage
  repeat' (first | with_reducible assumption | with_reducible apply dropStage_safe | split | intro _)

theorem execAbortMsg_safe (src : Nat) (stage : Nat) (s : State) (hsafe : Safe s) : OutSafe (execAbortMsg src stage s) := by
  unfold execAbortMsg
  repeat' (first | with_reducible assumption | apply outSafe_next | with_reducible apply abortStage_safe | split | intro _)

theorem execNetworkStageExpiry_safe (stage : Nat) (s : State) (hsafe : Safe s) :
    OutSafe (execNetworkStageExpiry stage s) := by
  unfold execNetworkStageExpiry
  repeat' (first
      | with_reducible assumption | apply outSafe_next | with_reducible apply post_safe
      | with_reducible apply dropStage_safe | split | intro _)

theorem sealNet_safe (n : NetCommit) (s : State) (hsafe : Safe s) : Safe (sealNet n s) := by
  unfold sealNet
  repeat' (first
      | with_reducible assumption | with_reducible apply modNet_safe | with_reducible apply each_safe
      | with_reducible apply journalHub_safe | with_reducible apply sealStage_safe | with_reducible apply sendMsg_safe
      | split | intro _)

theorem endNet_safe (n : NetCommit) (r : Reply) (s : State) (hsafe : Safe s) : Safe (endNet n r s) := by
  unfold endNet; apply finishLater_safe; exact hsafe

theorem abortNet_safe (n : NetCommit) (s : State) (hsafe : Safe s) : Safe (abortNet n s) := by
  unfold abortNet
  repeat' (first
      | with_reducible assumption | with_reducible apply each_safe | with_reducible apply journalHub_safe
      | with_reducible apply abortStage_safe | with_reducible apply sendMsg_safe | with_reducible apply endNet_safe
      | split | intro _)

theorem readyIn_safe (src : Nat) (stage : Nat) (s : State) (hsafe : Safe s) : Safe (readyIn src stage s) := by
  unfold readyIn; dsimp only
  repeat' (first
      | with_reducible assumption | with_reducible apply journalHub_safe | with_reducible apply modNet_safe
      | with_reducible apply sealNet_safe | exact Safe.fold (by assumption) | split | intro _)

theorem execReadyMsg_safe (src : Nat) (stage : Nat) (s : State) (hsafe : Safe s) : OutSafe (execReadyMsg src stage s) := by
  unfold execReadyMsg
  repeat' (first | with_reducible assumption | apply outSafe_next | with_reducible apply readyIn_safe | split | intro _)

theorem refusedIn_safe (src : Nat) (stage : Nat) (st : Status) (s : State) (hsafe : Safe s) :
    Safe (refusedIn src stage st s) := by
  unfold refusedIn
  repeat' (first
      | with_reducible assumption | with_reducible apply journalHub_safe | with_reducible apply modNet_safe | split
      | intro _)

theorem execRefuseMsg_safe (src : Nat) (stage : Nat) (st : Status) (s : State) (hsafe : Safe s) :
    OutSafe (execRefuseMsg src stage st s) := by
  unfold execRefuseMsg
  repeat' (first | with_reducible assumption | apply outSafe_next | with_reducible apply refusedIn_safe | split | intro _)

theorem execNetworkCommitDecide_safe (stage : Nat) (s : State) (hsafe : Safe s) :
    OutSafe (execNetworkCommitDecide stage s) := by
  unfold execNetworkCommitDecide
  repeat' (first
      | with_reducible assumption | apply outSafe_next | with_reducible apply sealNet_safe
      | with_reducible apply abortNet_safe | split | intro _)

theorem confirmIn_safe (src : Nat) (stage : Nat) (s : State) (hsafe : Safe s) : Safe (confirmIn src stage s) := by
  unfold confirmIn; dsimp only
  repeat' (first
      | with_reducible assumption | with_reducible apply journalHub_safe | with_reducible apply modNet_safe
      | with_reducible apply endNet_safe | exact Safe.fold (by assumption) | split | intro _)

theorem execCommitConfirm_safe (src : Nat) (stage : Nat) (s : State) (hsafe : Safe s) :
    OutSafe (execCommitConfirm src stage s) := by
  unfold execCommitConfirm
  repeat' (first | with_reducible assumption | apply outSafe_next | with_reducible apply confirmIn_safe | split | intro _)

theorem execNetworkCommitDeadline_safe (stage : Nat) (s : State) (hsafe : Safe s) :
    OutSafe (execNetworkCommitDeadline stage s) := by
  unfold execNetworkCommitDeadline
  repeat' (first | with_reducible assumption | apply outSafe_next | with_reducible apply endNet_safe | split | intro _)

theorem netCommitBody_safe (c : Cmd) (sec : Nat) (swath : Nat) (targets : List Nat) (s : State) (hsafe : Safe s) :
    Safe (netCommitBody c sec swath targets s).2 := by
  unfold netCommitBody
  try dsimp only
  iterate 60 all_goals (try (first
      | with_reducible assumption | with_reducible apply checked_safe | with_reducible apply each_safe
      | with_reducible apply sendMsg_safe | with_reducible apply prepareStage_safe | with_reducible apply readyIn_safe
      | with_reducible apply refusedIn_safe | with_reducible apply outSafe_next | with_reducible apply optSafe_some
      | with_reducible exact optSafe_none | with_reducible apply safe_ite | (intro _; try dsimp only) | split
      | (with_reducible refine safe_snd ?_ (by assumption)) | (with_reducible refine safe_fst ?_ (by assumption))
      | (change SafeParts _ _ _ _ _ _ _ _; try dsimp only; with_reducible refine Safe.fold ?_)))

theorem bodyCommitAtSwath_safe (c : Cmd) (sec : Nat) (swath : Nat) (targets : List Nat) (s : State) (hsafe : Safe s) :
    Safe (bodyCommitAtSwath c sec swath targets s).2 := by
  unfold bodyCommitAtSwath; dsimp only
  repeat' (first
      | with_reducible assumption | with_reducible apply netCommitBody_safe | with_reducible apply refuse_safe
      | with_reducible apply refuseFull_safe | with_reducible apply refuseCommit_safe
      | with_reducible apply markStage_safe | with_reducible apply pushCommit_safe | exact Safe.fold (by assumption)
      | split | intro _)

theorem execCommitAtSwath_safe (c : Cmd) (sec : Nat) (swath : Nat) (targets : List Nat) (s : State) (hsafe : Safe s) :
    OutSafe (execCommitAtSwath c sec swath targets s) := by
  refine command_safe _ _ _ _ _ (fun s h => ?_) hsafe
  apply bodyCommitAtSwath_safe; exact h

theorem resetTile_safe (t : Nat) (s : State) (hsafe : Safe s) : Safe (resetTile t s) := by
  unfold resetTile; dsimp only
  repeat' (first
      | with_reducible assumption | with_reducible apply each_safe | with_reducible apply State.modModu_safe
      | with_reducible apply State.modChan_safe | with_reducible apply startRound_safe | exact Safe.fold (by assumption)
      | split | intro _)

theorem retrainPort_safe (p : Nat) (s : State) (hsafe : Safe s) : Safe (retrainPort p s) := by
  unfold retrainPort
  repeat' (first
      | with_reducible assumption | with_reducible apply linkDown_safe | with_reducible apply State.modPort_safe | split
      | intro _)

theorem bodyResetPart_safe (c : Cmd) (s : State) (hsafe : Safe s) : Safe (bodyResetPart c s).2 := by
  unfold bodyResetPart
  repeat' (first
      | with_reducible assumption | with_reducible apply checked_safe | with_reducible apply resetTile_safe
      | with_reducible apply retrainPort_safe | split | intro _)

theorem execResetPart_safe (c : Cmd) (s : State) (hsafe : Safe s) : OutSafe (execResetPart c s) := by
  unfold execResetPart
  try dsimp only
  iterate 60 all_goals (try (first
      | with_reducible assumption | with_reducible apply touch_safe | with_reducible apply heldReset_safe
      | with_reducible apply stayExec_safe | with_reducible apply journalReply_safe | with_reducible apply command_safe
      | with_reducible apply bodyResetPart_safe | with_reducible apply outSafe_next | with_reducible apply optSafe_some
      | with_reducible exact optSafe_none | with_reducible apply safe_ite | (intro _; try dsimp only) | split
      | (with_reducible refine safe_snd ?_ (by assumption)) | (with_reducible refine safe_fst ?_ (by assumption))
      | (change SafeParts _ _ _ _ _ _ _ _; try dsimp only; with_reducible refine Safe.fold ?_)))

theorem bodyQueueCreate_safe (c : Cmd) (sqBase : Nat) (sqSize : Nat) (vector : Nat) (cqBase : Nat) (cqSize : Nat) (s :
    State) (hsafe : Safe s) : Safe (bodyQueueCreate c sqBase sqSize vector cqBase cqSize s).2 := by
  unfold bodyQueueCreate
  repeat' (first
      | with_reducible assumption | with_reducible apply State.modTenant_safe | with_reducible apply checked_safe
      | with_reducible apply State.modQueue_safe | split | intro _)

theorem execQueueCreate_safe (c : Cmd) (sqBase : Nat) (sqSize : Nat) (vector : Nat) (cqBase : Nat) (cqSize : Nat) (s :
    State) (hsafe : Safe s) : OutSafe (execQueueCreate c sqBase sqSize vector cqBase cqSize s) := by
  refine command_safe _ _ _ _ _ (fun s h => ?_) hsafe
  apply bodyQueueCreate_safe; exact h

theorem bodyQueueDelete_safe (c : Cmd) (s : State) (hsafe : Safe s) : Safe (bodyQueueDelete c s).2 := by
  unfold bodyQueueDelete
  repeat' (first
      | with_reducible assumption | with_reducible apply checked_safe | with_reducible apply State.modQueue_safe | split
      | intro _)

theorem execQueueDelete_safe (c : Cmd) (s : State) (hsafe : Safe s) : OutSafe (execQueueDelete c s) := by
  refine command_safe _ _ _ _ _ (fun s h => ?_) hsafe
  apply bodyQueueDelete_safe; exact h

theorem bodyDmaQueueRestart_safe (c : Cmd) (s : State) (hsafe : Safe s) : Safe (bodyDmaQueueRestart c s).2 := by
  unfold bodyDmaQueueRestart
  repeat' (first
      | with_reducible assumption | with_reducible apply checked_safe | with_reducible apply State.modQueue_safe | split
      | intro _)

theorem execDmaQueueRestart_safe (c : Cmd) (s : State) (hsafe : Safe s) : OutSafe (execDmaQueueRestart c s) := by
  refine command_safe _ _ _ _ _ (fun s h => ?_) hsafe
  apply bodyDmaQueueRestart_safe; exact h

theorem bodyCalNow_safe (c : Cmd) (s : State) (hsafe : Safe s) : Safe (bodyCalNow c s).2 := by
  unfold bodyCalNow; dsimp only
  repeat' (first
      | with_reducible assumption | with_reducible apply checked_safe | with_reducible apply State.modModu_safe
      | with_reducible apply State.modChan_safe | exact Safe.fold (by assumption) | split | intro _)

theorem execCalNow_safe (c : Cmd) (s : State) (hsafe : Safe s) : OutSafe (execCalNow c s) := by
  refine command_safe _ _ _ _ _ (fun s h => ?_) hsafe
  apply bodyCalNow_safe; exact h

theorem bodyCalSet_safe (c : Cmd) (pairs : List Pair) (s : State) (hsafe : Safe s) : Safe (bodyCalSet c pairs s).2 := by
  unfold bodyCalSet; dsimp only
  repeat' (first
      | with_reducible assumption | with_reducible apply checked_safe | with_reducible apply refuse_safe
      | with_reducible apply when_safe | with_reducible apply each_safe | with_reducible apply State.modModu_safe
      | exact Safe.fold (by assumption) | split | intro _)

theorem execCalSet_safe (c : Cmd) (pairs : List Pair) (s : State) (hsafe : Safe s) : OutSafe (execCalSet c pairs s) := by
  refine command_safe _ _ _ _ _ (fun s h => ?_) hsafe
  apply bodyCalSet_safe; exact h

theorem bodySpareShadow_safe (c : Cmd) (spare : Nat) (swaths : Nat) (s : State) (hsafe : Safe s) :
    Safe (bodySpareShadow c spare swaths s).2 := by
  unfold bodySpareShadow
  repeat' (first
      | with_reducible assumption | with_reducible apply checked_safe | with_reducible apply refuse_safe
      | with_reducible apply claimSpare_safe | split | intro _)

theorem execSpareShadow_safe (c : Cmd) (spare : Nat) (swaths : Nat) (s : State) (hsafe : Safe s) :
    OutSafe (execSpareShadow c spare swaths s) := by
  refine command_safe _ _ _ _ _ (fun s h => ?_) hsafe
  apply bodySpareShadow_safe; exact h

theorem bodySpareRelease_safe (c : Cmd) (s : State) (hsafe : Safe s) : Safe (bodySpareRelease c s).2 := by
  unfold bodySpareRelease
  repeat' (first
      | with_reducible assumption | with_reducible apply checked_safe | with_reducible apply State.modChan_safe
      | with_reducible apply State.modSpare_safe | split | intro _)

theorem execSpareRelease_safe (c : Cmd) (s : State) (hsafe : Safe s) : OutSafe (execSpareRelease c s) := by
  refine command_safe _ _ _ _ _ (fun s h => ?_) hsafe
  apply bodySpareRelease_safe; exact h

theorem bodyRemapClear_safe (c : Cmd) (s : State) (hsafe : Safe s) : Safe (bodyRemapClear c s).2 := by
  unfold bodyRemapClear
  repeat' (first
      | with_reducible assumption | with_reducible apply checked_safe | with_reducible apply when_safe
      | with_reducible apply State.modModu_safe | split | intro _)

theorem execRemapClear_safe (c : Cmd) (s : State) (hsafe : Safe s) : OutSafe (execRemapClear c s) := by
  refine command_safe _ _ _ _ _ (fun s h => ?_) hsafe
  apply bodyRemapClear_safe; exact h

theorem bodyShaftReturn_safe (c : Cmd) (s : State) (hsafe : Safe s) : Safe (bodyShaftReturn c s).2 := by
  unfold bodyShaftReturn
  repeat' (first
      | with_reducible assumption | with_reducible apply checked_safe | with_reducible apply State.modShaft_safe | split
      | intro _)

theorem execShaftReturn_safe (c : Cmd) (s : State) (hsafe : Safe s) : OutSafe (execShaftReturn c s) := by
  refine command_safe _ _ _ _ _ (fun s h => ?_) hsafe
  apply bodyShaftReturn_safe; exact h

theorem foreign_safe (c : Cmd) (s : State) (hsafe : Safe s) : Safe (foreign c s).2 := by
  unfold foreign; apply violate_safe; exact hsafe

theorem bodyDescCreate_safe (c : Cmd) (d : Descriptor) (s : State) (hsafe : Safe s) : Safe (bodyDescCreate c d s).2 := by
  unfold bodyDescCreate; dsimp only
  repeat' (first
      | with_reducible assumption | with_reducible apply checked_safe | with_reducible apply refuseFull_safe
      | with_reducible apply noteUse_safe | exact Safe.fold (by assumption) | split | intro _)

theorem execDescCreate_safe (c : Cmd) (d : Descriptor) (s : State) (hsafe : Safe s) : OutSafe (execDescCreate c d s) := by
  refine command_safe _ _ _ _ _ (fun s h => ?_) hsafe
  apply bodyDescCreate_safe; exact h

theorem bodyDescSet_safe (c : Cmd) (d : Descriptor) (s : State) (hsafe : Safe s) : Safe (bodyDescSet c d s).2 := by
  unfold bodyDescSet; dsimp only
  repeat' (first
      | with_reducible assumption | with_reducible apply foreign_safe | with_reducible apply checked_safe
      | exact Safe.fold (by assumption) | split | intro _)

theorem execDescSet_safe (c : Cmd) (d : Descriptor) (s : State) (hsafe : Safe s) : OutSafe (execDescSet c d s) := by
  refine command_safe _ _ _ _ _ (fun s h => ?_) hsafe
  apply bodyDescSet_safe; exact h

theorem bodyDescFree_safe (c : Cmd) (s : State) (hsafe : Safe s) : Safe (bodyDescFree c s).2 := by
  unfold bodyDescFree; dsimp only
  repeat' (first
      | with_reducible assumption | with_reducible apply foreign_safe | with_reducible apply checked_safe
      | exact Safe.fold (by assumption) | split | intro _)

theorem execDescFree_safe (c : Cmd) (s : State) (hsafe : Safe s) : OutSafe (execDescFree c s) := by
  refine command_safe _ _ _ _ _ (fun s h => ?_) hsafe
  apply bodyDescFree_safe; exact h

theorem bodyTussockJump_safe (c : Cmd) (target : Nat) (s : State) (hsafe : Safe s) :
    Safe (bodyTussockJump c target s).2 := by
  unfold bodyTussockJump
  repeat' (first
      | with_reducible assumption | with_reducible apply checked_safe | with_reducible apply registerJump_safe | split
      | intro _)

theorem execTussockJump_safe (c : Cmd) (target : Nat) (s : State) (hsafe : Safe s) :
    OutSafe (execTussockJump c target s) := by
  refine command_safe _ _ _ _ _ (fun s h => ?_) hsafe
  apply bodyTussockJump_safe; exact h

theorem bodySubscribe_safe (c : Cmd) (pairs : List Pair) (s : State) (hsafe : Safe s) :
    Safe (bodySubscribe c pairs s).2 := by
  unfold bodySubscribe; dsimp only
  repeat' (first
      | with_reducible assumption | with_reducible apply checked_safe | with_reducible apply refuseFull_safe
      | with_reducible apply State.modQueue_safe | with_reducible apply noteUse_safe | exact Safe.fold (by assumption)
      | split | intro _)

theorem execSubscribe_safe (c : Cmd) (pairs : List Pair) (s : State) (hsafe : Safe s) :
    OutSafe (execSubscribe c pairs s) := by
  refine command_safe _ _ _ _ _ (fun s h => ?_) hsafe
  apply bodySubscribe_safe; exact h

theorem onSub_safe (c : Cmd) (zero : Bool) (s : State) (body : Nat → Sub → Reply × State)
    (hb : ∀ a u, Safe (body a u).2) (h : Safe s) : Safe (onSub c zero s body).2 := by
  unfold onSub; split
  · exact refuse_safe _ _ h
  · split
    · exact foreign_safe _ _ h
    · exact hb _ _

theorem bodyUnsubscribe_safe (c : Cmd) (s : State) (hsafe : Safe s) : Safe (bodyUnsubscribe c s).2 := by
  unfold bodyUnsubscribe
  repeat' (first
      | with_reducible assumption | with_reducible apply onSub_safe | with_reducible apply refuse_safe
      | with_reducible apply queueEvent_safe | split | intro _)

theorem execUnsubscribe_safe (c : Cmd) (s : State) (hsafe : Safe s) : OutSafe (execUnsubscribe c s) := by
  refine command_safe _ _ _ _ _ (fun s h => ?_) hsafe
  apply bodyUnsubscribe_safe; exact h

theorem bodyAck_safe (c : Cmd) (n : Nat) (s : State) (hsafe : Safe s) : Safe (bodyAck c n s).2 := by
  unfold bodyAck
  repeat' (first
      | with_reducible assumption | with_reducible apply onSub_safe | with_reducible apply refuse_safe
      | with_reducible apply State.modSub_safe | split | intro _)

theorem execAck_safe (c : Cmd) (n : Nat) (s : State) (hsafe : Safe s) : OutSafe (execAck c n s) := by
  refine command_safe _ _ _ _ _ (fun s h => ?_) hsafe
  apply bodyAck_safe; exact h

theorem bodyResend_safe (c : Cmd) (m : Nat) (s : State) (hsafe : Safe s) : Safe (bodyResend c m s).2 := by
  unfold bodyResend
  repeat' (first
      | with_reducible assumption | with_reducible apply onSub_safe | with_reducible apply checked_safe
      | with_reducible apply queueEvent_safe | split | intro _)

theorem execResend_safe (c : Cmd) (m : Nat) (s : State) (hsafe : Safe s) : OutSafe (execResend c m s) := by
  refine command_safe _ _ _ _ _ (fun s h => ?_) hsafe
  apply bodyResend_safe; exact h

theorem bodyAttach_safe (c : Cmd) (queue : Nat) (s : State) (hsafe : Safe s) : Safe (bodyAttach c queue s).2 := by
  unfold bodyAttach
  repeat' (first
      | with_reducible assumption | with_reducible apply onSub_safe | with_reducible apply checked_safe
      | with_reducible apply each_safe | with_reducible apply putDma_safe | with_reducible apply State.modSub_safe
      | with_reducible apply State.modQueue_safe | with_reducible apply queueEvent_safe | split | intro _)

theorem execAttach_safe (c : Cmd) (queue : Nat) (s : State) (hsafe : Safe s) : OutSafe (execAttach c queue s) := by
  refine command_safe _ _ _ _ _ (fun s h => ?_) hsafe
  apply bodyAttach_safe; exact h

theorem takeReading_safe (i : Nat) (code : Nat) (v : Int) (beyondR : Bool) (t : Inst) (s : State) (hsafe : Safe s) :
    Safe (takeReading i code v beyondR t s) := by
  unfold takeReading
  repeat' (first
      | with_reducible assumption | with_reducible apply State.modSensor_safe | with_reducible apply when_safe
      | with_reducible apply bump_safe | with_reducible apply post_safe | split | intro _)

theorem convert_safe (i : Nat) (code : Int) (t : Inst) (s : State) (hsafe : Safe s) : Safe (convert i code t s) := by
  unfold convert; apply takeReading_safe; exact hsafe

theorem refFaultBegin_safe (t : Nat) (cause : Nat) (ppm : Int) (s : State) (hsafe : Safe s) :
    Safe (refFaultBegin t cause ppm s) := by
  unfold refFaultBegin; dsimp only
  repeat' (first
      | with_reducible assumption | with_reducible apply State.modTile_safe | with_reducible apply suspendCovers_safe
      | with_reducible apply post_safe | exact Safe.fold (by assumption) | split | intro _)

theorem refFaultEnd_safe (t : Nat) (cause : Nat) (s : State) (hsafe : Safe s) : Safe (refFaultEnd t cause s) := by
  unfold refFaultEnd; dsimp only
  repeat' (first
      | with_reducible assumption | with_reducible apply State.modTile_safe | exact Safe.fold (by assumption) | split
      | intro _)

theorem judgeRefs_safe (i : Nat) (s : State) (hsafe : Safe s) : Safe (judgeRefs i s) := by
  unfold judgeRefs; dsimp only
  repeat' (first
      | with_reducible assumption | with_reducible apply refFaultBegin_safe | with_reducible apply refFaultEnd_safe
      | with_reducible apply each_safe | exact Safe.fold (by assumption) | split | intro _)

theorem execHkConversion_safe (slot : Nat) (code : Int) (t : Inst) (s : State) (hsafe : Safe s) :
    OutSafe (execHkConversion slot code t s) := by
  unfold execHkConversion
  repeat' (first
      | with_reducible assumption | apply outSafe_next | with_reducible apply touch_safe | with_reducible apply event_safe
      | with_reducible apply judgeRefs_safe | with_reducible apply convert_safe | split | intro _)

theorem execUrgentConversion_safe (sensor : Nat) (slot : Nat) (code : Int) (s : State) (hsafe : Safe s) :
    OutSafe (execUrgentConversion sensor slot code s) := by
  unfold execUrgentConversion
  repeat' (first
      | with_reducible assumption | apply outSafe_next | with_reducible apply event_safe | with_reducible apply bump_safe
      | with_reducible apply judgeRefs_safe | with_reducible apply convert_safe | split | intro _)

theorem execHousekeepingPeriod_safe (sensor : Nat) (t : Inst) (s : State) (hsafe : Safe s) :
    OutSafe (execHousekeepingPeriod sensor t s) := by
  unfold execHousekeepingPeriod
  repeat' (first
      | with_reducible assumption | apply outSafe_next | with_reducible apply touch_safe | with_reducible apply event_safe
      | with_reducible apply emitItem_safe | split | intro _)

theorem thermalPass_safe (g : Nat) (s : State) (hsafe : Safe s) : Safe (thermalPass g s) := by
  unfold thermalPass; dsimp only
  repeat' (first
      | with_reducible assumption | with_reducible apply when_safe | with_reducible apply ctlWrite_safe
      | exact Safe.fold (by assumption) | split | intro _)

theorem execThermalLevelExit_safe (s : State) (hsafe : Safe s) : OutSafe (execThermalLevelExit s) := by
  unfold execThermalLevelExit
  repeat' (first
      | with_reducible assumption | apply outSafe_next | with_reducible apply when_safe
      | with_reducible apply ctlWrite_safe | split | intro _)

theorem setHolds_safe (s : State) (hsafe : Safe s) : Safe (setHolds s) := by
  unfold setHolds
  try dsimp only
  iterate 60 all_goals (try (first
      | with_reducible assumption  | with_reducible apply outSafe_next | with_reducible apply optSafe_some
      | with_reducible exact optSafe_none | with_reducible apply safe_ite | (intro _; try dsimp only) | split
      | (with_reducible refine safe_snd ?_ (by assumption)) | (with_reducible refine safe_fst ?_ (by assumption))
      | (change SafeParts _ _ _ _ _ _ _ _; try dsimp only; with_reducible refine Safe.fold ?_)))

theorem turnHolds_safe (g : Nat) (s : State) (hsafe : Safe s) : Safe (turnHolds g s) := by
  unfold turnHolds
  repeat' (first
      | with_reducible assumption | with_reducible apply setHolds_safe | with_reducible apply each_safe
      | with_reducible apply turnMod_safe | split | intro _)

theorem stopTests_safe (s : State) (hsafe : Safe s) : Safe (stopTests s) := by
  unfold stopTests; dsimp only
  repeat' (first
      | with_reducible assumption | with_reducible apply each_safe | with_reducible apply State.modPort_safe
      | exact Safe.fold (by assumption) | split | intro _)

theorem applyLevel_safe (n : Nat) (s : State) (hsafe : Safe s) : Safe (applyLevel n s) := by
  unfold applyLevel; dsimp only
  repeat' (first
      | with_reducible assumption | with_reducible apply post_safe | with_reducible apply when_safe
      | with_reducible apply stopTests_safe | exact Safe.fold (by assumption) | split | intro _)

theorem setSensor_safe (p : Pair) (s : State) (hsafe : Safe s) : OptSafe (setSensor p s) := by
  unfold setSensor
  dsimp only
  split
  · exact optSafe_ite (optSafe_some (State.modSensor_safe _ _ _ hsafe))
  · exact optSafe_ite (optSafe_some (State.modSensor_safe _ _ _ hsafe))
  · exact optSafe_ite (optSafe_map _ _ (fun _ => State.modSensor_safe _ _ _ hsafe))
  · exact optSafe_ite (optSafe_map _ _ (fun _ => State.modBus_safe _ _ _ hsafe))
  · exact optSafe_ite (optSafe_map _ _ (fun _ => State.modBus_safe _ _ _ hsafe))
  · exact optSafe_ite (optSafe_map _ _ (fun _ => State.modBus_safe _ _ _ hsafe))
  · exact optSafe_ite (optSafe_map _ _ (fun _ => hsafe))
  · exact optSafe_none

theorem applySensorSets_safe (s : State) (hsafe : Safe s) : Safe (applySensorSets s) :=
  each_safe _ _ _ (fun _ _ h => optSafe_getD h (setSensor_safe _ _ h)) hsafe

theorem execI2cSclTimeout_safe (bus : Nat) (s : State) (hsafe : Safe s) : OutSafe (execI2cSclTimeout bus s) := by
  unfold execI2cSclTimeout
  repeat' (first
      | with_reducible assumption | apply outSafe_next | with_reducible apply event_safe
      | with_reducible apply State.modBus_safe | with_reducible apply bump_safe | with_reducible apply post_safe | split
      | intro _)

theorem execI2cStuckRetry_safe (bus : Nat) (scl : Bool) (pulses : Option Nat) (s : State) (hsafe : Safe s) :
    OutSafe (execI2cStuckRetry bus scl pulses s) := by
  unfold execI2cStuckRetry; dsimp only
  repeat' (first
      | with_reducible assumption | apply outSafe_next | with_reducible apply event_safe
      | with_reducible apply startPulse_safe | with_reducible apply clearBus_safe | exact Safe.fold (by assumption)
      | split | intro _)

theorem execPmbusPoll_safe (reg : Nat) (vout : Int) (iout : Int) (temp : Int) (status : Int) (pecOk : Bool) (s :
    State) (hsafe : Safe s) : OutSafe (execPmbusPoll reg vout iout temp status pecOk s) := by
  unfold execPmbusPoll
  repeat' (first
      | with_reducible assumption | apply outSafe_next | with_reducible apply event_safe | with_reducible apply bump_safe
      | with_reducible apply takeReading_safe | with_reducible apply when_safe | with_reducible apply post_safe | split
      | intro _)

theorem execSfpPoll_safe (vals : List Int) (alarms : Nat) (s : State) (hsafe : Safe s) :
    OutSafe (execSfpPoll vals alarms s) := by
  unfold execSfpPoll
  repeat' (first
      | with_reducible assumption | apply outSafe_next | with_reducible apply each_safe
      | with_reducible apply takeReading_safe | with_reducible apply when_safe | with_reducible apply post_safe | split
      | intro _)

theorem execManagementEthernetLinkUp_safe (page : List Byte) (s : State) (hsafe : Safe s) :
    OutSafe (execManagementEthernetLinkUp page s) := by
  unfold execManagementEthernetLinkUp; dsimp only
  repeat' (first | with_reducible assumption | apply outSafe_next  | exact Safe.fold (by assumption) | split | intro _)

theorem execJtagTrstNAssert_safe (s : State) (hsafe : Safe s) : OutSafe (execJtagTrstNAssert s) := by
  unfold execJtagTrstNAssert; dsimp only
  repeat' (first | with_reducible assumption | apply outSafe_next  | exact Safe.fold (by assumption) | split | intro _)

theorem cutWarm_safe (t : Nat) (s : State) (hsafe : Safe s) : Safe (cutWarm t s) := by
  unfold cutWarm
  try dsimp only
  iterate 60 all_goals (try (first
      | with_reducible assumption | with_reducible apply each_safe | with_reducible apply cutOff_safe
      | with_reducible apply State.modTenant_safe | with_reducible apply outSafe_next | with_reducible apply optSafe_some
      | with_reducible exact optSafe_none | with_reducible apply safe_ite | (intro _; try dsimp only) | split
      | (with_reducible refine safe_snd ?_ (by assumption)) | (with_reducible refine safe_fst ?_ (by assumption))
      | (change SafeParts _ _ _ _ _ _ _ _; try dsimp only; with_reducible refine Safe.fold ?_)))

theorem dropWaits_safe (s : State) (hsafe : Safe s) : Safe (dropWaits s) := hsafe

theorem warmRestart_safe (cause : Nat) (t : Inst) (s : State) (hsafe : Safe s) : Safe (warmRestart cause t s) := by
  unfold warmRestart
  try dsimp only
  iterate 60 all_goals (try (first
      | with_reducible assumption | with_reducible apply heldReset_safe | with_reducible apply dropWaits_safe
      | with_reducible apply each_safe | with_reducible apply cutWarm_safe | with_reducible apply post_safe
      | with_reducible apply outSafe_next | with_reducible apply optSafe_some | with_reducible exact optSafe_none
      | with_reducible apply safe_ite | (intro _; try dsimp only) | split
      | (with_reducible refine safe_snd ?_ (by assumption)) | (with_reducible refine safe_fst ?_ (by assumption))
      | (change SafeParts _ _ _ _ _ _ _ _; try dsimp only; with_reducible refine Safe.fold ?_)))

theorem execWarmRestart_safe (t : Inst) (s : State) (hsafe : Safe s) : OutSafe (execWarmRestart t s) := by
  unfold execWarmRestart
  repeat' (first
      | with_reducible assumption | apply outSafe_next | with_reducible apply touch_safe
      | with_reducible apply warmRestart_safe | split | intro _)

theorem execSramUncorrectable_safe (safety : Bool) (addr : Nat) (s : State) (hsafe : Safe s) :
    OutSafe (execSramUncorrectable safety addr s) := by
  unfold execSramUncorrectable
  repeat' (first
      | with_reducible assumption | apply outSafe_next | with_reducible apply post_safe
      | with_reducible apply heldReset_safe | with_reducible apply journalDrain_safe
      | with_reducible apply warmRestart_safe | split | intro _)

theorem fetchLate_safe (s : State) (hsafe : Safe s) : Safe (fetchLate s) := by
  unfold fetchLate; dsimp only
  repeat' (first
      | with_reducible assumption | with_reducible apply each_safe | with_reducible apply fetchOne_safe
      | exact Safe.fold (by assumption) | split | intro _)

theorem execWarmRestartDone_safe (buses : List (Bool × Option Nat)) (s : State) (hsafe : Safe s) :
    OutSafe (execWarmRestartDone buses s) := by
  unfold execWarmRestartDone; dsimp only
  repeat' (first
      | with_reducible assumption | apply outSafe_next | with_reducible apply fetchLate_safe
      | with_reducible apply clearBuses_safe | exact Safe.fold (by assumption) | split | intro _)

theorem execPcieLinkUp_safe (rate : Nat) (width : Nat) (s : State) (hsafe : Safe s) :
    OutSafe (execPcieLinkUp rate width s) := by
  unfold execPcieLinkUp; dsimp only
  repeat' (first
      | with_reducible assumption | apply outSafe_next | with_reducible apply event_safe
      | with_reducible apply linkUp_safe | with_reducible apply each_safe | with_reducible apply when_safe
      | with_reducible apply post_safe | exact Safe.fold (by assumption) | split | intro _)

theorem poisonItem_safe (key : Nat) (n : Nat) (s : State) (hsafe : Safe s) : Safe (poisonItem key n s) := by
  unfold poisonItem
  repeat' (first
      | with_reducible assumption | with_reducible apply State.modStream_safe | with_reducible apply bump_safe
      | with_reducible apply post_safe | split | intro _)

theorem takePoisoned_safe (req : Nat) (held : Option (Nat × Nat)) (s : State) (hsafe : Safe s) :
    Safe (takePoisoned req held s) := by
  unfold takePoisoned
  try dsimp only
  iterate 60 all_goals (try (first
      | with_reducible assumption | with_reducible apply bump_safe | with_reducible apply post_safe
      | with_reducible apply poisonItem_safe | with_reducible apply outSafe_next | with_reducible apply optSafe_some
      | with_reducible exact optSafe_none | with_reducible apply safe_ite | (intro _; try dsimp only) | split
      | (with_reducible refine safe_snd ?_ (by assumption)) | (with_reducible refine safe_fst ?_ (by assumption))
      | (change SafeParts _ _ _ _ _ _ _ _; try dsimp only; with_reducible refine Safe.fold ?_)))

theorem execDramReadReturn_safe (req : Nat) (addr : Nat) (data : Nat) (badSymbols : Nat) (upset : Bool) (held :
    Option (Nat × Nat)) (s : State) (hsafe : Safe s) : OutSafe (execDramReadReturn req addr data badSymbols upset held s) := by
  unfold execDramReadReturn
  repeat' (first
      | with_reducible assumption | apply outSafe_next | with_reducible apply takeRead_safe
      | with_reducible apply when_safe | with_reducible apply bump_safe | with_reducible apply post_safe
      | with_reducible apply readWord_safe | with_reducible apply takePoisoned_safe | split | intro _)

theorem execRefresh_safe (ch : Nat) (rank : Nat) (s : State) (hsafe : Safe s) : OutSafe (execRefresh ch rank s) := by
  unfold execRefresh
  repeat' (first
      | with_reducible assumption | apply outSafe_next | with_reducible apply event_safe
      | with_reducible apply State.modDram_safe | split | intro _)

theorem execRfm_safe (ch : Nat) (bank : Nat) (s : State) (hsafe : Safe s) : OutSafe (execRfm ch bank s) := by
  unfold execRfm
  repeat' (first
      | with_reducible assumption | apply outSafe_next | with_reducible apply event_safe | with_reducible apply rfm_safe
      | split | intro _)

theorem execZqCalibration_safe (ch : Nat) (rank : Nat) (s : State) (hsafe : Safe s) :
    OutSafe (execZqCalibration ch rank s) := by
  unfold execZqCalibration
  repeat' (first
      | with_reducible assumption | apply outSafe_next | with_reducible apply event_safe
      | with_reducible apply State.modDram_safe | split | intro _)

theorem execOscillatorRead_safe (ch : Nat) (lane : Nat) (drift : Int) (s : State) (hsafe : Safe s) :
    OutSafe (execOscillatorRead ch lane drift s) := by
  unfold execOscillatorRead
  repeat' (first
      | with_reducible assumption | apply outSafe_next | with_reducible apply event_safe
      | with_reducible apply State.modDram_safe | split | intro _)

theorem execDriftRecentring_safe (ch : Nat) (lane : Nat) (eye : Nat) (s : State) (hsafe : Safe s) :
    OutSafe (execDriftRecentring ch lane eye s) := by
  unfold execDriftRecentring
  repeat' (first
      | with_reducible assumption | apply outSafe_next | with_reducible apply event_safe | with_reducible apply step_safe
      | with_reducible apply withHealth_safe | with_reducible apply State.modDram_safe | with_reducible apply when_safe
      | with_reducible apply post_safe | split | intro _)

theorem execPatrolScrub_safe (s : State) (hsafe : Safe s) : OutSafe (execPatrolScrub s) := by
  unfold execPatrolScrub; dsimp only
  repeat' (first | with_reducible assumption | apply outSafe_next  | exact Safe.fold (by assumption) | split | intro _)

theorem execBankIdleTimerExpiry_safe (ch : Nat) (bank : Nat) (s : State) (hsafe : Safe s) :
    OutSafe (execBankIdleTimerExpiry ch bank s) := by
  unfold execBankIdleTimerExpiry
  repeat' (first
      | with_reducible assumption | apply outSafe_next | with_reducible apply event_safe
      | with_reducible apply State.modDram_safe | split | intro _)

theorem execFurze_safe (ch : Nat) (req : Nat) (bank : Nat) (row : Nat) (t : Inst) (s : State) (hsafe : Safe s) :
    OutSafe (execFurze ch req bank row t s) := by
  unfold execFurze; dsimp only
  repeat' (first
      | with_reducible assumption | apply outSafe_next | with_reducible apply touch_safe | with_reducible apply event_safe
      | with_reducible apply rfm_safe | with_reducible apply State.modDram_safe | with_reducible apply withHealth_safe
      | with_reducible apply post_safe | exact Safe.fold (by assumption) | split | intro _)

theorem execFurzeWindow_safe (s : State) (hsafe : Safe s) : OutSafe (execFurzeWindow s) := by
  unfold execFurzeWindow
  try dsimp only
  iterate 60 all_goals (try (first
      | with_reducible assumption | with_reducible apply each_safe | with_reducible apply State.modDram_safe
      | with_reducible apply outSafe_next | with_reducible apply optSafe_some | with_reducible exact optSafe_none
      | with_reducible apply safe_ite | (intro _; try dsimp only) | split
      | (with_reducible refine safe_snd ?_ (by assumption)) | (with_reducible refine safe_fst ?_ (by assumption))
      | (change SafeParts _ _ _ _ _ _ _ _; try dsimp only; with_reducible refine Safe.fold ?_)))

theorem raiseAll_safe (i : Nat) (l : List (Nat × Inst)) (s : State) (hsafe : Safe s) : Safe (raiseAll i l s) := by
  unfold raiseAll
  repeat' (first
      | with_reducible assumption | with_reducible apply each_safe | with_reducible apply touch_safe
      | with_reducible apply State.modReq_safe | split | intro _)

theorem applyBank_safe (i : Nat) (s : State) (hsafe : Safe s) : Safe (applyBank i s) := by
  unfold applyBank
  repeat' (first
      | with_reducible assumption | with_reducible apply each_safe | with_reducible apply State.modReq_safe
      | with_reducible apply State.modInst_safe | split | intro _)

theorem commitRanks_safe (i : Nat) (s : State) (hsafe : Safe s) : Safe (commitRanks i s) := by
  unfold commitRanks; dsimp only
  repeat' (first
      | with_reducible assumption | with_reducible apply each_safe | with_reducible apply State.modReq_safe
      | with_reducible apply State.modInst_safe | exact Safe.fold (by assumption) | split | intro _)

theorem grantFree_safe (i : Nat) (s : State) (hsafe : Safe s) : Safe (grantFree i s) := by
  unfold grantFree
  repeat' (first | with_reducible assumption | with_reducible apply State.modInst_safe | split | intro _)

theorem execBurstBoundary_safe (inst : Nat) (x : BurstIn) (s : State) (hsafe : Safe s) :
    OutSafe (execBurstBoundary inst x s) := by
  unfold execBurstBoundary; dsimp only
  repeat' (first
      | with_reducible assumption | apply outSafe_next | with_reducible apply event_safe
      | with_reducible apply applyBank_safe | with_reducible apply raiseAll_safe | with_reducible apply issueAll_safe
      | with_reducible apply State.modInst_safe | with_reducible apply grantFree_safe | exact Safe.fold (by assumption)
      | split | intro _)

theorem execGrantRelease_safe (inst : Nat) (x : BurstIn) (s : State) (hsafe : Safe s) :
    OutSafe (execGrantRelease inst x s) := by
  unfold execGrantRelease
  repeat' (first
      | with_reducible assumption | apply outSafe_next | with_reducible apply event_safe
      | with_reducible apply issueAll_safe | with_reducible apply State.modReq_safe
      | with_reducible apply State.modInst_safe | with_reducible apply grantFree_safe
      | with_reducible apply applyBank_safe | with_reducible apply raiseAll_safe | split | intro _)

theorem execGrantWatchdog_safe (inst : Nat) (addr : Nat) (t : Inst) (s : State) (hsafe : Safe s) :
    OutSafe (execGrantWatchdog inst addr t s) := by
  unfold execGrantWatchdog
  repeat' (first
      | with_reducible assumption | apply outSafe_next | with_reducible apply touch_safe | with_reducible apply event_safe
      | with_reducible apply State.modReq_safe | with_reducible apply State.modInst_safe
      | with_reducible apply violate_safe | with_reducible apply State.modQueue_safe | with_reducible apply post_safe
      | with_reducible apply grantFree_safe | split | intro _)

theorem setShadow_safe (i : Nat) (r : Nat) (rank : Nat) (prom : Bool) (until_ : Nat) (s : State) (hsafe : Safe s) :
    Safe (setShadow i r rank prom until_ s) := by
  unfold setShadow
  repeat' (first
      | with_reducible assumption | with_reducible apply each_safe | with_reducible apply ctlWrite_safe
      | with_reducible apply State.modReq_safe | split | intro _)

theorem starveOne_safe (g : Nat) (t : Inst) (a : State × Bool) (p : Nat × Nat) (h : Safe a.1) :
    Safe (starveOne g t a p).1 := by
  unfold starveOne
  dsimp only
  repeat' (first
      | with_reducible assumption | with_reducible apply post_safe | with_reducible apply setShadow_safe | split)

theorem starvationPass_safe (g : Nat) (t : Inst) (s : State) (hsafe : Safe s) : Safe (starvationPass g t s) := by
  have h : Safe ((starvable s).foldl (starveOne g t) (s, false)).1 := foldl_safe Prod.fst _ _ (starveOne_safe g t) _ hsafe
  unfold starvationPass
  exact when_safe _ _ _ (fun _ h => ctlWrite_safe _ _ h) h

theorem reenableWriters_safe (s : State) (hsafe : Safe s) : Safe (reenableWriters s) := by
  unfold reenableWriters; dsimp only
  repeat' (first
      | with_reducible assumption | with_reducible apply each_safe | with_reducible apply post_safe
      | with_reducible apply withHealth_safe | with_reducible apply ctlWrite_safe | exact Safe.fold (by assumption)
      | split | intro _)

end Sys2Proof.Machine
end

