-- ==== Sys2Proof/Laws/SafeManage.lean ====
section
/-! SUPPORT. Every operation of management commands, reports, remote tenants, mirroring, routing and the swath boundary keeps `Safe`: one lemma
per operation, cited by the operations that call it. -/

namespace Sys2Proof.Machine

theorem hubSet_safe {α : Type} (c : Cmd) (pairs : List Pair) (new : Option α) (put : α → State → State) (s : State)
    (hp : ∀ x s, new = some x → Safe s → Safe (put x s)) (h : Safe s) : Safe (hubSet c pairs new put s).2 := by
  unfold hubSet
  refine checked_safe _ _ _ (fun s h => ?_) h
  split
  · exact refuse_safe _ _ h
  · exact hp _ _ rfl h

theorem hubSet_time_safe (c : Cmd) (pairs : List Pair) (set_ : Pair → TimeU → Option TimeU) (s : State)
    (hp : ∀ p a b, set_ p a = some b → TimeU.Keeps a b) (h : Safe s) :
    Safe (hubSet c pairs (withPairs set_ pairs s.time) (fun x s => { s with time := x }) s).2 := by
  unfold hubSet checked
  split
  · exact h
  · split
    · exact refuse_safe _ _ h
    · rename_i e
      exact h.withTime (withPairs_keeps _ _ hp _ _ e)

theorem bodyTimeSet_safe (c : Cmd) (pairs : List Pair) (s : State) (hsafe : Safe s) : Safe (bodyTimeSet c pairs s).2 :=
  hubSet_time_safe c pairs _ s setTime_keeps hsafe

theorem execTimeSet_safe (c : Cmd) (pairs : List Pair) (s : State) (hsafe : Safe s) : OutSafe (execTimeSet c pairs s) := by
  refine command_safe _ _ _ _ _ (fun s h => ?_) hsafe
  apply bodyTimeSet_safe; exact h

theorem bodyPtpSet_safe (c : Cmd) (pairs : List Pair) (s : State) (hsafe : Safe s) : Safe (bodyPtpSet c pairs s).2 := by
  unfold bodyPtpSet; dsimp only
  repeat' (first
      | with_reducible assumption | with_reducible apply hubSet_safe | with_reducible apply when_safe
      | with_reducible apply loseSource_safe | exact Safe.fold (by assumption) | split | intro _)

theorem execPtpSet_safe (c : Cmd) (pairs : List Pair) (s : State) (hsafe : Safe s) : OutSafe (execPtpSet c pairs s) := by
  refine command_safe _ _ _ _ _ (fun s h => ?_) hsafe
  apply bodyPtpSet_safe; exact h

theorem bodyPpsSet_safe (c : Cmd) (pairs : List Pair) (s : State) (hsafe : Safe s) : Safe (bodyPpsSet c pairs s).2 :=
  hubSet_time_safe c pairs _ s setPps_keeps hsafe

theorem execPpsSet_safe (c : Cmd) (pairs : List Pair) (s : State) (hsafe : Safe s) : OutSafe (execPpsSet c pairs s) := by
  refine command_safe _ _ _ _ _ (fun s h => ?_) hsafe
  apply bodyPpsSet_safe; exact h

theorem bodyTimeOfDay_safe (c : Cmd) (sec : Nat) (s : State) (hsafe : Safe s) : Safe (bodyTimeOfDay c sec s).2 := by
  unfold bodyTimeOfDay; dsimp only
  repeat' (first
      | with_reducible assumption | with_reducible apply checked_safe | exact Safe.fold (by assumption) | split | intro _)

theorem execTimeOfDay_safe (c : Cmd) (sec : Nat) (s : State) (hsafe : Safe s) : OutSafe (execTimeOfDay c sec s) := by
  refine command_safe _ _ _ _ _ (fun s h => ?_) hsafe
  apply bodyTimeOfDay_safe; exact h

theorem bodyLinkAsym_safe (c : Cmd) (ps : Int) (s : State) (hsafe : Safe s) : Safe (bodyLinkAsym c ps s).2 := by
  unfold bodyLinkAsym
  repeat' (first
      | with_reducible assumption | with_reducible apply checked_safe | with_reducible apply modXchg_safe | split | intro _)

theorem execLinkAsym_safe (c : Cmd) (ps : Int) (s : State) (hsafe : Safe s) : OutSafe (execLinkAsym c ps s) := by
  refine command_safe _ _ _ _ _ (fun s h => ?_) hsafe
  apply bodyLinkAsym_safe; exact h

theorem bodyPinLaunch_safe (c : Cmd) (pin : Nat) (level : Bool) (tt : TT) (s : State) (hsafe : Safe s) :
    Safe (bodyPinLaunch c pin level tt s).2 := by
  unfold bodyPinLaunch; dsimp only
  repeat' (first
      | with_reducible assumption | with_reducible apply checked_safe | exact Safe.fold (by assumption) | split | intro _)

theorem execPinLaunch_safe (c : Cmd) (pin : Nat) (level : Bool) (tt : TT) (s : State) (hsafe : Safe s) :
    OutSafe (execPinLaunch c pin level tt s) := by
  refine command_safe _ _ _ _ _ (fun s h => ?_) hsafe
  apply bodyPinLaunch_safe; exact h

theorem bodyRouteStatic_safe (c : Cmd) (pfx : Nat) (len : Nat) (primary : Nat) (alternate : Nat) (remove : Bool) (s :
    State) (hsafe : Safe s) : Safe (bodyRouteStatic c pfx len primary alternate remove s).2 := by
  unfold bodyRouteStatic; dsimp only
  repeat' (first
      | with_reducible assumption | with_reducible apply checked_safe | with_reducible apply refuseFull_safe
      | with_reducible apply noteUse_safe | exact Safe.fold (by assumption) | split | intro _)

theorem execRouteStatic_safe (c : Cmd) (pfx : Nat) (len : Nat) (primary : Nat) (alternate : Nat) (remove : Bool) (s :
    State) (hsafe : Safe s) : OutSafe (execRouteStatic c pfx len primary alternate remove s) := by
  refine command_safe _ _ _ _ _ (fun s h => ?_) hsafe
  apply bodyRouteStatic_safe; exact h

theorem bodyMcastSet_safe (c : Cmd) (mask : Nat) (loc : Bool) (alts : List Nat) (s : State) (hsafe : Safe s) :
    Safe (bodyMcastSet c mask loc alts s).2 := by
  unfold bodyMcastSet; dsimp only
  repeat' (first
      | with_reducible assumption | with_reducible apply checked_safe | with_reducible apply refuseFull_safe
      | with_reducible apply noteUse_safe | exact Safe.fold (by assumption) | split | intro _)

theorem execMcastSet_safe (c : Cmd) (mask : Nat) (loc : Bool) (alts : List Nat) (s : State) (hsafe : Safe s) :
    OutSafe (execMcastSet c mask loc alts s) := by
  refine command_safe _ _ _ _ _ (fun s h => ?_) hsafe
  apply bodyMcastSet_safe; exact h

theorem bodyPortWake_safe (c : Cmd) (s : State) (hsafe : Safe s) : Safe (bodyPortWake c s).2 := by
  unfold bodyPortWake
  repeat' (first
      | with_reducible assumption | with_reducible apply checked_safe | with_reducible apply wakeNeed_safe | split | intro _)

theorem execPortWake_safe (c : Cmd) (s : State) (hsafe : Safe s) : OutSafe (execPortWake c s) := by
  refine command_safe _ _ _ _ _ (fun s h => ?_) hsafe
  apply bodyPortWake_safe; exact h

theorem bodyAddrSet_safe (c : Cmd) (pairs : List Pair) (s : State) (hsafe : Safe s) : Safe (bodyAddrSet c pairs s).2 := by
  unfold bodyAddrSet; dsimp only
  repeat' (first
      | with_reducible assumption | with_reducible apply hubSet_safe | exact Safe.fold (by assumption) | split | intro _)

theorem execAddrSet_safe (c : Cmd) (pairs : List Pair) (s : State) (hsafe : Safe s) : OutSafe (execAddrSet c pairs s) := by
  refine command_safe _ _ _ _ _ (fun s h => ?_) hsafe
  apply bodyAddrSet_safe; exact h

theorem bodyCloverSet_safe (c : Cmd) (pairs : List Pair) (s : State) (hsafe : Safe s) :
    Safe (bodyCloverSet c pairs s).2 := by
  unfold bodyCloverSet
  try dsimp only
  iterate 60 all_goals (try (first
      | with_reducible assumption | with_reducible apply hubSet_safe | with_reducible apply outSafe_next
      | with_reducible apply optSafe_some | with_reducible exact optSafe_none | with_reducible apply safe_ite
      | (intro _; try dsimp only) | split | (with_reducible refine safe_snd ?_ (by assumption))
      | (with_reducible refine safe_fst ?_ (by assumption))
      | (change SafeParts _ _ _ _ _ _ _ _; try dsimp only; with_reducible refine Safe.fold ?_)))

theorem execCloverSet_safe (c : Cmd) (pairs : List Pair) (s : State) (hsafe : Safe s) :
    OutSafe (execCloverSet c pairs s) := by
  refine command_safe _ _ _ _ _ (fun s h => ?_) hsafe
  apply bodyCloverSet_safe; exact h

theorem bodyCloverSwap_safe (c : Cmd) (s : State) (hsafe : Safe s) : Safe (bodyCloverSwap c s).2 := by
  unfold bodyCloverSwap
  repeat' (first
      | with_reducible assumption | with_reducible apply checked_safe | with_reducible apply proposeSwap_safe | split
      | intro _)

theorem execCloverSwap_safe (c : Cmd) (s : State) (hsafe : Safe s) : OutSafe (execCloverSwap c s) := by
  refine command_safe _ _ _ _ _ (fun s h => ?_) hsafe
  apply bodyCloverSwap_safe; exact h

theorem bodyMemLayout_safe (c : Cmd) (pairs : List Pair) (s : State) (hsafe : Safe s) :
    Safe (bodyMemLayout c pairs s).2 := by
  unfold bodyMemLayout; dsimp only
  repeat' (first
      | with_reducible assumption | with_reducible apply checked_safe | with_reducible apply refuse_safe
      | exact Safe.fold (by assumption) | split | intro _)

theorem execMemLayout_safe (c : Cmd) (pairs : List Pair) (s : State) (hsafe : Safe s) :
    OutSafe (execMemLayout c pairs s) := by
  refine command_safe _ _ _ _ _ (fun s h => ?_) hsafe
  apply bodyMemLayout_safe; exact h

theorem bodyArbRank_safe (c : Cmd) (rank : Nat) (commit : Bool) (s : State) (hsafe : Safe s) :
    Safe (bodyArbRank c rank commit s).2 := by
  unfold bodyArbRank
  repeat' (first
      | with_reducible assumption | with_reducible apply checked_safe | with_reducible apply when_safe
      | with_reducible apply commitRanks_safe | with_reducible apply State.modReq_safe | split | intro _)

theorem execArbRank_safe (c : Cmd) (rank : Nat) (commit : Bool) (s : State) (hsafe : Safe s) :
    OutSafe (execArbRank c rank commit s) := by
  refine command_safe _ _ _ _ _ (fun s h => ?_) hsafe
  apply bodyArbRank_safe; exact h

theorem bodyArbWatchdog_safe (c : Cmd) (limit : Nat) (reenable : Bool) (s : State) (hsafe : Safe s) :
    Safe (bodyArbWatchdog c limit reenable s).2 := by
  unfold bodyArbWatchdog
  repeat' (first
      | with_reducible assumption | with_reducible apply checked_safe | with_reducible apply when_safe
      | with_reducible apply State.modInst_safe | with_reducible apply State.modReq_safe | split | intro _)

theorem execArbWatchdog_safe (c : Cmd) (limit : Nat) (reenable : Bool) (s : State) (hsafe : Safe s) :
    OutSafe (execArbWatchdog c limit reenable s) := by
  refine command_safe _ _ _ _ _ (fun s h => ?_) hsafe
  apply bodyArbWatchdog_safe; exact h

theorem bodyPolicyClass_safe (c : Cmd) (pairs : List Pair) (s : State) (hsafe : Safe s) :
    Safe (bodyPolicyClass c pairs s).2 := by
  unfold bodyPolicyClass; dsimp only
  repeat' (first
      | with_reducible assumption | with_reducible apply hubSet_safe | exact Safe.fold (by assumption) | split | intro _)

theorem execPolicyClass_safe (c : Cmd) (pairs : List Pair) (s : State) (hsafe : Safe s) :
    OutSafe (execPolicyClass c pairs s) := by
  refine command_safe _ _ _ _ _ (fun s h => ?_) hsafe
  apply bodyPolicyClass_safe; exact h

theorem bodyTenantCap_safe (c : Cmd) (cap : Nat) (s : State) (hsafe : Safe s) : Safe (bodyTenantCap c cap s).2 := by
  unfold bodyTenantCap
  repeat' (first
      | with_reducible assumption | with_reducible apply checked_safe | with_reducible apply State.modTenant_safe | split
      | intro _)

theorem execTenantCap_safe (c : Cmd) (cap : Nat) (s : State) (hsafe : Safe s) : OutSafe (execTenantCap c cap s) := by
  refine command_safe _ _ _ _ _ (fun s h => ?_) hsafe
  apply bodyTenantCap_safe; exact h

theorem bodyFurzeSet_safe (c : Cmd) (threshold : Nat) (interval : Nat) (s : State) (hsafe : Safe s) :
    Safe (bodyFurzeSet c threshold interval s).2 := by
  unfold bodyFurzeSet; dsimp only
  repeat' (first
      | with_reducible assumption | with_reducible apply checked_safe | exact Safe.fold (by assumption) | split | intro _)

theorem execFurzeSet_safe (c : Cmd) (threshold : Nat) (interval : Nat) (s : State) (hsafe : Safe s) :
    OutSafe (execFurzeSet c threshold interval s) := by
  refine command_safe _ _ _ _ _ (fun s h => ?_) hsafe
  apply bodyFurzeSet_safe; exact h

theorem bodySensorSet_safe (c : Cmd) (pairs : List Pair) (s : State) (hsafe : Safe s) :
    Safe (bodySensorSet c pairs s).2 := by
  unfold bodySensorSet; dsimp only
  repeat' (first
      | with_reducible assumption | with_reducible apply checked_safe | exact Safe.fold (by assumption) | split | intro _)

theorem execSensorSet_safe (c : Cmd) (pairs : List Pair) (s : State) (hsafe : Safe s) :
    OutSafe (execSensorSet c pairs s) := by
  refine command_safe _ _ _ _ _ (fun s h => ?_) hsafe
  apply bodySensorSet_safe; exact h

theorem putInactive_safe (x : Slot) (s : State) (hsafe : Safe s) : Safe (putInactive x s) := by
  unfold putInactive; dsimp only
  repeat' (first | with_reducible assumption  | exact Safe.fold (by assumption) | split | intro _)

theorem bodyUpdateBegin_safe (c : Cmd) (bytes : Nat) (s : State) (hsafe : Safe s) : Safe (bodyUpdateBegin c bytes s).2 := by
  unfold bodyUpdateBegin
  try dsimp only
  iterate 60 all_goals (try (first
      | with_reducible assumption | with_reducible apply checked_safe | with_reducible apply putInactive_safe
      | with_reducible apply outSafe_next | with_reducible apply optSafe_some | with_reducible exact optSafe_none
      | with_reducible apply safe_ite | (intro _; try dsimp only) | split
      | (with_reducible refine safe_snd ?_ (by assumption)) | (with_reducible refine safe_fst ?_ (by assumption))
      | (change SafeParts _ _ _ _ _ _ _ _; try dsimp only; with_reducible refine Safe.fold ?_)))

theorem execUpdateBegin_safe (c : Cmd) (bytes : Nat) (s : State) (hsafe : Safe s) : OutSafe (execUpdateBegin c bytes s) := by
  refine command_safe _ _ _ _ _ (fun s h => ?_) hsafe
  apply bodyUpdateBegin_safe; exact h

theorem bodyUpdateChunk_safe (c : Cmd) (offset : Nat) (len : Nat) (s : State) (hsafe : Safe s) :
    Safe (bodyUpdateChunk c offset len s).2 := by
  unfold bodyUpdateChunk; dsimp only
  repeat' (first
      | with_reducible assumption | with_reducible apply checked_safe | exact Safe.fold (by assumption) | split | intro _)

theorem execUpdateChunk_safe (c : Cmd) (offset : Nat) (len : Nat) (s : State) (hsafe : Safe s) :
    OutSafe (execUpdateChunk c offset len s) := by
  refine command_safe _ _ _ _ _ (fun s h => ?_) hsafe
  apply bodyUpdateChunk_safe; exact h

theorem bodyUpdateCommit_safe (c : Cmd) (live : Bool) (s : State) (hsafe : Safe s) : Safe (bodyUpdateCommit c live s).2 := by
  unfold bodyUpdateCommit; dsimp only
  repeat' (first
      | with_reducible assumption | with_reducible apply checked_safe | exact Safe.fold (by assumption) | split | intro _)

theorem endUpdate_safe (c : Cmd) (live : Bool) (v : ImageInfo) (s : State) (hsafe : Safe s) :
    Safe (endUpdate c live v s) := by
  unfold endUpdate; dsimp only
  repeat' (first
      | with_reducible assumption | with_reducible apply finishLater_safe | with_reducible apply putInactive_safe
      | with_reducible apply when_safe | with_reducible apply State.modClover_safe | exact Safe.fold (by assumption)
      | split | intro _)

theorem execUpdateCommit_safe (c : Cmd) (live : Bool) (v : ImageInfo) (s : State) (hsafe : Safe s) :
    OutSafe (execUpdateCommit c live v s) := by
  have h := command_safe 0x0B06 (.updateCommit c live v) c (fun s => bodyUpdateCommit c live s) s
    (fun s h => bodyUpdateCommit_safe c live s h) hsafe
  unfold execUpdateCommit
  split
  · rename_i t e
    exact outSafe_next (safe_ite (fun _ => h.safe t e) (fun _ => endUpdate_safe _ _ _ _ (h.safe t e)))
  · exact h

theorem bodyI2cXfer_safe (c : Cmd) (addr : Nat) (wr : Nat) (rd : Nat) (nakAt : Option Nat) (data : List Byte) (s :
    State) (hsafe : Safe s) : Safe (bodyI2cXfer c addr wr rd nakAt data s).2 := by
  unfold bodyI2cXfer
  repeat' (first
      | with_reducible assumption | with_reducible apply checked_safe | with_reducible apply bump_safe | split | intro _)

theorem execI2cXfer_safe (c : Cmd) (addr : Nat) (wr : Nat) (rd : Nat) (nakAt : Option Nat) (data : List Byte) (s :
    State) (hsafe : Safe s) : OutSafe (execI2cXfer c addr wr rd nakAt data s) := by
  refine command_safe _ _ _ _ _ (fun s h => ?_) hsafe
  apply bodyI2cXfer_safe; exact h

theorem portToIdle_safe (p : Nat) (s : State) (hsafe : Safe s) : Safe (portToIdle p s) := by
  unfold portToIdle
  repeat' (first
      | with_reducible assumption | with_reducible apply when_safe | with_reducible apply failPort_safe
      | with_reducible apply State.modPort_safe | split | intro _)

theorem bodyLoopSet_safe (c : Cmd) (kind : Nat) (s : State) (hsafe : Safe s) : Safe (bodyLoopSet c kind s).2 := by
  unfold bodyLoopSet
  repeat' (first
      | with_reducible assumption | with_reducible apply checked_safe | with_reducible apply portToIdle_safe
      | with_reducible apply State.modPort_safe | split | intro _)

theorem execLoopSet_safe (c : Cmd) (kind : Nat) (s : State) (hsafe : Safe s) : OutSafe (execLoopSet c kind s) := by
  refine command_safe _ _ _ _ _ (fun s h => ?_) hsafe
  apply bodyLoopSet_safe; exact h

theorem bodyPrbsSet_safe (c : Cmd) (poly : Nat) (gen : Bool) (chk : Bool) (s : State) (hsafe : Safe s) :
    Safe (bodyPrbsSet c poly gen chk s).2 := by
  unfold bodyPrbsSet
  repeat' (first
      | with_reducible assumption | with_reducible apply checked_safe | with_reducible apply when_safe
      | with_reducible apply each_safe | with_reducible apply portToIdle_safe | with_reducible apply State.modLane_safe
      | split | intro _)

theorem execPrbsSet_safe (c : Cmd) (poly : Nat) (gen : Bool) (chk : Bool) (s : State) (hsafe : Safe s) :
    OutSafe (execPrbsSet c poly gen chk s) := by
  refine command_safe _ _ _ _ _ (fun s h => ?_) hsafe
  apply bodyPrbsSet_safe; exact h

theorem bodyCounterRead_safe (c : Cmd) (field : Nat) (s : State) (hsafe : Safe s) : Safe (bodyCounterRead c field s).2 := by
  unfold bodyCounterRead
  repeat' (first
      | with_reducible assumption | with_reducible apply checked_safe | with_reducible apply done_safe | split | intro _)

theorem execCounterRead_safe (c : Cmd) (field : Nat) (s : State) (hsafe : Safe s) : OutSafe (execCounterRead c field s) := by
  refine command_safe _ _ _ _ _ (fun s h => ?_) hsafe
  apply bodyCounterRead_safe; exact h

theorem bodyCounterWrite_safe (c : Cmd) (field : Nat) (value : Nat) (s : State) (hsafe : Safe s) :
    Safe (bodyCounterWrite c field value s).2 := by
  unfold bodyCounterWrite; dsimp only
  repeat' (first
      | with_reducible assumption | with_reducible apply checked_safe | exact Safe.fold (by assumption) | split | intro _)

theorem execCounterWrite_safe (c : Cmd) (field : Nat) (value : Nat) (s : State) (hsafe : Safe s) :
    OutSafe (execCounterWrite c field value s) := by
  refine command_safe _ _ _ _ _ (fun s h => ?_) hsafe
  apply bodyCounterWrite_safe; exact h

theorem rotate_safe (on : Bool) (m : Nat) (s : State) (hsafe : Safe s) : Safe (rotate on m s) := by
  unfold rotate
  repeat' (first
      | with_reducible assumption | with_reducible apply when_safe | with_reducible apply State.modModu_safe | split
      | intro _)

theorem bodyDemSet_safe (c : Cmd) (on : Bool) (s : State) (hsafe : Safe s) : Safe (bodyDemSet c on s).2 := by
  unfold bodyDemSet
  repeat' (first
      | with_reducible assumption | with_reducible apply checked_safe | with_reducible apply done_safe
      | with_reducible apply each_safe | with_reducible apply rotate_safe | split | intro _)

theorem execDemSet_safe (c : Cmd) (on : Bool) (s : State) (hsafe : Safe s) : OutSafe (execDemSet c on s) := by
  refine command_safe _ _ _ _ _ (fun s h => ?_) hsafe
  apply bodyDemSet_safe; exact h

theorem bodyMemTest_safe (c : Cmd) (ch : Nat) (mib : Nat) (errors : Nat) (s : State) (hsafe : Safe s) :
    Safe (bodyMemTest c ch mib errors s).2 := by
  unfold bodyMemTest
  repeat' (first
      | with_reducible assumption | with_reducible apply checked_safe | with_reducible apply done_safe | split | intro _)

theorem execMemTest_safe (c : Cmd) (ch : Nat) (mib : Nat) (errors : Nat) (s : State) (hsafe : Safe s) :
    OutSafe (execMemTest c ch mib errors s) := by
  refine command_safe _ _ _ _ _ (fun s h => ?_) hsafe
  apply bodyMemTest_safe; exact h

theorem bodyIdentify_safe (c : Cmd) (s : State) (hsafe : Safe s) : Safe (bodyIdentify c s).2 := by
  unfold bodyIdentify
  repeat' (first
      | with_reducible assumption | with_reducible apply checked_safe | with_reducible apply done_safe | split | intro _)

theorem execIdentify_safe (c : Cmd) (s : State) (hsafe : Safe s) : OutSafe (execIdentify c s) := by
  refine command_safe _ _ _ _ _ (fun s h => ?_) hsafe
  apply bodyIdentify_safe; exact h

theorem bodyGetLimits_safe (c : Cmd) (s : State) (hsafe : Safe s) : Safe (bodyGetLimits c s).2 := by
  unfold bodyGetLimits
  repeat' (first
      | with_reducible assumption | with_reducible apply checked_safe | with_reducible apply report_safe | split | intro _)

theorem execGetLimits_safe (c : Cmd) (s : State) (hsafe : Safe s) : OutSafe (execGetLimits c s) := by
  refine command_safe _ _ _ _ _ (fun s h => ?_) hsafe
  apply bodyGetLimits_safe; exact h

theorem bodyHealthGet_safe (c : Cmd) (s : State) (hsafe : Safe s) : Safe (bodyHealthGet c s).2 := by
  unfold bodyHealthGet
  repeat' (first
      | with_reducible assumption | with_reducible apply checked_safe | with_reducible apply report_safe | split | intro _)

theorem execHealthGet_safe (c : Cmd) (s : State) (hsafe : Safe s) : OutSafe (execHealthGet c s) := by
  refine command_safe _ _ _ _ _ (fun s h => ?_) hsafe
  apply bodyHealthGet_safe; exact h

theorem bodyChannelStatus_safe (c : Cmd) (s : State) (hsafe : Safe s) : Safe (bodyChannelStatus c s).2 := by
  unfold bodyChannelStatus
  repeat' (first
      | with_reducible assumption | with_reducible apply checked_safe | with_reducible apply remap_safe
      | with_reducible apply report_safe | split | intro _)

theorem execChannelStatus_safe (c : Cmd) (s : State) (hsafe : Safe s) : OutSafe (execChannelStatus c s) := by
  refine command_safe _ _ _ _ _ (fun s h => ?_) hsafe
  apply bodyChannelStatus_safe; exact h

theorem bodyExcStatus_safe (c : Cmd) (s : State) (hsafe : Safe s) : Safe (bodyExcStatus c s).2 := by
  unfold bodyExcStatus
  repeat' (first
      | with_reducible assumption | with_reducible apply checked_safe | with_reducible apply done_safe | split | intro _)

theorem execExcStatus_safe (c : Cmd) (s : State) (hsafe : Safe s) : OutSafe (execExcStatus c s) := by
  refine command_safe _ _ _ _ _ (fun s h => ?_) hsafe
  apply bodyExcStatus_safe; exact h

theorem bodyCalReport_safe (c : Cmd) (sel : Nat) (s : State) (hsafe : Safe s) : Safe (bodyCalReport c sel s).2 := by
  unfold bodyCalReport
  repeat' (first
      | with_reducible assumption | with_reducible apply checked_safe | with_reducible apply done_safe | split | intro _)

theorem execCalReport_safe (c : Cmd) (sel : Nat) (s : State) (hsafe : Safe s) : OutSafe (execCalReport c sel s) := by
  refine command_safe _ _ _ _ _ (fun s h => ?_) hsafe
  apply bodyCalReport_safe; exact h

theorem bodyChainReport_safe (c : Cmd) (s : State) (hsafe : Safe s) : Safe (bodyChainReport c s).2 := by
  unfold bodyChainReport
  repeat' (first
      | with_reducible assumption | with_reducible apply checked_safe | with_reducible apply report_safe | split | intro _)

theorem execChainReport_safe (c : Cmd) (s : State) (hsafe : Safe s) : OutSafe (execChainReport c s) := by
  refine command_safe _ _ _ _ _ (fun s h => ?_) hsafe
  apply bodyChainReport_safe; exact h

theorem bodyTachStatus_safe (c : Cmd) (s : State) (hsafe : Safe s) : Safe (bodyTachStatus c s).2 := by
  unfold bodyTachStatus
  repeat' (first
      | with_reducible assumption | with_reducible apply checked_safe | with_reducible apply done_safe | split | intro _)

theorem execTachStatus_safe (c : Cmd) (s : State) (hsafe : Safe s) : OutSafe (execTachStatus c s) := by
  refine command_safe _ _ _ _ _ (fun s h => ?_) hsafe
  apply bodyTachStatus_safe; exact h

theorem bodyShaftStatus_safe (c : Cmd) (s : State) (hsafe : Safe s) : Safe (bodyShaftStatus c s).2 := by
  unfold bodyShaftStatus
  repeat' (first
      | with_reducible assumption | with_reducible apply checked_safe | with_reducible apply done_safe | split | intro _)

theorem execShaftStatus_safe (c : Cmd) (s : State) (hsafe : Safe s) : OutSafe (execShaftStatus c s) := by
  refine command_safe _ _ _ _ _ (fun s h => ?_) hsafe
  apply bodyShaftStatus_safe; exact h

theorem bodyTriggerStatus_safe (c : Cmd) (s : State) (hsafe : Safe s) : Safe (bodyTriggerStatus c s).2 := by
  unfold bodyTriggerStatus
  repeat' (first
      | with_reducible assumption | with_reducible apply checked_safe | with_reducible apply report_safe | split | intro _)

theorem execTriggerStatus_safe (c : Cmd) (s : State) (hsafe : Safe s) : OutSafe (execTriggerStatus c s) := by
  refine command_safe _ _ _ _ _ (fun s h => ?_) hsafe
  apply bodyTriggerStatus_safe; exact h

theorem bodyRefusalRead_safe (c : Cmd) (s : State) (hsafe : Safe s) : Safe (bodyRefusalRead c s).2 := by
  unfold bodyRefusalRead
  repeat' (first
      | with_reducible assumption | with_reducible apply checked_safe | with_reducible apply report_safe | split | intro _)

theorem execRefusalRead_safe (c : Cmd) (s : State) (hsafe : Safe s) : OutSafe (execRefusalRead c s) := by
  refine command_safe _ _ _ _ _ (fun s h => ?_) hsafe
  apply bodyRefusalRead_safe; exact h

theorem bodyStreamStatus_safe (c : Cmd) (sel : Nat) (s : State) (hsafe : Safe s) : Safe (bodyStreamStatus c sel s).2 := by
  unfold bodyStreamStatus
  repeat' (first
      | with_reducible assumption | with_reducible apply onSub_safe | with_reducible apply done_safe
      | with_reducible apply refuse_safe | split | intro _)

theorem execStreamStatus_safe (c : Cmd) (sel : Nat) (s : State) (hsafe : Safe s) : OutSafe (execStreamStatus c sel s) := by
  refine command_safe _ _ _ _ _ (fun s h => ?_) hsafe
  apply bodyStreamStatus_safe; exact h

theorem bodyStreamList_safe (c : Cmd) (s : State) (hsafe : Safe s) : Safe (bodyStreamList c s).2 := by
  unfold bodyStreamList
  repeat' (first
      | with_reducible assumption | with_reducible apply checked_safe | with_reducible apply report_safe | split | intro _)

theorem execStreamList_safe (c : Cmd) (s : State) (hsafe : Safe s) : OutSafe (execStreamList c s) := by
  refine command_safe _ _ _ _ _ (fun s h => ?_) hsafe
  apply bodyStreamList_safe; exact h

theorem bodyTimeStatus_safe (c : Cmd) (s : State) (hsafe : Safe s) : Safe (bodyTimeStatus c s).2 := by
  unfold bodyTimeStatus
  repeat' (first
      | with_reducible assumption | with_reducible apply checked_safe | with_reducible apply report_safe | split | intro _)

theorem execTimeStatus_safe (c : Cmd) (s : State) (hsafe : Safe s) : OutSafe (execTimeStatus c s) := by
  refine command_safe _ _ _ _ _ (fun s h => ?_) hsafe
  apply bodyTimeStatus_safe; exact h

theorem bodyPortStatus_safe (c : Cmd) (s : State) (hsafe : Safe s) : Safe (bodyPortStatus c s).2 := by
  unfold bodyPortStatus
  repeat' (first
      | with_reducible assumption | with_reducible apply checked_safe | with_reducible apply report_safe | split | intro _)

theorem execPortStatus_safe (c : Cmd) (s : State) (hsafe : Safe s) : OutSafe (execPortStatus c s) := by
  refine command_safe _ _ _ _ _ (fun s h => ?_) hsafe
  apply bodyPortStatus_safe; exact h

theorem bodyRouteRead_safe (c : Cmd) (s : State) (hsafe : Safe s) : Safe (bodyRouteRead c s).2 := by
  unfold bodyRouteRead
  repeat' (first
      | with_reducible assumption | with_reducible apply checked_safe | with_reducible apply report_safe | split | intro _)

theorem execRouteRead_safe (c : Cmd) (s : State) (hsafe : Safe s) : OutSafe (execRouteRead c s) := by
  refine command_safe _ _ _ _ _ (fun s h => ?_) hsafe
  apply bodyRouteRead_safe; exact h

theorem bodyCloverStatus_safe (c : Cmd) (s : State) (hsafe : Safe s) : Safe (bodyCloverStatus c s).2 := by
  unfold bodyCloverStatus
  repeat' (first
      | with_reducible assumption | with_reducible apply checked_safe | with_reducible apply done_safe | split | intro _)

theorem execCloverStatus_safe (c : Cmd) (s : State) (hsafe : Safe s) : OutSafe (execCloverStatus c s) := by
  refine command_safe _ _ _ _ _ (fun s h => ?_) hsafe
  apply bodyCloverStatus_safe; exact h

theorem bodyMemStatus_safe (c : Cmd) (s : State) (hsafe : Safe s) : Safe (bodyMemStatus c s).2 := by
  unfold bodyMemStatus; dsimp only
  repeat' (first
      | with_reducible assumption | with_reducible apply checked_safe | with_reducible apply report_safe
      | exact Safe.fold (by assumption) | split | intro _)

theorem execMemStatus_safe (c : Cmd) (s : State) (hsafe : Safe s) : OutSafe (execMemStatus c s) := by
  refine command_safe _ _ _ _ _ (fun s h => ?_) hsafe
  apply bodyMemStatus_safe; exact h

theorem bodySensorRead_safe (c : Cmd) (s : State) (hsafe : Safe s) : Safe (bodySensorRead c s).2 := by
  unfold bodySensorRead
  repeat' (first
      | with_reducible assumption | with_reducible apply checked_safe | with_reducible apply done_safe | split | intro _)

theorem execSensorRead_safe (c : Cmd) (s : State) (hsafe : Safe s) : OutSafe (execSensorRead c s) := by
  refine command_safe _ _ _ _ _ (fun s h => ?_) hsafe
  apply bodySensorRead_safe; exact h

theorem bodyLogRead_safe (c : Cmd) (first : Nat) (s : State) (hsafe : Safe s) : Safe (bodyLogRead c first s).2 := by
  unfold bodyLogRead
  repeat' (first | with_reducible assumption | with_reducible apply checked_safe | split | intro _)

theorem execLogRead_safe (c : Cmd) (first : Nat) (s : State) (hsafe : Safe s) : OutSafe (execLogRead c first s) := by
  refine command_safe _ _ _ _ _ (fun s h => ?_) hsafe
  apply bodyLogRead_safe; exact h

theorem bodyJournalQuery_safe (c : Cmd) (kind : Nat) (id : Nat) (tag : BitVec 32) (s : State) (hsafe : Safe s) :
    Safe (bodyJournalQuery c kind id tag s).2 := by
  unfold bodyJournalQuery
  repeat' (first
      | with_reducible assumption | with_reducible apply checked_safe | with_reducible apply refuse_safe
      | with_reducible apply done_safe | split | intro _)

theorem execJournalQuery_safe (c : Cmd) (kind : Nat) (id : Nat) (tag : BitVec 32) (s : State) (hsafe : Safe s) :
    OutSafe (execJournalQuery c kind id tag s) := by
  refine command_safe _ _ _ _ _ (fun s h => ?_) hsafe
  apply bodyJournalQuery_safe; exact h

theorem bodyPrbsStatus_safe (c : Cmd) (s : State) (hsafe : Safe s) : Safe (bodyPrbsStatus c s).2 := by
  unfold bodyPrbsStatus; dsimp only
  repeat' (first
      | with_reducible assumption | with_reducible apply checked_safe | with_reducible apply drawn_safe
      | with_reducible apply done_safe | exact Safe.fold (by assumption) | split | intro _)

theorem execPrbsStatus_safe (c : Cmd) (s : State) (hsafe : Safe s) : OutSafe (execPrbsStatus c s) := by
  refine command_safe _ _ _ _ _ (fun s h => ?_) hsafe
  apply bodyPrbsStatus_safe; exact h

theorem bodyFifoStatus_safe (c : Cmd) (s : State) (hsafe : Safe s) : Safe (bodyFifoStatus c s).2 := by
  unfold bodyFifoStatus
  repeat' (first
      | with_reducible assumption | with_reducible apply checked_safe | with_reducible apply report_safe | split | intro _)

theorem execFifoStatus_safe (c : Cmd) (s : State) (hsafe : Safe s) : OutSafe (execFifoStatus c s) := by
  refine command_safe _ _ _ _ _ (fun s h => ?_) hsafe
  apply bodyFifoStatus_safe; exact h

theorem sendRemote_safe (t : Nat) (s : State) (hsafe : Safe s) : Safe (sendRemote t s) := by
  unfold sendRemote
  repeat' (first
      | with_reducible assumption | with_reducible apply each_safe | with_reducible apply sendTo_safe
      | with_reducible apply State.modTenant_safe | split | intro _)

theorem sendRemotes_safe (s : State) (hsafe : Safe s) : Safe (sendRemotes s) := by
  unfold sendRemotes
  repeat' (first
      | with_reducible assumption | with_reducible apply each_safe | with_reducible apply sendRemote_safe | split | intro _)

theorem acceptRemote_safe (t epoch fseq ack : Nat) (body : State → State) (s : State)
    (hb : ∀ s, Safe s → Safe (body s)) (h : Safe s) : Safe (acceptRemote t epoch fseq ack body s) := by
  unfold acceptRemote; dsimp only; split
  · exact sendRemote_safe _ _ (hb _ (State.modTenant_safe _ _ _ h))
  · exact h

theorem execOpenMsg_safe (hub : Nat) (uid : Nat) (s : State) (hsafe : Safe s) : OutSafe (execOpenMsg hub uid s) := by
  unfold execOpenMsg; dsimp only
  repeat' (first
      | with_reducible assumption | apply outSafe_next | with_reducible apply post_safe
      | with_reducible apply sendMsg_safe | with_reducible apply State.modTenant_safe | with_reducible apply noteUse_safe
      | with_reducible apply sendRemote_safe | with_reducible apply writeReplays_safe | exact Safe.fold (by assumption)
      | split | intro _)

theorem execOpenReply_safe (hub : Nat) (tenant : Nat) (epoch : Nat) (st : Status) (s : State) (hsafe : Safe s) :
    OutSafe (execOpenReply hub tenant epoch st s) := by
  unfold execOpenReply; dsimp only
  repeat' (first
      | with_reducible assumption | apply outSafe_next | with_reducible apply done_safe | exact Safe.fold (by assumption)
      | split | intro _)

theorem execCommandsMsg_safe (tenant : Nat) (epoch : Nat) (fseq : Nat) (ack : Nat) (cmds : List Fetch) (s : State) (hsafe :
    Safe s) : OutSafe (execCommandsMsg tenant epoch fseq ack cmds s) := by
  unfold execCommandsMsg
  repeat' (first
      | with_reducible assumption | apply outSafe_next | with_reducible apply acceptRemote_safe
      | with_reducible apply each_safe | with_reducible apply fetchOne_safe | split | intro _)

theorem execCreditsMsg_safe (tenant : Nat) (epoch : Nat) (fseq : Nat) (ack : Nat) (queue : Nat) (credits :
    List CreditEntry) (s : State) (hsafe : Safe s) : OutSafe (execCreditsMsg tenant epoch fseq ack queue credits s) := by
  unfold execCreditsMsg; dsimp only
  repeat' (first
      | with_reducible assumption | apply outSafe_next | with_reducible apply acceptRemote_safe
      | with_reducible apply postCredits_safe | exact Safe.fold (by assumption) | split | intro _)

theorem takeAway_safe (hub : Nat) (tenant : Nat) (epoch : Nat) (fseq : Nat) (ack : Nat) (f : Away → Away) (s :
    State) (hsafe : Safe s) : Safe (takeAway hub tenant epoch fseq ack f s) := hsafe

theorem execCompletionsMsg_safe (hub : Nat) (tenant : Nat) (epoch : Nat) (fseq : Nat) (ack : Nat) (tags :
    List (BitVec 32)) (s : State) (hsafe : Safe s) : OutSafe (execCompletionsMsg hub tenant epoch fseq ack tags s) := by
  unfold execCompletionsMsg
  repeat' (first | with_reducible assumption | apply outSafe_next | with_reducible apply takeAway_safe | split | intro _)

theorem execDmaCompletionsMsg_safe (hub : Nat) (tenant : Nat) (epoch : Nat) (fseq : Nat) (ack : Nat) (tags :
    List (BitVec 32)) (s : State) (hsafe : Safe s) : OutSafe (execDmaCompletionsMsg hub tenant epoch fseq ack tags s) := by
  unfold execDmaCompletionsMsg
  repeat' (first | with_reducible assumption | apply outSafe_next | with_reducible apply takeAway_safe | split | intro _)

theorem execCloseMsg_safe (tenant : Nat) (epoch : Nat) (fseq : Nat) (ack : Nat) (s : State) (hsafe : Safe s) :
    OutSafe (execCloseMsg tenant epoch fseq ack s) := by
  unfold execCloseMsg
  repeat' (first
      | with_reducible assumption | apply outSafe_next | with_reducible apply acceptRemote_safe
      | with_reducible apply endTenant_safe | split | intro _)

theorem execKeepalive_safe (tenant : Nat) (got : Option (Nat × Nat × Nat)) (s : State) (hsafe : Safe s) :
    OutSafe (execKeepalive tenant got s) := by
  unfold execKeepalive
  refine outSafe_next ?_
  split
  · exact acceptRemote_safe _ _ _ _ _ _ (fun _ h => h) hsafe
  · exact safe_ite (fun _ => sendRemote_safe _ _ hsafe) (fun _ => hsafe)

theorem execRemoteResendTimer_safe (tenant : Nat) (s : State) (hsafe : Safe s) :
    OutSafe (execRemoteResendTimer tenant s) := by
  unfold execRemoteResendTimer
  repeat' (first
      | with_reducible assumption | apply outSafe_next | with_reducible apply sendRemote_safe
      | with_reducible apply State.modTenant_safe | split | intro _)

theorem execRemoteSessionTimeout_safe (tenant : Nat) (s : State) (hsafe : Safe s) :
    OutSafe (execRemoteSessionTimeout tenant s) := by
  unfold execRemoteSessionTimeout
  repeat' (first
      | with_reducible assumption | apply outSafe_next | with_reducible apply endTenant_safe
      | with_reducible apply cutTenant_safe | split | intro _)

theorem silence_safe (banked : Nat) (jobs : Nat) (s : State) (hsafe : Safe s) : Safe (silence banked jobs s) := hsafe

/-- Every body that `mirrorBody` names keeps `Safe`. -/
theorem mirrorBody_safe (i : Instr) (op : Nat) (c : Cmd) (body : State → Reply × State) (e :
    mirrorBody i = some (op, c, body))
    (s : State) (hsafe : Safe s) : Safe (body s).2 := by
  cases i <;> first | (cases e; done) | (cases e; first | (with_reducible apply bodyStageDiscard_safe; assumption) | (with_reducible apply bodyCommitAtSwath_safe; assumption) | (with_reducible apply bodyChannelSet_safe; assumption) | (with_reducible apply bodyExcSet_safe; assumption) | (with_reducible apply bodyCalSet_safe; assumption) | (with_reducible apply bodyChainSet_safe; assumption) | (with_reducible apply bodyChainTaps_safe; assumption) | (with_reducible apply bodyTachSet_safe; assumption) | (with_reducible apply bodyShaftSet_safe; assumption) | (with_reducible apply bodyShaftReturn_safe; assumption) | (with_reducible apply bodyStatsSet_safe; assumption) | (with_reducible apply bodyTriggerSet_safe; assumption) | (with_reducible apply bodyDescCreate_safe; assumption) | (with_reducible apply bodyDescSet_safe; assumption) | (with_reducible apply bodyDescFree_safe; assumption) | (with_reducible apply bodyTussockJump_safe; assumption) | (with_reducible apply bodyAdmissionSet_safe; assumption) | (with_reducible apply bodySubscribe_safe; assumption) | (with_reducible apply bodyUnsubscribe_safe; assumption) | (with_reducible apply bodyAck_safe; assumption) | (with_reducible apply bodyResend_safe; assumption) | (with_reducible apply bodyAttach_safe; assumption) | (with_reducible apply bodyRingSet_safe; assumption) | (with_reducible apply bodyLinkAsym_safe; assumption) | (with_reducible apply bodyPinLaunch_safe; assumption) | (with_reducible apply bodyPortSet_safe; assumption) | (with_reducible apply bodyRouteStatic_safe; assumption) | (with_reducible apply bodyMcastSet_safe; assumption) | (with_reducible apply bodyAddrSet_safe; assumption) | (with_reducible apply bodyCloverSet_safe; assumption) | (with_reducible apply bodyCloverSwap_safe; assumption) | (with_reducible apply bodyMemLayout_safe; assumption) | (with_reducible apply bodyPolicyClass_safe; assumption) | (with_reducible apply bodyTenantCap_safe; assumption))

theorem asCopy_safe (i : Instr) (s : State) (hsafe : Safe s) : Safe (asCopy i s).2 := by
  unfold asCopy
  split
  · exact hsafe
  · refine safe_snd_ite (fun _ => safe_snd_ite (fun _ => ?_) (fun _ => hsafe)) (fun _ => ?_)
    · exact withMarks_safe _ _ _ _ (fun _ h => bodyCommitAtSwath_safe _ _ _ _ _ h) hsafe
    · exact withMarks_safe _ _ _ _ (fun _ h => bodyCommitAtSwath_safe _ _ _ _ _ h) hsafe
  · split
    · rename_i e
      exact withMarks_safe _ _ _ _ (fun _ h => mirrorBody_safe _ _ _ _ e _ h) hsafe
    · exact refuse_safe _ _ hsafe

theorem fromPartner_safe (i : Instr) (s : State) (hsafe : Safe s) : Safe (fromPartner i s) := by
  unfold fromPartner
  repeat' (first
      | with_reducible assumption | with_reducible apply asCopy_safe | with_reducible apply sendMsg_safe
      | with_reducible apply silence_safe | split | intro _)

theorem fromHere_safe (i : Instr) (st : Status) (s : State) (hsafe : Safe s) : Safe (fromHere i st s) := by
  unfold fromHere
  refine safe_ite (fun _ => hsafe) (fun _ => ?_)
  dsimp only
  have h1 := State.modClover_safe s (fun c : Clover => { c with mirrors := c.mirrors.erase i }) hsafe
  split
  · exact h1
  · rename_i e
    refine safe_ite (fun _ => answer_safe _ _ _ _ _ h1) (fun _ => ?_)
    exact answer_safe _ _ _ _ _ (withMarks_safe _ _ _ _ (fun _ h => mirrorBody_safe _ _ _ _ e _ h) h1)

theorem execCommand_safe (i : Instr) (reply : Option Status) (now : Inst) (s : State) (hsafe : Safe s) :
    OutSafe (execCommand i reply now s) := by
  unfold execCommand
  repeat' (first
      | with_reducible assumption | apply outSafe_next | with_reducible apply touch_safe
      | with_reducible apply fromPartner_safe | with_reducible apply fromHere_safe | split | intro _)

theorem execPartnerLoss_safe (t : Inst) (s : State) (hsafe : Safe s) : OutSafe (execPartnerLoss t s) := by
  unfold execPartnerLoss; dsimp only
  repeat' (first
      | with_reducible assumption | apply outSafe_next | with_reducible apply touch_safe
      | with_reducible apply State.modClover_safe | with_reducible apply losePartner_safe
      | exact Safe.fold (by assumption) | split | intro _)

theorem execLiveUpdateReset_safe (s : State) (hsafe : Safe s) : OutSafe (execLiveUpdateReset s) := by
  unfold execLiveUpdateReset
  repeat' (first | with_reducible assumption | apply outSafe_next | with_reducible apply heldReset_safe | split | intro _)

theorem routeTask_safe (s : State) (hsafe : Safe s) : Safe (routeTask s) := by
  unfold routeTask; dsimp only
  repeat' (first
      | with_reducible assumption | with_reducible apply ctlWrite_safe | with_reducible apply when_safe
      | with_reducible apply post_safe | exact Safe.fold (by assumption) | split | intro _)

theorem stopMod_safe (m : Nat) (g : Nat) (s : State) (hsafe : Safe s) : Safe (stopMod m g s) := hsafe

theorem enterService_safe (m : Nat) (g : Nat) (trim : Option (Nat × Int)) (s : State) (hsafe : Safe s) :
    Safe (enterService m g trim s) := by
  unfold enterService
  repeat' (first
      | with_reducible assumption | with_reducible apply State.modModu_safe | with_reducible apply applyTrims_safe | split
      | intro _)

theorem copyChains_safe (m : Nat) (ch : Nat) (g : Nat) (s : State) (hsafe : Safe s) : Safe (copyChains m ch g s) := by
  unfold copyChains
  repeat' (first
      | with_reducible assumption | with_reducible apply State.modChain_safe | with_reducible apply State.modPipe_safe
      | with_reducible apply turnMod_safe | split | intro _)

theorem becomeRemapped_safe (ch : Nat) (m : Nat) (criterion : Nat) (g : Nat) (s : State) (hsafe : Safe s) :
    Safe (becomeRemapped ch m criterion g s) := by
  unfold becomeRemapped
  repeat' (first
      | with_reducible assumption | with_reducible apply State.modModu_safe | with_reducible apply State.modChan_safe
      | with_reducible apply State.modSpare_safe | with_reducible apply loseCover_safe
      | with_reducible apply withHealth_safe | with_reducible apply postAt_safe | with_reducible apply endHolds_safe
      | with_reducible apply setSpare_safe | split | intro _)

theorem endShadow_safe (ch : Nat) (g : Nat) (s : State) (hsafe : Safe s) : Safe (endShadow ch g s) := by
  unfold endShadow
  repeat' (first | with_reducible assumption | with_reducible apply State.modChan_safe | split | intro _)

theorem takeOver_safe (ch : Nat) (g : Nat) (s : State) (hsafe : Safe s) : Safe (takeOver ch g s) := by
  unfold takeOver; dsimp only
  repeat' (first
      | with_reducible assumption | with_reducible apply becomeRemapped_safe | with_reducible apply switchSource_safe
      | with_reducible apply enterService_safe | with_reducible apply setSpare_safe
      | with_reducible apply State.modChan_safe | with_reducible apply stopMod_safe | exact Safe.fold (by assumption)
      | split | intro _)

theorem handBack_safe (ch : Nat) (g : Nat) (s : State) (hsafe : Safe s) : Safe (handBack ch g s) := by
  unfold handBack; dsimp only
  repeat' (first
      | with_reducible assumption | with_reducible apply switchSource_safe | with_reducible apply enterService_safe
      | with_reducible apply endHolds_safe | with_reducible apply State.modChan_safe | with_reducible apply roundDone_safe
      | with_reducible apply setApplied_safe | exact Safe.fold (by assumption) | split | intro _)

theorem yieldShadow_safe (ch : Nat) (s : State) (hsafe : Safe s) : Safe (yieldShadow ch s) := by
  unfold yieldShadow
  repeat' (first | with_reducible assumption | with_reducible apply loseCover_safe | split | intro _)

theorem releaseSpare_safe (m : Nat) (g : Nat) (s : State) (hsafe : Safe s) : Safe (releaseSpare m g s) := by
  unfold releaseSpare
  try dsimp only
  iterate 60 all_goals (try (first
      | with_reducible assumption | with_reducible apply checked_safe | with_reducible apply applyTrims_safe
      | with_reducible apply setSpare_safe | with_reducible apply State.modSpare_safe
      | with_reducible apply State.modModu_safe | with_reducible apply roundDone_safe
      | with_reducible apply spareFreed_safe | with_reducible apply outSafe_next | with_reducible apply optSafe_some
      | with_reducible exact optSafe_none | with_reducible apply safe_ite | (intro _; try dsimp only) | split
      | (with_reducible refine safe_snd ?_ (by assumption)) | (with_reducible refine safe_fst ?_ (by assumption))
      | (change SafeParts _ _ _ _ _ _ _ _; try dsimp only; with_reducible refine Safe.fold ?_)))

theorem turnFree_safe (m : Nat) (g : Nat) (s : State) (hsafe : Safe s) : Safe (turnFree m g s) := by
  unfold turnFree; dsimp only
  repeat' (first
      | with_reducible assumption | with_reducible apply stopMod_safe | with_reducible apply setSpare_safe
      | exact Safe.fold (by assumption) | split | intro _)

theorem failNow_safe (m : Nat) (g : Nat) (s : State) (hsafe : Safe s) : Safe (failNow m g s) := by
  unfold failNow; dsimp only
  repeat' (first
      | with_reducible assumption | with_reducible apply setSpare_safe | with_reducible apply State.modSpare_safe
      | exact Safe.fold (by assumption) | split | intro _)

theorem enterCover_safe (ch : Nat) (g : Nat) (s : State) (hsafe : Safe s) : Safe (enterCover ch g s) := by
  unfold enterCover
  try dsimp only
  iterate 60 all_goals (try (first
      | with_reducible assumption | with_reducible apply State.modSpare_safe | with_reducible apply copyChains_safe
      | with_reducible apply becomeRemapped_safe | with_reducible apply switchSource_safe
      | with_reducible apply enterService_safe | with_reducible apply State.modChan_safe
      | with_reducible apply endHolds_safe | with_reducible apply setSpare_safe | with_reducible apply outSafe_next
      | with_reducible apply optSafe_some | with_reducible exact optSafe_none | with_reducible apply safe_ite
      | (intro _; try dsimp only) | split | (with_reducible refine safe_snd ?_ (by assumption))
      | (with_reducible refine safe_fst ?_ (by assumption))
      | (change SafeParts _ _ _ _ _ _ _ _; try dsimp only; with_reducible refine Safe.fold ?_)))

theorem switchSpares_safe (g : Nat) (s : State) (hsafe : Safe s) : Safe (switchSpares g s) := by
  unfold switchSpares; dsimp only
  repeat' (first
      | with_reducible assumption | with_reducible apply each_safe | with_reducible apply yieldShadow_safe
      | with_reducible apply handBack_safe | with_reducible apply takeOver_safe | with_reducible apply endShadow_safe
      | with_reducible apply turnFree_safe | with_reducible apply releaseSpare_safe | with_reducible apply enterCover_safe
      | with_reducible apply failNow_safe | exact Safe.fold (by assumption) | split | intro _)

theorem interruptStop_safe (ch : Nat) (g : Nat) (s : State) (hsafe : Safe s) : Safe (interruptStop ch g s) := by
  unfold interruptStop; dsimp only
  repeat' (first
      | with_reducible assumption | with_reducible apply drawn_safe | with_reducible apply askStop_safe
      | with_reducible apply State.modChan_safe | with_reducible apply stopMod_safe
      | with_reducible apply holdSamples_safe | exact Safe.fold (by assumption) | split | intro _)

theorem interruptStops_safe (g : Nat) (s : State) (hsafe : Safe s) : Safe (interruptStops g s) := by
  unfold interruptStops
  repeat' (first
      | with_reducible assumption | with_reducible apply each_safe | with_reducible apply interruptStop_safe | split
      | intro _)

theorem TimeU.runTo_keeps (t : Inst) (u : TimeU) : TimeU.Keeps u (u.runTo t) := by
  unfold TimeU.runTo; exact ⟨rfl, rfl, rfl, rfl, rfl⟩

theorem turnCounter_safe (g : Nat) (s : State) (hsafe : Safe s) : Safe (turnCounter g s) := by
  have k := TimeU.runTo_keeps (boundary g) s.time
  unfold turnCounter
  exact safe_ite (fun _ => hsafe.fold) (fun _ => hsafe.withTime ⟨k.grid, k.inc, k.f, k.fBank, k.fSeal⟩)

theorem endStatStreams_safe (g : Nat) (s : State) (hsafe : Safe s) : Safe (endStatStreams g s) := by
  unfold endStatStreams; dsimp only
  repeat' (first
      | with_reducible assumption | with_reducible apply each_safe | with_reducible apply endStream_safe
      | exact Safe.fold (by assumption) | split | intro _)

theorem resumeFlush_safe (s : State) (hsafe : Safe s) : Safe (resumeFlush s) := by
  unfold resumeFlush; dsimp only
  repeat' (first | with_reducible assumption  | exact Safe.fold (by assumption) | split | intro _)

theorem applyCtl_safe (c : CtlSet) (s : State) (hsafe : Safe s) : Safe (applyCtl c s) := by
  unfold applyCtl; dsimp only
  repeat' (first
      | with_reducible assumption | with_reducible apply applyLevel_safe | with_reducible apply noteUse_safe
      | with_reducible apply State.modReq_safe | with_reducible apply each_safe | with_reducible apply commitRanks_safe
      | with_reducible apply orderRepair_safe | with_reducible apply calTile_safe | exact Safe.fold (by assumption)
      | split | intro _)

theorem turnControl_safe (s : State) (hsafe : Safe s) : Safe (turnControl s) := by
  have h1 : Safe { s with time := { s.time with f := if s.mgmt.refLost then s.time.f else s.time.fSeal.getD s.time.f, fSeal := none }
                          host := { s.host with ctlSeal := [] }
                          mgmt := { s.mgmt with overruns := 0 } } := by
    refine ⟨hsafe.ports, hsafe.ring, hsafe.grid, ?_, hsafe.bank, (fun x e => by cases e), hsafe.ctrs⟩
    dsimp only
    split
    · exact hsafe.freq
    · exact hsafe.sealed
  have h2 : ∀ (o : Nat) (v : Nat), Safe { s with host := { s.host with overrun := o }, mgmt := { s.mgmt with overruns := v } } :=
    fun _ _ => hsafe.fold
  unfold turnControl
  dsimp only
  exact (safe_ite (fun _ => each_safe _ _ _ applyCtl_safe h1) (fun _ => h2 _ _)).fold

theorem turnOrders_safe (s : State) (hsafe : Safe s) : Safe (turnOrders s) := by
  unfold turnOrders; dsimp only
  repeat' (first
      | with_reducible assumption | with_reducible apply noteUse_safe | with_reducible apply applySensorSets_safe
      | exact Safe.fold (by assumption) | split | intro _)

theorem applyCommit_safe (g : Nat) (k : Commit) (s : State) (hsafe : Safe s) : Safe (applyCommit g k s) := by
  unfold applyCommit; dsimp only
  repeat' (first
      | with_reducible assumption | with_reducible apply markStage_safe | with_reducible apply applyStage_safe
      | with_reducible apply confirmIn_safe | with_reducible apply sendMsg_safe | with_reducible apply finishLater_safe
      | exact Safe.fold (by assumption) | split | intro _)

theorem turnCommits_safe (g : Nat) (s : State) (hsafe : Safe s) : Safe (turnCommits g s) := by
  unfold turnCommits; dsimp only
  repeat' (first
      | with_reducible assumption | with_reducible apply each_safe | with_reducible apply applyCommit_safe
      | with_reducible apply noteUse_safe | exact Safe.fold (by assumption) | split | intro _)

theorem turnShafts_safe (g : Nat) (s : State) (hsafe : Safe s) : Safe (turnShafts g s) := by
  unfold turnShafts; dsimp only
  repeat' (first
      | with_reducible assumption | with_reducible apply each_safe | with_reducible apply fallStats_safe
      | with_reducible apply turnGroup_safe | with_reducible apply State.modShaft_safe
      | with_reducible apply sendDecision_safe | with_reducible apply post_safe | exact Safe.fold (by assumption) | split
      | intro _)

theorem turnWrite_safe (g : Nat) (w : CtrWrite) (s : State) (hsafe : Safe s) : Safe (turnWrite g w s) := by
  unfold turnWrite; dsimp only
  repeat' (first
      | with_reducible assumption | with_reducible apply drawn_safe | with_reducible apply finishLater_safe
      | with_reducible apply writeCtr_safe | exact Safe.fold (by assumption) | split | intro _)

theorem turnWrites_safe (g : Nat) (s : State) (hsafe : Safe s) : Safe (turnWrites g s) := by
  unfold turnWrites; dsimp only
  repeat' (first
      | with_reducible assumption | with_reducible apply each_safe | with_reducible apply turnWrite_safe
      | exact Safe.fold (by assumption) | split | intro _)

theorem turnAcquisitions_safe (g : Nat) (s : State) (hsafe : Safe s) : Safe (turnAcquisitions g s) := by
  unfold turnAcquisitions
  repeat' (first
      | with_reducible assumption | with_reducible apply each_safe | with_reducible apply startAcquisition_safe | split
      | intro _)

theorem turnTenants_safe (s : State) (hsafe : Safe s) : Safe (turnTenants s) := hsafe

theorem closeRecords_safe (g : Nat) (s : State) (hsafe : Safe s) : Safe (closeRecords g s) := by
  unfold closeRecords; dsimp only
  repeat' (first
      | with_reducible assumption | with_reducible apply each_safe | with_reducible apply State.modStream_safe
      | exact Safe.fold (by assumption) | split | intro _)

theorem turnLinks_safe (g : Nat) (s : State) (hsafe : Safe s) : Safe (turnLinks g s) := by
  unfold turnLinks
  try dsimp only
  iterate 60 all_goals (try (first
      | with_reducible assumption | with_reducible apply each_safe | with_reducible apply turnLink_safe
      | with_reducible apply outSafe_next | with_reducible apply optSafe_some | with_reducible exact optSafe_none
      | with_reducible apply safe_ite | (intro _; try dsimp only) | split
      | (with_reducible refine safe_snd ?_ (by assumption)) | (with_reducible refine safe_fst ?_ (by assumption))
      | (change SafeParts _ _ _ _ _ _ _ _; try dsimp only; with_reducible refine Safe.fold ?_)))

theorem confirmSlot_safe (live : Bool) (s : State) (hsafe : Safe s) : Safe (confirmSlot live s) := by
  unfold confirmSlot; dsimp only
  repeat' (first
      | with_reducible assumption | with_reducible apply post_safe | exact Safe.fold (by assumption) | split | intro _)

theorem turnPair_safe (g : Nat) (s : State) (hsafe : Safe s) : Safe (turnPair g s) := by
  unfold turnPair
  repeat' (first
      | with_reducible assumption | with_reducible apply formPair_safe | with_reducible apply confirmSlot_safe
      | with_reducible apply swapRoles_safe | with_reducible apply State.modClover_safe | split | intro _)

theorem turnSeconds_safe (g : Nat) (s : State) (hsafe : Safe s) : Safe (turnSeconds g s) := by
  unfold turnSeconds
  try dsimp only
  iterate 60 all_goals (try (first
      | with_reducible assumption | with_reducible apply when_safe | with_reducible apply outSafe_next
      | with_reducible apply optSafe_some | with_reducible exact optSafe_none | with_reducible apply safe_ite
      | (intro _; try dsimp only) | split | (with_reducible refine safe_snd ?_ (by assumption))
      | (with_reducible refine safe_fst ?_ (by assumption))
      | (change SafeParts _ _ _ _ _ _ _ _; try dsimp only; with_reducible refine Safe.fold ?_)))

theorem turnStaging_safe (g : Nat) (s : State) (hsafe : Safe s) : Safe (turnStaging g s) := by
  unfold turnStaging
  try dsimp only
  iterate 60 all_goals (try (first
      | with_reducible assumption | with_reducible apply post_safe | with_reducible apply outSafe_next
      | with_reducible apply optSafe_some | with_reducible exact optSafe_none | with_reducible apply safe_ite
      | (intro _; try dsimp only) | split | (with_reducible refine safe_snd ?_ (by assumption))
      | (with_reducible refine safe_fst ?_ (by assumption))
      | (change SafeParts _ _ _ _ _ _ _ _; try dsimp only; with_reducible refine Safe.fold ?_)))

theorem turnSwath_safe (g : Nat) (bias : List (Nat × Int)) (s : State) (hsafe : Safe s) : Safe (turnSwath g bias s) := by
  unfold turnSwath
  repeat' (first
      | with_reducible assumption | with_reducible apply judgeShots_safe | with_reducible apply each_safe
      | with_reducible apply biasSwath_safe | with_reducible apply touch_safe | with_reducible apply turnCounter_safe
      | with_reducible apply endStatStreams_safe | with_reducible apply closeStats_safe
      | with_reducible apply turnSwathIntervals_safe | with_reducible apply closeRecords_safe
      | with_reducible apply streamEvents_safe | with_reducible apply skipAll_safe | with_reducible apply publishAll_safe
      | with_reducible apply resumeFlush_safe | with_reducible apply turnOrders_safe
      | with_reducible apply turnControl_safe | with_reducible apply groupSwaths_safe
      | with_reducible apply turnShafts_safe | with_reducible apply turnHolds_safe | with_reducible apply turnCommits_safe
      | with_reducible apply turnWrites_safe | with_reducible apply switchSpares_safe
      | with_reducible apply interruptStops_safe | with_reducible apply turnAcquisitions_safe
      | with_reducible apply turnLinks_safe | with_reducible apply finishEntries_safe
      | with_reducible apply tallyRefusals_safe | with_reducible apply applySubEvents_safe
      | with_reducible apply completeLatency_safe | with_reducible apply turnTenants_safe
      | with_reducible apply takeArmed_safe | with_reducible apply turnPair_safe | with_reducible apply turnStaging_safe
      | with_reducible apply turnSeconds_safe | with_reducible apply sendRemotes_safe | with_reducible apply sendMsgs_safe
      | with_reducible apply raiseDue_safe | with_reducible apply journalDrain_safe | split | intro _)

theorem execSwathBoundary_safe (x : SwathIn) (s : State) (hsafe : Safe s) : OutSafe (execSwathBoundary x s) := by
  unfold execSwathBoundary
  repeat' (first
      | with_reducible assumption | apply outSafe_next | with_reducible apply event_safe
      | with_reducible apply turnSwath_safe | with_reducible apply each_safe | with_reducible apply State.modTile_safe
      | split | intro _)

theorem publishCut_safe (s : State) (hsafe : Safe s) : Safe (publishCut s) := by
  unfold publishCut; dsimp only
  repeat' (first
      | with_reducible assumption | with_reducible apply each_safe | with_reducible apply startStream_safe
      | with_reducible apply publishTussock_safe | with_reducible apply State.modStream_safe
      | with_reducible apply markPublished_safe | exact Safe.fold (by assumption) | split | intro _)

theorem startRetention_safe (s : State) (hsafe : Safe s) : Safe (startRetention s) := hsafe

theorem startIntervals_safe (g : Nat) (s : State) (hsafe : Safe s) : Safe (startIntervals g s) := by
  unfold startIntervals
  repeat' (first
      | with_reducible assumption | with_reducible apply each_safe | with_reducible apply openInterval_safe | split
      | intro _)

theorem execStreamsStart_safe (sec : Nat) (s : State) (hsafe : Safe s) : OutSafe (execStreamsStart sec s) := by
  unfold execStreamsStart
  try dsimp only
  iterate 60 all_goals (try (first
      | with_reducible assumption | with_reducible apply touch_safe | with_reducible apply withHealth_safe
      | with_reducible apply each_safe | with_reducible apply startStream_safe | with_reducible apply confirmSlot_safe
      | with_reducible apply startRetention_safe | with_reducible apply publishCut_safe
      | with_reducible apply startIntervals_safe | with_reducible apply outSafe_next | with_reducible apply optSafe_some
      | with_reducible exact optSafe_none | with_reducible apply safe_ite | (intro _; try dsimp only) | split
      | (with_reducible refine safe_snd ?_ (by assumption)) | (with_reducible refine safe_fst ?_ (by assumption))
      | (change SafeParts _ _ _ _ _ _ _ _; try dsimp only; with_reducible refine Safe.fold ?_)))

theorem execAddressApply_safe (s : State) (hsafe : Safe s) : OutSafe (execAddressApply s) := by
  unfold execAddressApply
  repeat' (first
      | with_reducible assumption | apply outSafe_next | with_reducible apply each_safe
      | with_reducible apply State.modStream_safe | with_reducible apply setAddress_safe | with_reducible apply post_safe
      | split | intro _)

theorem inherit_safe (s : State) (hsafe : Safe s) : Safe (inherit s) := by
  unfold inherit; dsimp only
  repeat' (first | with_reducible assumption  | exact Safe.fold (by assumption) | split | intro _)

theorem servoLoop_safe (s : State) (hsafe : Safe s) : Safe (servoLoop s) := by
  unfold servoLoop; dsimp only
  repeat' (first
      | with_reducible assumption | with_reducible apply requestF_safe | exact Safe.fold (by assumption) | split | intro _)

theorem lockIfNear_safe (s : State) (hsafe : Safe s) : Safe (lockIfNear s) := by
  unfold lockIfNear; dsimp only
  repeat' (first | with_reducible assumption  | exact Safe.fold (by assumption) | split | intro _)

theorem Safe.freeRun {s : State} {u : TimeU} (i : BitVec 48) (k : TimeU.Keeps s.time u) (hg : s.time.grid = false) (h :
    Safe s) :
    Safe { s with time := { u with inc := i } } :=
  ⟨h.ports, h.ring, (fun e => by rw [k.grid, hg] at e; cases e), (by rw [k.f]; exact h.freq), (by rw [k.fBank]; exact h.bank),
    (by rw [k.fSeal]; exact h.sealedF), h.ctrs⟩

/-- A load of the time counter. -/
theorem Safe.loaded {s : State} (a b c : Nat) (h : Safe s) :
    Safe { s with time := { s.time with sec := a, ns := b, frac40 := c } } := h

theorem freePass_safe (s : State) (hg : s.time.grid = false) (hsafe : Safe s) : Safe (freePass s) := by
  have h (i : BitVec 48) := Safe.freeRun i (TimeU.runTo_keeps (tickAt s.now) s.time) hg hsafe
  unfold freePass
  exact safe_ite (fun _ => drawn_safe _ (h _)) (fun _ => Safe.loaded _ _ _ (drawn_safe _ (drawn_safe _ (drawn_safe _ (h _)))))

theorem countNear_safe (s : State) (hsafe : Safe s) : Safe (countNear s) := hsafe

theorem servoTask_safe (s : State) (hsafe : Safe s) : Safe (servoTask s) := by
  unfold servoTask
  refine lockIfNear_safe _ (Safe.errAs _ (servoLoop_safe _ (inherit_safe _ ?_)))
  split
  · exact countNear_safe s hsafe
  · exact freePass_safe s (by simp_all) hsafe

theorem reviewTask_safe (s : State) (hsafe : Safe s) : Safe (reviewTask s) := by
  unfold reviewTask; dsimp only
  repeat' (first
      | with_reducible assumption | with_reducible apply each_safe | with_reducible apply reviewTile_safe
      | exact Safe.fold (by assumption) | split | intro _)

theorem passTask_safe (k : Nat) (s : State) (hsafe : Safe s) : Safe (passTask k s) := by
  unfold passTask
  try dsimp only
  iterate 60 all_goals (try (first
      | with_reducible assumption | with_reducible apply servoTask_safe | with_reducible apply starvationPass_safe
      | with_reducible apply thermalPass_safe | with_reducible apply reenableWriters_safe
      | with_reducible apply routeTask_safe | with_reducible apply calTask_safe | with_reducible apply reviewTask_safe
      | with_reducible apply outSafe_next | with_reducible apply optSafe_some | with_reducible exact optSafe_none
      | with_reducible apply safe_ite | (intro _; try dsimp only) | split
      | (with_reducible refine safe_snd ?_ (by assumption)) | (with_reducible refine safe_fst ?_ (by assumption))
      | (change SafeParts _ _ _ _ _ _ _ _; try dsimp only; with_reducible refine Safe.fold ?_)))

theorem execControlPass_safe (slots : Nat) (s : State) (hsafe : Safe s) : OutSafe (execControlPass slots s) := by
  unfold execControlPass
  try dsimp only
  iterate 60 all_goals (try (first
      | with_reducible assumption | with_reducible apply each_safe | with_reducible apply passTask_safe
      | with_reducible apply outSafe_next | with_reducible apply optSafe_some | with_reducible exact optSafe_none
      | with_reducible apply safe_ite | (intro _; try dsimp only) | split
      | (with_reducible refine safe_snd ?_ (by assumption)) | (with_reducible refine safe_fst ?_ (by assumption))
      | (change SafeParts _ _ _ _ _ _ _ _; try dsimp only; with_reducible refine Safe.fold ?_)))

theorem execControlLoopSeal_safe (s : State) (hsafe : Safe s) : OutSafe (execControlLoopSeal s) := by
  unfold execControlLoopSeal
  exact outSafe_next (safe_ite (fun _ => hsafe) (fun _ =>
    ⟨hsafe.ports, hsafe.ring, hsafe.grid, hsafe.freq, (fun _ e => by cases e), hsafe.bank, hsafe.ctrs⟩))

theorem readReg_safe (fn : Nat) (off : Nat) (width : Nat) (s : State) (hsafe : Safe s) :
    Safe (readReg fn off width s).2 := by
  unfold readReg
  repeat' (first | with_reducible assumption | with_reducible apply State.modFunc_safe | split | intro _)

theorem answerRead_safe (fn : Nat) (d : Option Nat) (s : State) (hsafe : Safe s) : Safe (answerRead fn d s) := hsafe

theorem execHighWordLatchRead_safe (fn : Nat) (x : ReadIn) (s : State) (hsafe : Safe s) :
    OutSafe (execHighWordLatchRead fn x s) := by
  unfold execHighWordLatchRead; dsimp only
  repeat' (first
      | with_reducible assumption | apply outSafe_next | with_reducible apply touch_safe | with_reducible apply event_safe
      | with_reducible apply answerRead_safe | with_reducible apply badAccess_safe | with_reducible apply readReg_safe
      | exact Safe.fold (by assumption) | split | intro _)

end Sys2Proof.Machine
end

