-- ==== Sys2Proof/WellFormed.lean ====
section
/-! DEFINITION. Which terms of the syntax are commands that someone can send: the objects that an event names exist, and
every operand fits the field that carries it (R567, R571, R570 of 15; the object counts of 01). What a field can carry and
the hub refuses with a status is well formed. -/

namespace Sys2Proof

/-- A number below a count. -/
def below (n x : Nat) : Bool := decide (x < n)

/-- A number within two limits. -/
def between (a b x : Nat) : Bool := decide (a ≤ x) && decide (x ≤ b)

/-- A number that an unsigned field of so many bits holds. -/
def fits (bits x : Nat) : Bool := decide (x < 2 ^ bits)

/-- A number that a signed field of so many bits holds. -/
def fitsInt (bits : Nat) (x : Int) : Bool := decide (-(2 ^ (bits - 1) : Int) ≤ x) && decide (x < (2 ^ (bits - 1) : Int))

/-- The sensors of R627: the slots 0 to 97, the regulator readings from 128 and the module readings from 192. -/
def isSensorNo (i : Nat) : Bool := below 98 i || between 128 191 i || between 192 196 i

/-- R571: at most 512 setting pairs, ROW of 16 bits and PART of 8. -/
def pairsFit (l : List Pair) : Bool := decide (l.length ≤ 512) && l.all (fun p => fits 16 p.row && fits 8 p.part)

/-- A TT: 48 bits of seconds, 32 of nanoseconds, 16 of fraction (R269). -/
def TT.wf (t : TT) : Bool := fits 48 t.sec && fits 32 t.ns && fits 16 t.frac

/-- A descriptor of R249: up to 64 GSIs of 32 bits. -/
def Descriptor.wf (d : Descriptor) : Bool := decide (d.gsis.length ≤ 64) && d.gsis.all (fits 32)

/-- R567: a tenant, one of its command queues, a stage of 32 bits, and a buffer of up to 65,536 bytes. -/
def Cmd.wf (c : Cmd) : Bool := below 64 c.tenant && below 4 c.queue && fits 32 c.stage && decide (c.outLen ≤ 65536)

/-- A command of the table that can be sent. -/
def Instr.wf : Instr → Bool
  | .resetNAssert lowNs => fits 64 lowNs
  | .resetNRelease _ _ _ => true
  | .imageVerified _ _ _ => true
  | .pllLock _ => true
  | .pllLockTimeout _ => true
  | .tileLinkTrainingDone tile bad => below 12 tile && bad.all (below 132)
  | .dramTrainingDone _ _ => true
  | .modulatorStart tile => below 12 tile
  | .calComplete _ => true
  | .syncExit _ => true
  | .freeRunningMaster _ => true
  | .streamsStart sec => fits 48 sec
  | .gridStep parent => parent.wf
  | .swathBoundary x => x.bias.all (fun e => below 768 e.1) && x.side.all (below 12)
  | .addressApply => true
  | .controlPass slots => fits 16 slots
  | .controlLoopSeal => true
  | .hkConversion slot code _ => below 98 slot && fitsInt 32 code
  | .urgentConversion sensor slot code => below 98 sensor && below 125 slot && fitsInt 32 code
  | .refSettled tile => below 12 tile
  | .housekeepingPeriod sensor _ => isSensorNo sensor
  | .thermalLevelExit => true
  | .thermalTrip sensor => below 48 sensor
  | .thermalTripRelease _ _ _ sensor value => below 48 sensor && fitsInt 64 value
  | .pwrfailNAssert lowNs _ => fits 64 lowNs
  | .flushComplete => true
  | .pwrfailNDeassert => true
  | .brownOut => true
  | .internalResetRelease _ _ _ => true
  | .fullReset cause => between 1 3 cause
  | .refLost => true
  | .refReturned _ => true
  | .refclkLaneLost => true
  | .refclkPcieLost => true
  | .sramUncorrectable _ addr => fits 64 addr
  | .warmRestart _ => true
  | .warmRestartDone _ => true
  | .safetyWatchdogExpiry => true
  | .spanExcursion ch pin _ _ => below 768 ch && below 2 pin
  | .fastAcquisitionEnd ch => below 768 ch
  | .biasState ch => below 768 ch
  | .excLimit g mv ua => below 96 g && fits 16 mv && fits 32 ua
  | .excFault g => below 96 g
  | .excRetry g => below 96 g
  | .excWindowFlag g _ mv => below 96 g && fits 16 mv
  | .excSettled g => below 96 g
  | .excLocalSense g mv => below 96 g && fits 16 mv
  | .excRemoteSenseReturn g mv => below 96 g && fits 16 mv
  | .tileLinkWord tile _ cycle => below 12 tile && fits 64 cycle
  | .tileClockLost tile grp => below 12 tile && below 4 grp
  | .tileGroupRetrain tile grp _ => below 12 tile && below 4 grp
  | .tileRepairSwitch tile grp => below 12 tile && below 4 grp
  | .modLoopReset m => below 864 m
  | .modLoopRestart m => below 864 m
  | .modFailed m criterion _ => below 864 m && between 1 6 criterion
  | .spareSuspect m => between 768 863 m
  | .calRunDone m _ => below 864 m
  | .coverTakeover ch gain offs => below 768 ch && fits 32 gain.1 && fitsInt 32 offs.1
  | .primaryRestart x => below 864 x.1
  | .coverHandback ch gain offs => below 768 ch && fits 32 gain.1 && fitsInt 32 offs.1
  | .refcheckDone m gain => between 768 863 m && fits 32 gain
  | .substitutionEnd ch => below 768 ch
  | .chainSampleAvailable m _ => below 864 m
  | .tachTransition n uv _ => below 32 n && fitsInt 32 uv
  | .tachEdgeConfirmed n => below 32 n
  | .edgeDeadline g => below 32 g
  | .codeTimeout n => below 32 n
  | .codeFlood n => below 32 n
  | .shaftFallback g => below 32 g
  | .triggerTimeExpiry u => below 1024 u
  | .fieldPinEdge pin _ _ => below 16 pin
  | .pinPulseEnd pin => below 16 pin
  | .triggerRearm u => below 1024 u
  | .tussockSetWritten u => below 1024 u
  | .tussockComplete gsi number => fits 32 gsi && fits 64 number
  | .recordWrite gsi => fits 32 gsi
  | .stagingRecover bytes => fits 32 bytes
  | .recordDelivery sub _ => below 4096 sub
  | .bulkCreditTimeout sub => below 4096 sub
  | .retentionExpiry sub => below 4096 sub
  | .dramReadReturn req addr data badSymbols _ _ => fits 16 req && fits 64 addr && fits 512 data && fits 8 badSymbols
  | .refresh ch rank => below 8 ch && below 2 rank
  | .rfm ch bank => below 8 ch && below 128 bank
  | .zqCalibration ch rank => below 8 ch && below 2 rank
  | .oscillatorRead ch lane drift => below 8 ch && below 20 lane && fitsInt 16 drift
  | .driftRecentring ch lane eye => below 8 ch && below 20 lane && fits 16 eye
  | .patrolScrub => true
  | .furze ch req bank row _ => below 8 ch && below 96 req && below 128 bank && fits 32 row
  | .furzeWindow => true
  | .burstBoundary inst x => below 25 inst && x.burst.all (fun a => fits 64 a.addr && fits 512 a.data)
  | .grantRelease inst x => below 25 inst && x.burst.all (fun a => fits 64 a.addr && fits 512 a.data)
  | .grantWatchdog inst addr _ => below 25 inst && fits 64 addr
  | .idleExpiry p => below 16 p
  | .rateSignalClassed p runs => below 16 p && decide (runs.length ≤ 4)
  | .ts1 p lanes => below 16 p && decide (lanes.length ≤ 4)
  | .adaptDone p _ _ _ => below 16 p
  | .ts2 p lanes _ => below 16 p && decide (lanes.length ≤ 4)
  | .trainingTimeout p passing => below 16 p && passing.all (below 4)
  | .startBlock p lane width _ _ => below 16 p && below 4 lane && [1, 2, 4].contains width
  | .skipBlock p count y => below 16 p && fits 16 count && y.late.all (below 4) && y.raw.all (fun x => below 4 x.1 && below 256 x.2.1)
  | .laneFault p mask => below 16 p && below 16 mask
  | .widthBlock p mask => below 16 p && below 16 mask
  | .lossOfSignal p lanes => below 16 p && lanes.all (below 4)
  | .quietIdleExpiry p => below 16 p
  | .quietReq p => below 16 p
  | .quietAck p => below 16 p
  | .quietEnter p mask => below 16 p && below 16 mask
  | .quietEntryWithdrawn p => below 16 p
  | .wakeNeed p => below 16 p
  | .idleExitEnd p => below 16 p
  | .wakeBlock p aligned => below 16 p && aligned.all (below 4)
  | .loopBlock p code => below 16 p && fits 8 code
  | .frameReceive p _ _ => below 16 p
  | .ackBlock p ackSeq _ xtAck => below 16 p && below 4096 ackSeq && fits 8 xtAck
  | .creditBlock p counts => below 16 p && decide (counts.length ≤ 8)
  | .replayTimeout p => below 16 p
  | .ackTimer p => below 16 p
  | .creditTimer p => below 16 p
  | .timedLaunch p _ => below 16 p
  | .xtrig p _ _ => below 16 p
  | .dataFrame src gsi sub _ _ offset seqLo bytes _ => below 1024 src && fits 32 gsi && below 4096 sub && fits 32 offset && fits 32 seqLo && fits 32 bytes
  | .helloTimer p => below 16 p
  | .hello p _ => below 16 p
  | .neighbourLoss p => below 16 p
  | .lsaTimer => true
  | .lsa p origin uid seq x => below 16 p && below 1024 origin && fits 64 uid && fits 32 seq && fits 4 x.hops
  | .rootChange _ => true
  | .addrReq p uid held _ => below 16 p && fits 64 uid && fits 16 held
  | .addrGrant p uid addr => below 16 p && fits 64 uid && below 1024 addr
  | .addrReqRetry => true
  | .timeRequestTimer p _ => below 16 p
  | .timeReq p xseq _ _ => below 16 p && fits 16 xseq
  | .timeResp p xseq _ _ _ _ _ => below 16 p && fits 16 xseq
  | .timeRespTimeout p => below 16 p
  | .ptpMessage kind src _ _ err _ => decide (kind ≤ 2) && fits 8 src.domain && decide (src.transport ≤ 1) && fits 80 src.master && fits 8 err
  | .ppsInEdge _ highNs err => fits 64 highNs && fits 8 err
  | .ppsSourceLost _ => true
  | .holdoverLimitReached => true
  | .ppsOutLaunch sec _ => fits 48 sec
  | .ppsOutPulseEnd => true
  | .pinLaunchTime pin _ => below 16 pin
  | .heartbeatLaunch k => fits 64 k
  | .heartbeat _ _ => true
  | .partnerLoss _ => true
  | .decision seq _ => fits 32 seq
  | .command i _ _ => wf i
  | .joinReq proto uid digest strap _ _ => fits 16 proto && fits 64 uid && fits 32 digest && fits 8 strap
  | .joinSync sec uid addr _ _ decSeq => fits 48 sec && fits 64 uid && below 1024 addr && fits 32 decSeq
  | .searchTimeout => true
  | .swap boundary _ => fits 64 boundary
  | .swapHoldExpiry => true
  | .liveUpdateReset => true
  | .prepare src stage boundary _ => below 1024 src && fits 32 stage && fits 64 boundary
  | .readyMsg src stage => below 1024 src && fits 32 stage
  | .refuseMsg src stage _ => below 1024 src && fits 32 stage
  | .networkCommitDecide stage => fits 32 stage
  | .sealStage src stage => below 1024 src && fits 32 stage
  | .abortMsg src stage => below 1024 src && fits 32 stage
  | .networkStageExpiry stage => fits 32 stage
  | .commitConfirm src stage => below 1024 src && fits 32 stage
  | .networkCommitDeadline stage => fits 32 stage
  | .openMsg hub uid => below 1024 hub && fits 64 uid
  | .openReply hub tenant epoch _ => below 1024 hub && below 64 tenant && fits 16 epoch
  | .commandsMsg tenant epoch fseq ackSeq _ => below 64 tenant && fits 16 epoch && fits 32 fseq && fits 32 ackSeq
  | .creditsMsg tenant epoch fseq ackSeq queue _ => below 64 tenant && fits 16 epoch && fits 32 fseq && fits 32 ackSeq && below 4 queue
  | .completionsMsg hub tenant epoch fseq ackSeq _ => below 1024 hub && below 64 tenant && fits 16 epoch && fits 32 fseq && fits 32 ackSeq
  | .dmaCompletionsMsg hub tenant epoch fseq ackSeq _ => below 1024 hub && below 64 tenant && fits 16 epoch && fits 32 fseq && fits 32 ackSeq
  | .closeMsg tenant epoch fseq ackSeq => below 64 tenant && fits 16 epoch && fits 32 fseq && fits 32 ackSeq
  | .keepalive tenant _ => below 64 tenant
  | .remoteResendTimer tenant => below 64 tenant
  | .remoteSessionTimeout tenant => below 64 tenant
  | .admEnableSet fn => below 64 fn
  | .admEnableClear fn => below 64 fn
  | .flr fn => below 64 fn
  | .d3hotEntry fn => below 64 fn
  | .vfEnableClear => true
  | .hotReset => true
  | .pcieLinkDown => true
  | .pcieLinkUp rate width => between 1 5 rate && [1, 2, 4, 8, 16].contains width
  | .dbSqTailWrite fn q tail _ _ _ => below 64 fn && below 8 q && fits 16 tail
  | .dbCqHeadWrite fn q head _ => below 64 fn && below 8 q && fits 16 head
  | .violClear fn _ => below 64 fn
  | .violLostClear fn => below 64 fn
  | .snapTakeNow fn _ => below 64 fn
  | .snapTakePps fn => below 64 fn
  | .snapTakeSwath fn => below 64 fn
  | .highWordLatchRead fn x => below 64 fn && fits 32 x.offset && fits 8 x.width
  | .registerWrite fn offset width _ _ => below 64 fn && fits 32 offset && fits 8 width
  | .dmaFault fn q addr _ _ => below 64 fn && below 8 q && fits 64 addr
  | .identify c => c.wf
  | .getLimits c => c.wf
  | .healthGet c => c.wf
  | .resetPart c => c.wf
  | .queueCreate c sqBase sqSize vector cqBase cqSize => c.wf && fits 64 sqBase && fits 32 sqSize && fits 8 vector && fits 64 cqBase && fits 32 cqSize
  | .queueDelete c => c.wf
  | .dmaQueueRestart c => c.wf
  | .stageStatus c => c.wf
  | .stageDiscard c => c.wf
  | .commitAtSwath c sec swath _ => c.wf && fits 48 sec && fits 16 swath
  | .channelSet c pairs => c.wf && pairsFit pairs
  | .channelStatus c => c.wf
  | .excSet c pairs => c.wf && pairsFit pairs
  | .excStatus c => c.wf
  | .refbufSet c pairs => c.wf && pairsFit pairs
  | .calNow c => c.wf
  | .calReport c sel => c.wf && fits 8 sel
  | .calSet c pairs => c.wf && pairsFit pairs
  | .spareShadow c spare swaths => c.wf && fits 16 spare && fits 32 swaths
  | .spareRelease c => c.wf
  | .remapClear c => c.wf
  | .chainSet c pairs => c.wf && pairsFit pairs
  | .chainTaps c tap _ => c.wf && fits 8 tap
  | .chainReport c => c.wf
  | .tachSet c pairs => c.wf && pairsFit pairs
  | .tachStatus c => c.wf
  | .shaftSet c pairs => c.wf && pairsFit pairs
  | .shaftStatus c => c.wf
  | .shaftReturn c => c.wf
  | .statsSet c pairs => c.wf && pairsFit pairs
  | .triggerSet c pairs => c.wf && pairsFit pairs
  | .triggerStatus c => c.wf
  | .descCreate c d => c.wf && d.wf
  | .descSet c d => c.wf && d.wf
  | .descFree c => c.wf
  | .tussockJump c target => c.wf && fits 32 target
  | .admissionSet c pairs => c.wf && pairsFit pairs
  | .refusalRead c => c.wf
  | .subscribe c pairs => c.wf && pairsFit pairs
  | .unsubscribe c => c.wf
  | .streamStatus c sel => c.wf && fits 8 sel
  | .ack c n => c.wf && fits 64 n
  | .resend c m => c.wf && fits 64 m
  | .attach c queue => c.wf && fits 8 queue
  | .ringSet c pairs => c.wf && pairsFit pairs
  | .spkJob c queue _ _ => c.wf && fits 8 queue
  | .spkJobComplete tenant _ => below 64 tenant
  | .streamList c => c.wf
  | .timeStatus c => c.wf
  | .timeSet c pairs => c.wf && pairsFit pairs
  | .ptpSet c pairs => c.wf && pairsFit pairs
  | .ppsSet c pairs => c.wf && pairsFit pairs
  | .timeOfDay c sec => c.wf && fits 48 sec
  | .linkAsym c ps => c.wf && fitsInt 32 ps
  | .pinLaunch c pin _ tt => c.wf && fits 8 pin && tt.wf
  | .portSet c pairs => c.wf && pairsFit pairs
  | .portStatus c => c.wf
  | .routeStatic c pfx len primary alternate _ => c.wf && fits 16 pfx && fits 8 len && fits 8 primary && fits 8 alternate
  | .routeRead c => c.wf
  | .mcastSet c mask _ _ => c.wf && fits 16 mask
  | .portWake c => c.wf
  | .addrSet c pairs => c.wf && pairsFit pairs
  | .cloverSet c pairs => c.wf && pairsFit pairs
  | .cloverStatus c => c.wf
  | .cloverSwap c => c.wf
  | .memLayout c pairs => c.wf && pairsFit pairs
  | .memStatus c => c.wf
  | .arbRank c rank _ => c.wf && fits 8 rank
  | .arbWatchdog c limit _ => c.wf && fits 32 limit
  | .policyClass c pairs => c.wf && pairsFit pairs
  | .tenantCap c cap => c.wf && fits 32 cap
  | .furzeSet c threshold interval => c.wf && fits 32 threshold && fits 32 interval
  | .sensorRead c => c.wf
  | .sensorSet c pairs => c.wf && pairsFit pairs
  | .logRead c first => c.wf && fits 64 first
  | .journalQuery c kind id _ => c.wf && fits 8 kind && fits 64 id
  | .updateBegin c bytes => c.wf && fits 32 bytes
  | .updateChunk c offset len => c.wf && fits 32 offset && fits 32 len
  | .updateCommit c _ _ => c.wf
  | .i2cXfer c addr wr rd _ _ => c.wf && fits 8 addr && fits 32 wr && fits 32 rd
  | .loopSet c kind => c.wf && fits 8 kind
  | .prbsSet c poly _ _ => c.wf && fits 8 poly
  | .prbsStatus c => c.wf
  | .fifoStatus c => c.wf
  | .counterRead c field => c.wf && fits 32 field
  | .counterWrite c field value => c.wf && fits 32 field && fits 64 value
  | .demSet c _ => c.wf
  | .memTest c ch mib errors => c.wf && fits 8 ch && fits 32 mib && fits 64 errors
  | .i2cSclTimeout bus => below 4 bus
  | .i2cStuckRetry bus _ _ => below 4 bus
  | .pmbusPoll reg _ _ _ _ _ => below 16 reg
  | .sfpPoll _ alarms => fits 16 alarms
  | .predictedZero g => below 32 g
  | .duplicatePairExpiry origin count => below 1024 origin && fits 16 count
  | .ptpSourceLost _ => true
  | .managementEthernetLinkUp _ => true
  | .excLimitExit g mv ua => below 96 g && fits 16 mv && fits 32 ua
  | .dramWriteComplete gsi bytes => fits 32 gsi && fits 32 bytes
  | .mramWriteComplete gsi => fits 32 gsi
  | .prbsCheckerLock lane _ bits errors => below 32 lane && fits 64 bits && fits 64 errors
  | .jtagTrstNAssert => true
  | .bankIdleTimerExpiry ch bank => below 8 ch && below 128 bank

end Sys2Proof
end

