-- ==== Sys2Proof/Laws/WellFormed.lean ====
section
/-! SUPPORT. A well-formed command names only objects that exist. -/

namespace Sys2Proof.Machine

/-- Every object that a well-formed command names exists, so `exec` answers a next state on it. -/
theorem eventOk_of_wf (i : Instr) (h : i.wf = true) : eventOk i = true := by
  cases i <;> first
    | rfl
    | (simp only [Instr.wf, below, between, isSensorNo, Bool.and_eq_true, Bool.or_eq_true, decide_eq_true_eq] at h
       simp only [eventOk, isTile, isChannel, isGroup, isModulator, isSpare, isTach, isUnit, isPin, isDram, isInst, isPort, isFn,
         isSensor, Bool.and_eq_true, Bool.or_eq_true, decide_eq_true_eq]
       first | omega | (simp only [List.all_eq_true, decide_eq_true_eq] at h ⊢; exact h) | exact ⟨by omega, h.2⟩)

end Sys2Proof.Machine
end

