-- ==== Sys2Proof/Machine/Package.lean ====
section
/-! DEFINITION. The ball map of the package (17): the net at every ball, and what each output ball does. -/

namespace Sys2Proof.Machine

/-- A net of R662. A pair's flag is true for its N or complement ball; a DRAM subchannel's flag is true for B. -/
inductive Net where
  | ain (c : Nat) (n : Bool) | excSns (g : Nat) (n : Bool) | excOut (g : Nat) | vexc (t : Nat)
  | vaHp | vaHn | vaMod | vaLv | vss | vddCore | vddSram | vddLane | vddLaneH | vddIo | vddMram | vddq (n : Nat) | rsvd
  | dq (n : Nat) (b : Bool) (bit : Nat) | cb (n : Nat) (b : Bool) (bit : Nat) | dqs (n : Nat) (b : Bool) (lane : Nat) (c : Bool)
  | dca (n : Nat) (b : Bool) (i : Nat) | dpar (n : Nat) (b : Bool) | dcs (n : Nat) (b : Bool) (i : Nat)
  | dck (n : Nat) (b : Bool) (c : Bool) | dalert (n : Nat) | dreset (n : Nat)
  | skyTx (l : Nat) (n : Bool) | skyRx (l : Nat) (n : Bool) | pcieTx (l : Nat) (n : Bool) | pcieRx (l : Nat) (n : Bool)
  | mgtTx (n : Bool) | mgtRx (n : Bool) | refLane (n : Bool) | refPcie (n : Bool) | refMeas
  | rcalLane | rcalPcie | rcalDdr | tach (k : Nat) (n : Bool) | fieldIo (m : Nat) | hkAin (m : Nat)
  | ppsIn | ppsOut | pwrfailN | resetN | qspiClk | qspiCsN | qspiIo (i : Nat) | i2cScl (n : Nat) | i2cSda (n : Nat)
  | jtagTck | jtagTms | jtagTdi | jtagTdo | jtagTrstN | uartTxd | uartRxd | testEn
  | addrStrap (b : Nat) | cloverMember | cloverPref
  deriving DecidableEq, Repr, Inhabited

/-- Rows, and columns, of the ball array (R648). -/
def ballRows : Nat := 72

/-- Letters of a row name (R650). -/
def rowLetters : List Char :=
  ['A', 'B', 'C', 'D', 'E', 'F', 'G', 'H', 'J', 'K', 'L', 'M', 'N', 'P', 'T', 'U', 'V', 'W', 'Y']

/-- Name of row index `i`, from 1 (R650). -/
def rowName (i : Nat) : List Char :=
  let letter (k : Nat) : Char := rowLetters.getD (k - 1) ' '
  if i ≤ 19 then [letter i]
  else if i ≤ 38 then ['A', letter (i - 19)]
  else if i ≤ 57 then ['B', letter (i - 38)]
  else ['C', letter (i - 57)]

/-- Position of a ball in tenths of a millimetre from the body centre, east and north (R648). -/
def ballAt (i j : Nat) : Int × Int := (10 * j - 365, 365 - 10 * i)

/-- Row and column of ball (d, p) of tile `t` (R652). -/
def tileBall (t d p : Nat) : Nat × Nat :=
  if t < 3 then (1 + d, 1 + 20 * t + p)
  else if t < 6 then (1 + 20 * (t - 3) + p, 72 - d)
  else if t < 9 then (72 - d, 72 - 20 * (t - 6) - p)
  else (72 - 20 * (t - 9) - p, 1 + d)

/-- Ball of an analogue input (R653). -/
def ainBall (c : Nat) (n : Bool) : Nat × Nat :=
  let k := c % 64
  tileBall (c / 64) (2 * (k / 16) + if n then 1 else 0) (k % 16 + k % 16 / 4)

/-- The tile position (t, d, p) of a ball of a tile band (R651, R652); p = 20 at the band end. -/
def tilePlace (i j : Nat) : Option (Nat × Nat × Nat) :=
  let at_ (t q d : Nat) : Option (Nat × Nat × Nat) := some (if q = 60 then (t, d, 20) else (t + q / 20, d, q % 20))
  if i ≤ 11 && j ≤ 61 then at_ 0 (j - 1) (i - 1)
  else if i ≤ 61 && 62 ≤ j then at_ 3 (i - 1) (72 - j)
  else if 62 ≤ i && 12 ≤ j then at_ 6 (72 - j) (72 - i)
  else if 12 ≤ i && j ≤ 11 then at_ 9 (72 - i) (j - 1)
  else none

/-- Net of ball (d, p) of tile `t` (R652 to R654). -/
def tileNet (t d p : Nat) : Net :=
  let g := 8 * t + (p - 2) / 2
  let i := p % 2 = 0 && 2 ≤ p && p ≤ 16
  if p = 20 then .vss
  else if d < 8 then
    if p % 5 = 4 then .vss else .ain (64 * t + 16 * (d / 2) + (p - p / 5)) (decide (d % 2 = 1))
  else if i then (if d = 8 then .excSns g false else if d = 9 then .excSns g true else .excOut g)
  else if d = 8 then
    if p = 0 || p = 19 then .vaHp else if p = 1 || p = 18 then .vaHn
    else if p = 7 || p = 13 then .vaLv else if p = 9 || p = 11 then .vss else .vaMod
  else if d = 9 then
    if p = 7 || p = 13 then .vaLv else if p = 3 || p = 5 || p = 15 || p = 17 then .vaMod else .vss
  else if 1 ≤ p && p ≤ 15 then .vexc t else .vss

/-- Row and column of ball (e, q) of DRAM channel `n` (R655). -/
def dramBall (n e q : Nat) : Nat × Nat :=
  if n < 2 then (12 + e, 12 + 20 * n + q)
  else if n < 4 then (12 + 20 * (n - 2) + q, 61 - e)
  else if n < 6 then (61 - e, 61 - 20 * (n - 4) - q)
  else (61 - 20 * (n - 6) - q, 12 + e)

/-- The DRAM position (n, e, q) of a ball of the DRAM ring (R651, R655). -/
def dramPlace (i j : Nat) : Option (Nat × Nat × Nat) :=
  let at_ (n q e : Nat) : Option (Nat × Nat × Nat) := some (n + q / 20, e, q % 20)
  if i < 12 || 61 < i || j < 12 || 61 < j then none
  else if i ≤ 21 && j ≤ 51 then at_ 0 (j - 12) (i - 12)
  else if i ≤ 51 && 52 ≤ j then at_ 2 (i - 12) (61 - j)
  else if 52 ≤ i && 22 ≤ j then at_ 4 (61 - j) (61 - i)
  else if 22 ≤ i && j ≤ 21 then at_ 6 (61 - i) (j - 12)
  else none

/-- The `k`-th free ball of an area that holds `c` balls of VDDQ_n: VSS and VDDQ_n in turn until it holds them (R658). -/
def freeNet (n k c : Nat) : Net := if k % 2 = 1 && k < 2 * c then .vddq n else .vss

/-- Net of a ball of a subchannel's area, at the depth `e` of subchannel A (R656, R658). -/
def subNet (n : Nat) (b : Bool) (e q : Nat) : Net :=
  let lanes := if e < 2 then 6 else 4
  if q / 3 < lanes then
    let l := q / 3 + if e < 2 then 0 else 6
    if q % 3 = 2 then .dqs n b l (decide (e % 2 = 1))
    else
      let bit := 4 * l + 2 * (e % 2) + q % 3
      if l < 8 then .dq n b bit else .cb n b (bit - 32)
  else freeNet n (if e < 2 then 2 * e + (q - 18) else 4 + 8 * (e - 2) + (q - 12)) 6

/-- Net of ball (e, q) of DRAM channel `n` (R656 to R658). -/
def dramNet (n e q : Nat) : Net :=
  if e < 4 then subNet n false e q
  else if 6 ≤ e then subNet n true (9 - e) q
  else
    let second := decide (e = 5)
    if q < 7 then .dca n second q
    else if q = 7 then .dpar n second
    else if q < 10 then .dcs n second (q - 8)
    else if q = 10 then .dck n false second
    else if q = 12 then .dck n true second
    else if q = 14 then (if second then .dreset n else .dalert n)
    else freeNet n ((if second then 7 else 0) + (if q = 11 then 0 else if q = 13 then 1 else q - 13)) 4

/-- Column of a lane of the inner core. -/
def laneColumn (l : Nat) : Nat := 25 + l + l / 2

/-- The lane that stands in a column of the inner core. -/
def columnLane (j : Nat) : Option Nat := (List.range 16).find? (fun l => laneColumn l = j)

/-- Net of a ball of the inner core (R660). -/
def coreNet (i j : Nat) : Net :=
  let lanes (f : Nat → Net) : Net := match columnLane j with | some l => f l | none => .vss
  let c := j - 22
  if i = 22 then lanes (.skyTx · false)
  else if i = 23 then lanes (.skyTx · true)
  else if i = 24 then lanes (.skyRx · false)
  else if i = 25 then lanes (.skyRx · true)
  else if i = 26 then lanes (fun _ => .vddLane)
  else if i = 27 then lanes (fun l => .skyTx (16 + l) false)
  else if i = 28 then lanes (fun l => .skyTx (16 + l) true)
  else if i = 29 then lanes (fun l => .skyRx (16 + l) false)
  else if i = 30 then lanes (fun l => .skyRx (16 + l) true)
  else if i = 31 then lanes (fun _ => .vddLaneH)
  else if i = 32 then lanes (.pcieTx · false)
  else if i = 33 then lanes (.pcieTx · true)
  else if i = 34 then lanes (.pcieRx · false)
  else if i = 35 then lanes (.pcieRx · true)
  else if i = 36 then
    lanes (fun l => [Net.mgtTx false, .mgtTx true, .mgtRx false, .mgtRx true, .refLane false, .refLane true, .refPcie false,
      .refPcie true, .rcalLane, .rcalPcie].getD l .vddLane)
  else if i ≤ 45 then (if (i + j) % 2 = 0 then .vddCore else .vss)
  else if i = 46 then (if (i + j) % 2 = 0 then .vddSram else .vss)
  else if i = 47 then .tach (c / 2) (decide (c % 2 = 1))
  else if i = 48 then .tach (15 + c / 2) (decide (c % 2 = 1))
  else if i = 49 then
    if c < 4 then .tach (30 + c / 2) (decide (c % 2 = 1)) else if c < 20 then .fieldIo (c - 4) else if c < 28 then .hkAin (c - 20)
    else .vddIo
  else if i = 50 then
    [Net.ppsIn, .ppsOut, .pwrfailN, .resetN, .refMeas, .vss, .qspiClk, .qspiCsN, .qspiIo 0, .qspiIo 1, .qspiIo 2, .qspiIo 3,
      .i2cScl 0, .i2cSda 0, .i2cScl 1, .i2cSda 1, .i2cScl 2, .i2cSda 2, .i2cScl 3, .i2cSda 3,
      .jtagTck, .jtagTms, .jtagTdi, .jtagTdo, .jtagTrstN, .uartTxd, .uartRxd, .testEn].getD c .vddIo
  else
    if c < 10 then .addrStrap c else if c = 10 then .cloverMember else if c = 11 then .cloverPref else if c = 12 then .rcalDdr
    else if c < 17 then .vddMram else if c < 22 then .vddIo else .rsvd

/-- The net at the ball of a row index and a column, each from 1 to 72 (R651). -/
def netAt (i j : Nat) : Net :=
  match tilePlace i j with
  | some (t, d, p) => tileNet t d p
  | none => match dramPlace i j with
    | some (n, e, q) => dramNet n e q
    | none => coreNet i j

/-- Nets of one row of balls. -/
def rowNets (i : Nat) : List Net := (List.range ballRows).map (fun j => netAt i (j + 1))

/-! ## What the output balls do (R666, R668, R682) -/

/-- What an output or bidirectional ball does. -/
inductive Drive where
  | highZ | idle | driven | low | high | input
  deriving DecidableEq, Repr, Inhabited

/-- RESET_N is asserted or an internal reset holds the hub (R681, R682). -/
def State.inReset (s : State) : Bool := s.mgmt.resetLow || s.mgmt.held

/-- The lane belongs to a port that has started bring-up and whose sender is not quiet (R433, R461). -/
def laneSends (s : State) (l : Nat) : Bool :=
  (List.range 16).any (fun p => (portLanes s p).contains l && decide ((s.port p).state ≠ .disabled) && decide ((s.port p).state ≠ .idle)
    && decide ((s.port p).tx.quiet ≠ .quiet))

/-- What the ball of a net does (R666); an input or a supply ball drives nothing. -/
def driveOf (s : State) (x : Net) : Drive :=
  let r := s.inReset
  match x with
  | .excOut g => if r || (s.group g).state = .off || (s.group g).state = .fault then .highZ else .driven
  | .fieldIo m => if r then .highZ else if (s.pin m).driven then (if (s.pin m).level then .high else .low) else .input
  | .ppsOut => if r then .highZ else if s.time.outHigh then .high else .low
  | .skyTx l _ => if r then .idle else if laneSends s l then .driven else .idle
  | .pcieTx _ _ => if r then .idle else .driven
  | .mgtTx _ => if r || s.outputsHeld || !s.time.ptp.on then .idle else .driven
  | .dca n _ _ | .dpar n _ | .dcs n _ _ | .dck n _ _ | .dq n _ _ | .cb n _ _ | .dqs n _ _ _ | .dreset n =>
    if r || !(s.dram n).populated then .highZ else .driven
  | .qspiClk | .qspiIo _ => if r then .highZ else .driven
  | .qspiCsN | .uartTxd => if r then .highZ else .high
  | .i2cScl _ | .i2cSda _ | .jtagTdo => .highZ
  | _ => .input

end Sys2Proof.Machine
end

