-- ==== Sys2Proof/Tests/Small.lean ====
section
/-! SUPPORT. Small states and commands for the tests: a hub whose PF has a session with one queue pair. -/

namespace Sys2Proof.Tests

open Sys2Proof Sys2Proof.Machine

/-- A hub whose PF holds tenant 0 with queue 0 of 16 entries. -/
def open0 : State :=
  { host := { funcs := [(0, { enable := true, ready := true, tenant := some 0 })], tenants := [(0, { used := true })]
              queues := [(0, { made := true, size := 16, cqSize := 16 })] } }

/-- A command of tenant 0 on queue 0 with a handle. -/
def cmd0 (h : BitVec 32) : Cmd := { tenant := 0, queue := 0, tag := 7, handle := h, flags := 0, stage := 0, outLen := 0, at_ := 0 }

/-- The six parts of `Runs` as one Boolean, so that a test decides it. -/
theorem runs_of {op : Nat} {c : Cmd} {s : State}
    (h : (takes (touch c.at_ s) c && !tagBusy (touch c.at_ s) c && !reservedFlags c.flags && !isMirrored op (touch c.at_ s)
      && (!privOps.contains op || decide (c.tenant = 0)) && !badBuffer c (touch c.at_ s)) = true) : Runs op c s := by
  simp only [Bool.and_eq_true, Bool.not_eq_true', Bool.or_eq_true, decide_eq_true_eq] at h
  obtain ⟨⟨⟨⟨⟨h1, h2⟩, h3⟩, h4⟩, h5⟩, h6⟩ := h
  exact ⟨h1, h2, h3, h4, h5, h6⟩

end Sys2Proof.Tests
end

