-- ==== Sys2Proof/Tests/Slice0.lean ====
section
/-! SUPPORT. The smoke tests of the well-formedness checks, the worked examples of the spec as tests of one operation each,
and one witness per statement of Certificates/Slice0/Obligations.lean: a state and operands that meet its hypotheses. -/

set_option maxRecDepth 4000

open Sys2Proof Sys2Proof.Machine

/-! ## Well-formed and ill-formed terms, one per check -/

theorem test_wf_object_below : (Instr.biasState 767).wf = true ∧ (Instr.biasState 768).wf = false := by decide
theorem test_wf_object_between : (Instr.spareSuspect 768).wf = true ∧ (Instr.spareSuspect 767).wf = false := by decide
theorem test_wf_field_fits : (Instr.excLimit 0 65535 0).wf = true ∧ (Instr.excLimit 0 65536 0).wf = false := by decide
theorem test_wf_signed_field_fits : (Instr.oscillatorRead 0 0 (-32768)).wf = true ∧ (Instr.oscillatorRead 0 0 (-32769)).wf = false := by decide
theorem test_wf_sensor : (Instr.housekeepingPeriod 196 0).wf = true ∧ (Instr.housekeepingPeriod 98 0).wf = false := by decide
theorem test_wf_pairs : (Instr.channelSet (Tests.cmd0 0) [⟨0, 255, 0⟩]).wf = true ∧ (Instr.channelSet (Tests.cmd0 0) [⟨0, 256, 0⟩]).wf = false := by decide
theorem test_wf_tt : (Instr.pinLaunch (Tests.cmd0 0) 0 true { frac := 65535 }).wf = true ∧
    (Instr.pinLaunch (Tests.cmd0 0) 0 true { frac := 65536 }).wf = false := by decide
theorem test_wf_descriptor : (Instr.descCreate (Tests.cmd0 0) { gsis := [0xFFFFFFFF] }).wf = true ∧
    (Instr.descCreate (Tests.cmd0 0) { gsis := [0x100000000] }).wf = false := by decide
theorem test_wf_command_entry : (Instr.identify (Tests.cmd0 0)).wf = true ∧ (Instr.identify { Tests.cmd0 0 with tenant := 64 }).wf = false := by decide
theorem test_wf_lane_list : (Instr.lossOfSignal 0 [3]).wf = true ∧ (Instr.lossOfSignal 0 [4]).wf = false := by decide
theorem test_wf_lane_count : (Instr.ts1 0 [{}, {}, {}, {}]).wf = true ∧ (Instr.ts1 0 [{}, {}, {}, {}, {}]).wf = false := by decide
theorem test_wf_wire_list : (Instr.tileLinkTrainingDone 0 [131]).wf = true ∧ (Instr.tileLinkTrainingDone 0 [132]).wf = false := by decide
theorem test_wf_link_width : (Instr.pcieLinkUp 5 16).wf = true ∧ (Instr.pcieLinkUp 5 32).wf = false := by decide
theorem test_wf_bias_list : (Instr.swathBoundary { bias := [(767, 0)], side := [11] }).wf = true ∧
    (Instr.swathBoundary { bias := [(768, 0)] }).wf = false ∧ (Instr.swathBoundary { side := [12] }).wf = false := by decide
theorem test_wf_mirrored_command : (Instr.command (.biasState 0) none 0).wf = true ∧ (Instr.command (.biasState 768) none 0).wf = false := by decide

/-! ## The worked examples of the spec -/

/-- 00, locating channel 517: tile 8, group 64, spares 832 to 839. -/
theorem test_channel_517 : tileOf 517 = 8 ∧ groupOf 517 = 64 ∧ sparesOf 8 = [832, 833, 834, 835, 836, 837, 838, 839] := by decide

/-- R272: cycles 1 and 2 of a second have NS 0 and 1 with FRAC 43,691 and 21,845. -/
theorem test_tt_of_cycles : ttOf (atCycle 1) = { sec := 0, ns := 0, frac := 43691 } ∧ ttOf (atCycle 2) = { sec := 0, ns := 1, frac := 21845 } := by decide

/-- 07, the short time of SEC 1,000 and NS 999,000,000 is 271,620,032. -/
theorem test_short_time : shortTime (instOf { sec := 1000, ns := 999000000 }) = 271620032 := by decide

/-- 04, LB at 25,600 S/s: n = 4, t = 0. 05: the step is 7,680,000,000, exactly. -/
theorem test_default_lb_rate : lhCount State.reset 0 = 4 ∧ ltCount State.reset 0 = 0 ∧ lrDelta State.reset 0 = 7680000000 := by decide

/-- 05, the removed delay of LB at 25,600 S/s is 1,526,846 cycles, 4 of them the front end's (R175). -/
theorem test_default_lb_delay : bandDelay State.reset 0 .lb = atCycle (1526846 - 4) := by decide

/-- 04, EB preset 1 at 12,800 S/s: m = 3. -/
theorem test_default_eb_rate : ebExp State.reset 0 = 3 := by decide

/-- 08, a default WB record at 46.875 MS/s: 46,875 samples, at most 140,817 bytes of payload, 140,928 bytes of ring. -/
theorem test_wb_record : windowItems State.reset 0 .wb 8 = 46875 ∧ worstPayload State.reset 0 .wb 8 = 140817 ∧
    worstRing State.reset 0 .wb 8 = 140928 := by decide

/-- 09, the first block of the items 100 and 104 from 1,022: eight bytes, M 428. -/
theorem test_spk_block : (packItems 1 [{ x := 100, st := 0 }, { x := 104, st := 0 }] 1022 (resetCtx 1 0 1022 true)).1 =
    [0x23, 0, 0x64, 0, 0, 0x68, 0, 0] ∧
    (packItems 1 [{ x := 100, st := 0 }, { x := 104, st := 0 }] 1022 (resetCtx 1 0 1022 true)).2.mean = 428 := by decide

/-- 07, after 60 s of holdover with y = 1 ppb, a = 0.0001 ppb/s and e0 = 1 ns the bound is 61.18 ns, here 245 quarters. -/
theorem test_holdover_bound :
    holdBound { time := { holdFrom := some 0, holdE0 := 4, yPpb := 1, aPpb := 1 } } (60 * secSpan) = 245 := by decide

/-- R22: 8,000 swaths of 187,500 cycles are one second. -/
theorem test_swath : Config.swathsPerSec * Config.swathCycles = Config.secCycles := by decide

/-- R386: hub address 0x12_3456_7840 of 8 channels with the 4 KiB grain is channel 7, channel address 9,773,434,944, subchannel 1. -/
theorem test_dram_place :
    let s : State := { mem := { pop := { channels := List.range 8, gib := 512 } } }
    dramChan s 0x1234567840 = 7 ∧ channelAddr s 0x1234567840 = 9773434944 ∧ (placeAt s 0x1234567840).sub = 1 := by decide

/-- R4, R9: ID_DEVICE reads 0x0768_CB17. -/
theorem test_id_device : readWord32 State.reset 0 0 = 0x0768CB17 := by decide

/-- R435: the first bit on the lane is bit 0 of the header; control is 01, data 10, and 00 and 11 are no header. -/
theorem test_block_header : readBlock (sendBlock true 5) = some (true, 5) ∧ readBlock (sendBlock false 5) = some (false, 5) ∧
    (sendBlock true 0).getLsbD 0 = true ∧ readBlock 0 = none ∧ readBlock 3 = none := by decide

/-- R12: byte 0 of a payload leaves first, its least significant bit first. -/
theorem test_block_bit_order : (sendBlock false (payloadBits [1#8])).getLsbD 2 = true ∧
    (sendBlock false (payloadBits [0#8, 0x80#8])).getLsbD 17 = true := by decide

/-- R422: a word comes out as it went in; a bit upset in the storage is found by its parity and tagged. -/
theorem test_fifo : (popWord 0 0 (pushWord 0 0 77 State.reset)).1 = some (77, false) ∧ (popWord 0 0 State.reset).1 = none ∧
    (popWord 0 0 ((pushWord 0 0 77 State.reset).modFifo (fifoKey 0 0) (Fifo.upset 5))).1.map (·.2) = some true := by decide

/-- 18, the examples: AIN_N[517] and AIN_P[517], and the ball of D5_DQS_B_t[7]. -/
theorem test_balls : rowName 72 = ['C', 'T'] ∧ ainBall 517 false = (72, 26) ∧ netAt 54 36 = .dqs 5 true 7 false := by decide

/-! ## One step each -/

/-- The part of a next state, or none. -/
def ofNext {α : Type} (o : Out) (f : State → α) : Option α := match o with | .next t => some (f t) | _ => none

/-- R590: IDENTIFY answers DONE with device ID 0x0768 in the first completion slot. -/
theorem test_identify : ofNext (exec (.identify (Tests.cmd0 0)) Tests.open0)
    (fun t => (((t.queue 0 0).ring.get 0).cpl.map (fun x => (x.tag, x.status, x.result.take 2)), (t.queue 0 0).cqTail)) =
    some (some (7#32, .done, [0x68#8, 0x07#8]), 1) := by decide

/-- R568: a reserved flag completes with BAD_PARAM. -/
theorem test_reserved_flag : ofNext (exec (.identify { Tests.cmd0 0 with flags := 8 }) Tests.open0)
    (fun t => ((t.queue 0 0).ring.get 0).cpl.map (·.status)) = some (some .badParam) := by decide

/-- R576: a setting with STAGE 0 and no APPLY_NOW is BAD_PARAM. -/
theorem test_stage_zero : ofNext (exec (.channelSet (Tests.cmd0 0x01000205) [⟨0, 0, 1⟩]) Tests.open0)
    (fun t => ((t.queue 0 0).ring.get 0).cpl.map (·.status)) = some (some .badParam) := by decide

/-- 15, the command that sets channel 517 is committed to the boundary 2 swaths ahead. -/
theorem test_channel_517_set : ofNext (exec (.channelSet { Tests.cmd0 0x01000205 with flags := 1 } [⟨0, 0, 1⟩, ⟨1, 0, 2⟩, ⟨3, 0, 1⟩, ⟨4, 1, 600⟩]) Tests.open0)
    (fun t => t.host.bank.map (fun k => (k.at_, k.now, k.stage.changes.map (·.objs)))) = some [(2, true, [[517]])] := by decide

/-- R575: a command marked S with a new stage opens it. -/
theorem test_stage_opens : ofNext (exec (.channelSet { Tests.cmd0 0x01000205 with stage := 4 } [⟨0, 0, 1⟩]) Tests.open0)
    (fun t => (t.host.stages.map (fun x => (x.id, x.tenant, x.changes.length)), ((t.queue 0 0).ring.get 0).cpl.map (·.status))) =
    some ([(4, 0, 1)], some .staged) := by decide

/-- R531: CLOVER_SWAP outside a formed pair is STATE. -/
theorem test_swap_unformed : ofNext (exec (.cloverSwap (Tests.cmd0 0)) Tests.open0)
    (fun t => ((t.queue 0 0).ring.get 0).cpl.map (·.status)) = some (some .state) := by decide

/-- R549: a write of a register while ENABLE is set is a violation of the function and changes nothing. -/
theorem test_write_while_enabled : ofNext (exec (.registerWrite 0 0x1008 8 4096 0) Tests.open0)
    (fun t => ((t.func 0).sqBase, (t.func 0).viols.length)) = some (0, 1) := by decide

/-- An event of an object that does not exist is the fault. -/
theorem test_no_such_channel : exec (.biasState 768) State.reset = .fault .noSuchObject := by rfl

/-- On an empty queue the block idles; with a command in front it carries the command out on the rest. -/
theorem test_step_front : step { pending := [.ppsOutPulseEnd, .lsaTimer] } = exec .ppsOutPulseEnd { pending := [.lsaTimer] } := by rfl

/-! ## Witnesses of the statements -/

theorem witness_StepRunsTheFrontCommand : (∃ s : State, s.pending = [.ppsOutPulseEnd, .lsaTimer]) ∧ State.reset.pending = [] :=
  ⟨⟨{ pending := [.ppsOutPulseEnd, .lsaTimer] }, rfl⟩, rfl⟩

theorem witness_EveryStepKeepsTheInvariants : ∃ s t : State, Safe s ∧ step s = .next t :=
  ⟨State.reset, journalTick State.reset,
    ⟨fun p h => (List.not_mem_nil h).elim, by decide, by decide, by decide, by decide, by decide, fun p h => (List.not_mem_nil h).elim⟩, rfl⟩

theorem witness_EveryCommandCompletes : eventOk (.biasState 767) = true ∧ eventOk (.biasState 768) = false := by decide

theorem witness_RefusedCommandsChangeNothing :
    ∃ (i : Instr) (op : Nat) (c : Cmd) (body : State → Reply × State) (s u : State), commandBody i = some (op, c, body) ∧ u = touch c.at_ s ∧
      Runs op c s ∧ 0x8000 ≤ statusCode (body u).1.status :=
  ⟨.identify (Tests.cmd0 0x01000000), _, _, _, Tests.open0, _, rfl, rfl, Tests.runs_of (by decide), by decide⟩

theorem witness_BusyTagsAndReservedFlagsAreBadParam :
    (∃ s : State, commandEntry (.identify (Tests.cmd0 0)) = some (Tests.cmd0 0) ∧ takes (touch 0 s) (Tests.cmd0 0) = true ∧
      tagBusy (touch 0 s) (Tests.cmd0 0) = true) ∧
    (takes (touch 0 Tests.open0) { Tests.cmd0 0 with flags := 8 } = true ∧ reservedFlags 8 = true) :=
  ⟨⟨{ Tests.open0 with host := { Tests.open0.host with tenants := [(0, { used := true, inExec := [{ queue := 0, tag := 7, fresh := false }] })] } },
    by decide, by decide, by decide⟩, by decide, by decide⟩

theorem witness_MirroredCommandsWaitForThePartner :
    (∃ (i : Instr) (op : Nat) (c : Cmd) (body : State → Reply × State) (s u : State) (r : Reply), commandBody i = some (op, c, body) ∧
      u = touch c.at_ s ∧ takes u c = true ∧ tagBusy u c = false ∧ reservedFlags c.flags = false ∧ u.clover.state = .formed ∧
      isMirrored op u = true ∧ r = (withMarks op c body u).1 ∧ statusCode r.status < 0x8000) ∧
    (∃ (i : Instr) (op : Nat) (c : Cmd) (body : State → Reply × State) (s u : State) (r : Reply), commandBody i = some (op, c, body) ∧
      u = touch c.at_ s ∧ takes u c = true ∧ tagBusy u c = false ∧ reservedFlags c.flags = false ∧ u.clover.state = .formed ∧
      isMirrored op u = true ∧ r = (withMarks op c body u).1 ∧ 0x8000 ≤ statusCode r.status) :=
  ⟨⟨.cloverSwap (Tests.cmd0 0), _, _, _, { Tests.open0 with clover := { state := .formed } }, _, _, rfl, rfl, by decide, by decide,
    by decide, by decide, by decide, rfl, by decide⟩,
   ⟨.descFree (Tests.cmd0 0x0A000000), _, _, _, { Tests.open0 with clover := { state := .formed } }, _, _, rfl, rfl, by decide, by decide,
    by decide, by decide, by decide, rfl, by decide⟩⟩

theorem witness_CompletionsWaitForRoom :
    ((Tests.open0.tenant 0).kind ≠ 2 ∧ (Tests.open0.queue 0 0).made = true ∧ (Tests.open0.queue 0 0).held = [] ∧
      (Tests.open0.queue 0 0).full = false) ∧
    (∃ (s : State) (i : Instr) (c : Cmd), (s.tenant 0).kind ≠ 2 ∧ (s.queue 0 0).made = true ∧ (s.queue 0 0).full = true ∧
      commandEntry i = some c ∧ c.tenant = 0 ∧ c.queue = 0) :=
  ⟨by decide, Tests.open0.modQueue 0 0 (fun k => { k with cqTail := 15, cqHead := 0 }), .identify (Tests.cmd0 0), Tests.cmd0 0,
    by decide, by decide, by decide, rfl, rfl, rfl⟩

theorem witness_FullPortsCountTheirEntries :
    (∃ q : JPort, 16 ≤ q.queue.length) ∧ (∃ q : JPort, q.queue.length < 16 ∧ q.dropped = 0) ∧
    (∃ q : JPort, q.queue.length < 15 ∧ q.dropped ≠ 0) ∧ (∃ q : JPort, q.queue.length = 15 ∧ q.dropped ≠ 0) ∧
    (∀ q : JPort, ∃ s : State, q = s.mgmt.ports.get 12) :=
  ⟨⟨{ queue := List.replicate 16 {} }, by decide⟩, ⟨{}, by decide⟩, ⟨{ dropped := 3 }, by decide⟩,
   ⟨{ queue := List.replicate 15 {}, dropped := 1 }, by decide⟩, fun q => ⟨{ mgmt := { ports := [(12, q)] } }, rfl⟩⟩

theorem witness_ViolationLogsKeepTheNewest :
    ((State.reset.func 63).viols.length < violDepth 63) ∧
    (∃ s : State, violDepth 0 ≤ (s.func 0).viols.length) ∧ 2 ≤ violDepth 63 :=
  ⟨by decide, ⟨State.reset.modFunc 0 (fun f => { f with viols := List.replicate 16 {} }), by decide⟩, by decide⟩

theorem witness_FrequencyMovesInBoundedSteps :
    (∃ s u : State, ∃ want f c n : Int, u = requestF want s ∧ f = s.time.fSeal.getD s.time.f ∧ c = within fLimit want ∧ n = f + within fStep (c - f) ∧
      -fLimit ≤ f ∧ f ≤ fLimit ∧ -fLimit ≤ want ∧ want ≤ fLimit ∧ -fStep ≤ want - f ∧ want - f ≤ fStep) ∧
    (∃ s u : State, ∃ want f c n : Int, u = requestF want s ∧ f = s.time.fSeal.getD s.time.f ∧ c = within fLimit want ∧ n = f + within fStep (c - f) ∧
      c ≠ want ∧ n ≠ c) :=
  ⟨⟨State.reset, _, fStep, _, _, _, rfl, rfl, rfl, rfl, by decide, by decide, by decide, by decide, by decide, by decide⟩,
   ⟨State.reset, _, fLimit + 1, _, _, _, rfl, rfl, rfl, rfl, by decide, by decide⟩⟩

theorem witness_CountersSaturateAtAllOnes :
    (∃ (s : State) (k n : Nat), (ctrOf s k).val + n < ctrTop k) ∧ (∃ (s : State) (k n : Nat), ctrTop k ≤ (ctrOf s k).val + n) ∧
    (∃ j k : Nat, j ≠ k) :=
  ⟨⟨State.reset, timeCtr 2, 1, by decide⟩, ⟨State.reset, timeCtr 2, ctrTop (timeCtr 2), by decide⟩, 0, 1, by decide⟩

theorem witness_DescriptorsInUseAreKept :
    (∃ (c : Cmd) (s u : State) (i : Nat), u = touch c.at_ s ∧ names 0x0A c = true ∧ i = hIndex c ∧ (u.red.descs.get i).isSome = true ∧
      u.red.descOwner.get i = c.tenant ∧ (∃ p ∈ u.red.units, p.2.on = true ∧ (p.2.current = some i ∨ p.2.head = some i)) ∧ Runs 0x0505 c s) ∧
    (∃ (c : Cmd) (s u : State) (i : Nat) (d : Descriptor), u = touch c.at_ s ∧ names 0x0A c = true ∧ i = hIndex c ∧
      (u.red.descs.get i).isSome = true ∧ u.red.descOwner.get i = c.tenant ∧ (∃ x ∈ u.red.tussocks, x.desc = i ∧ x.state = 0) ∧
      Runs 0x0504 c s ∧ firstFail (descChecks d u) = none) :=
  ⟨⟨Tests.cmd0 0x0A000002, { Tests.open0 with red := { descs := [(2, some {})], units := [(0, { on := true, head := some 2 })] } }, _, _,
    rfl, by decide, rfl, by decide, by decide, ⟨_, List.mem_singleton.2 rfl, by decide, by decide⟩, Tests.runs_of (by decide)⟩,
   ⟨Tests.cmd0 0x0A000002, { Tests.open0 with red := { descs := [(2, some {})], tussocks := [{ desc := 2 }] }, mgmt := { startup := .ready } }, _, _,
    { gsis := [0x100] }, rfl, by decide, rfl, by decide, by decide, ⟨_, List.mem_singleton.2 rfl, by decide, by decide⟩,
    Tests.runs_of (by decide), by decide⟩⟩

theorem witness_SystemReadsReport :
    ∃ (c : Cmd) (s : State), names 0 c = true ∧ Runs 0x0100 c s ∧ Runs 0x0101 c s ∧ Runs 0x0102 c s ∧ Runs 0x0B02 c s ∧
      Runs 0x0B03 c s ∧ c.tenant = 0 ∧ (∃ j, (touch c.at_ s).host.journal.find? (fun r => r.is (0, 0) 9#32) = some j ∧
        64 + 12 * j.objs.length ≤ bufLen c) :=
  ⟨{ Tests.cmd0 0 with flags := 2, outLen := 64 }, { Tests.open0 with host := { Tests.open0.host with journal := [{ tag := 9 }] } },
    by decide, ⟨by decide, by decide, by decide, by decide, by decide, by decide⟩, ⟨by decide, by decide, by decide, by decide, by decide, by decide⟩,
    ⟨by decide, by decide, by decide, by decide, by decide, by decide⟩, ⟨by decide, by decide, by decide, by decide, by decide, by decide⟩,
    ⟨by decide, by decide, by decide, by decide, by decide, by decide⟩, by decide, { tag := 9 }, by decide, by decide⟩

theorem witness_QueueCommandsActOnTheQueue :
    (∃ s : State, ∃ c : Cmd, ∃ u, ∃ sqSize : Nat, ∃ vector : Nat, ∃ cqSize : Nat, u = touch c.at_ s ∧ Runs 0x0104 c s ∧ hClass c = 0x10 ∧ 1 ≤ hIndex c ∧ hIndex c ≤ 3 ∧ (u.queue c.tenant (hIndex c)).made = false ∧ 16 ≤ sqSize ∧ sqSize ≤ 4096 ∧ 16 ≤ cqSize ∧ cqSize ≤ 4096 ∧ ((vector ≤ 7 ∨ vector = 0xFF))) ∧
    (∃ s : State, ∃ c : Cmd, ∃ u, ∃ sqSize : Nat, ∃ vector : Nat, ∃ cqSize : Nat, ∃ v, u = touch c.at_ s ∧ Runs 0x0104 c s ∧ hClass c = 0x10 ∧ 4 ≤ hIndex c ∧ hIndex c ≤ 7 ∧ (u.queue c.tenant (hIndex c)).made = false ∧ v = (if (u.tenant c.tenant).hasDma then u else u.modTenant c.tenant (fun x => { x with hasDma := true })) ∧ (((u.tenant c.tenant).hasDma = true ∨ boundAllows v = true)) ∧ 1 ≤ sqSize ∧ sqSize ≤ 65535 ∧ 1 ≤ cqSize ∧ cqSize ≤ 65535 ∧ ((vector ≤ 7 ∨ vector = 0xFF))) ∧
    (∃ s : State, ∃ c : Cmd, ∃ u, u = touch c.at_ s ∧ Runs 0x0105 c s ∧ hClass c = 0x10 ∧ 1 ≤ hIndex c ∧ hIndex c ≤ 7 ∧ (u.queue c.tenant (hIndex c)).made = true ∧ ((hIndex c < 4 ∨ boundSubs u c.tenant (hIndex c - 4) = []))) ∧
    (∃ s : State, ∃ c : Cmd, ∃ u, u = touch c.at_ s ∧ Runs 0x0106 c s ∧ hClass c = 0x10 ∧ 4 ≤ hIndex c ∧ hIndex c ≤ 7 ∧ (u.queue c.tenant (hIndex c)).made = true) :=
  ⟨⟨Tests.open0, Tests.cmd0 0x10000003, _, 16, 0xFF, 4096, rfl, Tests.runs_of (by decide), by decide, by decide, by decide, by decide, by decide, by decide, by decide, by decide, by decide⟩,
   ⟨Tests.open0.modTenant 0 (fun x => { x with hasDma := true }), Tests.cmd0 0x10000007, _, 65535, 7, 1, _, rfl, Tests.runs_of (by decide), by decide, by decide, by decide, by decide, rfl, by decide, by decide, by decide, by decide, by decide, by decide⟩,
   ⟨Tests.open0.modQueue 0 1 (fun x => { x with made := true }), Tests.cmd0 0x10000001, _, rfl, Tests.runs_of (by decide), by decide, by decide, by decide, by decide, by decide⟩,
   ⟨Tests.open0.modQueue 0 4 (fun x => { x with made := true, stopped := true }), Tests.cmd0 0x10000004, _, rfl, Tests.runs_of (by decide), by decide, by decide, by decide, by decide⟩⟩

theorem witness_StageCommandsActOnStages :
    (∃ s : State, ∃ c : Cmd, ∃ u x, u = touch c.at_ s ∧ Runs 0x0107 c s ∧ names 0 c = true ∧ openStage u c.stage = some x ∧ ((c.tenant = 0 ∨ stageMine u c.stage c.tenant = true))) ∧
    (∃ s : State, ∃ c : Cmd, ∃ u k, u = touch c.at_ s ∧ Runs 0x0107 c s ∧ names 0 c = true ∧ openStage u c.stage = none ∧ sealedStage u c.stage = some k ∧ ((c.tenant = 0 ∨ stageMine u c.stage c.tenant = true))) ∧
    (∃ s : State, ∃ c : Cmd, ∃ u x, u = touch c.at_ s ∧ Runs 0x0108 c s ∧ names 0 c = true ∧ openStage u c.stage = some x ∧ sealedStage u c.stage = none ∧ stageMine u c.stage c.tenant = true) ∧
    (∃ s : State, ∃ c : Cmd, ∃ u, ∃ sec : Nat, ∃ swath : Nat, ∃ x b, u = touch c.at_ s ∧ Runs 0x0109 c s ∧ names 0 c = true ∧ netFlag c = false ∧ openStage u c.stage = some x ∧ stageMine u c.stage c.tenant = true ∧ x.prepared = none ∧ ((swath < Config.swathsPerSec ∨ swath = 0xFFFF)) ∧ b = (if swath = 0xFFFF then max (soonest u 2) (lastCommit u) else sec * Config.swathsPerSec + swath) ∧ lastCommit u ≤ b ∧ soonest u 2 ≤ b ∧ firstFail (commitChecks b x.changes u) = none ∧ u.host.bank.length < 64) ∧
    (∃ s : State, ∃ c : Cmd, ∃ u, ∃ sec : Nat, ∃ swath : Nat, ∃ targets : List Nat, ∃ b v, u = touch c.at_ s ∧ Runs 0x0109 c s ∧ names 0 c = true ∧ netFlag c = true ∧ c.stage ≠ 0 ∧ ((swath < Config.swathsPerSec ∨ swath = 0xFFFF)) ∧ b = (if swath = 0xFFFF then max (soonest u 16) (lastCommit u) else sec * Config.swathsPerSec + swath) ∧ soonest u 16 ≤ b ∧ 1 ≤ targets.length ∧ targets.length ≤ 1022 ∧ ((∀ h ∈ targets, 1 ≤ h ∧ h ≤ 1022)) ∧ netOf u c.stage = none ∧ v = each (targets.eraseDups.filter (fun h => decide (h ≠ u.sky.hub))) (fun h s => sendMsg { kind := 1, dest := h, a := c.stage, b := b } s) { u with host := { u.host with nets := u.host.nets ++ [{ stage := c.stage, at_ := b, tenant := c.tenant, queue := c.queue, tag := c.tag, targets := targets.eraseDups }] } } ∧ u.sky.hub ∉ targets.eraseDups ∧ v.sky.hub = u.sky.hub) :=
  ⟨⟨{ Tests.open0 with host := { Tests.open0.host with stages := [{ id := 4 }] } }, { Tests.cmd0 0 with stage := 4 }, _, { id := 4 }, rfl, Tests.runs_of (by decide), by decide, by decide, by decide⟩,
   ⟨{ Tests.open0 with host := { Tests.open0.host with bank := [{ stage := { id := 4 } }] } }, { Tests.cmd0 0 with stage := 4 }, _, { stage := { id := 4 } }, rfl, Tests.runs_of (by decide), by decide, by decide, by decide, by decide⟩,
   ⟨{ Tests.open0 with host := { Tests.open0.host with stages := [{ id := 4 }] } }, { Tests.cmd0 0 with stage := 4 }, _, { id := 4 }, rfl, Tests.runs_of (by decide), by decide, by decide, by decide, by decide⟩,
   ⟨{ Tests.open0 with host := { Tests.open0.host with stages := [{ id := 4 }] } }, { Tests.cmd0 0 with stage := 4 }, _, 0, 2, { id := 4 }, _, rfl, Tests.runs_of (by decide), by decide, by decide, by decide, by decide, by decide, by decide, rfl, by decide, by decide, by decide, by decide⟩,
   ⟨Tests.open0, { Tests.cmd0 0 with stage := 4, flags := 4 }, _, 0, 0xFFFF, [1022], _, _, rfl, Tests.runs_of (by decide), by decide, by decide, by decide, by decide, rfl, by decide, by decide, by decide, by decide, by decide, rfl, by decide, by decide⟩⟩

theorem witness_ResetPartResetsThePart :
    (∃ s : State, ∃ c : Cmd, ∃ u, u = touch c.at_ s ∧ Runs 0x0103 c s ∧ names 4 c = true ∧ (u.tile (hIndex c)).sideFail = false) ∧
    (∃ s : State, ∃ c : Cmd, ∃ u, u = touch c.at_ s ∧ Runs 0x0103 c s ∧ names 4 c = true ∧ (u.tile (hIndex c)).sideFail = true) ∧
    (∃ s : State, ∃ c : Cmd, ∃ u, u = touch c.at_ s ∧ Runs 0x0103 c s ∧ names 0x0D c = true ∧ (u.port (hIndex c)).state ≠ .disabled) ∧
    (∃ s : State, ∃ c : Cmd, ∃ u, u = touch c.at_ s ∧ Runs 0x0103 c s ∧ names 0 c = true) :=
  ⟨⟨Tests.open0, Tests.cmd0 0x0400000B, _, rfl, Tests.runs_of (by decide), by decide, by decide⟩,
   ⟨Tests.open0.modTile 11 (fun x => { x with sideFail := true }), Tests.cmd0 0x0400000B, _, rfl, Tests.runs_of (by decide), by decide, by decide⟩,
   ⟨Tests.open0.modPort 15 (fun x => { x with state := .up }), Tests.cmd0 0x0D00000F, _, rfl, Tests.runs_of (by decide), by decide, by decide⟩,
   ⟨Tests.open0, Tests.cmd0 0, _, rfl, Tests.runs_of (by decide), by decide⟩⟩

theorem witness_StagingCommandsJoinTheirStage :
    (∃ s : State, ∃ c : Cmd, ∃ u, ∃ i : Instr, ∃ op : Nat, ∃ ch x formed prior, u = touch c.at_ s ∧ Runs op c s ∧ stagingRow i = some (op, c, ch, formed) ∧ formed = true ∧ c.stage ≠ 0 ∧ ((names (stagedClass op) c = true ∨ namesAll (stagedClass op) c = true)) ∧ x = stagedAs op c ch ∧ x.objs ≠ [] ∧ stageMine u c.stage c.tenant = true ∧ sealedStage u c.stage = none ∧ (openStage u c.stage).bind (·.prepared) = none ∧ prior = ((openStage u c.stage).map (·.changes)).getD [] ∧ firstFail (stageChecks x prior u) = none ∧ (((openStage u c.stage).isSome = true ∨ u.host.stages.length < 256)) ∧ prior.length < 4096) :=
  ⟨Tests.open0, { Tests.cmd0 0x010002FF with stage := 4 }, _, .channelSet ({ Tests.cmd0 0x010002FF with stage := 4 }) [{ row := 0, part := 0, value := 0 }], 0x0200, { pairs := [{ row := 0, part := 0, value := 0 }] }, _, true, _, rfl, Tests.runs_of (by decide), rfl, by decide, by decide, by decide, rfl, by decide, by decide, by decide, by decide, rfl, by decide, by decide, by decide⟩

theorem witness_ApplyNowCommitsAtOnce :
    (∃ s : State, ∃ c : Cmd, ∃ u, ∃ i : Instr, ∃ op : Nat, ∃ ch x formed, u = touch c.at_ s ∧ Runs op c s ∧ stagingRow i = some (op, c, ch, formed) ∧ formed = true ∧ c.stage = 0 ∧ applyNow c = true ∧ ((names (stagedClass op) c = true ∨ namesAll (stagedClass op) c = true)) ∧ x = stagedAs op c ch ∧ x.objs ≠ [] ∧ firstFail (commitChecks (soonest u 2) [x] u) = none ∧ u.host.bank.length < 64) :=
  ⟨Tests.open0, { Tests.cmd0 0x01000000 with flags := 1 }, _, .channelSet ({ Tests.cmd0 0x01000000 with flags := 1 }) [{ row := 0, part := 0, value := 0 }], 0x0200, { pairs := [{ row := 0, part := 0, value := 0 }] }, _, true, rfl, Tests.runs_of (by decide), rfl, by decide, by decide, by decide, by decide, rfl, by decide, by decide, by decide⟩

theorem witness_StagedChangeEntersItsStageAlone : ∃ id j : Nat, j ≠ id := ⟨4, 5, by decide⟩

theorem witness_ChannelReportsChangeNothing :
    (∃ s : State, ∃ c : Cmd, ∃ u, u = touch c.at_ s ∧ Runs 0x0201 c s ∧ names 1 c = true) ∧
    (∃ s : State, ∃ c : Cmd, ∃ u, u = touch c.at_ s ∧ Runs 0x0203 c s ∧ names 3 c = true) ∧
    (∃ s : State, ∃ c : Cmd, ∃ u, ∃ sel : Nat, u = touch c.at_ s ∧ Runs 0x0206 c s ∧ names 1 c = true ∧ sel ≤ 1) ∧
    (∃ s : State, ∃ c : Cmd, ∃ u f, u = touch c.at_ s ∧ Runs 0x0302 c s ∧ names 5 c = true ∧ f = chainFig u (hIndex c / 4) (bandOf (hIndex c % 4))) :=
  ⟨⟨Tests.open0, Tests.cmd0 0x010002FF, _, rfl, Tests.runs_of (by decide), by decide⟩,
   ⟨Tests.open0, Tests.cmd0 0x0300005F, _, rfl, Tests.runs_of (by decide), by decide⟩,
   ⟨Tests.open0, Tests.cmd0 0x01000000, _, 1, rfl, Tests.runs_of (by decide), by decide, by decide⟩,
   ⟨Tests.open0, Tests.cmd0 0x05000002, _, _, rfl, Tests.runs_of (by decide), by decide, rfl⟩⟩

theorem witness_CalibrationCommandsOrderTheirWork :
    (∃ s : State, ∃ c : Cmd, ∃ u m, u = touch c.at_ s ∧ Runs 0x0205 c s ∧ names 1 c = true ∧ m = mainMod u (hIndex c) ∧ (u.modu m).calTag = none ∧ (u.tile (tileOf m)).started = true ∧ noModulator u m = false ∧ channelOf u m = some (hIndex c)) ∧
    (∃ s : State, ∃ c : Cmd, ∃ u, ∃ pairs : List Pair, ∃ sel clr len thr, ∃ v : State, u = touch c.at_ s ∧ Runs 0x0207 c s ∧ names 0 c = true ∧ pairsOk pairs = true ∧ withPairs setCal pairs (u.front.figCount, false, u.front.runLen, u.front.applyThr) = some (sel, clr, len, thr) ∧ v = { u with front := { u.front with figCount := sel, runLen := len, applyThr := thr } }) ∧
    (∃ s : State, ∃ c : Cmd, ∃ u, ∃ spare : Nat, ∃ m, u = touch c.at_ s ∧ Runs 0x0208 c s ∧ names 1 c = true ∧ (u.chan (hIndex c)).cover = none ∧ (u.tile (tileOf (hIndex c))).started = true ∧ ((spare = 0xFFFF ∧ pickSpare u (tileOf (hIndex c)) 2 = some m ∨ spare ≠ 0xFFFF ∧ spare ∈ sparesOf (tileOf (hIndex c)) ∧ canTake u 2 spare = true ∧ m = spare))) ∧
    (∃ s : State, ∃ c : Cmd, ∃ u, ∃ spare : Nat, ∃ m, u = touch c.at_ s ∧ Runs 0x0208 c s ∧ names 1 c = true ∧ (u.chan (hIndex c)).cover = none ∧ (u.tile (tileOf (hIndex c))).started = true ∧ ((spare = 0xFFFF ∧ pickSpare u (tileOf (hIndex c)) 2 = some m ∨ spare ≠ 0xFFFF ∧ spare ∈ sparesOf (tileOf (hIndex c)) ∧ canTake u 2 spare = true ∧ m = spare))) ∧
    (∃ s : State, ∃ c : Cmd, ∃ u cv, u = touch c.at_ s ∧ Runs 0x0209 c s ∧ names 1 c = true ∧ (u.chan (hIndex c)).cover = some cv ∧ cv.ordered = true) ∧
    (∃ s : State, ∃ c : Cmd, ∃ u, u = touch c.at_ s ∧ Runs 0x020A c s ∧ names 2 c = true ∧ recorded u (hIndex c) = false) ∧
    (∃ s : State, ∃ c : Cmd, ∃ u, u = touch c.at_ s ∧ Runs 0x020A c s ∧ names 2 c = true ∧ recorded u (hIndex c) = true) ∧
    (∃ s : State, ∃ c : Cmd, ∃ u, ∃ on : Bool, u = touch c.at_ s ∧ Runs 0x0C06 c s ∧ names 2 c = true ∧ namesAll 2 c = false ∧ ((on = true ∨ isSource u (hIndex c) = false)) ∧ tileReached u (hIndex c) = true) ∧
    (∃ s : State, ∃ c : Cmd, ∃ u, ∃ on : Bool, ∃ may, u = touch c.at_ s ∧ Runs 0x0C06 c s ∧ namesAll 2 c = true ∧ may = (allIndices 2).filter (fun m => on || !isSource u m) ∧ ((on = true ∨ may.any (fun m => !isSource u m) = true))) :=
  ⟨⟨Tests.open0.modTile 11 (fun x => { x with started := true }), Tests.cmd0 0x010002FF, _, _, rfl, Tests.runs_of (by decide), by decide, rfl, by decide, by decide, by decide, by decide⟩,
   ⟨Tests.open0, Tests.cmd0 0, _, [{ row := 2, part := 0, value := 64 }], false, false, 64, -120, _, rfl, Tests.runs_of (by decide), by decide, by decide, by decide, rfl⟩,
   ⟨Tests.open0.modTile 0 (fun x => { x with started := true }), Tests.cmd0 0x01000000, _, 0xFFFF, 768, rfl, Tests.runs_of (by decide), by decide, by decide, by decide, by decide⟩,
   ⟨Tests.open0.modTile 0 (fun x => { x with started := true }), Tests.cmd0 0x01000000, _, 775, 775, rfl, Tests.runs_of (by decide), by decide, by decide, by decide, by decide⟩,
   ⟨Tests.open0.modChan 0 (fun x => { x with cover := some { ordered := true } }), Tests.cmd0 0x01000000, _, { ordered := true }, rfl, Tests.runs_of (by decide), by decide, by decide, by decide⟩,
   ⟨Tests.open0, Tests.cmd0 0x0200035F, _, rfl, Tests.runs_of (by decide), by decide, by decide⟩,
   ⟨Tests.open0.modSpare 863 (fun x => { x with state := .failed }), Tests.cmd0 0x0200035F, _, rfl, Tests.runs_of (by decide), by decide, by decide⟩,
   ⟨Tests.open0, Tests.cmd0 0x0200035F, _, false, rfl, Tests.runs_of (by decide), by decide, by decide, by decide, by decide⟩,
   ⟨Tests.open0, Tests.cmd0 0x02FFFFFF, _, true, _, rfl, Tests.runs_of (by decide), by decide, rfl, by decide⟩⟩

theorem witness_ShaftAndTriggerReportsChangeNothing :
    (∃ s : State, ∃ c : Cmd, ∃ u, u = touch c.at_ s ∧ Runs 0x0401 c s ∧ names 7 c = true) ∧
    (∃ s : State, ∃ c : Cmd, ∃ u, u = touch c.at_ s ∧ Runs 0x0403 c s ∧ names 8 c = true) ∧
    (∃ s : State, ∃ c : Cmd, ∃ u, u = touch c.at_ s ∧ Runs 0x0502 c s ∧ names 9 c = true) ∧
    (∃ s : State, ∃ c : Cmd, ∃ u, u = touch c.at_ s ∧ Runs 0x0508 c s ∧ names 0 c = true ∧ 32 * u.red.refusals.length ≤ bufLen c) :=
  ⟨⟨Tests.open0, Tests.cmd0 0x0700000B, _, rfl, Tests.runs_of (by decide), by decide⟩,
   ⟨Tests.open0, Tests.cmd0 0x0800000B, _, rfl, Tests.runs_of (by decide), by decide⟩,
   ⟨Tests.open0, Tests.cmd0 0x09000000, _, rfl, Tests.runs_of (by decide), by decide⟩,
   ⟨{ Tests.open0 with red := { refusals := [{}] } }, { Tests.cmd0 0 with flags := 2, outLen := 32 }, _, rfl, Tests.runs_of (by decide), by decide, by decide⟩⟩

theorem witness_TriggerCommandsSetTheirObjects :
    (∃ s : State, ∃ c : Cmd, ∃ u, u = touch c.at_ s ∧ Runs 0x0404 c s ∧ names 8 c = true ∧ (u.shaft (hIndex c)).state = .time ∧ (u.shaft (hIndex c)).command = true ∧ (u.shaft (hIndex c)).mayReturn = true ∧ boundCopies u (hIndex c) = false) ∧
    (∃ s : State, ∃ c : Cmd, ∃ u, ∃ d : Descriptor, ∃ i, ∃ v : State, u = touch c.at_ s ∧ Runs 0x0503 c s ∧ names 0 c = true ∧ firstFail (descChecks d u) = none ∧ freeDesc u = some i ∧ v = { u with red := { u.red with descs := u.red.descs.set i (some d), descOwner := u.red.descOwner.set i c.tenant } }) ∧
    (∃ s : State, ∃ c : Cmd, ∃ u, ∃ d : Descriptor, u = touch c.at_ s ∧ Runs 0x0504 c s ∧ names 0x0A c = true ∧ (u.red.descs.get (hIndex c)).isSome = true ∧ u.red.descOwner.get (hIndex c) = c.tenant ∧ descBusy u (hIndex c) = false ∧ firstFail (descChecks d u) = none) ∧
    (∃ s : State, ∃ c : Cmd, ∃ u, u = touch c.at_ s ∧ Runs 0x0505 c s ∧ names 0x0A c = true ∧ (u.red.descs.get (hIndex c)).isSome = true ∧ u.red.descOwner.get (hIndex c) = c.tenant ∧ descBusy u (hIndex c) = false) ∧
    (∃ s : State, ∃ c : Cmd, ∃ u, ∃ target : Nat, u = touch c.at_ s ∧ Runs 0x0506 c s ∧ names 9 c = true ∧ ((target < 65536 ∨ target = 0xFFFFFFFF))) ∧
    (∃ s : State, ∃ c : Cmd, ∃ u, ∃ target : Nat, u = touch c.at_ s ∧ Runs 0x0506 c s ∧ names 9 c = true ∧ ((target < 65536 ∨ target = 0xFFFFFFFF))) :=
  ⟨⟨Tests.open0.modShaft 0 (fun x => { x with state := .time, command := true, mayReturn := true }), Tests.cmd0 0x08000000, _, rfl, Tests.runs_of (by decide), by decide, by decide, by decide, by decide, by decide⟩,
   ⟨{ Tests.open0 with mgmt := { startup := .ready } }, Tests.cmd0 0, _, { gsis := [0x100] }, 0, _, rfl, Tests.runs_of (by decide), by decide, by decide, by decide, rfl⟩,
   ⟨{ Tests.open0 with mgmt := { startup := .ready }, red := { descs := [(2, some {})] } }, Tests.cmd0 0x0A000002, _, { gsis := [0x100] }, rfl, Tests.runs_of (by decide), by decide, by decide, by decide, by decide, by decide⟩,
   ⟨{ Tests.open0 with red := { descs := [(2, some {})] } }, Tests.cmd0 0x0A000002, _, rfl, Tests.runs_of (by decide), by decide, by decide, by decide, by decide⟩,
   ⟨Tests.open0, Tests.cmd0 0x09000000, _, 65535, rfl, Tests.runs_of (by decide), by decide, by decide⟩,
   ⟨Tests.open0, Tests.cmd0 0x09000000, _, 0xFFFFFFFF, rfl, Tests.runs_of (by decide), by decide, by decide⟩⟩

theorem witness_SubscriptionCommandsActOnTheSubscription :
    (∃ s : State, ∃ c : Cmd, ∃ u, ∃ pairs : List Pair, ∃ a i, ∃ v : State, ∃ w, u = touch c.at_ s ∧ Runs 0x0600 c s ∧ hClass c = 0x0B ∧ kindOf (hIndex c) ≠ 15 ∧ streamThere u (hIndex c) = true ∧ pairsOk pairs = true ∧ withPairs setSub pairs {} = some a ∧ lagOk u (hIndex c) a = true ∧ ((a.autoAck = none ∨ a.bestEffort = true)) ∧ (u.queue c.tenant (4 + a.queue)).made = true ∧ classFits u c.tenant a.queue a.bulk = true ∧ ofOffChannel u (hIndex c) = false ∧ dramServes u = true ∧ freeSub u = some i ∧ v = { u with str := { u.str with subs := u.str.subs.set i (some (newSub c (hIndex c) a u)) } } ∧ ((a.bulk = true ∨ boundHolds v = true)) ∧ w = v.modQueue c.tenant (4 + a.queue) (fun q => { q with cls := some a.bulk })) ∧
    (∃ s : State, ∃ c : Cmd, ∃ u x, u = touch c.at_ s ∧ Runs 0x0601 c s ∧ hClass c = 0x0C ∧ u.sub (hIndex c) = some x ∧ (x.keyKind, x.keyId) = keyOf (u.tenant c.tenant) ∧ x.state ≠ .closed) ∧
    (∃ s : State, ∃ c : Cmd, ∃ u x, ∃ n : Nat, u = touch c.at_ s ∧ Runs 0x0603 c s ∧ hClass c = 0x0C ∧ u.sub (hIndex c) = some x ∧ (x.keyKind, x.keyId) = keyOf (u.tenant c.tenant) ∧ x.state ≠ .closed ∧ n + 1 ≤ x.delivered ∧ u.frozen = false) ∧
    (∃ s : State, ∃ c : Cmd, ∃ u x, ∃ m : Nat, u = touch c.at_ s ∧ Runs 0x0604 c s ∧ hClass c = 0x0C ∧ u.sub (hIndex c) = some x ∧ (x.keyKind, x.keyId) = keyOf (u.tenant c.tenant) ∧ m ≤ x.delivered ∧ ((x.state = .active ∨ x.state = .stalled))) ∧
    (∃ s : State, ∃ c : Cmd, ∃ u x, ∃ q : Nat, ∃ v w, u = touch c.at_ s ∧ Runs 0x0605 c s ∧ hClass c = 0x0C ∧ u.sub (hIndex c) = some x ∧ (x.keyKind, x.keyId) = keyOf (u.tenant c.tenant) ∧ q < 4 ∧ x.state = .detached ∧ (u.queue c.tenant (4 + q)).made = true ∧ classFits u c.tenant q x.bulk = true ∧ v = each x.recorded (fun d s => putDma c.tenant (4 + q) { d with queue := q } s) u ∧ w = v.modSub (hIndex c) (fun y => { y with recorded := [], tenant := c.tenant })) :=
  ⟨⟨({ Tests.open0 with mgmt := { startup := .cal } } : State).modQueue 0 4 (fun x => { x with made := true }), Tests.cmd0 0x0B000100, _, [{ row := 4, part := 0, value := 0 }], {}, 0, _, _, rfl, Tests.runs_of (by decide), by decide, by decide, by decide, by decide, by decide, by decide, by decide, by decide, by decide, by decide, by decide, by decide +kernel, rfl, by decide, rfl⟩,
   ⟨{ Tests.open0 with str := { subs := [(1, some { delivered := 9 })] } }, Tests.cmd0 0x0C000001, _, { delivered := 9 }, rfl, Tests.runs_of (by decide), by decide, by decide, by decide, by decide⟩,
   ⟨{ Tests.open0 with str := { subs := [(1, some { delivered := 9 })] } }, Tests.cmd0 0x0C000001, _, { delivered := 9 }, 8, rfl, Tests.runs_of (by decide), by decide, by decide, by decide, by decide, by decide, by decide⟩,
   ⟨{ Tests.open0 with str := { subs := [(1, some { delivered := 9 })] } }, Tests.cmd0 0x0C000001, _, { delivered := 9 }, 9, rfl, Tests.runs_of (by decide), by decide, by decide, by decide, by decide, by decide⟩,
   ⟨({ Tests.open0 with str := { subs := [(1, some { state := .detached })] } } : State).modQueue 0 7 (fun x => { x with made := true }), Tests.cmd0 0x0C000001, _, { state := .detached }, 3, _, _, rfl, Tests.runs_of (by decide), by decide, by decide, by decide, by decide, by decide, by decide, by decide, rfl, rfl⟩⟩

theorem witness_StreamReportsAndSpkJobs :
    (∃ s : State, ∃ c : Cmd, ∃ u x, u = touch c.at_ s ∧ Runs 0x0602 c s ∧ hClass c = 0x0C ∧ u.sub (hIndex c) = some x ∧ ((c.tenant = 0 ∨ (x.keyKind, x.keyId) = keyOf (u.tenant c.tenant)))) ∧
    (∃ s : State, ∃ c : Cmd, ∃ u, u = touch c.at_ s ∧ Runs 0x0608 c s ∧ names 0 c = true) ∧
    (∃ s : State, ∃ c : Cmd, ∃ u, ∃ q : Nat, ∃ j : JobIn, u = touch c.at_ s ∧ Runs 0x0607 c s ∧ q < 4 ∧ (u.queue c.tenant (4 + q)).made = true ∧ dramServes u = true ∧ ((j.resume = true ∨ JobInOk j = false))) ∧
    (∃ s : State, ∃ c : Cmd, ∃ u, ∃ q : Nat, ∃ j : JobIn, ∃ gen, u = touch c.at_ s ∧ Runs 0x0607 c s ∧ q < 4 ∧ (u.queue c.tenant (4 + q)).made = true ∧ dramServes u = true ∧ j.resume = false ∧ JobInOk j = true ∧ gen = ((u.str.gens.get c.tenant).map (fun g => (g + 1) % 2 ^ 31)).getD 0) ∧
    (∃ s : State, ∃ t : Nat, ∃ tag : BitVec 32, ∃ x o b, ∃ v : State, s.str.jobs.find? (fun y => decide (y.tenant = t) && decide (y.tag = tag)) = some x ∧ s.mgmt.level = 0 ∧ o = runJob x none ∧ (b = OutBuf.mk t tag o.out o.stats (if x.job.save = true ∧ o.reason ≠ 5 ∧ o.reason ≠ 6 then ctxBytes o.ctx else [])) ∧ v = { s with str := { s.str with jobs := s.str.jobs.filter (fun y => !(decide (y.tenant = t) && decide (y.tag = tag))) } }) :=
  ⟨⟨{ Tests.open0 with str := { subs := [(1, some { gsi := 0 })] } }, Tests.cmd0 0x0C000001, _, { gsi := 0 }, rfl, Tests.runs_of (by decide), by decide, by decide, by decide⟩,
   ⟨Tests.open0, Tests.cmd0 0, _, rfl, Tests.runs_of (by decide), by decide⟩,
   ⟨({ Tests.open0 with mgmt := { startup := .cal } } : State).modQueue 0 7 (fun x => { x with made := true }), Tests.cmd0 0, _, 3, { resume := true }, rfl, Tests.runs_of (by decide), by decide, by decide, by decide, by decide⟩,
   ⟨({ Tests.open0 with mgmt := { startup := .cal } } : State).modQueue 0 4 (fun x => { x with made := true }), Tests.cmd0 0, _, 0, { count := 1 }, _, rfl, Tests.runs_of (by decide), by decide, by decide, by decide, by decide, by decide, rfl⟩,
   ⟨({ str := { jobs := [{ tag := 7 }] } } : State), 0, 7, { tag := 7 }, _, _, _, by decide, by decide, rfl, rfl, rfl⟩⟩

theorem witness_TimeCommandsSetTheTime :
    (∃ s : State, ∃ c : Cmd, ∃ u, u = touch c.at_ s ∧ Runs 0x0700 c s ∧ names 0 c = true) ∧
    (∃ s : State, ∃ c : Cmd, ∃ u, ∃ pairs : List Pair, ∃ x, u = touch c.at_ s ∧ Runs 0x0701 c s ∧ names 0 c = true ∧ pairsOk pairs = true ∧ withPairs setTime pairs u.time = some x) ∧
    (∃ s : State, ∃ c : Cmd, ∃ u, ∃ pairs : List Pair, ∃ x, ∃ v : State, ∃ moved, u = touch c.at_ s ∧ Runs 0x0702 c s ∧ names 0 c = true ∧ pairsOk pairs = true ∧ withPairs setPtp pairs u.time.ptp = some x ∧ moved = (decide (x.domain ≠ u.time.ptp.domain) || decide (x.transport ≠ u.time.ptp.transport)) ∧ v = { u with time := { u.time with ptp := { x with usable := x.usable && x.on && !moved, masters := if moved || !x.on then [] else x.masters } } }) ∧
    (∃ s : State, ∃ c : Cmd, ∃ u, ∃ pairs : List Pair, ∃ x, u = touch c.at_ s ∧ Runs 0x0703 c s ∧ names 0 c = true ∧ pairsOk pairs = true ∧ withPairs setPps pairs u.time = some x) ∧
    (∃ s : State, ∃ c : Cmd, ∃ u, ∃ sec : Nat, u = touch c.at_ s ∧ Runs 0x0704 c s ∧ names 0 c = true ∧ sec < 2 ^ 48 ∧ ((∀ t, pulseAt u sec = some t → (u.now + todLead : Nat) ≤ t))) ∧
    (∃ s : State, ∃ c : Cmd, ∃ u, ∃ pin : Nat, ∃ tt : TT, u = touch c.at_ s ∧ Runs 0x0706 c s ∧ names 0 c = true ∧ isPin pin = true ∧ tt.ns < 1000000000 ∧ u.outputsHeld = false ∧ u.mgmt.measLock = true ∧ tachPin u pin none = false ∧ actionPin u pin = false) ∧
    (∃ s : State, ∃ c : Cmd, ∃ u, ∃ ps : Int, u = touch c.at_ s ∧ Runs 0x0705 c s ∧ names 0x0D c = true ∧ -100000 ≤ ps ∧ ps ≤ 100000) :=
  ⟨⟨Tests.open0, Tests.cmd0 0, _, rfl, Tests.runs_of (by decide), by decide⟩,
   ⟨Tests.open0, Tests.cmd0 0, _, [{ row := 0, part := 0, value := 255 }], _, rfl, Tests.runs_of (by decide), by decide, by decide, rfl⟩,
   ⟨Tests.open0, Tests.cmd0 0, _, [{ row := 0, part := 0, value := 1 }], _, _, _, rfl, Tests.runs_of (by decide), by decide, by decide, rfl, rfl, rfl⟩,
   ⟨Tests.open0, Tests.cmd0 0, _, [{ row := 0, part := 0, value := 0 }], _, rfl, Tests.runs_of (by decide), by decide, by decide, rfl⟩,
   ⟨Tests.open0, Tests.cmd0 0, _, 2 ^ 48 - 1, rfl, Tests.runs_of (by decide), by decide, by decide, fun t h => (nomatch h)⟩,
   ⟨{ Tests.open0 with mgmt := { measLock := true } }, Tests.cmd0 0, _, 15, { ns := 999999999 }, rfl, Tests.runs_of (by decide), by decide, by decide, by decide, by decide, by decide, by decide, by decide⟩,
   ⟨Tests.open0, Tests.cmd0 0x0D00000F, _, -100000, rfl, Tests.runs_of (by decide), by decide, by decide, by decide⟩⟩

theorem witness_NetworkCommandsActOnTheNetwork :
    (∃ s : State, ∃ c : Cmd, ∃ u, u = touch c.at_ s ∧ Runs 0x0801 c s ∧ names 0x0D c = true) ∧
    (∃ s : State, ∃ c : Cmd, ∃ u, ∃ pfx : Nat, ∃ len : Nat, ∃ prim : Nat, ∃ alt : Nat, ∃ r : Route, ∃ st tab, u = touch c.at_ s ∧ Runs 0x0802 c s ∧ names 0 c = true ∧ len ≤ 10 ∧ pfx < 2 ^ len ∧ r = { pfx := pfx, len := len, prim := prim, alt := if alt = 0xFF then none else some alt, static := true } ∧ st = u.sky.statics.filter (fun x => !r.same x) ∧ tab = u.sky.nextTab.getD u.sky.routes ∧ prim < 16 ∧ ((alt < 16 ∨ alt = 0xFF)) ∧ (withStatics (st ++ [r]) tab).length ≤ maxRoutes) ∧
    (∃ s : State, ∃ c : Cmd, ∃ u, ∃ pfx : Nat, ∃ len : Nat, ∃ prim : Nat, ∃ alt : Nat, ∃ r : Route, ∃ st tab new, u = touch c.at_ s ∧ Runs 0x0802 c s ∧ names 0 c = true ∧ len ≤ 10 ∧ pfx < 2 ^ len ∧ r = { pfx := pfx, len := len, prim := prim, alt := if alt = 0xFF then none else some alt, static := true } ∧ st = u.sky.statics.filter (fun x => !r.same x) ∧ tab = u.sky.nextTab.getD u.sky.routes ∧ u.sky.statics.any r.same = true ∧ new = withStatics st (tab.filter (fun x => !(x.static && r.same x)))) ∧
    (∃ s : State, ∃ c : Cmd, ∃ u, u = touch c.at_ s ∧ Runs 0x0803 c s ∧ names 0 c = true) ∧
    (∃ s : State, ∃ c : Cmd, ∃ u, ∃ mask : Nat, ∃ loc : Bool, ∃ alts : List Nat, ∃ i, ∃ v : State, u = touch c.at_ s ∧ Runs 0x0804 c s ∧ mask < 65536 ∧ alts.length ≤ 16 ∧ ((∀ a ∈ alts, a < 16 ∨ a = 0xFF)) ∧ ((names 0 c = true ∧ (List.range 64).find? (fun (i : Nat) => !(u.sky.mcast.get i).made) = some i ∨ names 0 c = false ∧ names 0x0F c = true ∧ (u.sky.mcast.get (hIndex c)).made = true ∧ i = hIndex c)) ∧ v = { u with sky := { u.sky with mcast := u.sky.mcast.set i { made := true, mask := mask, loc := loc, alts := alts } } }) ∧
    (∃ s : State, ∃ c : Cmd, ∃ u, ∃ mask : Nat, ∃ loc : Bool, ∃ alts : List Nat, ∃ i, ∃ v : State, u = touch c.at_ s ∧ Runs 0x0804 c s ∧ mask < 65536 ∧ alts.length ≤ 16 ∧ ((∀ a ∈ alts, a < 16 ∨ a = 0xFF)) ∧ ((names 0 c = true ∧ (List.range 64).find? (fun (i : Nat) => !(u.sky.mcast.get i).made) = some i ∨ names 0 c = false ∧ names 0x0F c = true ∧ (u.sky.mcast.get (hIndex c)).made = true ∧ i = hIndex c)) ∧ v = { u with sky := { u.sky with mcast := u.sky.mcast.set i { made := true, mask := mask, loc := loc, alts := alts } } }) ∧
    (∃ s : State, ∃ c : Cmd, ∃ u, u = touch c.at_ s ∧ Runs 0x0805 c s ∧ names 0x0D c = true ∧ (u.port (hIndex c)).state = .up) ∧
    (∃ s : State, ∃ c : Cmd, ∃ u, ∃ pairs : List Pair, ∃ x, u = touch c.at_ s ∧ Runs 0x0806 c s ∧ names 0 c = true ∧ pairsOk pairs = true ∧ withPairs setAddr pairs u.sky.ageH = some x) :=
  ⟨⟨Tests.open0, Tests.cmd0 0x0D00000F, _, rfl, Tests.runs_of (by decide), by decide⟩,
   ⟨Tests.open0, Tests.cmd0 0, _, 1023, 10, 15, 0xFF, _, _, _, rfl, Tests.runs_of (by decide), by decide, by decide, by decide, rfl, rfl, rfl, by decide, by decide, by decide⟩,
   ⟨{ Tests.open0 with sky := { statics := [{ static := true }] } }, Tests.cmd0 0, _, 0, 0, 0, 0xFF, _, _, _, _, rfl, Tests.runs_of (by decide), by decide, by decide, by decide, rfl, rfl, rfl, by decide, rfl⟩,
   ⟨Tests.open0, Tests.cmd0 0, _, rfl, Tests.runs_of (by decide), by decide⟩,
   ⟨Tests.open0, Tests.cmd0 0, _, 65535, true, [15, 0xFF], 0, _, rfl, Tests.runs_of (by decide), by decide, by decide, by decide, by decide, rfl⟩,
   ⟨{ Tests.open0 with sky := { mcast := [(63, { made := true })] } }, Tests.cmd0 0x0F00003F, _, 0, true, [], 63, _, rfl, Tests.runs_of (by decide), by decide, by decide, by decide, by decide, rfl⟩,
   ⟨Tests.open0.modPort 0 (fun x => { x with state := .up }), Tests.cmd0 0x0D000000, _, rfl, Tests.runs_of (by decide), by decide, by decide⟩,
   ⟨Tests.open0, Tests.cmd0 0, _, [{ row := 0, part := 0, value := 720 }], _, rfl, Tests.runs_of (by decide), by decide, by decide, rfl⟩⟩

theorem witness_PairAndMemoryCommandsActOnTheirParts :
    (∃ s : State, ∃ c : Cmd, ∃ u, ∃ pairs : List Pair, ∃ x, u = touch c.at_ s ∧ Runs 0x0900 c s ∧ names 0 c = true ∧ pairsOk pairs = true ∧ withPairs setClover pairs u.clover = some x) ∧
    (∃ s : State, ∃ c : Cmd, ∃ u, u = touch c.at_ s ∧ Runs 0x0901 c s ∧ names 0 c = true) ∧
    (∃ s : State, ∃ c : Cmd, ∃ u, u = touch c.at_ s ∧ names 0 c = true ∧ takes u c = true ∧ tagBusy u c = false ∧ reservedFlags c.flags = false ∧ c.tenant = 0 ∧ badBuffer c u = false ∧ u.clover.state = .formed) ∧
    (∃ s : State, ∃ c : Cmd, ∃ u t w, u = touch c.at_ s ∧ names 0 c = true ∧ w = touch t s ∧ w.clover.state = .formed ∧ w.clover.mirrors.contains (.cloverSwap c) = true ∧ c.tenant = 0 ∧ badBuffer c w = false) ∧
    (∃ s : State, ∃ c : Cmd, ∃ u, u = touch c.at_ s ∧ Runs 0x0902 c s ∧ names 0 c = true ∧ u.clover.state ≠ .formed) ∧
    (∃ s : State, ∃ c : Cmd, ∃ u, ∃ pairs : List Pair, ∃ x, u = touch c.at_ s ∧ Runs 0x0A00 c s ∧ names 0 c = true ∧ pairsOk pairs = true ∧ withPairs setLayout pairs (u.mem.grain, (List.range 5).map (areaGiB u)) = some x ∧ ringsExist u = false ∧ ((u.mem.pop.channels = [] ∨ x.2.sum ≤ u.mem.pop.gib))) ∧
    (∃ s : State, ∃ c : Cmd, ∃ u, u = touch c.at_ s ∧ Runs 0x0A01 c s ∧ names 0 c = true) ∧
    (∃ s : State, ∃ c : Cmd, ∃ u, ∃ pairs : List Pair, ∃ x, u = touch c.at_ s ∧ Runs 0x0A04 c s ∧ names 0 c = true ∧ pairsOk pairs = true ∧ withPairs setPolicy pairs u.mem = some x ∧ policyOk x = true) ∧
    (∃ s : State, ∃ c : Cmd, ∃ u, ∃ thr : Nat, ∃ int : Nat, u = touch c.at_ s ∧ Runs 0x0A06 c s ∧ names 0 c = true ∧ 4096 ≤ thr ∧ thr ≤ 65535 ∧ 100 ≤ int ∧ int ≤ 100000) ∧
    (∃ s : State, ∃ c : Cmd, ∃ u i r, ∃ rank : Nat, ∃ v, u = touch c.at_ s ∧ Runs 0x0A02 c s ∧ requester c = some (i, r) ∧ rank < 16 ∧ rankAllowed i r rank = true ∧ v = u.modReq i r (fun x => { x with shadow := some rank })) ∧
    (∃ s : State, ∃ c : Cmd, ∃ u i r, ∃ limit : Nat, ∃ v, u = touch c.at_ s ∧ Runs 0x0A03 c s ∧ requester c = some (i, r) ∧ ((limit = 0 ∨ 1000 ≤ limit ∧ limit ≤ 1000000)) ∧ v = (if limit = 0 then u else u.modInst i (fun x => { x with limit := some limit }))) ∧
    (∃ s : State, ∃ c : Cmd, ∃ u, ∃ cap : Nat, u = touch c.at_ s ∧ Runs 0x0A05 c s ∧ names 0x12 c = true ∧ (u.tenant (hIndex c)).used = true ∧ cap < 4096 ∧ boundAllows (u.modTenant (hIndex c) (fun x => { x with cap := cap })) = true) :=
  ⟨⟨Tests.open0, Tests.cmd0 0, _, [{ row := 0, part := 0, value := 10 }], _, rfl, Tests.runs_of (by decide), by decide, by decide, rfl⟩,
   ⟨Tests.open0, Tests.cmd0 0, _, rfl, Tests.runs_of (by decide), by decide⟩,
   ⟨{ Tests.open0 with clover := { state := .formed } }, Tests.cmd0 0, _, rfl, by decide, by decide, by decide, by decide, by decide, by decide, by decide⟩,
   ⟨{ Tests.open0 with clover := { state := .formed, mirrors := [.cloverSwap (Tests.cmd0 0)] } }, Tests.cmd0 0, _, 0, _, rfl, by decide, rfl, by decide, by decide, by decide, by decide⟩,
   ⟨Tests.open0, Tests.cmd0 0, _, rfl, Tests.runs_of (by decide), by decide, by decide⟩,
   ⟨Tests.open0, Tests.cmd0 0, _, [{ row := 0, part := 0, value := 12 }], _, rfl, Tests.runs_of (by decide), by decide, by decide, rfl, by decide, by decide⟩,
   ⟨Tests.open0, Tests.cmd0 0, _, rfl, Tests.runs_of (by decide), by decide⟩,
   ⟨Tests.open0, Tests.cmd0 0, _, [{ row := 0, part := 0, value := 10 }], _, rfl, Tests.runs_of (by decide), by decide, by decide, rfl, by decide⟩,
   ⟨Tests.open0, Tests.cmd0 0, _, 4096, 100000, rfl, Tests.runs_of (by decide), by decide, by decide, by decide, by decide, by decide⟩,
   ⟨Tests.open0, Tests.cmd0 0x11003100, _, 24, 256, 15, _, rfl, Tests.runs_of (by decide), by decide, by decide, by decide, rfl⟩,
   ⟨Tests.open0, Tests.cmd0 0x1100005F, _, 0, 95, 1000, _, rfl, Tests.runs_of (by decide), by decide, by decide, rfl⟩,
   ⟨Tests.open0, Tests.cmd0 0x12000000, _, 4095, rfl, Tests.runs_of (by decide), by decide, by decide, by decide, by decide⟩⟩

theorem witness_ManagementCommandsActOnTheirParts :
    (∃ s : State, ∃ c : Cmd, ∃ u, u = touch c.at_ s ∧ Runs 0x0B00 c s ∧ hClass c = 0x13 ∧ isSensor (hIndex c) = true) ∧
    (∃ s : State, ∃ c : Cmd, ∃ u, ∃ pairs : List Pair, u = touch c.at_ s ∧ Runs 0x0B01 c s ∧ names 0 c = true ∧ pairsOk pairs = true ∧ sensorPairsOk pairs u = true) ∧
    (∃ s : State, ∃ c : Cmd, ∃ u, ∃ bytes : Nat, ∃ v, u = touch c.at_ s ∧ Runs 0x0B04 c s ∧ names 0 c = true ∧ bytes ≤ maxImage ∧ u.mgmt.update = none ∧ v = putInactive { valid := false } u) ∧
    (∃ s : State, ∃ c : Cmd, ∃ u x, ∃ len : Nat, u = touch c.at_ s ∧ Runs 0x0B05 c s ∧ names 0 c = true ∧ u.mgmt.update = some x ∧ 1 ≤ len ∧ len ≤ 65536 ∧ x.held + len ≤ x.bytes) ∧
    (∃ s : State, ∃ c : Cmd, ∃ u, ∃ live : Bool, ∃ x, u = touch c.at_ s ∧ Runs 0x0B06 c s ∧ names 0 c = true ∧ u.mgmt.update = some x ∧ x.tag = none ∧ ((live = false ∨ u.clover.state = .formed ∧ u.clover.role = .standby ∧ ∀ h, u.clover.last = some h → h.update = false))) ∧
    (∃ s : State, ∃ c : Cmd, ∃ u, ∃ addr : Nat, ∃ wr : Nat, ∃ rd : Nat, ∃ n, u = touch c.at_ s ∧ Runs 0x0B07 c s ∧ names 0x14 c = true ∧ addr < 128 ∧ 1 ≤ wr + rd ∧ wr + rd ≤ 65536 ∧ ((hIndex c ≠ 1 ∨ wr = 0)) ∧ (u.bus (hIndex c)).state ≠ .stuck ∧ n ≤ wr + rd) :=
  ⟨⟨Tests.open0, Tests.cmd0 0x13000000, _, rfl, Tests.runs_of (by decide), by decide, by decide⟩,
   ⟨Tests.open0, Tests.cmd0 0, _, [{ row := 0, part := 0, value := 0 }], rfl, Tests.runs_of (by decide), by decide, by decide, by decide⟩,
   ⟨Tests.open0, Tests.cmd0 0, _, maxImage, _, rfl, Tests.runs_of (by decide), by decide, by decide, by decide, rfl⟩,
   ⟨{ Tests.open0 with mgmt := { update := some { bytes := 65536 } } }, Tests.cmd0 0, _, { bytes := 65536 }, 65536, rfl, Tests.runs_of (by decide), by decide, by decide, by decide, by decide, by decide⟩,
   ⟨{ Tests.open0 with mgmt := { update := some {} }, clover := { state := .formed, role := .standby } }, Tests.cmd0 0, _, true, {}, rfl, Tests.runs_of (by decide), by decide, by decide, by decide, .inr ⟨by decide, by decide, fun h e => (nomatch e)⟩⟩,
   ⟨Tests.open0, Tests.cmd0 0x14000001, _, 127, 0, 65536, 65536, rfl, Tests.runs_of (by decide), by decide, by decide, by decide, by decide, by decide, by decide, by decide⟩⟩

theorem witness_DiagnosticCommandsActOnTheirParts :
    (∃ s : State, ∃ c : Cmd, ∃ u, u = touch c.at_ s ∧ Runs 0x0C00 c s ∧ names 0x0D c = true ∧ pairPort u (hIndex c) = false ∧ u.mgmt.laneLock = true ∧ (u.port (hIndex c)).state = .up ∧ (u.port (hIndex c)).loopTag = none) ∧
    (∃ s : State, ∃ c : Cmd, ∃ u, ∃ poly : Nat, ∃ gen : Bool, ∃ chk : Bool, ∃ on ports, u = touch c.at_ s ∧ Runs 0x0C01 c s ∧ names 0x0E c = true ∧ ((poly = 0 ∨ poly = 7 ∨ poly = 15 ∨ poly = 31)) ∧ ports = (List.range 16).filter (fun p => (portLanes u p).contains (hIndex c)) ∧ ((∀ p ∈ ports, pairPort u p = false)) ∧ on = (decide (poly ≠ 0) && (gen || chk)) ∧ u.mgmt.laneLock = true ∧ ((on = false ∨ u.mgmt.level = 0 ∧ u.outputsHeld = false))) ∧
    (∃ s : State, ∃ c : Cmd, ∃ u x v bits errors, u = touch c.at_ s ∧ Runs 0x0C02 c s ∧ names 0x0E c = true ∧ x = u.lane (hIndex c) ∧ v = (drawn u).2 ∧ (bits, errors) = (if x.locked && x.chk then Config.prbsSeen (drawn u).1 else (0, 0))) ∧
    (∃ s : State, ∃ c : Cmd, ∃ u, u = touch c.at_ s ∧ Runs 0x0C03 c s ∧ names 0 c = true) ∧
    (∃ s : State, ∃ c : Cmd, ∃ u, ∃ field : Nat, ∃ k, u = touch c.at_ s ∧ Runs 0x0C04 c s ∧ namesSome c = true ∧ namedCounter c field = some k) ∧
    (∃ s : State, ∃ c : Cmd, ∃ u, ∃ field : Nat, ∃ k, ∃ value : Nat, u = touch c.at_ s ∧ Runs 0x0C05 c s ∧ namesSome c = true ∧ namedCounter c field = some k ∧ value ≤ ctrTop k) ∧
    (∃ s : State, ∃ c : Cmd, ∃ u, ∃ ch : Nat, ∃ mib : Nat, u = touch c.at_ s ∧ Runs 0x0C07 c s ∧ names 0 c = true ∧ ch < 8 ∧ ch ∈ u.mem.pop.channels ∧ mib * u.mem.pop.channels.length ≤ u.mem.pop.gib * 1024 ∧ dramServes u = true ∧ u.mgmt.level = 0 ∧ ringsExist u = false) :=
  ⟨⟨({ Tests.open0 with mgmt := { laneLock := true } } : State).modPort 15 (fun x => { x with state := .up }), Tests.cmd0 0x0D00000F, _, rfl, Tests.runs_of (by decide), by decide, by decide, by decide, by decide, by decide⟩,
   ⟨{ Tests.open0 with mgmt := { laneLock := true } }, Tests.cmd0 0x0E00001F, _, 31, true, true, _, _, rfl, Tests.runs_of (by decide), by decide, by decide, rfl, by decide, rfl, by decide, by decide⟩,
   ⟨Tests.open0, Tests.cmd0 0x0E00001F, _, _, _, _, _, rfl, Tests.runs_of (by decide), by decide, rfl, rfl, rfl⟩,
   ⟨Tests.open0, Tests.cmd0 0, _, rfl, Tests.runs_of (by decide), by decide⟩,
   ⟨Tests.open0, Tests.cmd0 0x04000000, _, 23, _, rfl, Tests.runs_of (by decide), by decide, rfl⟩,
   ⟨Tests.open0, Tests.cmd0 0x04000000, _, 0, _, 1, rfl, Tests.runs_of (by decide), by decide, rfl, by decide⟩,
   ⟨{ Tests.open0 with mem := { pop := { channels := [0, 1], gib := 128 } }, mgmt := { startup := .cal } }, Tests.cmd0 0, _, 1, 65536, rfl, Tests.runs_of (by decide), by decide, by decide, by decide, by decide, by decide, by decide, by decide⟩⟩

theorem witness_BiasAndSpanEventsSetTheirFlags :
    (∃ s : State, ∃ ch : Nat, ∃ on : Bool, ∃ t : Inst, ∃ u, u = touch t s ∧ isChannel ch = true ∧ (u.chan ch).outP ≠ on) ∧
    (∃ s : State, ∃ ch : Nat, ∃ on : Bool, ∃ t : Inst, ∃ u, u = touch t s ∧ isChannel ch = true ∧ (u.chan ch).outN ≠ on) ∧
    (∃ s : State, ∃ ch : Nat, ∃ v, isChannel ch = true ∧ (s.chan ch).acquiring = true ∧ (s.chan ch).acqLeft = 0 ∧ v = s.modChan ch (fun c => { c with acquiring := false })) ∧
    (∃ s : State, ∃ ch : Nat, isChannel ch = true ∧ (s.chan ch).mode = .iepe ∧ (s.chan ch).acquiring = false ∧ 32 ≤ (s.chan ch).biasRun) :=
  ⟨⟨State.reset, 0, true, 0, _, rfl, by decide, by decide⟩,
   ⟨State.reset, 0, true, 0, _, rfl, by decide, by decide⟩,
   ⟨State.reset.modChan 767 (fun x => { x with acquiring := true }), 767, _, by decide, by decide, by decide, rfl⟩,
   ⟨State.reset.modChan 0 (fun x => { x with mode := .iepe, biasRun := 32 }), 0, by decide, by decide, by decide, by decide⟩⟩

theorem witness_ExcitationEventsFollowTheDriver :
    (∃ s : State, ∃ g : Nat, isGroup g = true ∧ (s.group g).enabled = true ∧ (s.group g).inLimit = false ∧ (s.group g).state ≠ .fault ∧ (s.group g).state ≠ .off) ∧
    (∃ s : State, ∃ g : Nat, isGroup g = true ∧ (s.group g).inLimit = true) ∧
    (∃ s : State, ∃ g : Nat, isGroup g = true ∧ (s.group g).state = .fault ∧ (s.group g).staysOff = false) ∧
    (∃ g : Nat, isGroup g = true) ∧
    (∃ s : State, ∃ g : Nat, isGroup g = true ∧ (s.group g).ext = true ∧ 32 ≤ (s.group g).okSwaths) ∧
    (∃ s : State, ∃ g : Nat, isGroup g = true ∧ (s.group g).enabled = true ∧ (s.group g).sense = false ∧ (s.group g).down = false) ∧
    (∃ s : State, ∃ g : Nat, isGroup g = true ∧ (s.group g).sense = true) ∧
    (∃ s : State, ∃ g : Nat, isGroup g = true ∧ (s.group g).inLimit = true) :=
  ⟨⟨State.reset.modGroup 0 (fun x => { x with state := .ramp, setCode := 1 }), 0, by decide, by decide, by decide, by decide, by decide⟩,
   ⟨State.reset.modGroup 0 (fun x => { x with inLimit := true }), 0, by decide, by decide⟩,
   ⟨State.reset.modGroup 0 (fun x => { x with state := .fault }), 0, by decide, by decide, by decide⟩,
   ⟨95, by decide⟩,
   ⟨State.reset.modGroup 0 (fun x => { x with ext := true, okSwaths := 32 }), 0, by decide, by decide, by decide⟩,
   ⟨State.reset.modGroup 0 (fun x => { x with setCode := 1, state := .ramp }), 0, by decide, by decide, by decide, by decide⟩,
   ⟨State.reset.modGroup 0 (fun x => { x with sense := true, state := .localSense }), 0, by decide, by decide⟩,
   ⟨State.reset.modGroup 95 (fun x => { x with inLimit := true }), 95, by decide, by decide⟩⟩

theorem witness_TileEventsActOnTheTile :
    (∃ s : State, ∃ tile : Nat, ∃ bad : List Nat, ∃ u ms fail, isTile tile = true ∧ s.mgmt.startup = .memTrain ∧ s.mgmt.measLock = true ∧ (s.tile tile).started = false ∧ ((∀ g, g < 4 → (s.link (linkKey tile g)).clockLost = false)) ∧ u = (each (List.range 4) (fun g s => trainGroup tile g bad s) s).modTile tile (fun x => { x with trained := true }) ∧ ms = (modsOf tile).filter (fun m => lostSlice u tile (sliceOfMod m)) ∧ (fail = (fun (m : Nat) (s : State) => if knownFailed s m then s else declareFailed m 5 false s))) ∧
    (∃ s : State, ∃ tile : Nat, isTile tile = true ∧ s.mgmt.measLock = true ∧ (s.tile tile).trained = true ∧ (s.tile tile).refOn = true ∧ (s.tile tile).settling = false ∧ (s.tile tile).refFault = false ∧ (s.tile tile).started = false) ∧
    (∃ s : State, ∃ tile : Nat, ∃ u v, isTile tile = true ∧ (s.tile tile).settling = true ∧ u = s.modTile tile (fun x => { x with settling := false, refCause := 0 }) ∧ v = (if (s.tile tile).refCause = 0 then u else post pTile 0x0208 (hTile tile) [vU 0, vS (s.tile tile).refDev, vU (s.tile tile).refCause] u)) ∧
    (∃ s : State, ∃ tile : Nat, ∃ grp : Nat, isTile tile = true ∧ grp < 4 ∧ (s.link (linkKey tile grp)).clockLost = false) ∧
    (∃ s : State, ∃ tile : Nat, ∃ grp : Nat, ∃ back : Bool, ∃ u, isTile tile = true ∧ grp < 4 ∧ (s.link (linkKey tile grp)).clockLost = true ∧ u = linkEntry tile grp 2 0 (s.modLink (linkKey tile grp) (fun x => { x with clockLost := !back }))) ∧
    (∃ s : State, ∃ tile : Nat, ∃ grp : Nat, ∃ w, isTile tile = true ∧ grp < 4 ∧ (s.link (linkKey tile grp)).ordered = some w ∧ repairSwaths ≤ (s.link (linkKey tile grp)).clean) ∧
    (∃ s : State, ∃ m : Nat, isModulator m = true ∧ (s.modu m).running = true ∧ (s.modu m).resetting = false ∧ overLimit ≤ (s.modu m).overRun) ∧
    (∃ s : State, ∃ m : Nat, isModulator m = true ∧ (s.modu m).resetting = true) :=
  ⟨⟨({ mgmt := { startup := .memTrain, measLock := true } } : State), 11, [1], _, _, _, by decide, by decide, by decide, by decide, by decide, rfl, rfl, rfl⟩,
   ⟨(({ mgmt := { measLock := true } } : State)).modTile 0 (fun x => { x with trained := true, refOn := true }), 0, by decide, by decide, by decide, by decide, by decide, by decide, by decide⟩,
   ⟨State.reset.modTile 0 (fun x => { x with settling := true }), 0, _, _, by decide, by decide, rfl, rfl⟩,
   ⟨State.reset, 0, 0, by decide, by decide, by decide⟩,
   ⟨State.reset.modLink 3 (fun x => { x with clockLost := true }), 0, 3, true, _, by decide, by decide, by decide, rfl⟩,
   ⟨State.reset.modLink 0 (fun x => { x with ordered := some 2, clean := repairSwaths }), 0, 0, 2, by decide, by decide, by decide, by decide⟩,
   ⟨State.reset.modModu 0 (fun x => { x with running := true, overRun := overLimit }), 0, by decide, by decide, by decide, by decide⟩,
   ⟨State.reset.modModu 863 (fun x => { x with resetting := true }), 863, by decide, by decide⟩⟩

theorem witness_CoverAndFailureEventsActOnSpares :
    (∃ s : State, ∃ m : Nat, ∃ k : Nat, isModulator m = true ∧ 1 ≤ k ∧ k ≤ 6 ∧ knownFailed s m = false ∧ hasFailed s m k = true) ∧
    (∃ s : State, ∃ m : Nat, ∃ ch cv u, isSpare m = true ∧ (s.spare m).source = some ch ∧ (s.spare m).suspect = false ∧ (s.chan ch).cover = some cv ∧ cv.spare = m ∧ cv.entered = true ∧ cv.ordered = false ∧ cv.serving = false ∧ cv.stopped = false ∧ cv.takeAt = none ∧ cv.handback = false ∧ cv.start + suspectSwaths ≤ s.time.swath ∧ u = post pTile 0x020E (hMod m) [vU ch, vU (s.time.swath - cv.start)] (s.modSpare m (fun x => { x with suspect := true }))) ∧
    (∃ s : State, ∃ m : Nat, ∃ ch cv u, isSpare m = true ∧ (s.spare m).source = some ch ∧ (s.spare m).suspect = false ∧ (s.chan ch).cover = some cv ∧ cv.spare = m ∧ cv.entered = true ∧ cv.ordered = false ∧ cv.serving = true ∧ cv.stopped = false ∧ cv.handback = false ∧ cv.ranFrom + suspectSwaths ≤ s.time.swath ∧ u = post pTile 0x020E (hMod m) [vU ch, vU (s.time.swath - cv.ranFrom)] (s.modSpare m (fun x => { x with suspect := true }))) ∧
    (∃ s : State, ∃ ch : Nat, ∃ gain : Nat × Nat, ∃ offs : Int × Nat, ∃ k cv, isChannel ch = true ∧ k = Match.mk gain.1 offs.1 gain.2 offs.2 ∧ (s.chan ch).cover = some cv ∧ cv.entered = true ∧ cv.serving = false ∧ cv.suspended = false ∧ cv.ordered = false ∧ cv.start + 4 ≤ nextBoundary s ∧ trimsOk k = true ∧ matchNear k = true) ∧
    (∃ s : State, ∃ m t u v b cv, u = touch t s ∧ isChannel m = true ∧ mainMod u m = m ∧ (u.modu m).stopAt = some b ∧ t = boundary (b + 2) - nsSpan 1000 ∧ (u.chan m).cover = some cv ∧ cv.stopped = true ∧ cv.suspended = false ∧ cv.late = false ∧ tileReached u m = true ∧ v = (u.modModu m (fun x => { x with running := true, overRun := 0, resetting := false, sameRun := 0, stopAt := none })).modModu m (fun x => { x with active := x.proposed.getD x.active })) ∧
    (∃ s : State, ∃ ch : Nat, ∃ gain : Nat × Nat, ∃ offs : Int × Nat, ∃ k cv, isChannel ch = true ∧ k = Match.mk gain.1 offs.1 gain.2 offs.2 ∧ (s.chan ch).cover = some cv ∧ cv.serving = true ∧ cv.stopped = false ∧ cv.suspended = false ∧ cv.ranFrom + 4 ≤ nextBoundary s ∧ trimsOk k = true ∧ matchNear k = true) ∧
    (∃ s : State, ∃ m : Nat, ∃ gain : Nat, ∃ b, isSpare m = true ∧ (s.spare m).state = .refcheck ∧ (s.spare m).refFrom = some b ∧ b + 64 ≤ nextBoundary s ∧ trimsOk { gain := gain } = true) ∧
    (∃ s : State, ∃ ch : Nat, ∃ b m u, isChannel ch = true ∧ (s.chan ch).stopB = some b ∧ b + 2 ≤ s.time.swath + 1 ∧ tileReached s (mainMod s ch) = true ∧ u = s.modChan ch (fun c => { c with stopB := none }) ∧ m = mainMod s ch) :=
  ⟨⟨State.reset.modModu 863 (fun x => { x with trimOut := true }), 863, 4, by decide, by decide, by decide, by decide, by decide⟩,
   ⟨((({ time := { swath := 256 } } : State)).modChan 0 (fun x => { x with cover := some { entered := true } })).modSpare 768 (fun x => { x with state := .shadow, source := some 0 }), 768, 0, { entered := true }, _, by decide, by decide, by decide, by decide, by decide, by decide, by decide, by decide, by decide, by decide, by decide, by decide, rfl⟩,
   ⟨((({ time := { swath := 256 } } : State)).modChan 0 (fun x => { x with cover := some { entered := true, serving := true } })).modSpare 768 (fun x => { x with state := .serving, source := some 0 }), 768, 0, { entered := true, serving := true }, _, by decide, by decide, by decide, by decide, by decide, by decide, by decide, by decide, by decide, by decide, by decide, rfl⟩,
   ⟨(({ time := { swath := 4 } } : State)).modChan 0 (fun x => { x with cover := some { entered := true } }), 0, (16777216, 0), (0, 0), _, { entered := true }, by decide, rfl, by decide, by decide, by decide, by decide, by decide, by decide, by decide, by decide⟩,
   ⟨(State.reset.modChan 767 (fun x => { x with cover := some { entered := true, serving := true, stopped := true } })).modModu 767 (fun x => { x with stopAt := some 9 }), 767, boundary 11 - nsSpan 1000, _, _, 9, { entered := true, serving := true, stopped := true }, rfl, by decide, by decide, by decide, by decide, by decide, by decide, by decide, by decide, by decide, rfl⟩,
   ⟨(({ time := { swath := 6 } } : State)).modChan 0 (fun x => { x with cover := some { entered := true, serving := true } }), 0, (16777216, 0), (0, 0), _, { entered := true, serving := true }, by decide, rfl, by decide, by decide, by decide, by decide, by decide, by decide, by decide⟩,
   ⟨(({ time := { swath := 64 } } : State)).modSpare 768 (fun x => { x with state := .refcheck, refFrom := some 0 }), 768, 16777216, 0, by decide, by decide, by decide, by decide, by decide⟩,
   ⟨(({ time := { swath := 9 } } : State)).modChan 0 (fun x => { x with stopB := some 8 }), 0, 8, _, _, by decide, by decide, by decide, by decide, rfl, rfl⟩⟩

theorem witness_CalibrationRunsDecideTheSet :
    (∃ (s : State) (m : Nat), isModulator m = true ∧ runEnded s m = true ∧ (s.modu m).dirty = true) ∧
    (∃ (s : State) (m : Nat), isModulator m = true ∧ runEnded s m = true ∧ (s.modu m).dirty = false ∧ (s.modu m).firstRun = none) ∧
    (∃ (s : State) (m : Nat) (q : CalRun), isModulator m = true ∧ runEnded s m = true ∧ (s.modu m).dirty = false ∧
      (s.modu m).firstRun = some q) :=
  ⟨⟨{ front := { runLen := 0, mods := [(863, { estFrom := some 0, dirty := true })] } }, 863, by decide, by decide, by decide⟩,
   ⟨{ front := { runLen := 0, mods := [(0, { estFrom := some 0 })] } }, 0, by decide, by decide, by decide, by decide⟩,
   ⟨{ front := { runLen := 0, mods := [(0, { estFrom := some 0, firstRun := some {} })] } }, 0, {}, by decide, by decide, by decide, by decide⟩⟩

theorem witness_StreamEventsMoveRecords :
    (∃ s : State, ∃ bytes : Nat, ∃ v : State, v = { s with mem := { s.mem with staging := s.mem.staging - bytes } }) ∧
    (∃ s : State, ∃ sub : Nat, ∃ t : Inst, ∃ u, u = touch t s ∧ sub < 4096) ∧
    (∃ s : State, ∃ sub : Nat, ∃ u c cs, sub < 4096 ∧ s.sub sub = some u ∧ u.credits = c :: cs ∧ u.bulk = true ∧ 0 < c.records ∧ (s.tenant u.tenant).used = true ∧ s.frozen = false) ∧
    (∃ s : State, ∃ sub : Nat, ∃ u, sub < 4096 ∧ s.sub sub = some u ∧ u.state = .detached) ∧
    (∃ s : State, ∃ bytes : Nat, ∃ v, v = each (List.range 8) storeFront { s with mem := { s.mem with staging := s.mem.staging - bytes } }) :=
  ⟨⟨State.reset, 0, _, rfl⟩,
   ⟨State.reset, 0, 0, _, rfl, by decide⟩,
   ⟨(({ str := { subs := [(0, some { credits := [{ records := 1 }] })] } } : State)).modTenant 0 (fun x => { x with used := true }), 0, { credits := [{ records := 1 }] }, { records := 1 }, [], by decide, by decide, by decide, by decide, by decide, by decide, by decide⟩,
   ⟨({ str := { subs := [(4095, some { state := .detached })] } } : State), 4095, { state := .detached }, by decide, by decide, by decide⟩,
   ⟨State.reset, 0, _, rfl⟩⟩

theorem witness_SessionEventsOpenAndEndSessions :
    (∃ s : State, ∃ fn : Nat, ∃ t, isFn fn = true ∧ (s.func fn).enable = false ∧ admValid (s.func fn) = true ∧ ((if fn = 0 then (if (s.tenant 0).used = true ∨ (s.tenant 0).ended = true then none else some 0) else freeTenant s) = some t)) ∧
    (∃ s : State, ∃ fn : Nat, isFn fn = true ∧ (s.func fn).enable = false ∧ admValid (s.func fn) = false) ∧
    (∃ s : State, ∃ fn : Nat, isFn fn = true ∧ (s.func fn).enable = false ∧ admValid (s.func fn) = true ∧ ((if fn = 0 then (if (s.tenant 0).used = true ∨ (s.tenant 0).ended = true then none else some 0) else freeTenant s) = none)) ∧
    (∃ fn : Nat, isFn fn = true) ∧
    (∃ fn : Nat, isFn fn = true) ∧
    (∃ fn : Nat, isFn fn = true) :=
  ⟨⟨State.reset.modFunc 0 (fun x => { x with enable := false, sqBase := 0, sqSize := 16, cqBase := 0, cqSize := 4096 }), 0, 0, by decide, by decide, by decide, by decide⟩,
   ⟨State.reset, 0, by decide, by decide, by decide⟩,
   ⟨(State.reset.modFunc 0 (fun x => { x with enable := false, sqBase := 0, sqSize := 16, cqBase := 0, cqSize := 4096 })).modTenant 0 (fun x => { x with used := true }), 0, by decide, by decide, by decide, by decide⟩,
   ⟨0, by decide⟩,
   ⟨0, by decide⟩,
   ⟨0, by decide⟩⟩

theorem witness_DoorbellsMoveTheirQueues :
    (∃ s : State, ∃ fn : Nat, ∃ q : Nat, ∃ tail : Nat, ∃ cmds : List Fetch, ∃ t : Inst, ∃ u x qu v n, u = touch t s ∧ isFn fn = true ∧ q < 4 ∧ openTenant u fn = some x ∧ qu = u.queue x q ∧ qu.made = true ∧ tail < qu.size ∧ n = (tail + qu.size - qu.tail) % qu.size ∧ v = u.modQueue x q (fun k => { k with tail := tail, head := (k.head + min n cmds.length) % k.size })) ∧
    (∃ s : State, ∃ fn : Nat, ∃ q : Nat, ∃ tail : Nat, ∃ t : Inst, ∃ u x qu v, u = touch t s ∧ isFn fn = true ∧ 4 ≤ q ∧ q < 8 ∧ openTenant u fn = some x ∧ qu = u.queue x q ∧ qu.made = true ∧ tail < qu.size ∧ v = u.modQueue x q (fun k => { k with tail := tail })) ∧
    (∃ s : State, ∃ fn : Nat, ∃ q : Nat, ∃ head : Nat, ∃ t : Inst, ∃ u x qu v, u = touch t s ∧ isFn fn = true ∧ q < 8 ∧ openTenant u fn = some x ∧ qu = u.queue x q ∧ qu.made = true ∧ head < qu.cqSize ∧ v = u.modQueue x q (fun k => Queue.drain k.held.length { k with cqHead := head })) ∧
    (∃ s : State, ∃ fn : Nat, ∃ q : Nat, ∃ tail : Nat, ∃ t : Inst, ∃ u, u = touch t s ∧ isFn fn = true ∧ q < 8 ∧ ((openTenant u fn = none ∨ ∃ x, openTenant u fn = some x ∧ ((u.queue x q).made = false ∨ (u.queue x q).size ≤ tail)))) ∧
    (∃ s : State, ∃ fn : Nat, ∃ q : Nat, ∃ head : Nat, ∃ t : Inst, ∃ u, u = touch t s ∧ isFn fn = true ∧ q < 8 ∧ ((openTenant u fn = none ∨ ∃ x, openTenant u fn = some x ∧ ((u.queue x q).made = false ∨ (u.queue x q).cqSize ≤ head)))) ∧
    (∃ s : State, ∃ fn : Nat, ∃ q : Nat, ∃ addr : Nat, ∃ t : Inst, ∃ u x v, u = touch t s ∧ isFn fn = true ∧ q < 8 ∧ openTenant u fn = some x ∧ v = violate (some fn) { kind := 6, addr := addr, tenant := x, time := shortTime t } u) ∧
    (∃ s : State, ∃ fn : Nat, ∃ q : Nat, ∃ addr : Nat, ∃ g, ∃ t : Inst, ∃ u x v, ∃ w : State, u = touch t s ∧ isFn fn = true ∧ q < 4 ∧ openTenant u fn = some x ∧ v = violate (some fn) { kind := 6, addr := addr, tenant := x, time := shortTime t } u ∧ w = { v with str := { v.str with jobs := v.str.jobs.filter (fun j => !(decide (j.tenant = x) && decide (j.tag = g))) } }) :=
  ⟨⟨{ Tests.open0 with now := 0 }, 0, 0, 15, [], 0, _, 0, _, _, _, rfl, by decide, by decide, by decide, rfl, by decide, by decide, rfl, rfl⟩,
   ⟨Tests.open0.modQueue 0 7 (fun x => { x with made := true, size := 1 }), 0, 7, 0, 0, _, 0, _, _, rfl, by decide, by decide, by decide, by decide, rfl, by decide, by decide, rfl⟩,
   ⟨{ Tests.open0 with now := 0 }, 0, 0, 15, 0, _, 0, _, _, rfl, by decide, by decide, by decide, rfl, by decide, by decide, rfl⟩,
   ⟨State.reset, 0, 7, 0, 0, _, rfl, by decide, by decide, .inl (by decide)⟩,
   ⟨{ Tests.open0 with now := 0 }, 0, 0, 16, 0, _, rfl, by decide, by decide, .inr ⟨0, by decide, .inr (by decide)⟩⟩,
   ⟨{ Tests.open0 with now := 0 }, 0, 7, 0, 0, _, 0, _, rfl, by decide, by decide, by decide, rfl⟩,
   ⟨{ Tests.open0 with now := 0 }, 0, 3, 0, 0, 0, _, 0, _, _, rfl, by decide, by decide, by decide, rfl, rfl⟩⟩

theorem witness_RegisterAccessesActOnTheFunction :
    (∃ s : State, ∃ fn : Nat, ∃ width : Nat, ∃ t : Inst, ∃ u, u = touch t s ∧ isFn fn = true ∧ sized fn 0x1008 width = true ∧ (u.func fn).enable = false) ∧
    (∃ s : State, ∃ fn : Nat, ∃ width : Nat, ∃ t : Inst, ∃ u, u = touch t s ∧ isFn fn = true ∧ sized fn 0x1010 width = true ∧ (u.func fn).enable = false) ∧
    (∃ s : State, ∃ fn : Nat, ∃ width : Nat, ∃ t : Inst, ∃ u, u = touch t s ∧ isFn fn = true ∧ sized fn 0x1018 width = true ∧ (u.func fn).enable = false) ∧
    (∃ s : State, ∃ fn : Nat, ∃ width : Nat, ∃ t : Inst, ∃ u, u = touch t s ∧ isFn fn = true ∧ sized fn 0x3000 width = true) ∧
    (∃ s : State, ∃ fn : Nat, ∃ offset : Nat, ∃ t : Inst, ∃ u, u = touch t s ∧ isFn fn = true ∧ mapped fn offset = false) ∧
    (∃ s : State, ∃ fn : Nat, ∃ offset : Nat, ∃ width : Nat, ∃ t : Inst, ∃ u, u = touch t s ∧ isFn fn = true ∧ mapped fn offset = true ∧ sized fn offset width = false) ∧
    (∃ s : State, ∃ fn : Nat, ∃ offset : Nat, ∃ width : Nat, ∃ t : Inst, ∃ u, u = touch t s ∧ isFn fn = true ∧ mapped fn offset = true ∧ sized fn offset width = true ∧ 0x1008 ≤ offset ∧ offset < 0x101C ∧ (u.func fn).enable = true ∧ ((fn = 0 ∨ (u.func fn).tenant.isSome = true))) ∧
    (∃ s : State, ∃ fn : Nat, ∃ offset : Nat, ∃ t : Inst, ∃ u, u = touch t s ∧ isFn fn = true ∧ mapped fn offset = false) ∧
    (∃ s : State, ∃ fn : Nat, ∃ offset : Nat, ∃ t : Inst, ∃ u, ∃ width : Nat, u = touch t s ∧ isFn fn = true ∧ mapped fn offset = true ∧ sized fn offset width = false) ∧
    (∃ s : State, ∃ fn : Nat, ∃ offset : Nat, ∃ t : Inst, ∃ u, u = touch t s ∧ isFn fn = true ∧ mapped fn offset = true ∧ sized fn offset 8 = true ∧ (needsSession offset && decide (fn ≠ 0) && (u.func fn).enable && (u.func fn).tenant.isNone) = false) ∧
    (∃ s : State, ∃ fn : Nat, ∃ offset : Nat, ∃ t : Inst, ∃ u h, u = touch t s ∧ isFn fn = true ∧ mapped fn offset = true ∧ sized fn offset 4 = true ∧ (needsSession offset && decide (fn ≠ 0) && (u.func fn).enable && (u.func fn).tenant.isNone) = false ∧ highWord u fn offset = some h) ∧
    (∃ s : State, ∃ fn : Nat, ∃ offset : Nat, ∃ t : Inst, ∃ u h, u = touch t s ∧ isFn fn = true ∧ mapped fn offset = true ∧ sized fn offset 4 = true ∧ (needsSession offset && decide (fn ≠ 0) && (u.func fn).enable && (u.func fn).tenant.isNone) = false ∧ highWord u fn offset = none ∧ (u.func fn).latched.get (offset - 4) = some h) ∧
    (∃ s : State, ∃ fn : Nat, ∃ offset : Nat, ∃ t : Inst, ∃ u, u = touch t s ∧ isFn fn = true ∧ mapped fn offset = true ∧ sized fn offset 4 = true ∧ (needsSession offset && decide (fn ≠ 0) && (u.func fn).enable && (u.func fn).tenant.isNone) = false ∧ highWord u fn offset = none ∧ (u.func fn).latched.get (offset - 4) = none) ∧
    (∃ s : State, ∃ fn : Nat, ∃ t : Inst, ∃ u, u = touch t s ∧ isFn fn = true ∧ ((fn = 0 ∨ (u.func fn).enable = false ∨ (u.func fn).tenant.isSome = true))) ∧
    (∃ fn : Nat, isFn fn = true) ∧
    (∃ s : State, ∃ fn : Nat, ∃ t : Inst, ∃ u, u = touch t s ∧ isFn fn = true) ∧
    (∃ fn : Nat, isFn fn = true) ∧
    (∃ fn : Nat, isFn fn = true) :=
  ⟨⟨State.reset, 0, 8, 0, _, rfl, by decide, by decide, by decide⟩,
   ⟨State.reset, 0, 4, 0, _, rfl, by decide, by decide, by decide⟩,
   ⟨State.reset, 0, 4, 0, _, rfl, by decide, by decide, by decide⟩,
   ⟨State.reset, 63, 4, 0, _, rfl, by decide, by decide⟩,
   ⟨State.reset, 0, 0x14, 0, _, rfl, by decide, by decide⟩,
   ⟨State.reset, 0, 4, 8, 0, _, rfl, by decide, by decide, by decide⟩,
   ⟨State.reset.modFunc 0 (fun x => { x with enable := true }), 0, 0x1008, 4, 0, _, rfl, by decide, by decide, by decide, by decide, by decide, by decide, by decide⟩,
   ⟨State.reset, 0, 0x14, 0, _, rfl, by decide, by decide⟩,
   ⟨State.reset, 0, 4, 0, _, 8, rfl, by decide, by decide, by decide⟩,
   ⟨State.reset, 63, 8, 0, _, rfl, by decide, by decide, by decide, by decide⟩,
   ⟨State.reset, 0, 8, 0, _, _, rfl, by decide, by decide, by decide, by decide, rfl⟩,
   ⟨State.reset.modFunc 0 (fun x => { x with latched := [(8, some 77)] }), 0, 12, 0, _, 77, rfl, by decide, by decide, by decide, by decide, by decide, by decide⟩,
   ⟨State.reset, 63, 0x2000, 0, _, rfl, by decide, by decide, by decide, by decide, by decide, by decide⟩,
   ⟨State.reset, 0, 0, _, rfl, by decide, by decide⟩,
   ⟨0, by decide⟩,
   ⟨State.reset, 0, 0, _, rfl, by decide⟩,
   ⟨0, by decide⟩,
   ⟨0, by decide⟩⟩

theorem witness_TriggerEventsFireAndRearm :
    (∃ s : State, ∃ n : Nat, ∃ t0 per trig, isUnit n = true ∧ (s.unit n).source = .time t0 per ∧ (s.unit n).on = true ∧ ((per ≠ 0 ∨ (s.unit n).timeK = 0)) ∧ trig = instOf t0 + (s.unit n).timeK * nsSpan per) ∧
    (∃ s : State, ∃ p : Nat, ∃ up : Bool, ∃ t : Inst, ∃ u v, u = touch t s ∧ isPin p = true ∧ (u.pin p).driven = false ∧ v = (let w := u.modPin p (fun x => { x with level := up }); judgeShots (each (unitsWith w t (fun x => decide (x.source = .pin p (!up)))) (fun n s => fireUnit n (tickAt t) none s) w))) ∧
    (∃ s : State, ∃ p : Nat, isPin p = true ∧ (s.pin p).pulse.isSome = true) ∧
    (∃ s : State, ∃ n : Nat, ∃ u, isUnit n = true ∧ u = judgeShots s ∧ (u.unit n).state = .busy ∧ (u.unit n).rearming = true) ∧
    (∃ s : State, ∃ n : Nat, ∃ u : State, ∃ v d, isUnit n = true ∧ (s.unit n).orphans = 0 ∧ (s.unit n).inFlight = true ∧ u = { s with str := { s.str with flight := s.str.flight.set n [] } } ∧ v = u.modUnit n (fun x => { x with inFlight := false, jumpReq := none, sinceArm := 0 }) ∧ follows v = false ∧ (s.unit n).jumpReq = some d) ∧
    (∃ s : State, ∃ n : Nat, ∃ u : State, ∃ v d i, isUnit n = true ∧ (s.unit n).orphans = 0 ∧ (s.unit n).inFlight = true ∧ u = { s with str := { s.str with flight := s.str.flight.set n [] } } ∧ v = u.modUnit n (fun x => { x with inFlight := false, jumpReq := none, sinceArm := 0 }) ∧ follows v = false ∧ (s.unit n).jumpReq = none ∧ (s.unit n).current = some i ∧ v.red.descs.get i = some d) ∧
    (∃ s : State, ∃ p : Nat, ∃ x : XTrig, ∃ t : Inst, ∃ u v, u = touch t s ∧ isPort p = true ∧ (u.port p).state = .up ∧ v = u.modPort p (fun q => { q with xtRx := if x.xtSeq = (q.xtRx + 1) % 256 then x.xtSeq else q.xtRx }) ∧ v.red.pairs.any (fun y => decide (y.origin = x.origin) && decide (y.count = x.count)) = true) ∧
    (∃ s : State, ∃ p : Nat, ∃ x : XTrig, ∃ t : Inst, ∃ u v w, u = touch t s ∧ isPort p = true ∧ (u.port p).state = .up ∧ v = u.modPort p (fun q => { q with xtRx := if x.xtSeq = (q.xtRx + 1) % 256 then x.xtSeq else q.xtRx }) ∧ v.red.pairs.any (fun y => decide (y.origin = x.origin) && decide (y.count = x.count)) = false ∧ w = enterPair x t (bump (portCtr p 22) v)) ∧
    (∃ s : State, ∃ gsi : Nat, ∃ r rest v, (s.stream (keyOfGsi gsi)).closed = r :: rest ∧ v = s.modStream (keyOfGsi gsi) (fun st => { st with closed := rest })) :=
  ⟨⟨State.reset.modUnit 0 (fun x => { x with source := .time {} 0, on := true }), 0, {}, 0, _, by decide, by decide, by decide, by decide, rfl⟩,
   ⟨State.reset, 0, true, 0, _, _, rfl, by decide, by decide, rfl⟩,
   ⟨State.reset.modPin 0 (fun x => { x with pulse := some 5 }), 0, by decide, by decide⟩,
   ⟨State.reset.modUnit 0 (fun x => { x with state := .busy, rearming := true }), 0, _, by decide, rfl, by decide +kernel, by decide +kernel⟩,
   ⟨State.reset.modUnit 0 (fun x => { x with inFlight := true, jumpReq := some 3 }), 0, _, _, 3, by decide, by decide, by decide, rfl, rfl, by decide, by decide⟩,
   ⟨(({ red := { descs := [(2, some {})] } } : State)).modUnit 0 (fun x => { x with inFlight := true, current := some 2 }), 0, _, _, {}, 2, by decide, by decide, by decide, rfl, rfl, by decide, by decide, by decide, by decide⟩,
   ⟨(({ red := { pairs := [{ origin := 1 }] } } : State)).modPort 0 (fun x => { x with state := .up }), 0, { origin := 1 }, 0, _, _, rfl, by decide, by decide, rfl, by decide⟩,
   ⟨State.reset.modPort 0 (fun x => { x with state := .up }), 0, { origin := 1 }, 0, _, _, _, rfl, by decide, by decide, rfl, by decide, rfl⟩,
   ⟨State.reset.modStream 0 (fun x => { x with closed := [{}] }), 0, {}, [], _, by decide, rfl⟩⟩

theorem witness_TussocksCompleteAndArePublished :
    (∃ (s : State) (gsi n : Nat) (x : Tussock), s.red.tussocks.find? (fun x => decide (x.gsi = keyOfGsi gsi) && decide (x.number = n)
      && decide (x.state = 0)) = some x) ∧
    (∃ (s : State) (gsi n : Nat), s.red.tussocks.find? (fun x => decide (x.gsi = keyOfGsi gsi) && decide (x.number = n)
      && decide (x.state = 0)) = none) :=
  ⟨⟨{ red := { tussocks := [{ number := 5 }] } }, 0, 5, { number := 5 }, by decide⟩, State.reset, 0, 0, by decide⟩

theorem witness_TrainingEventsMoveThePort :
    (∃ s : State, ∃ p : Nat, isPort p = true ∧ (s.port p).state = .idle ∧ portOn s p = true ∧ (s.port p).loop = .none ∧ inTest s p = false ∧ 3 ≤ startupCode s.mgmt.startup) ∧
    (∃ s : State, ∃ p : Nat, ∃ runs : List Nat, ∃ seen v, isPort p = true ∧ (s.port p).state = .rate ∧ seen = (runs.zipIdx.filter (fun x => decide (x.2 < portWidth s p))).filterMap (fun x => (classRun x.1).map (fun c => (c, x.2))) ∧ v = s.modPort p (fun q => { q with classed := q.classed ||| maskOf (seen.map (·.2)), parRate := (seen.map (·.1)).foldl min q.parRate })) ∧
    (∃ s : State, ∃ p : Nat, ∃ a rest rev on w n v inv, isPort p = true ∧ (s.port p).state = .lock ∧ tsConsistent (a :: rest) = true ∧ (a :: rest).length = (lanesOf (s.port p).rx.mask).length ∧ on = (a :: rest).zip (lanesOf (s.port p).rx.mask) ∧ w = min (portWidth s p) a.width ∧ laneOrder w on = some rev ∧ roleFails s p a = false ∧ (n = (if (s.port p).agreed = w ∧ (s.port p).rxRev = rev then (s.port p).ts1Run else 0) + 1) ∧ inv = maskOf ((on.filter (·.1.inverted)).map (·.2)) ∧ v = s.modPort p (fun q => { q with
        ts1Run := n, rxRev := rev, agreed := w, parHub := a.hub, parPort := a.port
        rxInv := ((List.range 4).map (fun i => if q.rxPol.get i = 2 || (q.rxPol.get i = 0 && inv.testBit i) then 2 ^ i else 0)).sum })) ∧
    (∃ s : State, ∃ p : Nat, ∃ a : TsFields, ∃ rest v, isPort p = true ∧ (s.port p).state = .adapt ∧ v = s.modPort p (fun q => { q with parAdapt := (a :: rest).all (·.adaptDone) })) ∧
    (∃ s : State, ∃ p : Nat, ∃ ctle : List Nat, ∃ dfe : List Int, ∃ eyes : List (Nat × Nat), ∃ v, isPort p = true ∧ (s.port p).state = .adapt ∧ v = s.modPort p (fun q => { q with ownAdapt := true, ctle := ctle, dfe := dfe, eyes := eyes })) ∧
    (∃ s : State, ∃ p : Nat, ∃ lanes : List TsFields, ∃ skew : List Nat, ∃ good m v, isPort p = true ∧ (s.port p).state = .deskew ∧ good = maskOf ((skew.zip (lanesOf (s.port p).rx.mask)).filterMap (fun x => if x.1 ≤ 16 then some x.2 else none)) ∧ bestSet (s.port p).agreed good 0 = some m ∧ v = s.modPort p (fun q => { q with ts2Run := (s.port p).ts2Run + 1, ownSkew := decide (8 ≤ (s.port p).ts2Run + 1), parSkew := lanes.all (·.deskewDone), rx := { q.rx with mask := m } })) ∧
    (∃ s : State, ∃ p : Nat, ∃ passing : List Nat, ∃ w m, isPort p = true ∧ (s.port p).state = .rate ∧ w = portWidth s p ∧ bestSet w (maskOf passing &&& (s.port p).classed &&& fullMask w) 0 = some m) ∧
    (∃ s : State, ∃ p : Nat, ∃ passing : List Nat, ∃ w m, isPort p = true ∧ (s.port p).state = .lock ∧ w = (if (s.port p).agreed = 0 then portWidth s p else (s.port p).agreed) ∧ bestSet w (maskOf passing &&& (s.port p).rx.mask &&& fullMask w) 0 = some m) ∧
    (∃ s : State, ∃ p : Nat, ∃ passing : List Nat, ∃ w m, isPort p = true ∧ (s.port p).state = .adapt ∧ w = (if (s.port p).agreed = 0 then portWidth s p else (s.port p).agreed) ∧ bestSet w (maskOf passing &&& (s.port p).rx.mask &&& fullMask w) 0 = some m) ∧
    (∃ s : State, ∃ p : Nat, ∃ passing : List Nat, ∃ w m, isPort p = true ∧ (s.port p).state = .deskew ∧ w = (if (s.port p).agreed = 0 then portWidth s p else (s.port p).agreed) ∧ bestSet w (maskOf passing &&& (s.port p).rx.mask &&& fullMask w) 0 = some m) ∧
    (∃ s : State, ∃ p : Nat, ∃ passing : List Nat, ∃ w, isPort p = true ∧ (s.port p).state = .lock ∧ w = (if (s.port p).agreed = 0 then portWidth s p else (s.port p).agreed) ∧ bestSet w (maskOf passing &&& (s.port p).rx.mask &&& fullMask w) 0 = none) :=
  ⟨⟨(({ mgmt := { startup := .sync } } : State)).modPort 0 (fun x => { x with state := .idle }), 0, by decide, by decide, by decide, by decide, by decide, by decide⟩,
   ⟨State.reset.modPort 0 (fun x => { x with state := .rate }), 0, [12, 40, 48, 80], _, _, by decide, by decide, rfl, rfl⟩,
   ⟨State.reset.modPort 0 (fun x => { x with state := .lock, rx := { mask := 1 } }), 0, { lane := 0, width := 1 }, [], false, _, _, _, _, _, by decide, by decide, by decide, by decide, rfl, rfl, by decide, by decide, rfl, rfl, rfl⟩,
   ⟨State.reset.modPort 0 (fun x => { x with state := .adapt }), 0, { lane := 0, width := 1 }, [], _, by decide, by decide, rfl⟩,
   ⟨State.reset.modPort 0 (fun x => { x with state := .adapt }), 0, [], [], [], _, by decide, by decide, rfl⟩,
   ⟨State.reset.modPort 0 (fun x => { x with state := .deskew, agreed := 1, rx := { mask := 1 } }), 0, [], [16], _, 1, _, by decide, by decide, rfl, by decide, rfl⟩,
   ⟨State.reset.modPort 0 (fun x => { x with state := .rate, classed := 1 }), 0, [0], _, 1, by decide, by decide, rfl, by decide⟩,
   ⟨State.reset.modPort 0 (fun x => { x with state := .lock, rx := { mask := 2 } }), 0, [1], _, 2, by decide, by decide, rfl, by decide⟩,
   ⟨State.reset.modPort 0 (fun x => { x with state := .adapt, agreed := 4, rx := { mask := 15 } }), 0, [2], _, 4, by decide, by decide, rfl, by decide⟩,
   ⟨State.reset.modPort 0 (fun x => { x with state := .deskew, agreed := 4, rx := { mask := 15 } }), 0, [3], _, 8, by decide, by decide, rfl, by decide⟩,
   ⟨State.reset.modPort 15 (fun x => { x with state := .lock }), 15, [], _, by decide, by decide, rfl, by decide⟩⟩

theorem witness_LaneEventsKeepThePortRunning :
    (∃ s : State, ∃ p : Nat, ∃ n : Nat, ∃ late : List Nat, ∃ raw : List (Nat × Nat × BitVec 130), ∃ v w x, isPort p = true ∧ (s.port p).state = .up ∧ v = each (raw.filter (fun x => (s.port p).rx.mask.testBit x.1 && decide (x.2.1 < 256))) (receiveRaw p) s ∧ w = endInterval256 p (each (lanesOf (maskOf late)) (fun i s => bump (laneCtr s p i 3) s) v) ∧ x = w.modPort p (fun q => { q with seeded := true, skips := n % 65536, lateSkip := maskOf late })) ∧
    (∃ s : State, ∃ p : Nat, ∃ m : Nat, isPort p = true ∧ (s.port p).state = .up ∧ (s.port p).tx.mask &&& m ≠ 0) ∧
    (∃ s : State, ∃ p : Nat, ∃ m : Nat, isPort p = true ∧ (s.port p).state = .up ∧ (legalSets (s.port p).agreed).contains m = true ∧ (((s.port p).rx.due = true ∨ m ≠ (s.port p).rx.mask))) ∧
    (∃ s : State, ∃ p : Nat, ∃ lanes : List Nat, ∃ v, isPort p = true ∧ (s.port p).state = .up ∧ (s.port p).farEnd = false ∧ v = each (lanesOf (maskOf lanes)) (fun i s => bump (laneCtr s p i 2) s) s) ∧
    (∃ s : State, ∃ p : Nat, ∃ lanes : List Nat, ∃ v, isPort p = true ∧ (s.port p).farEnd = true ∧ v = each (lanesOf (maskOf lanes)) (fun i s => bump (laneCtr s p i 2) s) s) ∧
    (∃ s : State, ∃ p : Nat, isPort p = true ∧ (s.port p).state = .up ∧ (s.port p).loopOk = true) ∧
    (∃ s : State, ∃ p : Nat, ∃ t k g, isPort p = true ∧ (s.port p).loopTag = some (t, k, g)) ∧
    (∃ s : State, ∃ p : Nat, ∃ t k g, isPort p = true ∧ (s.port p).loopTag = some (t, k, g)) ∧
    (∃ s : State, ∃ l : Nat, ∃ received : List Bool, ∃ errs : Nat, l < 32 ∧ (s.lane l).chk = true ∧ prbsLocks (s.lane l).poly received = true ∧ (((s.lane l).locked = false ∨ 64 ≤ errs))) :=
  ⟨⟨State.reset.modPort 0 (fun x => { x with state := .up }), 0, 0, [3], [], _, _, _, by decide, by decide, rfl, rfl, rfl⟩,
   ⟨State.reset.modPort 0 (fun x => { x with state := .up, tx := { mask := 15 } }), 0, 8, by decide, by decide, by decide⟩,
   ⟨State.reset.modPort 0 (fun x => { x with state := .up, agreed := 4, rx := { mask := 15 } }), 0, 3, by decide, by decide, by decide, .inr (by decide)⟩,
   ⟨State.reset.modPort 0 (fun x => { x with state := .up }), 0, [0], _, by decide, by decide, by decide, rfl⟩,
   ⟨State.reset.modPort 15 (fun x => { x with farEnd := true }), 15, [0], _, by decide, by decide, rfl⟩,
   ⟨State.reset.modPort 0 (fun x => { x with state := .up, loopOk := true }), 0, by decide, by decide, by decide⟩,
   ⟨State.reset.modPort 0 (fun x => { x with loopTag := some (0, 0, 7) }), 0, 0, 0, 7, by decide, by decide⟩,
   ⟨State.reset.modPort 0 (fun x => { x with loopTag := some (0, 0, 7) }), 0, 0, 0, 7, by decide, by decide⟩,
   ⟨State.reset.modLane 31 (fun x => { x with chk := true, poly := 7 }), 31, List.replicate 7 true ++ prbsBits 7 1024 (List.replicate 7 true), 0, by decide, by decide, by decide +kernel, .inl (by decide)⟩⟩

theorem witness_QuietLanesSleepAndWake :
    (∃ s : State, ∃ p : Nat, isPort p = true ∧ (s.port p).state = .up ∧ (s.port p).quietOn = true ∧ 2 ≤ laneCount (s.port p).tx.mask ∧ (s.port p).tx.quiet = .awake) ∧
    (∃ s : State, ∃ p : Nat, isPort p = true ∧ (s.port p).state = .up ∧ (s.port p).rx.quiet = .awake) ∧
    (∃ s : State, ∃ p : Nat, ∃ m, isPort p = true ∧ (s.port p).state = .up ∧ (s.port p).tx.quiet = .requested ∧ m = 2 ^ leadLane (s.port p).tx.mask) ∧
    (∃ s : State, ∃ p : Nat, isPort p = true ∧ (s.port p).state = .up ∧ (s.port p).rx.quiet = .acked) ∧
    (∃ s : State, ∃ p : Nat, isPort p = true ∧ (s.port p).rx.quiet = .acked) ∧
    (∃ p : Nat, isPort p = true) ∧
    (∃ s : State, ∃ p : Nat, ∃ a, isPort p = true ∧ (s.port p).tx.quiet = .waking ∧ a = (s.port p).tx.mask ||| (s.port p).tx.sleep) ∧
    (∃ s : State, ∃ p : Nat, ∃ ok : List Nat, ∃ bad, isPort p = true ∧ (s.port p).rx.quiet = .quiet ∧ bad = maskMinus (s.port p).rx.sleep (maskOf ok)) :=
  ⟨⟨State.reset.modPort 0 (fun x => { x with state := .up, quietOn := true, tx := { mask := 3 } }), 0, by decide, by decide, by decide, by decide, by decide⟩,
   ⟨State.reset.modPort 0 (fun x => { x with state := .up }), 0, by decide, by decide, by decide⟩,
   ⟨State.reset.modPort 0 (fun x => { x with state := .up, tx := { mask := 12, quiet := .requested } }), 0, _, by decide, by decide, by decide, rfl⟩,
   ⟨State.reset.modPort 0 (fun x => { x with state := .up, rx := { quiet := .acked } }), 0, by decide, by decide, by decide⟩,
   ⟨State.reset.modPort 0 (fun x => { x with rx := { quiet := .acked } }), 0, by decide, by decide⟩,
   ⟨0, by decide⟩,
   ⟨State.reset.modPort 0 (fun x => { x with tx := { quiet := .waking } }), 0, _, by decide, by decide, rfl⟩,
   ⟨State.reset.modPort 0 (fun x => { x with rx := { quiet := .quiet, sleep := 2 } }), 0, [1], _, by decide, by decide, rfl⟩⟩

theorem witness_LinkLayerTakesFramesOnceInOrder :
    (∃ s : State, ∃ p : Nat, ∃ f : Frame, ∃ t : Inst, ∃ u, u = touch t s ∧ isPort p = true ∧ (u.port p).state = .up ∧ (u.port p).farEnd = false ∧ f.cross = none ∧ f.seq % 4096 ≠ (u.port p).rxSeq) ∧
    (∃ s : State, ∃ p : Nat, ∃ f : Frame, ∃ t : Inst, ∃ u lane dropped, u = touch t s ∧ isPort p = true ∧ (u.port p).state = .up ∧ (u.port p).farEnd = false ∧ f.cross = some (lane, dropped)) ∧
    (∃ s : State, ∃ p : Nat, ∃ f : Frame, ∃ t : Inst, ∃ u v, u = touch t s ∧ isPort p = true ∧ (u.port p).state = .up ∧ (u.port p).farEnd = false ∧ f.cross = none ∧ f.seq % 4096 = (u.port p).rxSeq ∧ v = u.modPort p (fun q => { q with rxSeq := (q.rxSeq + 1) % 4096, nakSent := false, ackDue := true, buf := q.buf ++ [(f.seq % 4096, f.vc, frameBlocks f)] }) ∧ f.crc = frameCrc f) ∧
    (∃ s : State, ∃ p : Nat, ∃ f : Frame, ∃ t : Inst, ∃ u v, u = touch t s ∧ isPort p = true ∧ (u.port p).state = .up ∧ (u.port p).farEnd = false ∧ f.cross = none ∧ f.seq % 4096 = (u.port p).rxSeq ∧ v = u.modPort p (fun q => { q with rxSeq := (q.rxSeq + 1) % 4096, nakSent := false, ackDue := true, buf := q.buf ++ [(f.seq % 4096, f.vc, frameBlocks f)] }) ∧ f.crc = frameCrc f ^^^ 0xFFFFFFFF#32) ∧
    (∃ s : State, ∃ p : Nat, ∃ f : Frame, ∃ t : Inst, ∃ u, u = touch t s ∧ isPort p = true ∧ (u.port p).state = .up ∧ (u.port p).farEnd = false ∧ f.cross = none ∧ f.seq % 4096 = (u.port p).rxSeq ∧ f.crc ≠ frameCrc f ∧ f.crc ≠ frameCrc f ^^^ 0xFFFFFFFF#32) ∧
    (∃ s : State, ∃ p : Nat, ∃ ack : Nat, ∃ no : Bool, ∃ xt : Nat, ∃ u v w, isPort p = true ∧ (s.port p).state = .up ∧ (s.port p).failed = false ∧ u = s.modPort p (fun q => { q with retry := ackFrames ack (s.port p).retry, replays := if (ackFrames ack (s.port p).retry).length < (s.port p).retry.length then 0 else q.replays }) ∧ v = ackXtrigs p xt u ∧ w = (if no then (if 4 ≤ (v.port p).replays then replayFail p v else replay p v) else v)) ∧
    (∃ s : State, ∃ p : Nat, ∃ counts : List Nat, ∃ u, isPort p = true ∧ (s.port p).state = .up ∧ u = s.modPort p (fun q => { q with granted := (List.range 8).foldl (fun g v => Tab.set g v ((counts.getD v (Tab.get g v)) % 4096)) q.granted })) ∧
    (∃ s : State, ∃ p : Nat, ∃ u, isPort p = true ∧ (s.port p).state = .up ∧ (s.port p).retry ≠ [] ∧ u = s.modPort p (fun q => { q with nakSent := false })) ∧
    (∃ p : Nat, isPort p = true) ∧
    (∃ p : Nat, isPort p = true) ∧
    (∃ s : State, ∃ p : Nat, ∃ t : Inst, ∃ u x r v, u = touch t s ∧ isPort p = true ∧ (u.port p).timed = x :: r ∧ x.at_.getD 0 ≤ t ∧ v = (if x.at_.getD 0 + blockSpan (u.port p).rate < t then bump lateLaunch (u.modPort p (fun q => { q with timed := r })) else u.modPort p (fun q => { q with timed := r }))) :=
  ⟨⟨State.reset.modPort 0 (fun x => { x with state := .up }), 0, { seq := 1 }, 0, _, rfl, by decide, by decide, by decide, by decide, by decide⟩,
   ⟨State.reset.modPort 0 (fun x => { x with state := .up }), 0, { cross := some (3, true) }, 0, _, 3, true, rfl, by decide, by decide, by decide, by decide⟩,
   ⟨State.reset.modPort 0 (fun x => { x with state := .up }), 0, { crc := frameCrc {} }, 0, _, _, rfl, by decide, by decide, by decide, by decide, by decide, rfl, by decide +kernel⟩,
   ⟨State.reset.modPort 0 (fun x => { x with state := .up }), 0, { crc := frameCrc {} ^^^ 0xFFFFFFFF#32 }, 0, _, _, rfl, by decide, by decide, by decide, by decide, by decide, rfl, by decide +kernel⟩,
   ⟨State.reset.modPort 0 (fun x => { x with state := .up }), 0, {}, 0, _, rfl, by decide, by decide, by decide, by decide, by decide, by decide +kernel, by decide +kernel⟩,
   ⟨State.reset.modPort 0 (fun x => { x with state := .up }), 0, 4095, true, 0, _, _, _, by decide, by decide, by decide, rfl, rfl, rfl⟩,
   ⟨State.reset.modPort 0 (fun x => { x with state := .up }), 0, [4095], _, by decide, by decide, rfl⟩,
   ⟨State.reset.modPort 0 (fun x => { x with state := .up, retry := [{}] }), 0, _, by decide, by decide, by decide, rfl⟩,
   ⟨0, by decide⟩,
   ⟨0, by decide⟩,
   ⟨State.reset.modPort 0 (fun x => { x with timed := [{}] }), 0, 0, _, {}, [], _, rfl, by decide, by decide, by decide, rfl⟩⟩

theorem witness_DiscoveryEventsKeepTheNetwork :
    (∃ s : State, ∃ p : Nat, ∃ u v, isPort p = true ∧ (netPorts s).contains p = true ∧ s.clover.state ≠ .severed ∧ u = (if (netPorts s).head? = some p then rankPeriod s else s) ∧ v = u.modPort p (fun q => { q with hseq := (q.hseq + 1) % 65536 })) ∧
    (∃ s : State, ∃ p : Nat, ∃ m : HelloMsg, ∃ u c v, isPort p = true ∧ (s.port p).state = .up ∧ u = s.modPort p (fun q => { q with missed := 0, neigh := some { uid := m.uid, hub := m.hub, port := m.port, clover := m.clover, alloc := m.alloc } }) ∧ c = Cand.mk m.rprio (m.rqual.toNat / 8 % 8) (m.rqual.toNat / 2048) m.root (m.qual.toNat / 128 % 16) m.rqual ∧ v = addrClash m.hub m.uid (seeUid m.uid { u with time := { u.time with heard := u.time.heard.set p (some c) } })) ∧
    (∃ s : State, ∃ p : Nat, ∃ u, isPort p = true ∧ (s.port p).neigh.isSome = true ∧ u = bump (portCtr p 24) (s.modPort p (fun q => { q with neigh := none, missed := 3 }))) ∧
    (∃ s : State, ∃ p : Nat, ∃ uid : Nat, ∃ t : Inst, ∃ u a, ∃ v : State, u = touch t s ∧ isPort p = true ∧ isAllocator u = false ∧ u.time.parent = some a ∧ v = { u with sky := { u.sky with relays := (uid, p) :: u.sky.relays.filter (fun r => decide (r.1 ≠ uid)) } }) ∧
    (∃ s : State, ∃ p : Nat, ∃ uid : Nat, ∃ t : Inst, ∃ u g, u = touch t s ∧ isPort p = true ∧ isAllocator u = true ∧ u.sky.grants.find? (fun g => decide (g.uid = uid)) = some g) ∧
    (∃ s : State, ∃ p : Nat, ∃ uid : Nat, ∃ held : Nat, ∃ t : Inst, ∃ u, u = touch t s ∧ isPort p = true ∧ isAllocator u = true ∧ u.sky.grants.find? (fun g => decide (g.uid = uid)) = none ∧ 1 ≤ held ∧ held ≤ 1022 ∧ addrFree u uid held = true) ∧
    (∃ p : Nat, ∃ addr : Nat, isPort p = true ∧ 1 ≤ addr ∧ addr ≤ 1022) ∧
    (∃ s : State, ∃ p : Nat, ∃ uid : Nat, ∃ q, ∃ v : State, isPort p = true ∧ uid ≠ Config.uid.toNat ∧ s.sky.relays.find? (fun r => decide (r.1 = uid)) = some (uid, q) ∧ v = { s with sky := { s.sky with relays := s.sky.relays.filter (fun x => decide (x.1 ≠ uid)) } }) ∧
    (∃ s : State, s.sky.hub = 0 ∧ s.sky.next = none ∧ mayAsk s = true) :=
  ⟨⟨State.reset.modPort 0 (fun x => { x with state := .up }), 0, _, _, by decide, by decide, by decide, rfl, rfl⟩,
   ⟨State.reset.modPort 0 (fun x => { x with state := .up }), 0, {}, _, _, _, by decide, by decide, rfl, rfl, rfl⟩,
   ⟨State.reset.modPort 0 (fun x => { x with neigh := some {} }), 0, _, by decide, by decide, rfl⟩,
   ⟨({ time := { parent := some 3 } } : State), 0, 0, 0, _, 3, _, rfl, by decide, by decide, by decide, rfl⟩,
   ⟨({ sky := { hub := 1, grants := [{ uid := 9 }] } } : State), 0, 9, 0, _, { uid := 9 }, rfl, by decide, by decide, by decide⟩,
   ⟨({ sky := { hub := 1 } } : State), 0, 0, 1022, 0, _, rfl, by decide, by decide, by decide, by decide, by decide, by decide⟩,
   ⟨0, 1, by decide, by decide, by decide⟩,
   ⟨({ sky := { relays := [(Config.uid.toNat + 1, 2)] } } : State), 0, Config.uid.toNat + 1, 2, _, by decide, Nat.succ_ne_self _, by simp [List.find?], rfl⟩,
   ⟨State.reset, by decide, by decide, by decide⟩⟩

theorem witness_TimeExchangesRootAndTimedOutputs :
    (∃ s : State, ∃ p : Nat, ∃ t : Inst, ∃ u v, u = touch t s ∧ isPort p = true ∧ usable u p = true ∧ v = modXchg p (fun x => { x with xseq := (x.xseq + 1) % 65536, open_ := some (x.xseq, t) }) u) ∧
    (∃ s : State, ∃ p : Nat, ∃ xseq : Nat, ∃ qual : BitVec 16, ∃ t : Inst, ∃ u f v, u = modXchg p (fun x => { x with qual := qual }) (touch t s) ∧ isPort p = true ∧ usable u p = true ∧ (u.port p).timed.length < 16 ∧ f = { ftype := 6, vc := 0, timed := true, dest := 0, src := u.sky.hub, body := [2, 0] ++ leBytes 2 xseq ++ leBytes 2 (quality u).toNat ++ [0, 0] ++ tt12 t ++ tt12 (t + nsSpan 1000) ++ List.replicate 16 0 } ∧ v = u.modPort p (fun q => { q with timed := q.timed ++ [{ frame := f, at_ := some (t + nsSpan 1000) }] })) ∧
    (∃ s : State, ∃ p : Nat, ∃ n : Nat, ∃ qual : BitVec 16, ∃ t2 : Inst, ∃ t3 : Inst, ∃ t4 : Inst, ∃ t1 : Inst, ∃ u, ∃ off : Int, ∃ offs mean v w, u = touch t4 s ∧ isPort p = true ∧ (u.time.xchg.get p).open_ = some (n, t1) ∧ t4 ≤ t1 + nsSpan 1000000 ∧ (off = to256 ((((t2 : Int) - t1) - ((t4 : Int) - t3)) / 2) - (u.time.xchg.get p).asym * 256 / 2000) ∧ offs = (off :: (u.time.xchg.get p).offs).take 64 ∧ mean = offs.sum / offs.length ∧ (v = modXchg p (fun x => { x with open_ := none, offs := offs, offset := mean, delay := to256 ((((t2 : Int) - t1) + ((t4 : Int) - t3)) / 2), qual := qual }) u) ∧ w = v.modPort p (fun q => { q with timeout := replayTimeout (v.time.xchg.get p).delay })) ∧
    (∃ s : State, ∃ p : Nat, ∃ n : Nat, ∃ t4 : Inst, ∃ t1 u, u = touch t4 s ∧ isPort p = true ∧ (u.time.xchg.get p).open_ = some (n, t1)) ∧
    (∃ p : Nat, isPort p = true) ∧
    (∃ s : State, ∃ c, s.time.lead = some c ∧ 16 ≤ s.time.leadRun ∧ s.time.root.map (·.hub) ≠ some c.hub) ∧
    (∃ s : State, ∃ sec : Nat, ∃ t : Inst, ∃ u, ∃ v : State, u = touch t s ∧ u.time.outOn = true ∧ ppsAllowed u = true ∧ ppsTick u sec ≤ t ∧ u.outputsHeld = false ∧ v = { u with time := { u.time with outHigh := true } }) ∧
    (∃ s : State, ∃ pin : Nat, ∃ t : Inst, ∃ u j, ∃ v : State, ∃ w, u = touch t s ∧ isPin pin = true ∧ dueLaunch u pin t = some j ∧ v = { u with host := { u.host with pinJobs := u.host.pinJobs.filter (fun x => decide (x ≠ j)) } } ∧ w = (if tickAt j.at_ < tickAt t then bump lateLaunch (drivePin pin j.level v) else drivePin pin j.level v)) :=
  ⟨⟨State.reset.modPort 0 (fun x => { x with state := .up }), 0, 0, _, _, rfl, by decide, by decide, rfl⟩,
   ⟨State.reset.modPort 0 (fun x => { x with state := .up }), 0, 0, 0, 0, _, _, _, rfl, by decide, by decide, by decide, rfl, rfl⟩,
   ⟨({ time := { xchg := [(0, { open_ := some (5, 100) })] } } : State), 0, 5, 0, 200, 300, 400, 100, _, _, _, _, _, _, rfl, by decide, by decide, by decide, rfl, rfl, rfl, rfl, rfl⟩,
   ⟨({ time := { xchg := [(15, { open_ := some (5, 100) })] } } : State), 15, 5, 400, 100, _, rfl, by decide, by decide⟩,
   ⟨0, by decide⟩,
   ⟨({ sky := { hub := 7 }, time := { lead := some { hub := 7 }, leadRun := 16 } } : State), { hub := 7 }, by decide, by decide, by decide⟩,
   ⟨({ time := { outOn := true, outMask := 15 } } : State), 0, 0, _, _, rfl, by decide, by decide, by decide, by decide, rfl⟩,
   ⟨({ host := { pinJobs := [{ pin := 3, level := true }] } } : State), 3, 0, _, { pin := 3, level := true }, _, _, rfl, by decide, by decide, rfl, rfl⟩⟩

theorem witness_TachEventsFollowTheEdges :
    (∃ s : State, ∃ n : Nat, ∃ uv : Int, ∃ up, ∃ t : Inst, ∃ u, u = touch t s ∧ isTach n = true ∧ up = (u.tach n).compare uv ∧ (u.tach n).level ≠ up ∧ (u.tach n).before = none ∧ (u.tach n).opened = none) ∧
    (∃ s : State, ∃ n : Nat, ∃ uv : Int, ∃ up, ∃ t : Inst, ∃ u t0, u = touch t s ∧ isTach n = true ∧ up = (u.tach n).compare uv ∧ (u.tach n).level ≠ up ∧ (u.tach n).before = none ∧ (u.tach n).opened = some t0 ∧ t - t0 < glitchSpan (u.tach n)) ∧
    (∃ s : State, ∃ n : Nat, ∃ uv : Int, ∃ up, ∃ t : Inst, ∃ u t0, u = touch t s ∧ isTach n = true ∧ up = (u.tach n).compare uv ∧ (u.tach n).level ≠ up ∧ (u.tach n).before = none ∧ (u.tach n).opened = some t0 ∧ glitchSpan (u.tach n) ≤ t - t0) ∧
    (∃ s : State, ∃ n : Nat, ∃ uv : Int, ∃ up, ∃ t : Inst, ∃ u k, u = touch t s ∧ isTach n = true ∧ up = (u.tach n).compare uv ∧ (u.tach n).level ≠ up ∧ (u.tach n).before = some k) ∧
    (∃ s : State, ∃ n : Nat, ∃ t0, isTach n = true ∧ (s.tach n).before = none ∧ (s.tach n).opened = some t0) ∧
    (∃ s : State, ∃ n : Nat, ∃ t0 k, isTach n = true ∧ (s.tach n).before = some k ∧ (s.tach n).opened = some t0) ∧
    (∃ s : State, ∃ g : Nat, ∃ x, isTach g = true ∧ x = s.shaft g ∧ follows s = false ∧ x.awaits = true ∧ ((x.zeroKind ≠ 2 ∨ (sourceInput s g).bind (fun n => (s.tach n).decoder) = none))) ∧
    (∃ s : State, ∃ n : Nat, isTach n = true ∧ (s.tach n).decoder.isSome = true) ∧
    (∃ s : State, ∃ n : Nat, ∃ u v, isTach n = true ∧ (s.tach n).codeOn = true ∧ u = (if (s.tach n).decoder.isSome then abortCode n s else s) ∧ v = bump (ctrKey 7 n 3 0) (u.modTach n (fun x => { x with flooded := true, lastId := 128, idRun := 0 })) ∧ follows v = false) ∧
    (∃ s : State, ∃ g : Nat, ∃ u, isTach g = true ∧ follows s = false ∧ (s.shaft g).state = .holdover ∧ 64 ≤ (s.shaft g).predRevs ∧ u = s.modShaft g (fun x => { x with state := .time, good := 0, edges := 0, blend := none, fellBack := true, mayReturn := false })) ∧
    (∃ s : State, ∃ g : Nat, ∃ x t u, isTach g = true ∧ follows s = false ∧ x = s.shaft g ∧ x.state = .holdover ∧ ((x.blend = none ∨ x.revs < x.blendRev)) ∧ (t = (match angleInstant x (((x.revs : Int) + 1) * revAngle x) with | some (a, _) => a | none => (interpAt x.labels (((x.revs : Int) + 1) * revAngle x)).toNat)) ∧ u = (touch t s).modShaft g (fun x => { x with revs := x.revs + 1, predRevs := x.predRevs + 1, marked := false })) :=
  ⟨⟨State.reset, 0, 10000000, true, 0, _, rfl, by decide, by decide, by decide, by decide, by decide⟩,
   ⟨State.reset.modTach 0 (fun x => { x with opened := some 0 }), 0, 10000000, true, 0, _, 0, rfl, by decide, by decide, by decide, by decide, by decide, by decide⟩,
   ⟨State.reset.modTach 11 (fun x => { x with opened := some 0 }), 11, 10000000, true, 2 ^ 60, _, 0, rfl, by decide, by decide, by decide, by decide, by decide, by decide⟩,
   ⟨State.reset.modTach 0 (fun x => { x with before := some {} }), 0, 10000000, true, 0, _, {}, rfl, by decide, by decide, by decide, by decide⟩,
   ⟨State.reset.modTach 0 (fun x => { x with opened := some 5 }), 0, 5, by decide, by decide, by decide⟩,
   ⟨State.reset.modTach 0 (fun x => { x with opened := some 5, before := some {} }), 0, 5, {}, by decide, by decide, by decide⟩,
   ⟨State.reset.modShaft 0 (fun x => { x with state := .locked }), 0, _, by decide, rfl, by decide, by decide, by decide⟩,
   ⟨State.reset.modTach 0 (fun x => { x with decoder := some {} }), 0, by decide, by decide⟩,
   ⟨State.reset.modTach 0 (fun x => { x with codeOn := true }), 0, _, _, by decide, by decide, rfl, rfl, by decide⟩,
   ⟨State.reset.modShaft 0 (fun x => { x with state := .holdover, predRevs := 64 }), 0, _, by decide, by decide, by decide, by decide, rfl⟩,
   ⟨State.reset.modShaft 0 (fun x => { x with state := .holdover }), 0, _, _, _, by decide, by decide, rfl, by decide, by decide, rfl, rfl⟩⟩

theorem witness_DataFramesAndTileWordsArrive :
    (∃ s : State, ∃ src : Nat, ∃ gsi : Nat, ∃ sub : Nat, ∃ one : Bool, ∃ off : Nat, ∃ lo : Nat, ∃ k, k = (src * 65536 + sub) * 4294967296 + gsi ∧ ((off ≠ (if one then 0 else s.str.partials.get k) ∨ one = false ∧ (s.str.partials.get k = 0 ∨ s.str.partSeq.get k ≠ lo)))) ∧
    (∃ s : State, ∃ src : Nat, ∃ gsi : Nat, ∃ sub : Nat, ∃ one : Bool, ∃ off : Nat, ∃ lo : Nat, ∃ k, k = (src * 65536 + sub) * 4294967296 + gsi ∧ off = (if one then 0 else s.str.partials.get k) ∧ ((one = true ∨ s.str.partials.get k ≠ 0 ∧ s.str.partSeq.get k = lo))) ∧
    (∃ s : State, ∃ src : Nat, ∃ gsi : Nat, ∃ sub : Nat, ∃ one : Bool, ∃ off : Nat, ∃ lo : Nat, ∃ k, k = (src * 65536 + sub) * 4294967296 + gsi ∧ off = (if one then 0 else s.str.partials.get k) ∧ ((one = true ∨ s.str.partials.get k ≠ 0 ∧ s.str.partSeq.get k = lo)) ∧ s.str.received.contains (gsi, lo) = true) ∧
    (∃ s : State, ∃ src : Nat, ∃ gsi : Nat, ∃ sub : Nat, ∃ one : Bool, ∃ off : Nat, ∃ lo : Nat, ∃ k, k = (src * 65536 + sub) * 4294967296 + gsi ∧ off = (if one then 0 else s.str.partials.get k) ∧ ((one = true ∨ s.str.partials.get k ≠ 0 ∧ s.str.partSeq.get k = lo)) ∧ s.str.received.contains (gsi, lo) = false) ∧
    (∃ s : State, ∃ tile : Nat, ∃ k : Nat, ∃ u, u = touch (atCycle k) s ∧ isTile tile = true) ∧
    (∃ s : State, ∃ m : Nat, ∃ b : Band, ∃ u, isModulator m = true ∧ tailOf s m b = none ∧ bandOn (s.chain m) b = true ∧ bandHeld (s.pipe m) b = false ∧ u = nextWord m b s) :=
  ⟨⟨State.reset, 0, 0, 0, true, 5, 0, _, rfl, by decide⟩,
   ⟨State.reset, 0, 0, 0, true, _, 0, _, rfl, rfl, by decide⟩,
   ⟨({ str := { received := [(0, 9)] } } : State), 0, 0, 0, true, _, 9, _, rfl, rfl, by decide, by decide⟩,
   ⟨State.reset, 0, 0, 0, true, _, 0, _, rfl, rfl, by decide, by decide⟩,
   ⟨State.reset, 0, 0, _, rfl, by decide⟩,
   ⟨State.reset, 0, .lb, _, by decide, by decide, by decide, by decide, rfl⟩⟩

theorem witness_TimeSourceEventsSteerTheTime :
    (∃ s : State, ∃ t : Inst, ∃ u, u = touch t s ∧ u.mgmt.startup = .sync ∧ u.time.grid = true ∧ u.time.syncLeft = none ∧ lockSwaths ≤ u.time.within ∧ rootBound u ≤ 16) ∧
    (∃ s : State, ∃ t : Inst, ∃ u g, ∃ v : State, u = touch t s ∧ u.mgmt.startup = .sync ∧ u.time.syncLeft = none ∧ u.time.state = .unsync ∧ g = ceilDiv t (boundary 1) ∧ v = { touch (boundary g) u with time := { u.time with free := true, state := .unsync, cls := gradeClass u, err := 31, hops := 0, parent := none, root := some { prio := u.time.prio, cls := gradeClass u, err := 31, hub := u.sky.hub } } }) ∧
    (∃ s : State, ∃ tt : TT, ∃ g, stepBoundary tt = some g ∧ s.mgmt.startup = .sync ∧ s.time.grid = false) ∧
    (∃ s : State, s.mgmt.refLost = false) ∧
    (∃ s : State, s.mgmt.refLost = true) ∧
    (∃ s : State, ∃ src : PtpFrom, ∃ t : Inst, ∃ u, u = touch t s ∧ u.time.ptp.on = true ∧ u.time.ptp.domain = src.domain ∧ u.time.ptp.transport = src.transport) ∧
    (∃ s : State, ∃ src : PtpFrom, ∃ t : Inst, ∃ u, u = touch t s ∧ u.time.ptp.on = true ∧ u.time.ptp.domain = src.domain ∧ u.time.ptp.transport = src.transport) ∧
    (∃ s : State, ∃ kind : Nat, ∃ src : PtpFrom, ∃ t : Inst, ∃ u, u = touch t s ∧ u.time.ptp.on = true ∧ u.time.ptp.domain = src.domain ∧ u.time.ptp.transport = src.transport ∧ kind ≠ 1 ∧ kind ≠ 2) ∧
    (∃ high : Nat, 100 ≤ high) ∧
    (∃ s : State, ∃ t : Inst, ∃ u a, ∃ v : State, u = touch t s ∧ u.time.ppsAt = some a ∧ a + 3 * secSpan ≤ t ∧ v = { u with time := { u.time with ppsSec := none, ppsAt := none } }) ∧
    (∃ s : State, ∃ t : Inst, ∃ u l, ∃ x : Ptp, ∃ v : State, u = touch t s ∧ u.time.ptp.usable = true ∧ l = u.time.ptp.masters.filter (fun m => decide (m.1 ≠ u.time.ptp.master)) ∧ x = { u.time.ptp with masters := l, tai := false } ∧ v = { u with time := { u.time with ptp := { x with usable := (bestMaster { u.time.ptp with masters := l }).isSome } } }) ∧
    (∃ s : State, ∃ g, ∃ v : State, s.time.state = .holdover ∧ s.time.parent = none ∧ 4 * s.time.limitNs < holdBound s s.now ∧ g = gradeClass s ∧ v = { s with time := { s.time with cls := g, root := s.time.root.map (fun r => { r with cls := g }) } }) :=
  ⟨⟨({ mgmt := { startup := .sync }, time := { grid := true, within := 1000, err := 4 } } : State), 0, _, rfl, by decide, by decide, by decide, by decide, by decide⟩,
   ⟨({ mgmt := { startup := .sync } } : State), 0, _, _, _, rfl, by decide, by decide, by decide, rfl, rfl⟩,
   ⟨({ mgmt := { startup := .sync } } : State), {}, 0, by decide, by decide, by decide⟩,
   ⟨State.reset, by decide⟩,
   ⟨({ mgmt := { refLost := true } } : State), by decide⟩,
   ⟨({ time := { ptp := { on := true } } } : State), {}, 0, _, rfl, by decide, by decide, by decide⟩,
   ⟨({ time := { ptp := { on := true } } } : State), {}, 0, _, rfl, by decide, by decide, by decide⟩,
   ⟨({ time := { ptp := { on := true } } } : State), 0, {}, 0, _, rfl, by decide, by decide, by decide, by decide, by decide⟩,
   ⟨100, by decide⟩,
   ⟨({ time := { ppsAt := some 0 } } : State), 3 * secSpan, _, 0, _, rfl, by decide, by decide, rfl⟩,
   ⟨({ time := { ptp := { usable := true } } } : State), 0, _, _, _, _, rfl, by decide, rfl, rfl, rfl⟩,
   ⟨({ time := { state := .holdover, holdE0 := 4001 } } : State), _, _, by decide, by decide, by decide, rfl, rfl⟩⟩

theorem witness_StartupEventsBringTheHubUp :
    (∃ s : State, s.mgmt.held = false ∧ s.mgmt.verified = false) ∧
    (∃ s : State, ∃ a : ImageInfo, ∃ b : ImageInfo, ∃ one u v, ∃ w : State, s.mgmt.resetLow = false ∧ s.mgmt.held = false ∧ s.mgmt.verified = false ∧ s.mgmt.startup = .boot ∧ pickSlot s = (one, u) ∧ (if one then slotCause u u.mgmt.slotB b else slotCause u u.mgmt.slotA a) = 0 ∧ v = post pSafety 0x0B03 0 [vU (if one then 1 else 0), vU (256 * (if one then b else a).major + (if one then b else a).minor), vU 0] { u with mgmt := { u.mgmt with slotA := { u.mgmt.slotA with info := a }, slotB := { u.mgmt.slotB with info := b } } } ∧ w = { v with mgmt := { v.mgmt with verified := true, booted := some (if one then 1 else 0), fwMajor := (if one then b else a).major, fwMinor := (if one then b else a).minor, pairProto := (if one then b else a).pairProto, secver := (if one then b else a).secver } }) ∧
    (∃ s : State, s.mgmt.resetLow = false ∧ s.mgmt.held = false) ∧
    (∃ s : State, ∃ p : Pll, (match p with | Pll.measurement => s.mgmt.measLock | .lane => s.mgmt.laneLock | .dram => s.mgmt.dramLock | .pcie => s.mgmt.pcieLock | .management => s.mgmt.mgmtLock) = false ∧ s.mgmt.startup = .boot ∧ s.mgmt.resetLow = false ∧ s.mgmt.held = false) ∧
    (∃ s : State, ∃ dimms : List Dimm, ∃ pop, ∃ lanes : List LaneTrain, ∃ u, pop = populationOf dimms ∧ s.mgmt.startup = .memTrain ∧ s.mgmt.dramDone = false ∧ s.mgmt.errCause = 0 ∧ dimmsOk dimms = true ∧ ((∀ l ∈ lanes, LaneTrain.fails l = true → l.channel ∉ pop.channels)) ∧ u = each pop.channels (fun c s => s.modDram c (fun d => { d with populated := true, attempts := d.attempts + 1, trained := true })) { s with mem := { s.mem with pop := pop, lanes := lanes } }) ∧
    (∃ s : State, ∃ t : Inst, ∃ u, u = touch t s ∧ u.mgmt.startup = .cal ∧ calFinished u = true) :=
  ⟨⟨State.reset, by decide, by decide⟩,
   ⟨({ mgmt := { slotA := { valid := true } } } : State), { flash := true, sfdp := true, magic := 0xCB170B01, length := 1048576, keyOk := true, signed := true, digestOk := true, secver := 1 }, {}, false, _, _, _, by decide, by decide, by decide, by decide, rfl, by decide, rfl, rfl⟩,
   ⟨State.reset, by decide, by decide⟩,
   ⟨State.reset, .management, by decide, by decide, by decide, by decide⟩,
   ⟨({ mgmt := { startup := .memTrain } } : State), [{ channel := 0, ranks := 2, gib := 64, mts := 4800 }], _, [{ readEye := 32, writeEye := 32 }], _, rfl, by decide, by decide, by decide, by decide +kernel, by decide, rfl⟩,
   ⟨({ mgmt := { startup := .cal }, front := { tiles := (List.range 12).map (fun t => (t, { round := 9 })) } } : State), 0, _, rfl, by decide, by decide⟩⟩

theorem witness_ResetEventsHoldTheHub :
    (∃ low : Nat, low < 100) ∧
    (∃ s : State, ∃ low : Nat, ∃ u, 100 ≤ low ∧ low < 1000 ∧ u = fullReset 4 none (drawn s).2) ∧
    (∃ s : State, ∃ low : Nat, ∃ u, 1000 ≤ low ∧ u = fullReset 4 none (drawn s).2) ∧
    (∃ s : State, ∃ sensor : Nat, sensor < 48 ∧ s.mgmt.resetLow = false ∧ s.mgmt.held = false ∧ ((s.str.flush.pinLow = false ∨ s.str.flush.running = true))) ∧
    (∃ s : State, s.mgmt.held = true ∧ s.mgmt.tripHeld = true ∧ s.mgmt.resetLow = false) ∧
    (∃ s : State, ∃ low : Nat, ∃ t : Inst, ∃ u v, u = touch t s ∧ 500 ≤ low ∧ u.mgmt.resetLow = false ∧ u.mgmt.held = false ∧ v = startFlush false t u) ∧
    (∃ s : State, ∃ u, s.str.flush.running = true ∧ u = finishFlush s ∧ s.mgmt.laneLost = false ∧ s.mgmt.tripHeld = false) ∧
    (∃ s : State, ∃ u, s.str.flush.running = true ∧ u = finishFlush s ∧ s.mgmt.laneLost = true) ∧
    (∃ s : State, ∃ u, s.str.flush.running = true ∧ u = heldReset 6 none (finishFlush s) ∧ s.mgmt.laneLost = false ∧ s.mgmt.tripHeld = true) ∧
    (∃ s : State, s.mgmt.held = true ∧ s.mgmt.resetLow = false ∧ s.mgmt.tripHeld = false) ∧
    (∃ s : State, ∃ cause : Nat, 1 ≤ cause ∧ cause ≤ 3 ∧ s.mgmt.resetLow = false) ∧
    (∃ s : State, s.mgmt.resetLow = false ∧ s.mgmt.held = false) ∧
    (∃ s : State, s.mgmt.resetLow = false ∧ s.str.flush.running = false) ∧
    (∃ s : State, ∃ w u, ∃ v : State, s.mgmt.resetLow = false ∧ s.str.flush.running = true ∧ w = Config.draw (drawn s).1 % 4 ∧ u = (if 2 ≤ w then journalDrain 208 (drawn s).2 else (drawn s).2) ∧ v = { u with str := { u.str with flush := { s.str.flush with running := false, positions := decide (1 ≤ w), tail := decide (2 ≤ w), stats := decide (3 ≤ w) && !s.str.flush.noStats } } }) ∧
    (∃ s : State, ∃ u : State, s.mgmt.resetLow = false ∧ s.mgmt.held = false ∧ u = { s with mgmt := { s.mgmt with laneLost := true } }) :=
  ⟨⟨99, by decide⟩,
   ⟨State.reset, 100, _, by decide, by decide, rfl⟩,
   ⟨State.reset, 1000, _, by decide, rfl⟩,
   ⟨State.reset, 47, by decide, by decide, by decide, by decide⟩,
   ⟨({ mgmt := { held := true, tripHeld := true } } : State), by decide, by decide, by decide⟩,
   ⟨State.reset, 500, 0, _, _, rfl, by decide, by decide, by decide, rfl⟩,
   ⟨({ str := { flush := { running := true } } } : State), _, by decide, rfl, by decide, by decide⟩,
   ⟨({ mgmt := { laneLost := true }, str := { flush := { running := true } } } : State), _, by decide, rfl, by decide⟩,
   ⟨({ mgmt := { tripHeld := true }, str := { flush := { running := true } } } : State), _, by decide, rfl, by decide, by decide⟩,
   ⟨({ mgmt := { held := true } } : State), by decide, by decide, by decide⟩,
   ⟨State.reset, 3, by decide, by decide, by decide⟩,
   ⟨State.reset, by decide, by decide⟩,
   ⟨State.reset, by decide, by decide⟩,
   ⟨({ str := { flush := { running := true } } } : State), _, _, _, by decide, by decide, rfl, rfl, rfl⟩,
   ⟨State.reset, _, by decide, by decide, rfl⟩⟩

theorem witness_PairEventsKeepTheCloverPair :
    (∃ s : State, ∃ p : Nat, ∃ lane : Nat, ∃ width : Nat, ∃ u, isPort p = true ∧ (s.port p).state = .up ∧ u = startTraffic p lane width s) ∧
    (∃ s : State, ∃ p : Nat, ∃ origin : Nat, ∃ uid : Nat, ∃ seq : Nat, ∃ hops : Nat, ∃ links : List LsaLink, ∃ u, isPort p = true ∧ (s.port p).state = .up ∧ lsaNewer s origin uid seq = true ∧ u = addrClash origin uid (seeUid uid (floodLsa (LsaRec.mk origin uid seq links) (some (p, hops)) (storeLsa (LsaRec.mk origin uid seq links) s))) ∧ u.clover.state ≠ .solo) ∧
    (∃ s : State, ∃ p, ∃ k : Nat, ∃ u, u = sendMsgs s ∧ cloverPort u = some p ∧ k % 3000 = 0 ∧ u.clover.state ≠ .unpaired) ∧
    (∃ s : State, ∃ h : HeartbeatMsg, ∃ t : Inst, ∃ u v, u = touch t s ∧ ((u.clover.last = none ∨ ∃ l, u.clover.last = some l ∧ l.sendAt < h.sendAt)) ∧ u.clover.state = .formed ∧ u.clover.role = .active ∧ v = u.modClover (fun c => { c with last := some h, lastAt := h.sendAt, extended := false })) ∧
    (∃ s : State, s.clover.state ≠ .formed) ∧
    (∃ s : State, s.clover.state = .formed ∧ s.clover.role = .standby) ∧
    (∃ s : State, ∃ proto : Nat, ∃ uid : Nat, ∃ strap : Nat, ∃ pop : Population, ∃ t : Inst, ∃ u v w, u = touch t s ∧ u.clover.state = .joining ∧ u.clover.role = .active ∧ joinCause u proto strap pop = 0 ∧ u.sky.hub ≠ 0 ∧ v = (drawn u).2.modClover (fun c => { c with digest := Config.digest (drawn u).1 }) ∧ w = v.modClover (fun c => { c with partner := uid, joinSec := some (joinSecond t), joinOk := true })) ∧
    (∃ s : State, ∃ sec : Nat, ∃ uid : Nat, ∃ addr : Nat, ∃ config : List Change, ∃ pos : List StreamPos, ∃ dec : Nat, ∃ u, s.clover.state = .joining ∧ s.clover.role = .standby ∧ config ≠ [] ∧ u = s.modClover (fun c => { c with joinSec := some sec, joinOk := true, partner := uid, positions := pos, decNext := (dec + 1) % 2 ^ 32, adopt := if strapAddr s.mgmt.strap = 0 then some addr else none })) ∧
    (∃ s : State, ∃ u, s.clover.state = .search ∧ u = s.modClover (fun c => { c with state := .solo, role := .active, timedOut := true, soloFrom := soloMarks s })) ∧
    (∃ s : State, ∃ b : Nat, s.clover.state = .formed ∧ s.clover.swapAt = some b) ∧
    (∃ s : State, ∃ b : Nat, s.clover.state = .formed ∧ twoAhead s b = true ∧ s.clover.swapAt = none) ∧
    (∃ s : State, s.clover.state = .formed ∧ s.clover.role = .standby ∧ s.clover.command = false ∧ preferred s (peerPref s) = true ∧ s.ready = true ∧ s.mem.streamFault = false ∧ calClear s = true ∧ s.clover.swapAt = none) :=
  ⟨⟨State.reset.modPort 0 (fun x => { x with state := .up }), 0, 0, 0, _, by decide, by decide, rfl⟩,
   ⟨(({ clover := { state := .search } } : State)).modPort 0 (fun x => { x with state := .up }), 0, 0, 0, 0, 0, [], _, by decide, by decide, by decide, rfl, by decide⟩,
   ⟨(({ clover := { state := .search } } : State)).modPort 0 (fun x => { x with state := .up, clover := true }), 0, 0, _, rfl, by decide, by decide, by decide⟩,
   ⟨({ clover := { state := .formed, role := .active } } : State), { sendAt := 5 }, 0, _, _, rfl, .inl rfl, by decide, by decide, rfl⟩,
   ⟨State.reset, by decide⟩,
   ⟨({ clover := { state := .formed, role := .standby } } : State), by decide, by decide⟩,
   ⟨({ sky := { hub := 1 }, clover := { state := .joining, role := .active } } : State), 0, 0, 0, {}, 0, _, _, _, rfl, by decide, by decide, by decide, by decide, rfl, rfl⟩,
   ⟨({ clover := { state := .joining, role := .standby } } : State), 0, 0, 0, [{}], [], 0, _, by decide, by decide, by decide, rfl⟩,
   ⟨({ clover := { state := .search } } : State), _, by decide, rfl⟩,
   ⟨({ clover := { state := .formed, swapAt := some 9 } } : State), 9, by decide, by decide⟩,
   ⟨({ clover := { state := .formed } } : State), 3, by decide, by decide, by decide⟩,
   ⟨({ mgmt := { startup := .ready, pref := true }, clover := { state := .formed, role := .standby } } : State), by decide, by decide, by decide, by decide, by decide, by decide, by decide, by decide⟩⟩

theorem witness_NetworkCommitMessagesSealOrAbort :
    (∃ s : State, ∃ src : Nat, ∃ stage : Nat, ∃ b : Nat, ∃ t : Inst, ∃ u, u = touch t s ∧ prepareCheck src stage b u = none) ∧
    (∃ s : State, ∃ src : Nat, ∃ stage : Nat, ∃ b : Nat, ∃ t : Inst, ∃ u st, u = touch t s ∧ prepareCheck src stage b u = some st) ∧
    (∃ s : State, ∃ src : Nat, ∃ stage : Nat, ∃ n u, netOf s stage = some n ∧ n.sealed = false ∧ src ∈ n.targets ∧ src ∉ n.ready ∧ u = journalHub n src 1 (modNet stage (fun n => { n with ready := n.ready ++ [src] }) s)) ∧
    (∃ s : State, ∃ src : Nat, ∃ stage : Nat, ∃ n, netOf s stage = some n ∧ n.sealed = false ∧ src ∈ n.targets ∧ src ∉ n.refused.map (·.1)) ∧
    (∃ s : State, ∃ stage : Nat, ∃ n, netOf s stage = some n ∧ n.sealed = false) ∧
    (∃ s : State, ∃ src : Nat, ∃ stage : Nat, ∃ x b, openStage s stage = some x ∧ x.prepared = some (src, b)) ∧
    (∃ s : State, ∃ src : Nat, ∃ stage : Nat, ∃ x, openStage s stage = some x ∧ stageFrom s x src = true) ∧
    (∃ s : State, ∃ stage : Nat, ∃ x y, openStage s stage = some x ∧ x.prepared = some y) ∧
    (∃ s : State, ∃ src : Nat, ∃ stage : Nat, ∃ n u, netOf s stage = some n ∧ n.sealed = true ∧ src ∈ n.targets ∧ src ∉ n.confirmed ∧ u = journalHub n src 3 (modNet stage (fun n => { n with confirmed := n.confirmed ++ [src] }) s)) ∧
    (∃ s : State, ∃ stage : Nat, ∃ n, netOf s stage = some n ∧ n.sealed = true) :=
  ⟨⟨({ host := { stages := [{ id := 4 }] } } : State), 0, 4, 10, 0, _, rfl, by decide⟩,
   ⟨State.reset, 0, 0, 0, 0, _, .noSuchObject, rfl, by decide⟩,
   ⟨({ host := { nets := [{ stage := 4, targets := [2] }] } } : State), 2, 4, { stage := 4, targets := [2] }, _, by decide, by decide, by decide, by decide, rfl⟩,
   ⟨({ host := { nets := [{ stage := 4, targets := [2] }] } } : State), 2, 4, { stage := 4, targets := [2] }, by decide, by decide, by decide, by decide⟩,
   ⟨({ host := { nets := [{ stage := 4, targets := [2] }] } } : State), 4, { stage := 4, targets := [2] }, by decide, by decide⟩,
   ⟨({ host := { stages := [{ id := 4, tenant := 1, prepared := some (2, 9) }] } } : State), 2, 4, { id := 4, tenant := 1, prepared := some (2, 9) }, 9, by decide, by decide⟩,
   ⟨(({ host := { stages := [{ id := 4, tenant := 1 }] } } : State)).modTenant 1 (fun x => { x with kind := 2, hub := 2 }), 2, 4, { id := 4, tenant := 1 }, by decide, by decide⟩,
   ⟨({ host := { stages := [{ id := 4, tenant := 1, prepared := some (2, 9) }] } } : State), 4, { id := 4, tenant := 1, prepared := some (2, 9) }, (2, 9), by decide, by decide⟩,
   ⟨({ host := { nets := [{ stage := 4, targets := [2], sealed := true }] } } : State), 2, 4, { stage := 4, targets := [2], sealed := true }, _, by decide, by decide, by decide, by decide, rfl⟩,
   ⟨({ host := { nets := [{ stage := 4, targets := [2], sealed := true }] } } : State), 4, { stage := 4, targets := [2], sealed := true }, by decide, by decide⟩⟩

theorem witness_HousekeepingEventsTakeTheirReadings :
    (∃ s : State, ∃ slot : Nat, ∃ t : Inst, ∃ u, u = touch t s ∧ slot < 98) ∧
    (∃ sensor : Nat, ∃ slot : Nat, sensor < 98 ∧ 98 ≤ slot ∧ slot < 125) ∧
    (∃ sensor : Nat, ∃ slot : Nat, sensor < 98 ∧ slot < 98) ∧
    (∃ s : State, ∃ sensor : Nat, ∃ t : Inst, ∃ u, u = touch t s ∧ isSensor sensor = true ∧ housePeriod u sensor ≠ 0) ∧
    (∃ s : State, ∃ k, k = levelKept s s.time.swath ∧ k < s.mgmt.level) ∧
    (∃ s : State, ∃ bus : Nat, ∃ u, bus < 4 ∧ (s.bus bus).state = .waitScl ∧ u = s.modBus bus (fun x => { x with state := .stuck, byScl := true })) ∧
    (∃ s : State, ∃ bus : Nat, ∃ u, bus < 4 ∧ (s.bus bus).state = .stuck ∧ u = (if (s.bus bus).rstPin.isSome then startPulse ((s.bus bus).rstPin.getD 0) (10 * (s.bus bus).pulse) s else s)) ∧
    (∃ s : State, ∃ reg : Nat, ∃ vout : Int, ∃ iout : Int, ∃ temp : Int, ∃ st : Int, ∃ u, reg < 16 ∧ s.mgmt.pmbus.get reg ≠ 0 ∧ (s.bus 0).state ≠ .stuck ∧ s.mgmt.warm = false ∧ u = takeReading (128 + 4 * reg + 3) 0 st false (takeReading (128 + 4 * reg + 2) 0 temp false (takeReading (128 + 4 * reg + 1) 0 iout false (takeReading (128 + 4 * reg + 0) 0 vout false s.now s).now (takeReading (128 + 4 * reg + 0) 0 vout false s.now s)).now (takeReading (128 + 4 * reg + 1) 0 iout false (takeReading (128 + 4 * reg + 0) 0 vout false s.now s).now (takeReading (128 + 4 * reg + 0) 0 vout false s.now s))).now (takeReading (128 + 4 * reg + 2) 0 temp false (takeReading (128 + 4 * reg + 1) 0 iout false (takeReading (128 + 4 * reg + 0) 0 vout false s.now s).now (takeReading (128 + 4 * reg + 0) 0 vout false s.now s)).now (takeReading (128 + 4 * reg + 1) 0 iout false (takeReading (128 + 4 * reg + 0) 0 vout false s.now s).now (takeReading (128 + 4 * reg + 0) 0 vout false s.now s)))) ∧
    (∃ s : State, ∃ reg : Nat, reg < 16 ∧ s.mgmt.pmbus.get reg ≠ 0 ∧ (s.bus 0).state ≠ .stuck ∧ s.mgmt.warm = false) ∧
    (∃ s : State, ∃ vals : List Int, ∃ u, (s.bus 2).state ≠ .stuck ∧ s.mgmt.warm = false ∧ u = each ((vals.take 5).zipIdx) (fun p s => takeReading (192 + p.2) 0 p.1 false s.now s) s) ∧
    (∃ s : State, (s.bus 2).state ≠ .stuck ∧ s.mgmt.warm = false) :=
  ⟨⟨State.reset, 97, 0, _, rfl, by decide⟩,
   ⟨0, 98, by decide, by decide, by decide⟩,
   ⟨0, 97, by decide, by decide⟩,
   ⟨State.reset, 0, 0, _, rfl, by decide, by decide⟩,
   ⟨({ mgmt := { level := 1, cool := [(1, some 0)] }, time := { swath := coolSwaths } } : State), _, rfl, by decide⟩,
   ⟨State.reset.modBus 0 (fun x => { x with state := .waitScl }), 0, _, by decide, by decide, rfl⟩,
   ⟨State.reset.modBus 3 (fun x => { x with state := .stuck }), 3, _, by decide, by decide, rfl⟩,
   ⟨({ mgmt := { pmbus := [(15, 0x40)] } } : State), 15, 0, 0, 0, 0, _, by decide, by decide, by decide, by decide, rfl⟩,
   ⟨({ mgmt := { pmbus := [(15, 0x40)] } } : State), 15, by decide, by decide, by decide, by decide⟩,
   ⟨State.reset, [1], _, by decide, by decide, rfl⟩,
   ⟨State.reset, by decide, by decide⟩⟩

theorem witness_MemoryEventsActOnDramAndGrants :
    (∃ s : State, ∃ addr : Nat, ∃ c, c = dramChan s addr ∧ nextRead s c = none) ∧
    (∃ s : State, ∃ req : Nat, ∃ addr : Nat, ∃ bad : Nat, ∃ c x u rank lost v w, c = dramChan s addr ∧ nextRead s c = some x ∧ x.req = req ∧ x.addr / 64 = addr / 64 ∧ u = takeRead c s ∧ rank = (placeAt u addr).rank ∧ lost = (decide (2 ≤ bad) || u.mem.spoiled.get (addr / 64)) ∧ v = (if bad = 1 then bump (eccCtr c rank) u else u) ∧ w = (if lost then post pDram 0x0A01 (handleOf 0 0) [vU addr, vU c, vU rank] v else v)) ∧
    (∃ ch : Nat, ∃ rank : Nat, isDram ch = true ∧ rank < 2) ∧
    (∃ ch : Nat, ∃ bank : Nat, isDram ch = true ∧ bank < 128) ∧
    (∃ ch : Nat, ∃ rank : Nat, isDram ch = true ∧ rank < 2) ∧
    (∃ ch : Nat, ∃ lane : Nat, isDram ch = true ∧ lane < 20) ∧
    (∃ s : State, ∃ ch : Nat, ∃ lane : Nat, ∃ eye : Nat, ∃ m : Int, ∃ margin : Bool, ∃ bad : Bool, ∃ u, isDram ch = true ∧ lane < 20 ∧ 0 < (s.dram ch).drift.get lane ∧ m = (s.dram ch).moved.get lane + 1 ∧ margin = decide (driftMargin ≤ m.natAbs) ∧ bad = (decide (driftEntry < m.natAbs) || decide (eye < 32)) ∧ u = withHealth (fun s => s.modDram ch (fun c => { c with moved := c.moved.set lane m, drift := c.drift.set lane ((s.dram ch).drift.get lane - 1), drifted := c.drifted.set lane bad, margin := c.margin || margin })) s) ∧
    (∃ s : State, s.mgmt.level = 0) ∧
    (∃ s : State, ∃ ch : Nat, ∃ req : Nat, ∃ bank : Nat, ∃ row : Nat, ∃ t : Inst, ∃ u grp ring n v w, u = touch t s ∧ isDram ch = true ∧ req < 96 ∧ bank < 128 ∧ grp = row / 256 ∧ ring = isRingWriter req ∧ n = pairCount req bank grp (u.dram ch).furze ∧ (u.dram ch).furze.any (fun e => e.isPair req bank grp && !e.acted && decide (u.mem.furzeThr ≤ e.count)) = true ∧ v = (rfm ch bank u).modDram ch (fun c => { c with
        furze := c.furze.map (fun e => if e.isPair req bank grp then { e with acted := true } else e)
        throttled := if ring || c.throttled.contains req then c.throttled else c.throttled ++ [req]
        fEvents := min (2 ^ 32 - 1) (c.fEvents + 1), fReq := req, fBank := bank % 64, fGroup := grp, fTime := shortTime t }) ∧ w = withHealth (fun s => { s with mem := { s.mem with furzeRing := s.mem.furzeRing || ring } }) v) ∧
    (∃ s : State, ∃ u, u = each (List.range 8) (fun c s => s.modDram c (fun d => { d with furze := [], throttled := [] })) s) ∧
    (∃ ch : Nat, ∃ bank : Nat, isDram ch = true ∧ bank < 128) ∧
    (∃ s : State, ∃ i : Nat, ∃ raised : List (Nat × Inst), ∃ burst : List Access, ∃ order : List Nat, ∃ u o b, isInst i = true ∧ u = applyBank i (raiseAll i raised (issueAll i burst order s)) ∧ (u.inst i).owner = some o ∧ bestRaised u i = some b) ∧
    (∃ s : State, ∃ i : Nat, ∃ raised : List (Nat × Inst), ∃ burst : List Access, ∃ order : List Nat, ∃ u, isInst i = true ∧ u = applyBank i (raiseAll i raised (issueAll i burst order s)) ∧ (u.inst i).owner = none) ∧
    (∃ s : State, ∃ i : Nat, ∃ burst : List Access, ∃ order : List Nat, ∃ v o u, isInst i = true ∧ v = issueAll i burst order s ∧ (v.inst i).owner = some o ∧ u = (v.modReq i o (fun x => { x with since := none })).modInst i (fun x => { x with owner := none })) ∧
    (∃ s : State, ∃ i : Nat, ∃ addr : Nat, ∃ t : Inst, ∃ u o v w, u = touch t s ∧ isInst i = true ∧ (u.inst i).owner = some o ∧ dmaOf i o = none ∧ v = (u.modReq i o (fun x => { x with since := none, disabled := true, bites := (t :: x.bites).take 3 })).modInst i (fun x => { x with owner := none }) ∧ w = violate none { kind := 7, addr := addr, requester := o, time := shortTime t, tenant := 0 } v) ∧
    (∃ s : State, ∃ i : Nat, ∃ addr : Nat, ∃ t : Inst, ∃ u o x d v w, u = touch t s ∧ isInst i = true ∧ (u.inst i).owner = some o ∧ dmaOf i o = some (x, d) ∧ v = (u.modReq i o (fun x => { x with since := none, disabled := true, bites := (t :: x.bites).take 3 })).modInst i (fun x => { x with owner := none }) ∧ w = (violate (tenantFn v x) { kind := 7, addr := addr, requester := o, time := shortTime t, tenant := x } v).modQueue x (4 + d) (fun k => { k with stopped := true })) :=
  ⟨⟨State.reset, 0, _, rfl, by decide⟩,
   ⟨(({ mem := { pop := { channels := [0], gib := 64 } } } : State)).modDram 0 (fun x => { x with flight := [{ req := 32, addr := 128 }] }), 32, 129, 2, _, { req := 32, addr := 128 }, _, 0, _, _, _, rfl, by decide, by decide, by decide, rfl, by decide, rfl, rfl, rfl⟩,
   ⟨0, 1, by decide, by decide⟩,
   ⟨0, 127, by decide, by decide⟩,
   ⟨0, 1, by decide, by decide⟩,
   ⟨0, 19, by decide, by decide⟩,
   ⟨State.reset.modDram 0 (fun x => { x with drift := [(19, 1)], moved := [(19, 23)] }), 0, 19, 0, _, _, _, _, by decide, by decide, by decide, rfl, rfl, rfl, rfl⟩,
   ⟨State.reset, by decide⟩,
   ⟨State.reset.modDram 7 (fun x => { x with furze := [{ req := 24, bank := 127, count := 8192 }] }), 7, 24, 127, 0, 0, _, _, _, _, _, _, rfl, by decide, by decide, by decide, rfl, rfl, rfl, by decide, rfl, rfl⟩,
   ⟨State.reset, _, rfl⟩,
   ⟨0, 127, by decide, by decide⟩,
   ⟨(State.reset.modInst 24 (fun x => { x with owner := some 5 })).modReq 24 256 (fun x => { x with since := some 0 }), 24, [], [], [], _, 5, 256, by decide, rfl, by decide, by decide⟩,
   ⟨State.reset, 0, [], [], [], _, by decide, rfl, by decide⟩,
   ⟨State.reset.modInst 24 (fun x => { x with owner := some 5 }), 24, [], [], _, 5, _, by decide, rfl, by decide, rfl⟩,
   ⟨State.reset.modInst 0 (fun x => { x with owner := some 5 }), 0, 0, 0, _, 5, _, _, rfl, by decide, by decide, by decide, rfl, rfl⟩,
   ⟨State.reset.modInst 24 (fun x => { x with owner := some 256 }), 24, 0, 0, _, 256, 63, 3, _, _, rfl, by decide, by decide, by decide, rfl, rfl⟩⟩

theorem witness_RemoteSessionsCarryCommands :
    (∃ s : State, ∃ hub : Nat, ∃ uid : Nat, ∃ t u, ∃ v : State, remoteOf s hub uid = none ∧ s.mgmt.warm = false ∧ s.sky.hub ≠ 0 ∧ freeTenant s = some t ∧ u = s.modTenant t (fun _ => { used := true, kind := 2, hub := hub, uid := uid, epoch := s.host.epoch, cap := newCap, bucket := bucketMax, bucketAt := s.now, rxFseq := 1, txFseq := 1, unacked := [{ kind := 7 }] }) ∧ v = { u with host := { u.host with epoch := (u.host.epoch + 1) % 65536 } }) ∧
    (∃ s : State, ∃ hub : Nat, ∃ uid : Nat, remoteOf s hub uid = none ∧ s.mgmt.warm = false ∧ s.sky.hub ≠ 0 ∧ freeTenant s = none) ∧
    (∃ q : Nat, q < 4) ∧
    (∃ s : State, ∃ t : Nat, (s.tenant t).used = true ∧ (s.tenant t).kind = 2) ∧
    (∃ s : State, ∃ t : Nat, (s.tenant t).used = true ∧ (s.tenant t).kind = 2) :=
  ⟨⟨({ sky := { hub := 1 } } : State), 0, 0, 1, _, _, by decide, by decide, by decide, by decide, rfl, rfl⟩,
   ⟨({ sky := { hub := 1 }, host := { tenants := (List.range 64).map (fun t => (t, { used := true })) } } : State), 0, 0, by decide, by decide, by decide, by decide⟩,
   ⟨3, by decide⟩,
   ⟨State.reset.modTenant 63 (fun x => { x with used := true, kind := 2 }), 63, by decide, by decide⟩,
   ⟨State.reset.modTenant 0 (fun x => { x with used := true, kind := 2 }), 0, by decide, by decide⟩⟩

theorem witness_BoundaryAndRestartEvents :
    (∃ s : State, ∃ sec : Nat, ∃ u v w, ∃ x : State, mayStart sec s = true ∧ u = touch (sec * secSpan) s ∧ v = withHealth (fun s => { s with mgmt := { s.mgmt with startup := .ready } }) { u with time := { u.time with syncFrom := sec } } ∧ w = each (startKeys v) startStream v ∧ x = { w with red := { w.red with
          tachs := Tab.keep (fun x => { x with edgeCount := 0 }) w.red.tachs
          units := Tab.keep (fun v => { v with timeK := max v.timeK (v.eventsBefore (sec * secSpan)) }) w.red.units } }) ∧
    (∃ s : State, ∃ bias : List (Nat × Int), ∃ side : List Nat, ((∀ p ∈ bias, isChannel p.1 = true)) ∧ ((∀ x ∈ side, isTile x = true)) ∧ s.mgmt.resetLow = false ∧ s.mgmt.held = false ∧ s.mgmt.measLock = true) ∧
    (∃ s : State, ∃ a u v, s.sky.next = some a ∧ s.str.streams.any (fun p => p.2.exists_ && decide (s.time.swath % max 1 p.2.window ≠ 0)) = false ∧ u = each s.str.streams.keys (fun k s => s.modStream k (fun st => if st.exists_ then st.cut (boundary s.time.swath) st.window true else st)) s ∧ v = setAddress a u) ∧
    (∃ s : State, ∃ n : Nat, ∃ u, s.mgmt.verified = true ∧ s.mgmt.warm = false ∧ s.mgmt.held = false ∧ s.mgmt.resetLow = false ∧ s.mgmt.passDone = false ∧ u = each ((passTasks s).take n) passTask s) ∧
    (∃ s : State, s.mgmt.verified = true ∧ s.mgmt.warm = false ∧ s.mgmt.held = false ∧ s.mgmt.resetLow = false ∧ s.host.sealed = false) ∧
    (∃ s : State, ∃ addr : Nat, ∃ u, s.mgmt.resetLow = false ∧ s.mgmt.held = false ∧ u = post pSafety (Config.entryCode 0).toNat 0 [vU addr] s) ∧
    (∃ s : State, ∃ t : Inst, ∃ u, u = touch t s ∧ overrunLimit ≤ u.mgmt.overruns) ∧
    (∃ s : State, ∃ t : Inst, ∃ u, u = touch t s ∧ u.mgmt.overruns < overrunLimit ∧ silentLimit ≤ u.mgmt.silent) ∧
    (∃ s : State, ∃ i, ∃ u : State, s.mgmt.warm = true ∧ i = (if s.mgmt.activeB then s.mgmt.slotB.info else s.mgmt.slotA.info) ∧ u = { s with mgmt := { s.mgmt with warm := false, booted := some (if s.mgmt.activeB then 1 else 0), fwMajor := i.major, fwMinor := i.minor, pairProto := i.pairProto, secver := i.secver } }) ∧
    (∃ s : State, ∃ rate : Nat, ∃ width : Nat, ∃ u, 1 ≤ rate ∧ rate ≤ 5 ∧ [1, 2, 4, 8, 16].contains width = true ∧ u = linkUp rate width s ∧ s.host.linkUp = false) ∧
    (∃ s : State, ∃ t : Inst, ∃ u, u = touch t s ∧ u.clover.state = .formed ∧ t < u.clover.lastAt + nsSpan 6000 ∧ u.clover.extended = false) ∧
    (∃ s : State, ∃ t : Inst, ∃ u, u = touch t s ∧ u.clover.state = .formed ∧ u.clover.lastAt + nsSpan 12000 ≤ t ∧ u.clover.extended = true) ∧
    (∃ s : State, ∃ i : Instr, ∃ t : Inst, ∃ u, u = touch t s ∧ u.clover.state = .formed ∧ (mirrorBody i).isSome = true) ∧
    (∃ s : State, ∃ t : Inst, ∃ u, u = touch t s ∧ u.clover.state = .formed) ∧
    (∃ s : State, s.clover.update = true ∧ 32 ≤ s.clover.ramp) :=
  ⟨⟨({ mgmt := { startup := .sync }, time := { grid := true, syncLeft := some 0 } } : State), 0, _, _, _, _, by decide, rfl, rfl, rfl, rfl⟩,
   ⟨({ mgmt := { measLock := true } } : State), [(767, -1)], [11], by decide, by decide, by decide, by decide, by decide⟩,
   ⟨({ sky := { next := some 5 } } : State), 5, _, _, by decide, by decide, rfl, rfl⟩,
   ⟨({ mgmt := { verified := true } } : State), 0, _, by decide, by decide, by decide, by decide, by decide, rfl⟩,
   ⟨({ mgmt := { verified := true } } : State), by decide, by decide, by decide, by decide, by decide⟩,
   ⟨State.reset, 0, _, by decide, by decide, rfl⟩,
   ⟨({ mgmt := { overruns := 64 } } : State), 0, _, rfl, by decide⟩,
   ⟨({ mgmt := { overruns := 63, silent := 80 } } : State), 0, _, rfl, by decide, by decide⟩,
   ⟨({ mgmt := { warm := true } } : State), _, _, by decide, rfl, rfl⟩,
   ⟨State.reset, 5, 16, _, by decide, by decide, by decide, rfl, by decide⟩,
   ⟨({ clover := { state := .formed } } : State), 0, _, rfl, by decide, by decide, by decide⟩,
   ⟨({ clover := { state := .formed, extended := true } } : State), nsSpan 12000, _, rfl, by decide, by decide, by decide⟩,
   ⟨({ clover := { state := .formed } } : State), .cloverSwap (Tests.cmd0 0), 0, _, rfl, by decide, by decide⟩,
   ⟨({ clover := { state := .formed } } : State), 0, _, rfl, by decide⟩,
   ⟨({ clover := { update := true, ramp := 32 } } : State), by decide, by decide⟩⟩
end

section
/-! SUPPORT. The state after reset (O14): what each object that no command has written reads. -/

namespace Sys2Proof.Machine

/-! ### Objects of the reset state -/

@[simp] theorem reset_chan (c : Nat) : State.reset.chan c = {} := rfl
@[simp] theorem reset_chain (m : Nat) : State.reset.chain m = {} := rfl
@[simp] theorem reset_unit (n : Nat) : State.reset.unit n = {} := rfl
@[simp] theorem reset_port (p : Nat) : State.reset.port p = {} := rfl
@[simp] theorem reset_func (fn : Nat) : State.reset.func fn = {} := rfl
@[simp] theorem reset_tenant (t : Nat) : State.reset.tenant t = {} := rfl
@[simp] theorem reset_dram (c : Nat) : State.reset.dram c = {} := rfl

/-! ### Registers and ports of the reset state -/

/-- QUALITY after reset (R270): state UNSYNC, class 7, no hops, ERR 31. -/
theorem reset_quality : quality State.reset = 0xF838 := by decide

/-- TIME_STATUS after reset: QUALITY, and 255 for a hub without a parent (R270). -/
theorem reset_timeStatusReg : timeStatusReg State.reset = 0x00FFF838 := by
  rw [timeStatusReg, reset_quality]; decide

/-- F is 0 after reset (R280), and so is what TIME_FREQ makes of it. -/
theorem reset_timeFreqReg : timeFreqReg State.reset = 0 := by decide

theorem reset_timeRegs (fn : Nat) : timeRegs State.reset fn = [0, 0, 0, 0, 0, 0, 0x00FFF838, 0, 0, 0] := by
  simp only [timeRegs, reset_func, reset_timeStatusReg, reset_timeFreqReg]
  rfl

/-- BOOT is code 0, no channel's calibration is at fault and no DRAM channel reports its margin (R546). -/
theorem reset_healthState : healthState State.reset = 0 := by
  have hcal : calIssue State.reset = false := rfl
  simp only [healthState, hcal, reset_dram]
  rfl

theorem reset_healthError : healthError State.reset = 0 := by decide

/-- The ports that are on after reset are 0 to 7 (R431). -/
theorem reset_portOn (p : Nat) : portOn State.reset p = decide (p < 8) := rfl

theorem reset_portWidth {p : Nat} (h : p < 8) : portWidth State.reset p = 4 := if_pos h

theorem reset_portBase {p : Nat} (h : p < 8) : portBase State.reset p = 4 * p := if_pos h

/-- Settles O14: an object that no command has written reads its type's default, and each register follows from the
fields that it is made of. -/
theorem resetLeavesTheStatedValues : Obligations.ResetLeavesTheStatedValues := by
  unfold Obligations.ResetLeavesTheStatedValues
  refine ⟨reset_timeRegs 0, reset_healthState, reset_healthError, rfl, rfl, ?funcs, ?tenants, ?chans, ?chains, ?units, ?ports⟩
  case funcs => intro fn; simp [reset_func]
  case tenants => intro t; simp [reset_tenant]
  case chans => rintro c x rfl; simp [reset_chan]
  case chains => rintro m x rfl; simp [reset_chain]
  case units => rintro n x rfl; simp [reset_unit]
  case ports =>
    intro p
    refine ⟨fun h => ⟨?_, reset_portWidth h, reset_portBase h⟩, fun h => ?_⟩
    · simp [reset_portOn, h]
    · simp [reset_portOn, h]

end Sys2Proof.Machine
end

section
/-! SUPPORT. Accesses to the registers of a function (O41): which check answers a write or a read, and what an access that
passes the checks does (R10, R543, R544, R548). -/

namespace Sys2Proof.Machine

/-- An event on an object that exists answers the next state. -/
theorem event_of_exists {ok : Bool} (h : ok = true) (s : State) : event ok s = .next s := if_pos h

theorem exec_registerWrite (fn offset width : Nat) (value : BitVec 64) (t : Inst) (s : State) :
    exec (.registerWrite fn offset width value t) s = execRegisterWrite fn offset width value t s := rfl

theorem exec_highWordLatchRead (fn : Nat) (x : ReadIn) (s : State) :
    exec (.highWordLatchRead fn x) s = execHighWordLatchRead fn x s := rfl

theorem exec_violClear (fn : Nat) (t : Inst) (s : State) : exec (.violClear fn t) s = execViolClear fn t s := rfl

/-! ### The map -/

/-- Every function has the admin base and size registers (R541, R542, R544). -/
theorem mapped_admin (fn : Nat) {offset : Nat} (hlo : 0x1008 ≤ offset) (hhi : offset < 0x101C) : mapped fn offset = true := by
  have h : decide (0x1000 ≤ offset) && decide (offset < 0x101C) := by simp; omega
  unfold mapped
  split <;> simp [h]

/-- Every function has TIME_SNAP_CTRL (R279). -/
theorem mapped_snapCtrl (fn : Nat) : mapped fn 0x3000 = true := by
  unfold mapped
  split <;> simp

/-- The PF, a function with ENABLE 0 and one with a session get no NO_SESSION (R548). -/
theorem session_open {fn : Nat} {f : Func} (h : fn = 0 ∨ f.enable = false ∨ f.tenant.isSome = true) :
    (decide (fn ≠ 0) && f.enable && f.tenant.isNone) = false := by
  rcases h with h | h | h
  · simp [h]
  · simp [h]
  · simp [Option.isNone_eq_false_iff.mpr h]

section
variable (s : State) (fn offset width : Nat) (value : BitVec 64) (t : Inst) (u : State)

/-! ### Writes -/

theorem registerWrite_unmapped (hu : u = touch t s) (hfn : isFn fn = true) (hm : mapped fn offset = false) :
    exec (.registerWrite fn offset width value t) s = .next (badAccess fn 1 offset true t u) := by
  subst hu
  simp [exec_registerWrite, execRegisterWrite, event_of_exists hfn, hm]

theorem registerWrite_missized (hu : u = touch t s) (hfn : isFn fn = true) (hm : mapped fn offset = true)
    (hs : sized fn offset width = false) :
    exec (.registerWrite fn offset width value t) s = .next (badAccess fn 2 offset true t u) := by
  subst hu
  simp [exec_registerWrite, execRegisterWrite, event_of_exists hfn, hm, hs]

/-- An admin register of an enabled function is protected; a VF without a session gets NO_SESSION before (R548). -/
theorem registerWrite_protected (hu : u = touch t s) (hfn : isFn fn = true) (hm : mapped fn offset = true)
    (hs : sized fn offset width = true) (hlo : 0x1008 ≤ offset) (hhi : offset < 0x101C) (hen : (u.func fn).enable = true)
    (hopen : fn = 0 ∨ (u.func fn).tenant.isSome = true) :
    exec (.registerWrite fn offset width value t) s = .next (badAccess fn 3 offset true t u) := by
  subst hu
  have hadm : (decide (0x1008 ≤ offset) && decide (offset < 0x101C)) = true := by simp [hlo, hhi]
  simp only [exec_registerWrite, execRegisterWrite, event_of_exists hfn, hm, hs, hadm, Bool.true_and, Bool.not_true,
    session_open (hopen.imp_right .inr), Bool.false_eq_true, if_false]
  rw [if_pos hen]

theorem registerWrite_sqBase (hu : u = touch t s) (hfn : isFn fn = true) (hs : sized fn 0x1008 width = true)
    (hen : (u.func fn).enable = false) :
    exec (.registerWrite fn 0x1008 width value t) s = .next
      (u.modFunc fn (fun f => { f with sqBase := wordWrite f.sqBase false (width = 8) value / 64 * 64 })) := by
  subst hu
  simp [exec_registerWrite, execRegisterWrite, event_of_exists hfn, mapped_admin, hs, hen]

theorem registerWrite_cqBase (hu : u = touch t s) (hfn : isFn fn = true) (hs : sized fn 0x1010 width = true)
    (hen : (u.func fn).enable = false) :
    exec (.registerWrite fn 0x1010 width value t) s = .next
      (u.modFunc fn (fun f => { f with cqBase := wordWrite f.cqBase false (width = 8) value / 32 * 32 })) := by
  subst hu
  simp [exec_registerWrite, execRegisterWrite, event_of_exists hfn, mapped_admin, hs, hen]

theorem registerWrite_sizes (hu : u = touch t s) (hfn : isFn fn = true) (hs : sized fn 0x1018 width = true)
    (hen : (u.func fn).enable = false) :
    exec (.registerWrite fn 0x1018 width value t) s = .next
      (u.modFunc fn (fun f => { f with sqSize := value.toNat % 8192, cqSize := value.toNat / 65536 % 8192 })) := by
  subst hu
  simp [exec_registerWrite, execRegisterWrite, event_of_exists hfn, mapped_admin, hs, hen]

theorem registerWrite_snapCtrl (hu : u = touch t s) (hfn : isFn fn = true) (hs : sized fn 0x3000 width = true) :
    exec (.registerWrite fn 0x3000 width value t) s = .next (writeSnap fn value t u) := by
  subst hu
  simp [exec_registerWrite, execRegisterWrite, event_of_exists hfn, mapped_snapCtrl, hs]

/-! ### What a register holds for a read (R543) -/

theorem readReg_wide : readReg fn offset 8 u = (readWord32 u fn offset + 2 ^ 32 * readWord32 u fn (offset + 4), u) := rfl

/-- The low word of a 64-bit register latches the high word. -/
theorem readReg_lowWord {h : Nat} (hh : highWord u fn offset = some h) :
    readReg fn offset 4 u =
      (readWord32 u fn offset, u.modFunc fn (fun f => { f with latched := f.latched.set offset (some h) })) := by
  simp [readReg, hh]

/-- The high word that is latched is given once. -/
theorem readReg_latched {h : Nat} (hh : highWord u fn offset = none) (hl : (u.func fn).latched.get (offset - 4) = some h) :
    readReg fn offset 4 u = (h, u.modFunc fn (fun f => { f with latched := f.latched.set (offset - 4) none })) := by
  simp [readReg, hh, hl]

theorem readReg_word (hh : highWord u fn offset = none) (hl : (u.func fn).latched.get (offset - 4) = none) :
    readReg fn offset 4 u = (readWord32 u fn offset, u) := by
  simp [readReg, hh, hl]

/-! ### Reads -/

theorem read_unmapped (hu : u = touch t s) (hfn : isFn fn = true) (hm : mapped fn offset = false) :
    exec (.highWordLatchRead fn { offset := offset, width := width, t := t }) s = .next
      (answerRead fn none (badAccess fn 1 offset false t u)) := by
  subst hu
  simp [exec_highWordLatchRead, execHighWordLatchRead, event_of_exists hfn, hm]

theorem read_missized (hu : u = touch t s) (hfn : isFn fn = true) (hm : mapped fn offset = true)
    (hs : sized fn offset width = false) :
    exec (.highWordLatchRead fn { offset := offset, width := width, t := t }) s = .next
      (answerRead fn none (badAccess fn 2 offset false t u)) := by
  subst hu
  simp [exec_highWordLatchRead, execHighWordLatchRead, event_of_exists hfn, hm, hs]

/-- A read that passes the checks answers what the register holds. -/
theorem read_served {d : Nat} {v : State} (hu : u = touch t s) (hfn : isFn fn = true) (hm : mapped fn offset = true)
    (hs : sized fn offset width = true)
    (hopen : (needsSession offset && decide (fn ≠ 0) && (u.func fn).enable && (u.func fn).tenant.isNone) = false)
    (hd : readReg fn offset width u = (d, v)) :
    exec (.highWordLatchRead fn { offset := offset, width := width, t := t }) s = .next (answerRead fn (some d) v) := by
  subst hu
  simp only [exec_highWordLatchRead, execHighWordLatchRead, event_of_exists hfn, hm, hs, hopen, hd, Bool.not_true,
    Bool.false_eq_true, if_false]

/-! ### Violations -/

/-- VIOL_CLEAR of the PF, of a function with ENABLE 0 or of one with a session (R550). -/
theorem violClear_clears (hu : u = touch t s) (hfn : isFn fn = true)
    (hopen : fn = 0 ∨ (u.func fn).enable = false ∨ (u.func fn).tenant.isSome = true) :
    exec (.violClear fn t) s = .next (u.modFunc fn (fun f => { f with viols := [] })) := by
  subst hu
  simp only [exec_violClear, execViolClear, event_of_exists hfn, session_open hopen, Bool.false_eq_true, if_false]

end

/-- Settles O41: each clause is the access rule of its case. -/
theorem registerAccessesActOnTheFunction : Obligations.RegisterAccessesActOnTheFunction := by
  unfold Obligations.RegisterAccessesActOnTheFunction
  intro s
  refine ⟨registerWrite_sqBase s, registerWrite_cqBase s, registerWrite_sizes s, registerWrite_snapCtrl s,
    registerWrite_unmapped s, registerWrite_missized s, registerWrite_protected s,
    fun fn offset t u width => read_unmapped s fn offset width t u,
    fun fn offset t u width => read_missized s fn offset width t u,
    ?wide, ?lowWord, ?latched, ?word,
    violClear_clears s, fun fn hfn => event_of_exists hfn _, ?snapNow,
    fun fn hfn => event_of_exists hfn _, fun fn hfn => event_of_exists hfn _⟩
  case wide =>
    intro fn offset t u hu hfn hm hs hopen
    exact read_served s fn offset 8 t u hu hfn hm hs hopen (readReg_wide fn offset u)
  case lowWord =>
    intro fn offset t u h hu hfn hm hs hopen hh
    exact read_served s fn offset 4 t u hu hfn hm hs hopen (readReg_lowWord fn offset u hh)
  case latched =>
    intro fn offset t u h hu hfn hm hs hopen hh hl
    exact read_served s fn offset 4 t u hu hfn hm hs hopen (readReg_latched fn offset u hh hl)
  case word =>
    intro fn offset t u hu hfn hm hs hopen hh hl
    exact read_served s fn offset 4 t u hu hfn hm hs hopen (readReg_word fn offset u hh hl)
  case snapNow =>
    intro fn t u hu hfn
    subst hu
    exact event_of_exists hfn _

end Sys2Proof.Machine
end

section
/-! SUPPORT. The outcomes that a command can have (O4): the next state, or the fault of an object that does not exist. -/

namespace Sys2Proof.Machine

/-- What a command answers whose objects exist (`ok`) or not: a next state, or the fault (R7, R570). -/
def Answers (ok : Bool) (o : Out) : Prop :=
  (ok = true → ∃ t, o = .next t) ∧ (ok = false → o = .fault .noSuchObject)

theorem answers_next (s : State) : Answers true (.next s) := ⟨fun _ => ⟨s, rfl⟩, nofun⟩

theorem answers_event (ok : Bool) (s : State) : Answers ok (event ok s) := by
  cases ok
  · exact ⟨nofun, fun _ => rfl⟩
  · exact answers_next s

/-- A Dwehild command answers an error by its status, so a next state in every case (R588). -/
theorem answers_command (op : Nat) (self : Instr) (c : Cmd) (body : State → Reply × State) (s : State) :
    Answers true (command op self c body s) := answers_next _

/-- RESET_PART of the hub takes the reset in place of its body (R591). -/
theorem answers_resetPart (c : Cmd) (s : State) : Answers true (execResetPart c s) := by
  unfold execResetPart
  dsimp only
  split
  · exact answers_next _
  · exact answers_command ..

/-- Each command answers through one of three forms: the Dwehild protocol, an event that is checked against the objects
which it names, or an event that names none. -/
theorem exec_answers (i : Instr) (s : State) : Answers (eventOk i) (exec i s) := by
  cases i with
  | identify | getLimits | healthGet | queueCreate | queueDelete | dmaQueueRestart | stageStatus | stageDiscard
  | commitAtSwath | channelSet | channelStatus | excSet | excStatus | refbufSet | calNow | calReport | calSet
  | spareShadow | spareRelease | remapClear | chainSet | chainTaps | chainReport | tachSet | tachStatus | shaftSet
  | shaftStatus | shaftReturn | statsSet | triggerSet | triggerStatus | descCreate | descSet | descFree
  | tussockJump | admissionSet | refusalRead | subscribe | unsubscribe | streamStatus | ack | resend | attach
  | ringSet | spkJob | streamList | timeStatus | timeSet | ptpSet | ppsSet | timeOfDay | linkAsym | pinLaunch
  | portSet | portStatus | routeStatic | routeRead | mcastSet | portWake | addrSet | cloverSet | cloverStatus
  | cloverSwap | memLayout | memStatus | arbRank | arbWatchdog | policyClass | tenantCap | furzeSet | sensorRead
  | sensorSet | logRead | journalQuery | updateBegin | updateChunk | i2cXfer | loopSet | prbsSet | prbsStatus
  | fifoStatus | counterRead | counterWrite | demSet | memTest =>
    exact answers_command ..
  | resetPart => exact answers_resetPart ..
  | updateCommit => exact answers_next _
  | tileLinkTrainingDone | modulatorStart | swathBoundary | hkConversion | urgentConversion | refSettled
  | housekeepingPeriod | thermalTrip | fullReset | spanExcursion | fastAcquisitionEnd | biasState | excLimit
  | excFault | excRetry | excWindowFlag | excSettled | excLocalSense | excRemoteSenseReturn | tileLinkWord
  | tileClockLost | tileGroupRetrain | tileRepairSwitch | modLoopReset | modLoopRestart | modFailed | spareSuspect
  | calRunDone | coverTakeover | primaryRestart | coverHandback | refcheckDone | substitutionEnd
  | chainSampleAvailable | tachTransition | tachEdgeConfirmed | edgeDeadline | codeTimeout | codeFlood
  | shaftFallback | triggerTimeExpiry | fieldPinEdge | pinPulseEnd | triggerRearm | tussockSetWritten
  | recordDelivery | bulkCreditTimeout | retentionExpiry | refresh | rfm | zqCalibration | oscillatorRead
  | driftRecentring | furze | burstBoundary | grantRelease | grantWatchdog | idleExpiry | rateSignalClassed | ts1
  | adaptDone | ts2 | trainingTimeout | startBlock | skipBlock | laneFault | widthBlock | lossOfSignal
  | quietIdleExpiry | quietReq | quietAck | quietEnter | quietEntryWithdrawn | wakeNeed | idleExitEnd | wakeBlock
  | loopBlock | frameReceive | ackBlock | creditBlock | replayTimeout | ackTimer | creditTimer | timedLaunch | xtrig
  | helloTimer | hello | neighbourLoss | lsa | addrReq | addrGrant | timeRequestTimer | timeReq | timeResp
  | timeRespTimeout | pinLaunchTime | admEnableSet | admEnableClear | flr | d3hotEntry | pcieLinkUp | dbSqTailWrite
  | dbCqHeadWrite | violClear | violLostClear | snapTakeNow | snapTakePps | snapTakeSwath | highWordLatchRead
  | registerWrite | dmaFault | i2cSclTimeout | i2cStuckRetry | pmbusPoll | predictedZero | excLimitExit
  | prbsCheckerLock | bankIdleTimerExpiry =>
    exact answers_event ..
  | resetNAssert | resetNRelease | imageVerified | pllLock | pllLockTimeout | dramTrainingDone | calComplete
  | syncExit | freeRunningMaster | streamsStart | gridStep | addressApply | controlPass | controlLoopSeal
  | thermalLevelExit | thermalTripRelease | pwrfailNAssert | flushComplete | pwrfailNDeassert | brownOut
  | internalResetRelease | refLost | refReturned | refclkLaneLost | refclkPcieLost | sramUncorrectable | warmRestart
  | warmRestartDone | safetyWatchdogExpiry | tussockComplete | recordWrite | stagingRecover | dramReadReturn
  | patrolScrub | furzeWindow | dataFrame | lsaTimer | rootChange | addrReqRetry | ptpMessage | ppsInEdge
  | ppsSourceLost | holdoverLimitReached | ppsOutLaunch | ppsOutPulseEnd | heartbeatLaunch | heartbeat | partnerLoss
  | decision | command | joinReq | joinSync | searchTimeout | swap | swapHoldExpiry | liveUpdateReset | prepare
  | readyMsg | refuseMsg | networkCommitDecide | sealStage | abortMsg | networkStageExpiry | commitConfirm
  | networkCommitDeadline | openMsg | openReply | commandsMsg | creditsMsg | completionsMsg | dmaCompletionsMsg
  | closeMsg | keepalive | remoteResendTimer | remoteSessionTimeout | vfEnableClear | hotReset | pcieLinkDown
  | spkJobComplete | sfpPoll | duplicatePairExpiry | ptpSourceLost | managementEthernetLinkUp | dramWriteComplete
  | mramWriteComplete | jtagTrstNAssert =>
    exact answers_next _

/-- Settles O4, by the form through which each command answers. -/
theorem everyCommandCompletes : Obligations.EveryCommandCompletes := exec_answers

end Sys2Proof.Machine
end

section
/-! SUPPORT. The events of the swath boundary, the control pass, restarts and the pair (O60): what each does past its
guards. -/

namespace Sys2Proof.Machine

section
variable (s u : State) (t : Inst)

/-! ### The swath boundary (R29, R307) -/

/-- At a second that may start, the hub is READY, the streams start and the edge counts are 0. -/
theorem streamsStart_starts (sec : Nat) (v w x : State) (hmay : mayStart sec s = true) (hu : u = touch (sec * secSpan) s)
    (hv : v = withHealth (fun s => { s with mgmt := { s.mgmt with startup := .ready } })
      { u with time := { u.time with syncFrom := sec } })
    (hw : w = each (startKeys v) startStream v)
    (hx : x = { w with red := { w.red with
      tachs := Tab.keep (fun x => { x with edgeCount := 0 }) w.red.tachs
      units := Tab.keep (fun v => { v with timeK := max v.timeK (v.eventsBefore (sec * secSpan)) }) w.red.units } }) :
    exec (.streamsStart sec) s =
      .next (confirmSlot false (startRetention (publishCut (startIntervals (sec * Config.swathsPerSec) x)))) := by
  rw [hx, hw, hv, hu]
  simp only [exec, execStreamsStart, hmay, Bool.not_true, Bool.false_eq_true, if_false]

/-- A hub that runs notes the failed side-bands and turns the swath. -/
theorem swathBoundary_turns (bias : List (Nat × Int)) (side : List Nat) (hbias : ∀ p ∈ bias, isChannel p.1 = true)
    (hside : ∀ x ∈ side, isTile x = true) (hreset : s.mgmt.resetLow = false) (hheld : s.mgmt.held = false)
    (hlock : s.mgmt.measLock = true) :
    exec (.swathBoundary { bias := bias, side := side }) s = .next
      (turnSwath (s.time.swath + 1) bias (each side (fun t s => s.modTile t (fun x => { x with sideFail := true })) s)) := by
  have hok : (bias.all (fun p => isChannel p.1) && side.all isTile) = true := by
    rw [Bool.and_eq_true, List.all_eq_true, List.all_eq_true]
    exact ⟨hbias, hside⟩
  exact (event_of_exists hok _).trans (by simp [hreset, hheld, hlock])

/-- A received address applies once every stream is at a window's end. -/
theorem addressApply_applies (a : Nat) (v : State) (hnext : s.sky.next = some a)
    (hwindow : s.str.streams.any (fun p => p.2.exists_ && decide (s.time.swath % max 1 p.2.window ≠ 0)) = false)
    (hu : u = each s.str.streams.keys (fun k s => s.modStream k (fun st =>
      if st.exists_ then st.cut (boundary s.time.swath) st.window true else st)) s)
    (hv : v = setAddress a u) :
    exec .addressApply s = .next (post pSkecy 0x0602 0 [vU u.sky.hub, vU a] v) := by
  subst hv hu
  simp only [exec, execAddressApply, hnext, hwindow, Bool.false_eq_true, if_false]

/-! ### The control pass and its seal (R624, R626) -/

theorem controlPass_runs (n : Nat) (hver : s.mgmt.verified = true) (hwarm : s.mgmt.warm = false)
    (hheld : s.mgmt.held = false) (hreset : s.mgmt.resetLow = false) (hpass : s.mgmt.passDone = false)
    (hu : u = each ((passTasks s).take n) passTask s) :
    exec (.controlPass n) s =
      .next { u with mgmt := { u.mgmt with deferred := (passTasks s).drop n, passDone := true } } := by
  subst hu
  simp [exec, execControlPass, hver, hwarm, hheld, hreset, hpass]

theorem controlLoopSeal_seals (hver : s.mgmt.verified = true) (hwarm : s.mgmt.warm = false)
    (hheld : s.mgmt.held = false) (hreset : s.mgmt.resetLow = false) (hopen : s.host.sealed = false) :
    exec .controlLoopSeal s = .next { s with
      host := { s.host with sealed := true, ctlSeal := s.host.ctl, ctl := [] }
      time := { s.time with fSeal := s.time.fBank, fBank := none } } := by
  simp [exec, execControlLoopSeal, hver, hwarm, hheld, hreset, hopen]

/-! ### Resets and restarts -/

/-- An uncorrectable error resets the hub in the safety SRAM and restarts the firmware in any other. -/
theorem sramUncorrectable_restarts (addr : Nat) (safety : Bool) (hreset : s.mgmt.resetLow = false)
    (hheld : s.mgmt.held = false) (hu : u = post pSafety (Config.entryCode 0).toNat 0 [vU addr] s) :
    exec (.sramUncorrectable safety addr) s =
      .next (if safety then heldReset 3 none (journalDrain 208 u) else warmRestart 3 u.now u) := by
  subst hu
  simp [exec, execSramUncorrectable, hreset, hheld]

theorem warmRestart_overrun (hu : u = touch t s) (hover : overrunLimit ≤ u.mgmt.overruns) :
    exec (.warmRestart t) s = .next (warmRestart 1 t u) := by
  subst hu
  simp only [exec, execWarmRestart, if_pos hover]

theorem warmRestart_silent (hu : u = touch t s) (hover : u.mgmt.overruns < overrunLimit)
    (hsilent : silentLimit ≤ u.mgmt.silent) :
    exec (.warmRestart t) s = .next (warmRestart 2 t u) := by
  subst hu
  simp only [exec, execWarmRestart, if_neg (Nat.not_le.mpr hover), if_pos hsilent]

/-- The end of a warm restart takes the version of the active image and fetches the late commands. -/
theorem warmRestartDone_fetches (buses : List (Bool × Option Nat)) (i : ImageInfo) (hwarm : s.mgmt.warm = true)
    (hi : i = if s.mgmt.activeB then s.mgmt.slotB.info else s.mgmt.slotA.info)
    (hu : u = { s with mgmt := { s.mgmt with
      warm := false, booted := some (if s.mgmt.activeB then 1 else 0)
      fwMajor := i.major, fwMinor := i.minor, pairProto := i.pairProto, secver := i.secver } }) :
    exec (.warmRestartDone buses) s = .next (fetchLate (clearBuses buses u)) := by
  subst hu hi
  simp only [exec, execWarmRestartDone, hwarm, Bool.not_true, Bool.false_eq_true, if_false]

/-- A link that was down has no bound to lose. -/
theorem pcieLinkUp_fromDown (rate width : Nat) (hlo : 1 ≤ rate) (hhi : rate ≤ 5)
    (hwidth : [1, 2, 4, 8, 16].contains width = true) (hu : u = linkUp rate width s) (hdown : s.host.linkUp = false) :
    exec (.pcieLinkUp rate width) s = .next u := by
  subst hu
  have hok : (decide (1 ≤ rate) && decide (rate ≤ 5) && [1, 2, 4, 8, 16].contains width) = true := by
    rw [hwidth, decide_eq_true hlo, decide_eq_true hhi]; rfl
  exact (event_of_exists hok _).trans (by simp only [hdown, Bool.false_and, Bool.not_false, if_true])

/-- The ramp of a live update ends in the reset into the new image (R532). -/
theorem liveUpdateReset_resets (hup : s.clover.update = true) (hramp : 32 ≤ s.clover.ramp) :
    exec .liveUpdateReset s = .next (heldReset Config.updateCause none s) := by
  simp [exec, execLiveUpdateReset, hup, hramp]

/-! ### The pair (R513, R520) -/

theorem partnerLoss_early (hu : u = touch t s) (ht : t < u.clover.lastAt + nsSpan 6000) (hext : u.clover.extended = false) :
    exec (.partnerLoss t) s = .next u := by
  subst hu
  simp only [exec, execPartnerLoss, hext, ht, Bool.false_eq_true, if_false, if_true, ite_self]

theorem partnerLoss_extended (hu : u = touch t s) (hformed : u.clover.state = .formed)
    (ht : u.clover.lastAt + nsSpan 12000 ≤ t) (hext : u.clover.extended = true) :
    exec (.partnerLoss t) s = .next (losePartner mirrorCmd u) := by
  subst hu
  simp only [exec, execPartnerLoss, hformed, hext, if_true, if_neg (Nat.not_lt.mpr ht), ne_eq, not_true_eq_false,
    decide_false, Bool.false_and, Bool.not_true, Bool.false_eq_true, if_false]

theorem command_fromPartner (i : Instr) (hu : u = touch t s) (hformed : u.clover.state = .formed)
    (hmirror : (mirrorBody i).isSome = true) :
    exec (.command i none t) s = .next (fromPartner i u) := by
  subst hu
  simp only [exec, execCommand, hformed, hmirror, ne_eq, not_true_eq_false, if_false, if_true]

theorem command_answered (i : Instr) (st : Status) (hu : u = touch t s) (hformed : u.clover.state = .formed) :
    exec (.command i (some st) t) s = .next (fromHere i st u) := by
  subst hu
  simp only [exec, execCommand, hformed, ne_eq, not_true_eq_false, if_false]

end

/-- Settles O60: each clause is the rule of its event. -/
theorem boundaryAndRestartEvents : Obligations.BoundaryAndRestartEvents := by
  unfold Obligations.BoundaryAndRestartEvents
  intro s
  exact ⟨fun sec u v w x => streamsStart_starts s u sec v w x, swathBoundary_turns s,
    fun a u v => addressApply_applies s u a v, fun n u => controlPass_runs s u n, controlLoopSeal_seals s,
    fun addr safety u => sramUncorrectable_restarts s u addr safety,
    fun t u => warmRestart_overrun s u t, fun t u => warmRestart_silent s u t,
    fun buses i u => warmRestartDone_fetches s u buses i, fun rate width u => pcieLinkUp_fromDown s u rate width,
    fun t u hu _ => partnerLoss_early s u t hu, fun t u => partnerLoss_extended s u t,
    fun i t u => command_fromPartner s u t i, fun i st t u => command_answered s u t i st, liveUpdateReset_resets s⟩

end Sys2Proof.Machine
end

section
/-! SUPPORT. The events of the front end: span and bias (O33), excitation (O34). -/

namespace Sys2Proof.Machine

section
variable (s : State) (ch : Nat)

/-! ### Span and bias (R52, R64, R67) -/

/-- A pin, positive (0) or negative (1), that was in the other state leaves or re-enters the span. -/
theorem spanExcursion_sets {u : State} (pin : Nat) (on : Bool) (t : Inst) (hu : u = touch t s)
    (hch : isChannel ch = true) (hpin : pin < 2)
    (hflag : (if pin = 0 then (u.chan ch).outP else (u.chan ch).outN) ≠ on) :
    exec (.spanExcursion ch pin on t) s = .next
      (postAt t pTile 0x0201 (hChan ch) [vU (if on then 1 else 0), vU pin]
        (u.modChan ch (fun c => if pin = 0 then { c with outP := on } else { c with outN := on }))) := by
  subst hu
  have hexists : (isChannel ch && decide (pin < 2)) = true := by rw [hch, decide_eq_true hpin]; rfl
  exact (event_of_exists hexists _).trans (congrArg _ (if_neg hflag))

/-- Past its 8,000 swaths the acquisition ends; ACQUIRE stays until a classification has held (R67). -/
theorem fastAcquisitionEnd_ends {v : State} (hch : isChannel ch = true) (hacq : (s.chan ch).acquiring = true)
    (hleft : (s.chan ch).acqLeft = 0) (hv : v = s.modChan ch (fun c => { c with acquiring := false })) :
    exec (.fastAcquisitionEnd ch) s =
      .next (if 32 ≤ (s.chan ch).biasRun then reportBias ch (s.chan ch).biasClass v else v) := by
  subst hv
  have hover : ((s.chan ch).acquiring && decide ((s.chan ch).acqLeft = 0)) = true := by rw [hacq, hleft]; rfl
  exact (event_of_exists hch _).trans (congrArg _ (if_pos hover))

theorem biasState_reports (hch : isChannel ch = true) (hmode : (s.chan ch).mode = .iepe)
    (hacq : (s.chan ch).acquiring = false) (hrun : 32 ≤ (s.chan ch).biasRun) :
    exec (.biasState ch) s = .next (reportBias ch (s.chan ch).biasClass s) := by
  have hheld : (decide ((s.chan ch).mode = .iepe) && !(s.chan ch).acquiring
      && decide (biasSwaths ≤ (s.chan ch).biasRun)) = true := by
    rw [hmode, hacq, decide_eq_true (show biasSwaths ≤ (s.chan ch).biasRun from hrun)]; rfl
  exact (event_of_exists hch _).trans (congrArg _ (if_pos hheld))

end

/-- Settles O33: each clause is the rule of its event. -/
theorem biasAndSpanEventsSetTheirFlags : Obligations.BiasAndSpanEventsSetTheirFlags := by
  unfold Obligations.BiasAndSpanEventsSetTheirFlags
  intro s
  exact ⟨fun ch on t _ hu hch => spanExcursion_sets s ch 0 on t hu hch (by decide),
    fun ch on t _ hu hch => spanExcursion_sets s ch 1 on t hu hch (by decide),
    fun ch _ => fastAcquisitionEnd_ends s ch, biasState_reports s⟩

/-! ### The state that a driver reports (R81): LIMIT before LOCAL_SENSE (log entry 138), RAMP until EXT ends -/

theorem Group.drives_outOfLimit (x : Group) : Group.drives { x with inLimit := false } =
    if x.sense then .localSense else if x.ext then .ramp else .regulating := rfl

theorem Group.drives_localSense (x : Group) : Group.drives { x with sense := true } =
    if x.inLimit then .limit else .localSense := rfl

theorem Group.drives_remoteSense (x : Group) : Group.drives { x with sense := false } =
    if x.inLimit then .limit else if x.ext then .ramp else .regulating := rfl

theorem Group.drives_settled (x : Group) : Group.drives { x with ext := false, retries := 0 } =
    if x.inLimit then .limit else if x.sense then .localSense else .regulating := rfl

section
variable (s : State) (g mv ua : Nat)

/-! ### The current limit and its fault (R78) -/

theorem excLimit_enters (hg : isGroup g = true) (hon : (s.group g).enabled = true) (hout : (s.group g).inLimit = false)
    (hfault : (s.group g).state ≠ .fault) (hoff : (s.group g).state ≠ .off) :
    exec (.excLimit g mv ua) s = .next (post pTile 0x0203 (hGroup g) [vU 1, vU mv, vU ua]
      (s.modGroup g (fun x => { x with inLimit := true, state := .limit, sensedMv := mv, currentUa := ua }))) :=
  (event_of_exists hg _).trans (by
    simp only [hon, hout, hfault, hoff, Bool.not_true, decide_false, Bool.or_false, Bool.false_eq_true, if_false])

/-- The load falls back: the driver drives again, as sense and EXT say. -/
theorem excLimitExit_leaves (hg : isGroup g = true) (hin : (s.group g).inLimit = true) :
    exec (.excLimitExit g mv ua) s = .next (post pTile 0x0203 (hGroup g) [vU 0, vU mv, vU ua]
      (s.modGroup g (fun x => { x with
        inLimit := false
        state := if x.sense then .localSense else if x.ext then .ramp else .regulating
        sensedMv := mv
        currentUa := ua }))) :=
  (event_of_exists hg _).trans (by
    simp only [hin, Bool.not_true, Bool.false_eq_true, if_false, Group.drives_outOfLimit])

/-- The output turns off, its dead span begins, and after 10 retries it stays off. -/
theorem excFault_turnsOff (hg : isGroup g = true) (hin : (s.group g).inLimit = true) :
    exec (.excFault g) s = .next
      (post pTile 0x0204 (hGroup g) [vU (s.group g).retries, vU (if 10 ≤ (s.group g).retries then 1 else 0)]
        (s.modGroup g (fun x => { x.die s.now with
          inLimit := false
          state := .fault
          staysOff := decide (10 ≤ (s.group g).retries)
          okSwaths := 0
          swathOk := false
          currentUa := 0 }))) :=
  (event_of_exists hg _).trans (by
    simp only [hin, Bool.not_true, Bool.false_eq_true, if_false, decide_eq_true_eq]
    rfl)

theorem excRetry_ramps (hg : isGroup g = true) (hfault : (s.group g).state = .fault)
    (hstays : (s.group g).staysOff = false) :
    exec (.excRetry g) s = .next (post pTile 0x0205 (hGroup g) [vU ((s.group g).retries + 1)]
      (s.modGroup g (fun x => { x with
        state := if x.sense then .localSense else .ramp
        retries := x.retries + 1
        ext := true
        okSwaths := 0
        swathOk := false }))) :=
  (event_of_exists hg _).trans (by
    simp only [hfault, hstays, ne_eq, not_true_eq_false, decide_false, Bool.or_false, Bool.false_eq_true, if_false])

/-! ### The window comparator and the end of EXT (R77, R79) -/

/-- EXT ends and the retries count from 0 (log entry 24); a driver that is neither in FAULT nor OFF ends its dead span
(log entry 166) and drives. -/
theorem excSettled_endsExt (hg : isGroup g = true) (hext : (s.group g).ext = true) (hok : 32 ≤ (s.group g).okSwaths) :
    exec (.excSettled g) s = .next (s.modGroup g (fun x =>
      if x.down then { x with ext := false, retries := 0 }
      else { Group.live s.now { x with ext := false, retries := 0 } with
        state := if x.inLimit then .limit else if x.sense then .localSense else .regulating })) := by
  have hsettled : ((s.group g).ext && decide (settleSwaths ≤ (s.group g).okSwaths)) = true := by
    rw [hext]; exact decide_eq_true hok
  refine (event_of_exists hg _).trans ?_
  simp only [if_pos hsettled, Group.drives_settled]
  rfl

/-! ### Local and remote sense (R80) -/

theorem excLocalSense_senses (hg : isGroup g = true) (hon : (s.group g).enabled = true)
    (hsense : (s.group g).sense = false) (hdown : (s.group g).down = false) :
    exec (.excLocalSense g mv) s = .next (post pTile 0x0206 (hGroup g) [vU 1, vU mv]
      (s.modGroup g (fun x => { x with sense := true, state := if x.inLimit then .limit else .localSense }))) :=
  (event_of_exists hg _).trans (by
    simp only [hon, hsense, hdown, Bool.not_true, Bool.or_false, Bool.false_eq_true, if_false, Group.drives_localSense])

/-- A driver in FAULT or OFF keeps its state. -/
theorem excRemoteSenseReturn_returns (hg : isGroup g = true) (hsense : (s.group g).sense = true) :
    exec (.excRemoteSenseReturn g mv) s = .next (post pTile 0x0206 (hGroup g) [vU 0, vU mv]
      (s.modGroup g (fun x => { x with
        sense := false
        state := if x.down then x.state else if x.inLimit then .limit else if x.ext then .ramp else .regulating }))) :=
  (event_of_exists hg _).trans (by
    simp only [hsense, Bool.not_true, Bool.false_eq_true, if_false, Group.drives_remoteSense])

end

/-- Settles O34: each clause is the rule of its event; the window comparator acts on every existing group. -/
theorem excitationEventsFollowTheDriver : Obligations.ExcitationEventsFollowTheDriver := by
  unfold Obligations.ExcitationEventsFollowTheDriver
  intro s
  exact ⟨excLimit_enters s, excFault_turnsOff s, excRetry_ramps s, fun _ _ _ hg => event_of_exists hg _,
    excSettled_endsExt s, excLocalSense_senses s, excRemoteSenseReturn_returns s, excLimitExit_leaves s⟩

end Sys2Proof.Machine
end

section
/-! SUPPORT. Counters (O12): the sum below all-ones, all-ones with SAT from there on, and what an advance leaves. -/

namespace Sys2Proof.Machine

theorem Ctr.add_below {c : Ctr} {top n : Nat} (h : c.val + n < top) : c.add top n = { c with val := c.val + n } := if_pos h

theorem Ctr.add_saturates {c : Ctr} {top n : Nat} (h : top ≤ c.val + n) : c.add top n = { val := top, sat := true } :=
  if_neg (Nat.not_lt.mpr h)

theorem bumpBy_keeps (k n : Nat) (s : State) : Keeps [.ctrs] s (bumpBy k n s) := by
  intro p hp
  cases p with
  | ctrs => exact absurd (List.mem_singleton.mpr rfl) hp
  | front | red | str | mem | sky | clover | time | host | mgmt | now | pending | free => rfl

/-- Settles O12: an advance adds to its own counter, below all-ones or from there on, and leaves the rest. -/
theorem countersSaturateAtAllOnes : Obligations.CountersSaturateAtAllOnes := by
  unfold Obligations.CountersSaturateAtAllOnes
  intro s k n
  exact ⟨fun h => (ctrOf_bumpBy s k n).trans (Ctr.add_below h),
    fun h => (ctrOf_bumpBy s k n).trans (Ctr.add_saturates h), ctrOf_bumpBy_ne s k n, bumpBy_keeps k n s⟩

end Sys2Proof.Machine
end

section
/-! SUPPORT. The end of an estimation run (O37): a void run, the first run of an attempt and the second. -/

namespace Sys2Proof.Machine

section
variable (s v : State) (m : Nat) (r : CalRun)

/-! ### A run that has ended is void or counts (R120, R122) -/

/-- A void run starts anew; the 16th in a row is the last (R122). -/
theorem calRunDone_void (hm : isModulator m = true) (hend : runEnded s m = true) (hdirty : (s.modu m).dirty = true)
    (hv : v = s.modModu m (fun y => { y with voids := y.voids + 1 })) :
    exec (.calRunDone m r) s = .next
      (if 16 ≤ (s.modu m).voids + 1 then degrade m 2 (s.modu m).attempts v else startEst m s.time.swath v) := by
  subst hv
  refine (event_of_exists hm _).trans ?_
  simp only [hend, hdirty, Bool.not_true, Bool.false_eq_true, if_false, if_true, State.modModu_time]

theorem calRunDone_counts (hm : isModulator m = true) (hend : runEnded s m = true) (hclean : (s.modu m).dirty = false) :
    exec (.calRunDone m r) s = .next (runCounts m r s) := by
  refine (event_of_exists hm _).trans ?_
  simp only [hend, hclean, Bool.not_true, Bool.false_eq_true, if_false]

/-! ### A run that counts (R120, R121) -/

theorem runCounts_first (hnone : (s.modu m).firstRun = none)
    (hv : v = s.modModu m (fun y => { y with voids := 0, residual := r.residual, margin := r.margin })) :
    runCounts m r s = startEst m s.time.swath (v.modModu m (fun y => { y with firstRun := some r })) := by
  subst hv
  simp only [runCounts, hnone, State.modModu_time]

/-- The second run finishes the attempt where the runs agree; else the attempt fails, and the 4th is the last. -/
theorem runCounts_second (q : CalRun) (a : Int) (w z : State) (hsome : (s.modu m).firstRun = some q)
    (ha : a = Config.agreement (shapeSet q.set) (shapeSet r.set) (codeCounts (s.modu m)))
    (hv : v = s.modModu m (fun y => { y with voids := 0, residual := r.residual, margin := r.margin }))
    (hw : w = v.modModu m (fun y => { y with
      agreement := a, firstAgr := if y.attempts = 0 then a else y.firstAgr, residuals := y.residuals ++ [r.residual]
      badRes := if -90 * 256 < r.residual then y.badRes + 1 else 0 }))
    (hz : z = w.modModu m (fun y => { y with firstRun := none, attempts := (s.modu m).attempts + 1 })) :
    runCounts m r s = if a ≤ agreeLimit then attemptDone m r w
      else if 4 ≤ (s.modu m).attempts + 1 then degrade m 1 ((s.modu m).attempts + 1) z
      else startEst m s.time.swath z := by
  subst hz hw hv ha
  simp only [runCounts, hsome, State.modModu_time]

end

/-- Settles O37: a run that has ended is void or counts, and one that counts is the first or the second of its attempt. -/
theorem calibrationRunsDecideTheSet : Obligations.CalibrationRunsDecideTheSet := by
  unfold Obligations.CalibrationRunsDecideTheSet
  rintro s m r x hm rfl hend
  refine ⟨fun hdirty v => calRunDone_void s v m r hm hend hdirty, fun hclean v hv => ⟨fun hnone => ?first, ?second⟩⟩
  case first => rw [calRunDone_counts s m r hm hend hclean, runCounts_first s v m r hnone hv]
  case second =>
    intro q a w hsome ha hw z hz
    rw [calRunDone_counts s m r hm hend hclean, runCounts_second s v m r q a w z hsome ha hv hw hz]

end Sys2Proof.Machine
end

section
/-! SUPPORT. The calibration and spare commands (O23): what the body of each answers once its checks hold. -/

namespace Sys2Proof.Machine

section
variable (c : Cmd) (u : State)

/-! ### CAL_NOW and CAL_SET (R120, R123, R125, R138) -/

theorem bodyCalNow_orders (hchan : names 1 c = true) (htag : (u.modu (mainMod u (hIndex c))).calTag = none)
    (hstarted : (u.tile (tileOf (mainMod u (hIndex c)))).started = true)
    (hmod : noModulator u (mainMod u (hIndex c)) = false) (hch : channelOf u (mainMod u (hIndex c)) = some (hIndex c)) :
    bodyCalNow c u = ({ status := .accepted, objs := [(c.handle.toNat, 0)] },
      (u.modModu (mainMod u (hIndex c)) (fun x => { x with calTag := some (c.tenant, c.queue, c.tag) })).modChan (hIndex c)
        (fun x => { x with calDue := true })) := by
  have hown (f : Modulator → Modulator) (m : Nat) : channelOf (u.modModu m f) m = channelOf u m := rfl
  have hmain (f : Modulator → Modulator) (m ch : Nat) : mainMod (u.modModu m f) ch = mainMod u ch := rfl
  simp only [bodyCalNow, hchan, if_true]
  rw [checked_pass (firstFail_cons (Bool.true_or _) (firstFail_cons (by rw [hstarted, hmod]; rfl)
    (firstFail_cons (by rw [htag]; rfl) firstFail_nil)))]
  simp only [hown, hmain, hch, if_true]

/-- The settings apply at once; the counts of applied sets start from 0 where the change says so. -/
theorem bodyCalSet_sets (pairs : List Pair) (sel clr : Bool) (len : Nat) (thr : Int) (v : State) (hhub : names 0 c = true)
    (hpairs : pairsOk pairs = true)
    (hnew : withPairs setCal pairs (u.front.figCount, false, u.front.runLen, u.front.applyThr) = some (sel, clr, len, thr))
    (hv : v = { u with front := { u.front with figCount := sel, runLen := len, applyThr := thr } }) :
    bodyCalSet c pairs u = ({},
      if clr then each v.front.mods.keys (fun m s => s.modModu m (fun x => { x with applied := 0 })) v else v) := by
  subst hv
  simp only [bodyCalSet, hnew]
  rw [checked_pass (firstFail_cons hhub (firstFail_cons (by rw [hpairs]; rfl) firstFail_nil))]
  rfl

/-! ### SPARE_SHADOW and SPARE_RELEASE (R113, R115) -/

/-- The spare named, or any that may be taken. -/
theorem bodySpareShadow_claims (spare swaths m : Nat) (hchan : names 1 c = true) (hfree : (u.chan (hIndex c)).cover = none)
    (hstarted : (u.tile (tileOf (hIndex c))).started = true)
    (hpick : spare = 0xFFFF ∧ pickSpare u (tileOf (hIndex c)) 2 = some m ∨
      spare ≠ 0xFFFF ∧ spare ∈ sparesOf (tileOf (hIndex c)) ∧ canTake u 2 spare = true ∧ m = spare) :
    bodySpareShadow c spare swaths u = ({ result := leBytes 2 m },
      (claimSpare (hIndex c) m { ordered := true, len := if swaths = 0 then none else some swaths } u).2) := by
  have hfound : (if decide (spare = 0xFFFF) then pickSpare u (tileOf (hIndex c)) 2
      else if canTake u 2 spare then some spare else none) = some m := by
    rcases hpick with ⟨hany, hp⟩ | ⟨hnamed, -, htake, rfl⟩
    · rw [if_pos (decide_eq_true hany), hp]
    · rw [if_neg (by simpa using hnamed), if_pos htake]
  have hspare : (decide (spare = 0xFFFF) || (sparesOf (tileOf (hIndex c))).contains spare) = true := by
    rcases hpick with ⟨hany, -⟩ | ⟨-, hmem, -⟩
    · rw [decide_eq_true hany]; rfl
    · rw [List.contains_iff_mem.mpr hmem, Bool.or_true]
  simp only [bodySpareShadow, hfound]
  exact checked_pass (firstFail_cons hchan (firstFail_cons hspare (firstFail_cons hstarted
    (firstFail_cons (by rw [hfree]; rfl) (firstFail_cons rfl firstFail_nil))))) u _

/-- A shadow that has begun ends at the next boundary; the claim of one that has not is given up. -/
theorem bodySpareRelease_ends (cv : Cover) (hchan : names 1 c = true) (hcover : (u.chan (hIndex c)).cover = some cv)
    (hordered : cv.ordered = true) :
    bodySpareRelease c u = ({}, if cv.entered then u.modChan (hIndex c)
        (fun x => { x with cover := some { cv with endAt := some (nextBoundary u) } })
      else (u.modSpare cv.spare (fun x => { x with claim := none })).modChan (hIndex c) (fun x => { x with cover := none })) := by
  simp only [bodySpareRelease, hcover]
  refine (checked_pass (firstFail_cons hchan (firstFail_cons hordered firstFail_nil)) u _).trans ?_
  simp only [hcover]

/-! ### REMAP_CLEAR and DEM_SET (R137, R603) -/

theorem bodyRemapClear_marks (hmod : names 2 c = true) :
    bodyRemapClear c u = ({}, when (recorded u (hIndex c)) (fun s => s.modModu (hIndex c) (fun x => { x with clear := true })) u) :=
  checked_pass (firstFail_cons hmod firstFail_nil) _ _

theorem rotate_reached (on : Bool) (m : Nat) (hreach : tileReached u m = true) :
    rotate on m u = u.modModu m (fun x => { x with rotation := on }) := if_pos hreach

theorem bodyDemSet_one (on : Bool) (hmod : names 2 c = true) (hone : namesAll 2 c = false)
    (hmay : on = true ∨ isSource u (hIndex c) = false) : bodyDemSet c on u = ({}, rotate on (hIndex c) u) := by
  have hallowed : (on || [hIndex c].any (fun m => !isSource u m)) = true := by
    rcases hmay with rfl | hsource
    · rfl
    · simp [hsource]
  simp only [bodyDemSet, hone, hmod, Bool.false_eq_true, if_false, Bool.false_and]
  exact checked_pass (firstFail_cons rfl (firstFail_cons hallowed firstFail_nil)) u _

/-- A broadcast sets every modulator that may be set and answers how many (log entry 202). -/
theorem bodyDemSet_all (on : Bool) (may : List Nat) (hall : namesAll 2 c = true)
    (hset : may = (allIndices 2).filter (fun m => on || !isSource u m))
    (hmay : on = true ∨ may.any (fun m => !isSource u m) = true) :
    bodyDemSet c on u = ({ status := if may.length < 864 then .partialDone else .done, progress := may.length },
      each may (rotate on) u) := by
  have hallowed : (on || may.any (fun m => !isSource u m)) = true := by rwa [Bool.or_eq_true]
  simp only [bodyDemSet, hall, if_true, ← hset, Bool.true_and, decide_eq_true_eq]
  rw [checked_pass (firstFail_cons (Bool.or_true _) (firstFail_cons hallowed firstFail_nil))]

end

/-- Settles O23: each command answers what its body answers once the checks of its rule hold. -/
theorem calibrationCommandsOrderTheirWork : Obligations.CalibrationCommandsOrderTheirWork := by
  unfold Obligations.CalibrationCommandsOrderTheirWork
  intro c s u hu
  refine ⟨?calNow, ?calSet, ?shadow, ?release, ?clearNone, ?clear, ?demOne, ?demAll⟩
  case calNow =>
    rintro m hrun hchan rfl htag hstarted hmod hch
    exact command_at _ _ c _ s u _ _ hu hrun (bodyCalNow_orders c u hchan htag hstarted hmod hch) code_accepted
  case calSet =>
    intro pairs sel clr len thr v hrun hhub hpairs hnew hv
    exact command_at _ _ c _ s u _ _ hu hrun (bodyCalSet_sets c u pairs sel clr len thr v hhub hpairs hnew hv) code_done
  case shadow =>
    intro spare swaths m hrun hchan hfree hstarted hpick
    exact command_at _ _ c _ s u _ _ hu hrun (bodySpareShadow_claims c u spare swaths m hchan hfree hstarted hpick) code_done
  case release =>
    intro cv hrun hchan hcover hordered
    exact command_at _ _ c _ s u _ _ hu hrun (bodySpareRelease_ends c u cv hchan hcover hordered) code_done
  case clearNone =>
    intro hrun hmod hnone
    have hbody : bodyRemapClear c u = ({}, u) := by rw [bodyRemapClear_marks c u hmod, hnone]; rfl
    exact command_at _ _ c _ s u _ _ hu hrun hbody code_done
  case clear =>
    intro hrun hmod hrec
    have hbody : bodyRemapClear c u = ({}, u.modModu (hIndex c) (fun x => { x with clear := true })) := by
      rw [bodyRemapClear_marks c u hmod, hrec]; rfl
    exact command_at _ _ c _ s u _ _ hu hrun hbody code_done
  case demOne =>
    intro on hrun hmod hone hmay hreach
    have hbody := bodyDemSet_one c u on hmod hone hmay
    rw [rotate_reached u on (hIndex c) hreach] at hbody
    exact command_at _ _ c _ s u _ _ hu hrun hbody code_done
  case demAll =>
    intro on may hrun hall hset hmay
    refine command_at _ _ c _ s u _ _ hu hrun (bodyDemSet_all c u on may hall hset hmay) ?_
    dsimp only
    split
    · exact code_partial
    · exact code_done

end Sys2Proof.Machine
end

section
/-! SUPPORT. The events of a tile, of its wires and of a modulator's loop (O35). -/

namespace Sys2Proof.Machine

section
variable (s u v : State) (tile grp m : Nat)

/-! ### Training, start and reference of a tile (R44, R98, R106, R107) -/

/-- Every modulator of a lost slice that is not known as failed is declared failed by criterion 5, spares first. -/
theorem tileLinkTrainingDone_trains (bad ms : List Nat) (fail : Nat → State → State) (ht : isTile tile = true)
    (htrain : s.mgmt.startup = .memTrain) (hlock : s.mgmt.measLock = true) (hidle : (s.tile tile).started = false)
    (hclock : ∀ g, g < 4 → (s.link (linkKey tile g)).clockLost = false)
    (hu : u = (each (List.range 4) (fun g s => trainGroup tile g bad s) s).modTile tile (fun x => { x with trained := true }))
    (hms : ms = (modsOf tile).filter (fun m => lostSlice u tile (sliceOfMod m)))
    (hfail : fail = fun m s => if knownFailed s m then s else declareFailed m 5 false s) :
    exec (.tileLinkTrainingDone tile bad) s = .next (each (ms.filter isChannel) fail (each (ms.filter isSpare) fail u)) := by
  subst hfail hms hu
  have hclocks : (List.range 4).any (fun g => (s.link (linkKey tile g)).clockLost) = false := by
    rw [List.any_eq_false]
    intro g hg
    rw [hclock g (List.mem_range.mp hg)]
    exact Bool.false_ne_true
  refine (event_of_exists ht _).trans ?_
  simp only [htrain, hlock, hidle, hclocks, ne_eq, not_true_eq_false, decide_false, Bool.not_true, Bool.or_false,
    Bool.false_eq_true, if_false]

theorem modulatorStart_starts (ht : isTile tile = true) (hlock : s.mgmt.measLock = true)
    (htrained : (s.tile tile).trained = true) (href : (s.tile tile).refOn = true) (hsettled : (s.tile tile).settling = false)
    (hfault : (s.tile tile).refFault = false) (hidle : (s.tile tile).started = false) :
    exec (.modulatorStart tile) s = .next
      (each (modsOf tile) (fun m s => s.modModu m (fun x => { x with running := true }))
        (s.modTile tile (fun x => { x with started := true }))) := by
  refine (event_of_exists ht _).trans ?_
  simp only [hlock, htrained, href, hsettled, hfault, hidle, Bool.not_false, Bool.and_true, if_true]

/-- The end of the settling is the end of the fault (log entry 87). -/
theorem refSettled_settles (ht : isTile tile = true) (hsettling : (s.tile tile).settling = true)
    (hu : u = s.modTile tile (fun x => { x with settling := false, refCause := 0 }))
    (hv : v = if (s.tile tile).refCause = 0 then u
      else post pTile 0x0208 (hTile tile) [vU 0, vS (s.tile tile).refDev, vU (s.tile tile).refCause] u) :
    exec (.refSettled tile) s = .next (if coversMayRun v tile then resumeCovers tile v else v) := by
  subst hv hu
  refine (event_of_exists ht _).trans ?_
  simp only [hsettling, when, Bool.not_true, Bool.false_eq_true, if_false, decide_not, Bool.not_eq_true', decide_eq_false_iff_not,
    ite_not]

/-! ### The groups of wires (R108, R109) -/

theorem groupOfWires_exists (ht : isTile tile = true) (hg : grp < 4) : (isTile tile && decide (grp < 4)) = true := by
  rw [ht, decide_eq_true hg]; rfl

theorem tileClockLost_suspends (ht : isTile tile = true) (hg : grp < 4)
    (hclock : (s.link (linkKey tile grp)).clockLost = false) :
    exec (.tileClockLost tile grp) s = .next
      (suspendCovers tile (linkEntry tile grp 1 0 (s.modLink (linkKey tile grp) (fun x => { x with clockLost := true })))) :=
  (event_of_exists (groupOfWires_exists tile grp ht hg) _).trans (by simp only [hclock, Bool.false_eq_true, if_false])

theorem tileGroupRetrain_resumes (back : Bool) (ht : isTile tile = true) (hg : grp < 4)
    (hclock : (s.link (linkKey tile grp)).clockLost = true)
    (hu : u = linkEntry tile grp 2 0 (s.modLink (linkKey tile grp) (fun x => { x with clockLost := !back }))) :
    exec (.tileGroupRetrain tile grp back) s = .next (if coversMayRun u tile then resumeCovers tile u else u) := by
  subst hu
  refine (event_of_exists (groupOfWires_exists tile grp ht hg) _).trans ?_
  simp only [hclock, when, Bool.not_true, Bool.false_eq_true, if_false]

/-- A wire is taken after 8 clean swaths of the repair wire (R108, log entry 113). -/
theorem tileRepairSwitch_takes (w : Nat) (ht : isTile tile = true) (hg : grp < 4)
    (hordered : (s.link (linkKey tile grp)).ordered = some w) (hclean : repairSwaths ≤ (s.link (linkKey tile grp)).clean) :
    exec (.tileRepairSwitch tile grp) s = .next (s.modLink (linkKey tile grp) (fun x => { x with takeNext := true })) := by
  refine (event_of_exists (groupOfWires_exists tile grp ht hg) _).trans ?_
  simp only [hordered, hclean, Option.isSome_some, decide_true, Bool.and_true, if_true]

/-! ### The loop of a modulator (R102) -/

theorem modLoopReset_resets (hm : isModulator m = true) (hrun : (s.modu m).running = true)
    (hresetting : (s.modu m).resetting = false) (hover : overLimit ≤ (s.modu m).overRun) :
    exec (.modLoopReset m) s = .next
      (bump (resetCtr m) (s.modModu m (fun x => { x with resetting := true, resetsSec := x.resetsSec + 1 }))) := by
  refine (event_of_exists hm _).trans ?_
  simp only [hrun, hresetting, hover, Bool.not_false, decide_true, Bool.and_true, if_true]

theorem modLoopRestart_restarts (hm : isModulator m = true) (hresetting : (s.modu m).resetting = true) :
    exec (.modLoopRestart m) s = .next (s.modModu m (fun x => { x with resetting := false, overRun := 0 })) :=
  (event_of_exists hm _).trans (congrArg _ (if_pos hresetting))

end

/-- Settles O35: each clause is the rule of its event. -/
theorem tileEventsActOnTheTile : Obligations.TileEventsActOnTheTile := by
  unfold Obligations.TileEventsActOnTheTile
  intro s
  exact ⟨fun tile bad u ms fail => tileLinkTrainingDone_trains s u tile bad ms fail, modulatorStart_starts s,
    fun tile u v => refSettled_settles s u v tile, tileClockLost_suspends s,
    fun tile grp back u => tileGroupRetrain_resumes s u tile grp back, tileRepairSwitch_takes s,
    modLoopReset_resets s, modLoopRestart_restarts s⟩

end Sys2Proof.Machine
end

section
/-! SUPPORT. Failures, suspects and the cover sequence (O36). -/

namespace Sys2Proof.Machine

theorem isModulator_of_isChannel {m : Nat} (h : isChannel m = true) : isModulator m = true := by
  simp only [isChannel, isModulator, decide_eq_true_eq] at h ⊢
  omega

/-- The channel of a primary is its own. -/
theorem calChan_of_isChannel (s : State) {m : Nat} (h : isChannel m = true) : calChan s m = m := by
  simp only [isChannel, decide_eq_true_eq] at h
  simp only [calChan, channelOf, if_pos h, Option.getD_some]

section
variable (s u v : State) (m ch : Nat) (cv : Cover)

/-! ### Failures and suspects (R114, R133) -/

theorem modFailed_declares (k : Nat) (ok : Bool) (hm : isModulator m = true) (hlo : 1 ≤ k) (hhi : k ≤ 6)
    (hnew : knownFailed s m = false) (hmeets : hasFailed s m k = true) :
    exec (.modFailed m k ok) s = .next (declareFailed m k ok s) := by
  have hexists : (isModulator m && decide (1 ≤ k) && decide (k ≤ 6)) = true := by
    rw [hm, decide_eq_true hlo, decide_eq_true hhi]; rfl
  refine (event_of_exists hexists _).trans ?_
  simp only [hnew, hmeets, Bool.not_true, Bool.or_false, Bool.false_eq_true, if_false]

/-- A spare that has covered for 256 swaths, shadowing or serving, with nothing scheduled, is suspect: its channel loses the
cover, or is moved to another spare (log entry 147). -/
theorem spareSuspect_marks (since : Nat) (hm : isSpare m = true) (hsource : (s.spare m).source = some ch)
    (hnew : (s.spare m).suspect = false) (hcover : (s.chan ch).cover = some cv) (hspare : cv.spare = m)
    (hentered : cv.entered = true) (hordered : cv.ordered = false) (hstopped : cv.stopped = false)
    (htake : (cv.takeAt.isSome && !cv.serving) = false) (hback : cv.handback = false)
    (hsince : since = if cv.serving then cv.ranFrom else cv.start) (hswaths : since + suspectSwaths ≤ s.time.swath)
    (hu : u = post pTile 0x020E (hMod m) [vU ch, vU (s.time.swath - since)]
      (s.modSpare m (fun x => { x with suspect := true }))) :
    exec (.spareSuspect m) s = .next (if cv.serving then moveCover ch u else loseCover ch u) := by
  subst hu hsince
  refine (event_of_exists hm _).trans ?_
  simp only [hsource, hcover, hspare, hentered, hordered, hstopped, htake, hback, hnew, Nat.not_lt.mpr hswaths, ne_eq,
    not_true_eq_false, decide_false, Bool.not_true, Bool.or_false, Bool.false_eq_true, if_false, State.modSpare_time]

/-! ### Takeover, restart and handback (R113, R117, R126, R129) -/

theorem coverTakeover_schedules (gain : Nat × Nat) (offs : Int × Nat) (k : Match) (hch : isChannel ch = true)
    (hk : k = Match.mk gain.1 offs.1 gain.2 offs.2) (hcover : (s.chan ch).cover = some cv) (hentered : cv.entered = true)
    (hserving : cv.serving = false) (hsusp : cv.suspended = false) (hordered : cv.ordered = false)
    (hswaths : cv.start + 4 ≤ nextBoundary s) (htrims : trimsOk k = true) (hnear : matchNear k = true) :
    exec (.coverTakeover ch gain offs) s = .next (s.modChan ch (fun c => { c with
      cover := some { cv with takeAt := some (nextBoundary s), trim := some (k.gain, k.offs) } })) := by
  subst hk
  refine (event_of_exists hch _).trans ?_
  simp only [hcover, hentered, hserving, hsusp, hordered, htrims, hnear, Nat.not_lt.mpr hswaths, decide_false, Bool.not_true,
    Bool.or_false, Bool.false_eq_true, if_false]

theorem coverHandback_schedules (gain : Nat × Nat) (offs : Int × Nat) (k : Match) (hch : isChannel ch = true)
    (hk : k = Match.mk gain.1 offs.1 gain.2 offs.2) (hcover : (s.chan ch).cover = some cv) (hserving : cv.serving = true)
    (hstopped : cv.stopped = false) (hsusp : cv.suspended = false) (hswaths : cv.ranFrom + 4 ≤ nextBoundary s)
    (htrims : trimsOk k = true) (hnear : matchNear k = true) :
    exec (.coverHandback ch gain offs) s = .next (s.modChan ch (fun c => { c with
      cover := some { cv with handback := true, trim := some (k.gain, k.offs) } })) := by
  subst hk
  refine (event_of_exists hch _).trans ?_
  simp only [hcover, hserving, hstopped, hsusp, htrims, hnear, Nat.not_lt.mpr hswaths, decide_false, Bool.not_true,
    Bool.or_false, Bool.false_eq_true, if_false]

/-- The stopped primary of a cover sequence that is neither suspended nor late starts 1 µs before its two swaths are over. -/
theorem primaryRestart_starts (t : Inst) (b : Nat) (hu : u = touch t s) (hm : isChannel m = true) (hmain : mainMod u m = m)
    (hstop : (u.modu m).stopAt = some b) (ht : t = boundary (b + 2) - nsSpan 1000) (hcover : (u.chan m).cover = some cv)
    (hstopped : cv.stopped = true) (hsusp : cv.suspended = false) (hlate : cv.late = false) (hreach : tileReached u m = true)
    (hv : v = (u.modModu m (fun x => { x with
      running := true, overRun := 0, resetting := false, sameRun := 0, stopAt := none })).modModu m
        (fun x => { x with active := x.proposed.getD x.active })) :
    exec (.primaryRestart (m, t)) s = .next
      (v.modChan m (fun c => { c with cover := some { cv with stopped := false, late := false, ranFrom := b + 2 } })) := by
  subst hv hu
  have hkept (f : Modulator → Modulator) : mainMod ((touch t s).modModu m f) m = m := hmain
  refine (event_of_exists (isModulator_of_isChannel hm) _).trans ?_
  simp only [hstop, calChan_of_isChannel _ hm, hcover, hstopped, hsusp, hlate, hreach, decide_eq_true ht, hm, hkept, Bool.not_true,
    Bool.and_false, Bool.or_false, Bool.true_or, Bool.false_eq_true, if_false, decide_true, Bool.and_true, if_true]

/-! ### Reference check and substitution (R126, R129, R139) -/

theorem refcheckDone_setsGain (gain b : Nat) (hm : isSpare m = true) (hstate : (s.spare m).state = .refcheck)
    (hfrom : (s.spare m).refFrom = some b) (hswaths : b + 64 ≤ nextBoundary s) (htrims : trimsOk { gain := gain } = true) :
    exec (.refcheckDone m gain) s = .next (s.modSpare m (fun x => { x with refGain := some gain })) := by
  refine (event_of_exists hm _).trans ?_
  simp only [hstate, hfrom, Option.getD_some, hswaths, htrims, decide_true, Bool.and_true, if_true]

theorem substitutionEnd_applies (b : Nat) (hch : isChannel ch = true) (hstop : (s.chan ch).stopB = some b)
    (hswaths : b + 2 ≤ s.time.swath + 1) (hreach : tileReached s (mainMod s ch) = true)
    (hu : u = s.modChan ch (fun c => { c with stopB := none })) (hm : m = mainMod s ch) :
    exec (.substitutionEnd ch) s = .next
      (roundDone m (setApplied m (b + 2) 1 (u.modModu m (fun x => { x with running := true, stopAt := none })))) := by
  subst hm hu
  have hkept (f : Channel → Channel) : tileReached (s.modChan ch f) (mainMod s ch) = true := hreach
  refine (event_of_exists hch _).trans ?_
  simp only [hstop, Nat.not_lt.mpr hswaths, hkept, Bool.not_true, Bool.and_false, Bool.false_eq_true, if_false]

end

/-- Settles O36: each clause is the rule of its event; a suspect spare shadows or serves. -/
theorem coverAndFailureEventsActOnSpares : Obligations.CoverAndFailureEventsActOnSpares := by
  unfold Obligations.CoverAndFailureEventsActOnSpares
  intro s
  refine ⟨modFailed_declares s, ?shadowing, ?serving, fun ch gain offs k cv => coverTakeover_schedules s ch cv gain offs k,
    fun m t u v b cv => primaryRestart_starts s u v m cv t b, fun ch gain offs k cv => coverHandback_schedules s ch cv gain offs k,
    refcheckDone_setsGain s, fun ch b m u => substitutionEnd_applies s u m ch b⟩
  case shadowing =>
    intro m ch cv u hm hsource hnew hcover hspare hentered hordered hserving hstopped htake hback hswaths hu
    have hmarked := spareSuspect_marks s u m ch cv cv.start hm hsource hnew hcover hspare hentered hordered hstopped
      (by rw [htake]; rfl) hback (by rw [hserving]; rfl) hswaths hu
    rwa [hserving] at hmarked
  case serving =>
    intro m ch cv u hm hsource hnew hcover hspare hentered hordered hserving hstopped hback hswaths hu
    have hmarked := spareSuspect_marks s u m ch cv cv.ranFrom hm hsource hnew hcover hspare hentered hordered hstopped
      (by rw [hserving, Bool.not_true, Bool.and_false]) hback (by rw [hserving]; rfl) hswaths hu
    rwa [hserving] at hmarked

end Sys2Proof.Machine
end

section
/-! SUPPORT. The reports of tach inputs, shaft groups, trigger units and refusals (O24). -/

namespace Sys2Proof.Machine

section
variable (c : Cmd) (u : State)

/-- A listing whose entries all fit the buffer completes with DONE, all of them written (R574). -/
theorem report_fits (size : Nat) (items : List (List Byte)) (result : Nat → List Byte) (hsize : 0 < size)
    (hfit : size * items.length ≤ bufLen c) : report c size items result u =
      ({ progress := items.length, result := result items.length, out := some items.flatten }, u) := by
  have hall : items.take (bufLen c / size) = items :=
    List.take_of_length_le ((Nat.le_div_iff_mul_le hsize).mpr (Nat.mul_comm size _ ▸ hfit))
  simp only [report, hall, Nat.lt_irrefl, if_false]

theorem bodyTachStatus_counters (htach : names 7 c = true) : bodyTachStatus c u =
    ({ result := (List.range 4).flatMap (fun n => leBytes 4 (ctrOf u (ctrKey 7 (hIndex c) n 0)).val) }, u) :=
  checked_pass (firstFail_cons htach firstFail_nil) u _

theorem bodyShaftStatus_reports (hgroup : names 8 c = true) : bodyShaftStatus c u =
    ({ result := leBytes 4 (shaftCode (u.shaft (hIndex c)).state) ++ leBytes 4 (u.shaft (hIndex c)).speed
        ++ leBytes 8 (u.shaft (hIndex c)).revs }, u) :=
  checked_pass (firstFail_cons hgroup firstFail_nil) u _

/-- The items go into the buffer as far as they fit; RESULT has state and counters in either case (R247, R712). -/
theorem bodyTriggerStatus_reports (hunit : names 9 c = true) :
    ∃ items result, bodyTriggerStatus c u = report c 16 items result u ∧
      ∀ n, result n = leBytes 4 (trigCode (u.unit (hIndex c)).state) ++
        (List.range 3).flatMap (fun n => leBytes 4 (ctrOf u (ctrKey 9 (hIndex c) n 0)).val) :=
  ⟨_, _, checked_pass (firstFail_cons hunit firstFail_nil) u _, fun _ => rfl⟩

theorem bodyRefusalRead_lists (hhub : names 0 c = true) (hfit : 32 * u.red.refusals.length ≤ bufLen c) :
    bodyRefusalRead c u = ({ progress := u.red.refusals.length, result := leBytes 4 u.red.refusals.length
                             out := some (u.red.refusals.map refusalBytes).flatten }, u) := by
  have hlen : (u.red.refusals.map refusalBytes).length = u.red.refusals.length := List.length_map ..
  refine (checked_pass (firstFail_cons hhub firstFail_nil) u _).trans ?_
  rw [report_fits c u 32 _ counted (by decide) (by rwa [hlen]), hlen, counted]

end

/-- Settles O24: the body of each report leaves the state as it is. -/
theorem shaftAndTriggerReportsChangeNothing : Obligations.ShaftAndTriggerReportsChangeNothing := by
  unfold Obligations.ShaftAndTriggerReportsChangeNothing
  intro c s u hu
  refine ⟨?tach, ?shaft, ?trigger, ?refusals⟩
  case tach =>
    intro hrun htach
    exact command_at _ _ c _ s u _ _ hu hrun (bodyTachStatus_counters c u htach) code_done
  case shaft =>
    intro hrun hgroup
    exact command_at _ _ c _ s u _ _ hu hrun (bodyShaftStatus_reports c u hgroup) code_done
  case trigger =>
    intro hrun hunit
    obtain ⟨items, result, hbody, hresult⟩ := bodyTriggerStatus_reports c u hunit
    exact ⟨(report c 16 items result u).1, rfl, report_status c 16 items result u, hresult _,
      command_at _ _ c _ s u _ u hu hrun hbody (report_code c 16 items result u)⟩
  case refusals =>
    intro hrun hhub hfit
    exact command_at _ _ c _ s u _ _ hu hrun (bodyRefusalRead_lists c u hhub hfit) code_done

end Sys2Proof.Machine
end

section
/-! SUPPORT. The commands that set shaft groups, descriptors and trigger units (O25). -/

namespace Sys2Proof.Machine

section
variable (c : Cmd) (u : State)

/-! ### SHAFT_RETURN and TUSSOCK_JUMP (R223, R253) -/

theorem bodyShaftReturn_returns (hgroup : names 8 c = true) (htime : (u.shaft (hIndex c)).state = .time)
    (hcommand : (u.shaft (hIndex c)).command = true) (hmay : (u.shaft (hIndex c)).mayReturn = true)
    (hcopies : boundCopies u (hIndex c) = false) : bodyShaftReturn c u =
      ({}, u.modShaft (hIndex c) (fun x => { x with returnAt := true, mayReturn := false })) := by
  have hreturn : (decide ((u.shaft (hIndex c)).state = .time) && (u.shaft (hIndex c)).command
      && (u.shaft (hIndex c)).mayReturn) = true := by rw [htime, hcommand, hmay]; rfl
  have hidle : (!boundCopies u (hIndex c)) = true := by rw [hcopies]; rfl
  unfold bodyShaftReturn
  exact checked_pass (firstFail_cons hgroup (firstFail_cons hreturn (firstFail_cons hidle firstFail_nil))) u _

theorem bodyTussockJump_registers (target : Nat) (hunit : names 9 c = true)
    (htarget : target < 65536 ∨ target = 0xFFFFFFFF) : bodyTussockJump c target u =
      ({}, registerJump (hIndex c) (if target = 0xFFFFFFFF then none else some target) u) := by
  have hok : (decide (target < 65536) || decide (target = 0xFFFFFFFF)) = true := by
    rwa [Bool.or_eq_true, decide_eq_true_iff, decide_eq_true_iff]
  exact checked_pass (firstFail_cons hunit (firstFail_cons hok firstFail_nil)) u _

/-! ### Descriptors (R249 to R251) -/

theorem bodyDescCreate_stores (d : Descriptor) (i : Nat) (v : State) (hhub : names 0 c = true)
    (hdesc : firstFail (descChecks d u) = none) (hfree : freeDesc u = some i)
    (hv : v = { u with red := { u.red with
      descs := u.red.descs.set i (some d), descOwner := u.red.descOwner.set i c.tenant } }) :
    bodyDescCreate c d u =
      ({ result := leBytes 2 i, objs := [(handleOf 0x0A i, 3)] }, noteUse 3 v.red.descs.length v) := by
  subst hv
  refine (checked_pass (firstFail_cons hhub hdesc) u _).trans ?_
  simp only [hfree]

section
variable (hdesc : names 0x0A c = true) (hlive : (u.red.descs.get (hIndex c)).isSome = true)
  (howner : u.red.descOwner.get (hIndex c) = c.tenant) (hidle : descBusy u (hIndex c) = false)
include hdesc hlive howner hidle

/-- A live descriptor that the tenant owns and no unit uses is not foreign, and its own checks pass. -/
theorem descOwned_passes : (names 0x0A c && (u.red.descs.get (hIndex c)).isSome) = true ∧
    decide (u.red.descOwner.get (hIndex c) ≠ c.tenant) = false ∧ (!descBusy u (hIndex c)) = true :=
  ⟨by rw [hdesc, hlive]; rfl, by simpa using howner, by rw [hidle]; rfl⟩

theorem bodyDescSet_replaces (d : Descriptor) (hnew : firstFail (descChecks d u) = none) : bodyDescSet c d u =
    ({ objs := [(c.handle.toNat, 3)] }, { u with red := { u.red with descs := u.red.descs.set (hIndex c) (some d) } }) := by
  obtain ⟨hthere, hown, hfree⟩ := descOwned_passes c u hdesc hlive howner hidle
  simp only [bodyDescSet, hthere, hown, Bool.and_false, Bool.false_eq_true, if_false]
  exact checked_pass (firstFail_cons rfl (firstFail_cons hfree hnew)) u _

theorem bodyDescFree_frees : bodyDescFree c u = ({ progress := 1, objs := [(c.handle.toNat, 3)] },
    { u with red := { u.red with
      descs := u.red.descs.set (hIndex c) none, descOwner := u.red.descOwner.set (hIndex c) 0 } }) := by
  obtain ⟨hthere, hown, hfree⟩ := descOwned_passes c u hdesc hlive howner hidle
  simp only [bodyDescFree, hthere, hown, Bool.and_false, Bool.false_eq_true, if_false]
  exact checked_pass (firstFail_cons rfl (firstFail_cons hfree firstFail_nil)) u _

end

end

/-- Settles O25: each command answers what its body answers once the checks of its rule hold. -/
theorem triggerCommandsSetTheirObjects : Obligations.TriggerCommandsSetTheirObjects := by
  unfold Obligations.TriggerCommandsSetTheirObjects
  intro c s u hu
  refine ⟨?shaftReturn, ?create, ?set, ?free, ?jump⟩
  case shaftReturn =>
    intro hrun hgroup htime hcommand hmay hcopies
    exact command_at _ _ c _ s u _ _ hu hrun (bodyShaftReturn_returns c u hgroup htime hcommand hmay hcopies) code_done
  case create =>
    intro d i v hrun hhub hdesc hfree hv
    exact command_at _ _ c _ s u _ _ hu hrun (bodyDescCreate_stores c u d i v hhub hdesc hfree hv) code_done
  case set =>
    intro d hrun hdesc hlive howner hidle hnew
    exact command_at _ _ c _ s u _ _ hu hrun (bodyDescSet_replaces c u hdesc hlive howner hidle d hnew) code_done
  case free =>
    intro hrun hdesc hlive howner hidle
    exact command_at _ _ c _ s u _ _ hu hrun (bodyDescFree_frees c u hdesc hlive howner hidle) code_done
  case jump =>
    intro target hrun hunit htarget
    exact command_at _ _ c _ s u _ _ hu hrun (bodyTussockJump_registers c u target hunit htarget) code_done

end Sys2Proof.Machine
end

section
/-! SUPPORT. The events of tach inputs and shaft groups (O50): pulses and their confirmation, codes, missing edges and
the zeros that HOLDOVER predicts. -/

namespace Sys2Proof.Machine

section
variable (s u : State) (n g : Nat)

/-! ### Pulses of an input (R194, R195) -/

/-- A pulse opened under the settings in force is judged by them. -/
theorem asOpened_current (f : State → State) (hbefore : (u.tach n).before = none) : asOpened n f u = f u := by
  simp only [asOpened, hbefore]

theorem openPulse_opens (t : Inst) (up : Bool) (hopen : (u.tach n).opened = none) :
    openPulse n t up u = u.modTach n (fun x => { x with level := up, opened := some t }) := by
  simp only [openPulse, hopen]

theorem openPulse_removesGlitch (t t0 : Inst) (up : Bool) (hopen : (u.tach n).opened = some t0)
    (hshort : t - t0 < glitchSpan (u.tach n)) : openPulse n t up u =
      bump (ctrKey 7 n 1 0) (u.modTach n (fun x => { x with level := up, opened := none, glitchAdj := true })) := by
  simp only [openPulse, hopen, hshort, if_true]

theorem openPulse_confirms (t t0 : Inst) (up : Bool) (hopen : (u.tach n).opened = some t0)
    (hlong : glitchSpan (u.tach n) ≤ t - t0) : openPulse n t up u =
      (confirmPulse n u).modTach n (fun x => { x with level := up, opened := some t }) := by
  simp only [openPulse, hopen, Nat.not_lt.mpr hlong, if_false]

/-- A voltage that the comparator takes to the other level opens a pulse. -/
theorem tachTransition_changes (uv : Int) (up : Bool) (t : Inst) (hu : u = touch t s) (htach : isTach n = true)
    (hup : up = (u.tach n).compare uv) (hchange : (u.tach n).level ≠ up) :
    exec (.tachTransition n uv t) s = .next (asOpened n (openPulse n t up) u) := by
  subst hup hu
  exact (event_of_exists htach _).trans (congrArg _ (if_neg hchange))

/-- W after its opening the open pulse is confirmed, by the settings of its opening. -/
theorem tachEdgeConfirmed_confirms (t0 : Inst) (htach : isTach n = true) (hopen : (s.tach n).opened = some t0) :
    exec (.tachEdgeConfirmed n) s =
      .next (asOpened n (fun s => confirmPulse n (touch (t0 + glitchSpan (s.tach n)) s)) s) := by
  refine (event_of_exists htach _).trans ?_
  simp only [hopen]

/-! ### Codes (R209, R210) -/

theorem codeTimeout_aborts (htach : isTach n = true) (hcode : (s.tach n).decoder.isSome = true) :
    exec (.codeTimeout n) s = .next (abortCode n s) :=
  (event_of_exists htach _).trans (congrArg _ (if_pos hcode))

/-- The input is flooded and the groups that read its codes miss a revolution. -/
theorem codeFlood_floods (v : State) (htach : isTach n = true) (hcodes : (s.tach n).codeOn = true)
    (hu : u = if (s.tach n).decoder.isSome then abortCode n s else s)
    (hv : v = bump (ctrKey 7 n 3 0) (u.modTach n (fun x => { x with flooded := true, lastId := 128, idRun := 0 })))
    (hlead : follows v = false) : exec (.codeFlood n) s = .next (each (codeGroups v n) missRevolution v) := by
  subst hv hu
  refine (event_of_exists htach _).trans ?_
  simp only [hcodes, Bool.not_true, Bool.false_eq_true, if_false, hlead]

/-! ### Shaft groups (R203, R205, R222) -/

/-- The window of an awaited edge is over: outside a code in progress the edge is missing (R211). -/
theorem edgeDeadline_losesEdge (htach : isTach g = true) (hlead : follows s = false)
    (hawaits : (s.shaft g).awaits = true)
    (hcode : (s.shaft g).zeroKind ≠ 2 ∨ (sourceInput s g).bind (fun n => (s.tach n).decoder) = none) :
    exec (.edgeDeadline g) s = .next (loseEdge g (touch (s.shaft g).deadline s)) := by
  refine (event_of_exists htach _).trans ?_
  rcases hcode with hkind | hnone
  · simp only [hlead, hawaits, hkind, Bool.not_true, Bool.or_false, Bool.false_eq_true, if_false, decide_false,
      Bool.false_and]
  · simp only [hlead, hawaits, hnone, Bool.not_true, Bool.or_false, Bool.false_eq_true, if_false, Bool.and_false]

/-- After 64 predicted revolutions the group enters TIME. -/
theorem shaftFallback_entersTime (htach : isTach g = true) (hlead : follows s = false)
    (hhold : (s.shaft g).state = .holdover) (hrevs : 64 ≤ (s.shaft g).predRevs)
    (hu : u = s.modShaft g (fun x =>
      { x with state := .time, good := 0, edges := 0, blend := none, fellBack := true, mayReturn := false })) :
    exec (.shaftFallback g) s = .next (sendDecision (.shaft g .time (s.shaft g).revs false)
      (post pApp 0x0401 (hShaft g) [vU 3, vU 4, vU (s.shaft g).revs] (bump (ctrKey 8 g 9 0) u))) := by
  subst hu
  have hdue : ¬ (follows s || (s.shaft g).state ≠ .holdover || (s.shaft g).predRevs < 64) = true := by
    simp [hlead, hhold, hrevs]
  exact (event_of_exists htach _).trans (congrArg _ (if_neg hdue))

/-- In HOLDOVER, before the end of a blend, the revolution counts at the instant of its zero (log entries 34 and 151). -/
theorem predictedZero_counts (x : Shaft) (t : Inst) (htach : isTach g = true) (hlead : follows s = false)
    (hx : x = s.shaft g) (hhold : x.state = .holdover) (hblend : x.blend = none ∨ x.revs < x.blendRev)
    (ht : t = match angleInstant x (((x.revs : Int) + 1) * revAngle x) with
      | some (a, _) => a
      | none => (interpAt x.labels (((x.revs : Int) + 1) * revAngle x)).toNat)
    (hu : u = (touch t s).modShaft g (fun x =>
      { x with revs := x.revs + 1, predRevs := x.predRevs + 1, marked := false })) :
    exec (.predictedZero g) s = .next (sendDecision (.zero g) (zeroEvent g t true none u)) := by
  subst hu ht hx
  have hcounts : ¬ (!(decide ((s.shaft g).state = .holdover) &&
      ((s.shaft g).blend.isNone || decide ((s.shaft g).revs < (s.shaft g).blendRev)))) = true := by
    rw [decide_eq_true hhold, Bool.true_and, Bool.not_eq_true', Bool.not_eq_false, Bool.or_eq_true,
      Option.isNone_iff_eq_none, decide_eq_true_iff]
    exact hblend
  have hleads : ¬ follows s = true := by simp [hlead]
  exact (event_of_exists htach _).trans (congrArg _ ((if_neg hleads).trans (if_neg hcounts)))

end

/-- Settles O50: each clause is the rule of its event; the pulses are judged by the settings of their opening. -/
theorem tachEventsFollowTheEdges : Obligations.TachEventsFollowTheEdges := by
  unfold Obligations.TachEventsFollowTheEdges
  intro s
  refine ⟨?opens, ?glitch, ?confirms, ?earlier, ?confirmed, ?confirmedEarlier, ?deadline, codeTimeout_aborts s,
    fun n u v => codeFlood_floods s u n v, fun g u => shaftFallback_entersTime s u g,
    fun g x t u => predictedZero_counts s u g x t⟩
  case opens =>
    intro n uv up t u hu htach hup hchange hbefore hopen
    rw [tachTransition_changes s u n uv up t hu htach hup hchange, asOpened_current u n _ hbefore,
      openPulse_opens u n t up hopen]
  case glitch =>
    intro n uv up t u t0 hu htach hup hchange hbefore hopen hshort
    rw [tachTransition_changes s u n uv up t hu htach hup hchange, asOpened_current u n _ hbefore,
      openPulse_removesGlitch u n t t0 up hopen hshort]
  case confirms =>
    intro n uv up t u t0 hu htach hup hchange hbefore hopen hlong
    rw [tachTransition_changes s u n uv up t hu htach hup hchange, asOpened_current u n _ hbefore,
      openPulse_confirms u n t t0 up hopen hlong]
  case earlier =>
    intro n uv up t u _ hu htach hup hchange _
    exact tachTransition_changes s u n uv up t hu htach hup hchange
  case confirmed =>
    intro n t0 htach hbefore hopen
    rw [tachEdgeConfirmed_confirms s n t0 htach hopen, asOpened_current s n _ hbefore]
  case confirmedEarlier =>
    intro n t0 _ htach _ hopen
    exact tachEdgeConfirmed_confirms s n t0 htach hopen
  case deadline =>
    rintro g _ htach rfl hlead hawaits hcode
    exact edgeDeadline_losesEdge s g htach hlead hawaits hcode

end Sys2Proof.Machine
end

section
/-! SUPPORT. Descriptors in use (O13): what a command that tries to change or free one is refused with (R251). -/

namespace Sys2Proof.Machine

/-- A command that runs and is refused leaves the state at its instant with the answer alone (R588). -/
theorem command_refused (op : Nat) (self : Instr) (c : Cmd) (body : State → Reply × State) (s u : State) (r : Reply)
    (hu : u = touch c.at_ s) (h : Runs op c s) (hb : body u = (r, u)) (hr : 0x8000 ≤ statusCode r.status) :
    command op self c body s = .next (answer op c false r u) := by
  subst hu
  rw [command_runs op self c body s h, hb]
  exact congrArg _ (if_neg (Nat.not_lt.mpr hr))

theorem code_busy : 0x8000 ≤ statusCode .busy := by decide

theorem firstFail_holds (st : Status) (r : List (Bool × Status)) : firstFail ((true, st) :: r) = firstFail r := rfl

/-- The one check that fails among checks that hold is the one reported. -/
theorem firstFail_fails {st : Status} {r : List (Bool × Status)} (hr : firstFail r = none) :
    firstFail ((false, st) :: r) = some st := by
  simp only [firstFail, hr]

/-- A body with a check that fails refuses with its status. -/
theorem checked_refuses {l : List (Bool × Status)} {st : Status} (h : firstFail l = some st) (s : State)
    (body : State → Reply × State) : checked l s body = refuse st s := by
  unfold checked; rw [h]

/-- A descriptor is in use by an enabled unit, or by a tussock in flight (R251). -/
theorem descBusy_iff (s : State) (i : Nat) : descBusy s i = true ↔
    (∃ p ∈ s.red.units, p.2.on = true ∧ (p.2.current = some i ∨ p.2.head = some i)) ∨
      ∃ x ∈ s.red.tussocks, x.desc = i ∧ x.state = 0 := by
  simp only [descBusy, Bool.or_eq_true, List.any_eq_true, Bool.and_eq_true, decide_eq_true_eq]

section
variable (c : Cmd) (u : State) (hdesc : names 0x0A c = true) (hlive : (u.red.descs.get (hIndex c)).isSome = true)
  (howner : u.red.descOwner.get (hIndex c) = c.tenant) (hbusy : descBusy u (hIndex c) = true)
include hdesc hlive howner hbusy

/-- A descriptor in use that the tenant owns is there and is not foreign; only the check of its use fails. -/
theorem descInUse_fails : (names 0x0A c && (u.red.descs.get (hIndex c)).isSome) = true ∧
    decide (u.red.descOwner.get (hIndex c) ≠ c.tenant) = false ∧ (!descBusy u (hIndex c)) = false :=
  ⟨by rw [hdesc, hlive]; rfl, by simpa using howner, by rw [hbusy]; rfl⟩

theorem bodyDescSet_busy (d : Descriptor) (hnew : firstFail (descChecks d u) = none) :
    bodyDescSet c d u = ({ status := .busy }, u) := by
  obtain ⟨hthere, hown, huse⟩ := descInUse_fails c u hdesc hlive howner hbusy
  simp only [bodyDescSet, hthere, hown, huse, Bool.and_false, Bool.false_eq_true, if_false]
  exact checked_refuses ((firstFail_holds ..).trans (firstFail_fails hnew)) u _

theorem bodyDescFree_busy : bodyDescFree c u = ({ status := .busy }, u) := by
  obtain ⟨hthere, hown, huse⟩ := descInUse_fails c u hdesc hlive howner hbusy
  simp only [bodyDescFree, hthere, hown, huse, Bool.and_false, Bool.false_eq_true, if_false]
  exact checked_refuses ((firstFail_holds ..).trans (firstFail_fails firstFail_nil)) u _

end

/-- Settles O13: the check of a descriptor's use is the only one that fails, so the body refuses with BUSY. -/
theorem descriptorsInUseAreKept : Obligations.DescriptorsInUseAreKept := by
  unfold Obligations.DescriptorsInUseAreKept
  rintro c s u i hu hdesc rfl hlive howner huse
  have hbusy : descBusy u (hIndex c) = true := (descBusy_iff u (hIndex c)).mpr huse
  refine ⟨fun d hrun hnew => ?set, fun hrun => ?free⟩
  case set =>
    exact command_refused _ _ c _ s u _ hu hrun (bodyDescSet_busy c u hdesc hlive howner hbusy d hnew) code_busy
  case free =>
    exact command_refused _ _ c _ s u _ hu hrun (bodyDescFree_busy c u hdesc hlive howner hbusy) code_busy

end Sys2Proof.Machine
end

section
/-! SUPPORT. The events of trigger units, field pins, cross-triggers and records (O42): fires that wait are judged in the
order of their instants (log entry 194). -/

namespace Sys2Proof.Machine

section
variable (s u v : State) (n p : Nat) (t : Inst)

/-! ### Time units, field pins and re-arming (R239, R243, R244, R253) -/

/-- A time unit that is on fires at T0 + k × P; without a period it fires once. -/
theorem triggerTimeExpiry_fires (t0 : TT) (per : Nat) (trig : Inst) (hunit : isUnit n = true)
    (hsource : (s.unit n).source = .time t0 per) (hon : (s.unit n).on = true) (hdue : per ≠ 0 ∨ (s.unit n).timeK = 0)
    (htrig : trig = instOf t0 + (s.unit n).timeK * nsSpan per) :
    exec (.triggerTimeExpiry n) s = .next
      (judgeShots (fireUnit n trig none ((touch trig s).modUnit n (fun y => { y with timeK := y.timeK + 1 })))) := by
  subst htrig
  have hfires : (!(s.unit n).on || (decide (per = 0) && decide (0 < (s.unit n).timeK))) = false := by
    rcases hdue with hper | hfirst
    · simp [hon, hper]
    · simp [hon, hfirst]
  refine (event_of_exists hunit _).trans ?_
  simp only [hsource, hfires, Bool.false_eq_true, if_false]

/-- The edge of an input pin. -/
theorem fieldPinEdge_feeds (up : Bool) (hu : u = touch t s) (hpin : isPin p = true) (hinput : (u.pin p).driven = false)
    (hv : v = (let w := u.modPin p (fun x => { x with level := up })
      judgeShots (each (unitsWith w t (fun x => decide (x.source = .pin p (!up))))
        (fun n s => fireUnit n (tickAt t) none s) w))) :
    exec (.fieldPinEdge p up t) s = .next
      (each ((v.red.units.filter (fun k => decide ((k.2.at_ t).jumpIn = some (p, !up)))).map (·.1))
        (fun n s => registerJump n none s) v) := by
  subst hv hu
  exact (event_of_exists hpin _).trans (congrArg _ (if_neg (Bool.not_eq_true _ ▸ hinput)))

theorem pinPulseEnd_ends (hpin : isPin p = true) (hpulse : (s.pin p).pulse.isSome = true) :
    exec (.pinPulseEnd p) s = .next (s.modPin p (fun x => { x with level := false, pulse := none })) :=
  (event_of_exists hpin _).trans (congrArg _ (if_pos hpulse))

theorem triggerRearm_arms (hunit : isUnit n = true) (hu : u = judgeShots s) (hstate : (u.unit n).state = .busy)
    (hrearm : (u.unit n).rearming = true) : exec (.triggerRearm n) s = .next
      (u.modUnit n (fun x => { x with state := .armed, rearming := false, sinceArm := 0 })) := by
  subst hu
  have hwaits : (decide (((judgeShots s).unit n).state = .busy) && ((judgeShots s).unit n).rearming) = true := by
    rw [decide_eq_true hstate, hrearm]; rfl
  exact (event_of_exists hunit _).trans (congrArg _ (if_pos hwaits))

/-! ### The list pointer (R252 to R254) -/

section
variable (hunit : isUnit n = true) (horphans : (s.unit n).orphans = 0) (hflight : (s.unit n).inFlight = true)
  (hu : u = { s with str := { s.str with flight := s.str.flight.set n [] } })
  (hv : v = u.modUnit n (fun x => { x with inFlight := false, jumpReq := none, sinceArm := 0 })) (hlead : follows v = false)
include hunit horphans hflight hu hv hlead

/-- A registered jump moves the pointer and is counted. -/
theorem tussockSetWritten_jumps (d : Nat) (hjump : (s.unit n).jumpReq = some d) :
    exec (.tussockSetWritten n) s = .next (bump (ctrKey 9 n 5 0)
      (sendDecision (.pointer n d true false) (v.modUnit n (fun x => { x with current := some d, state := .armed })))) := by
  subst hv hu
  refine (event_of_exists hunit _).trans ?_
  simp only [horphans, hflight, hlead, hjump, Nat.lt_irrefl, Bool.not_true, Bool.false_eq_true, if_false]

/-- Without a jump the pointer moves by NEXT of the current descriptor; the last of a list leaves the unit DONE. -/
theorem tussockSetWritten_movesOn (d : Descriptor) (i : Nat) (hjump : (s.unit n).jumpReq = none)
    (hcurrent : (s.unit n).current = some i) (hdesc : v.red.descs.get i = some d) :
    exec (.tussockSetWritten n) s = .next
      (if d.fin then sendDecision (.pointer n i false true) (v.modUnit n (fun x => { x with state := .done }))
      else sendDecision (.pointer n d.next false false)
        (v.modUnit n (fun x => { x with current := some d.next, state := .armed }))) := by
  subst hv hu
  refine (event_of_exists hunit _).trans ?_
  simp only [horphans, hflight, hlead, hjump, hcurrent, hdesc, Option.bind_some, Option.getD_some, Nat.lt_irrefl,
    Bool.not_true, Bool.false_eq_true, if_false]

end

/-! ### Cross-triggers (R263, R266, R268) -/

section
variable (x : XTrig) (hu : u = touch t s) (hport : isPort p = true) (hup : (u.port p).state = .up)
  (hv : v = u.modPort p (fun q => { q with xtRx := if x.xtSeq = (q.xtRx + 1) % 256 then x.xtSeq else q.xtRx }))
include hu hport hup hv

/-- A pair that is remembered. -/
theorem xtrig_discards
    (hknown : v.red.pairs.any (fun y => decide (y.origin = x.origin) && decide (y.count = x.count)) = true) :
    exec (.xtrig p x t) s = .next (bump (ctrKey (clsPrivate + 3) 0 0 0) v) := by
  subst hv hu
  exact (event_of_exists hport _).trans (congrArg _ ((if_neg (not_not_intro hup)).trans (if_pos hknown)))

/-- A new pair. -/
theorem xtrig_enters (w : State)
    (hnew : v.red.pairs.any (fun y => decide (y.origin = x.origin) && decide (y.count = x.count)) = false)
    (hw : w = enterPair x t (bump (portCtr p 22) v)) :
    exec (.xtrig p x t) s = .next (judgeShots (crossFires x
      (if x.hops < 15 then spreadXtrig (some p) { x with hops := x.hops + 1 } w else w))) := by
  subst hw hv hu
  exact (event_of_exists hport _).trans
    (congrArg _ ((if_neg (not_not_intro hup)).trans (if_neg (Bool.not_eq_true _ ▸ hnew))))

end

/-- The oldest closed record goes to its ring (R336). -/
theorem recordWrite_writes (gsi : Nat) (r : Record) (rest : List Record)
    (hclosed : (s.stream (keyOfGsi gsi)).closed = r :: rest)
    (hv : v = s.modStream (keyOfGsi gsi) (fun st => { st with closed := rest })) : exec (.recordWrite gsi) s = .next
      (ringWrite (keyOfGsi gsi) (packRecord (keyOfGsi gsi) r v).1 (packRecord (keyOfGsi gsi) r v).2) := by
  subst hv
  simp only [exec, execRecordWrite, hclosed]

end

/-- Settles O42: each clause is the rule of its event. -/
theorem triggerEventsFireAndRearm : Obligations.TriggerEventsFireAndRearm := by
  unfold Obligations.TriggerEventsFireAndRearm
  intro s
  exact ⟨triggerTimeExpiry_fires s, fun p up t u v => fieldPinEdge_feeds s u v p t up, pinPulseEnd_ends s,
    fun n u => triggerRearm_arms s u n,
    fun n u v d hunit horphans hflight hu hv hlead => tussockSetWritten_jumps s u v n hunit horphans hflight hu hv hlead d,
    fun n u v d i hunit horphans hflight hu hv hlead =>
      tussockSetWritten_movesOn s u v n hunit horphans hflight hu hv hlead d i,
    fun p x t u v => xtrig_discards s u v p t x,
    fun p x t u v w hu hport hup hv => xtrig_enters s u v p t x hu hport hup hv w,
    fun _ _ => rfl, fun gsi r rest v => recordWrite_writes s v gsi r rest⟩

end Sys2Proof.Machine
end

section
/-! SUPPORT. The end of a tussock's copy (O43): its places are settled (log entry 27), it keeps its payload and the number
of samples replaced, and what is ready is published (R255 to R260). -/

namespace Sys2Proof.Machine

/-- A tussock of a stream that is being copied, by its number. -/
def copying (key n : Nat) (s : State) : Option Tussock :=
  s.red.tussocks.find? (fun x => decide (x.gsi = key) && decide (x.number = n) && decide (x.state = 0))

section
variable (s : State) (gsi n : Nat)

theorem tussockComplete_ends (a x y : Tussock) (lost : Nat) (v w : State) (hcopy : copying (keyOfGsi gsi) n s = some a)
    (hx : x = a.resolve s) (hlost : lost = (tussockPayload s x).2.2.2)
    (hy : y = { x with
      state := if lost = 0 then 1 else 2, bytes := (tussockPayload s x).1.length, pack := (tussockPayload s x).2.1
      flags := (tussockPayload s x).2.2.1, missing := lost, data := (tussockPayload s x).1 })
    (hv : v = { s with red := { s.red with tussocks := s.red.tussocks.map (fun z => if z.number = n then y else z) } })
    (hw : w = if 0 < lost then post pTussock 0x0503 (handleOf 0x0B (keyOfGsi gsi))
      [vU n, vU lost, vU (if x.holes.isEmpty then 2 else 1)] v else v) :
    exec (.tussockComplete gsi n) s = .next (publishReady (keyOfGsi gsi) w.red.tussocks.length w) := by
  subst hw hv hy hlost hx
  unfold copying at hcopy
  simp only [exec, execTussockComplete, hcopy, when, decide_eq_true_eq]

theorem tussockComplete_unknown (hnone : copying (keyOfGsi gsi) n s = none) :
    exec (.tussockComplete gsi n) s = .next s := by
  unfold copying at hnone
  simp only [exec, execTussockComplete, hnone]

end

/-- Settles O43: the copy that ends is the one of the stream with that number, if there is one. -/
theorem tussocksCompleteAndArePublished : Obligations.TussocksCompleteAndArePublished := by
  unfold Obligations.TussocksCompleteAndArePublished
  rintro s gsi n key rfl
  exact ⟨fun a x lost y v hcopy hx hlost hy hv w hw => tussockComplete_ends s gsi n a x y lost v w hcopy hx hlost hy hv hw,
    tussockComplete_unknown s gsi n⟩

end Sys2Proof.Machine
end

section
/-! SUPPORT. The requested F (O11): it is clamped, approached in bounded steps, and both are counted (R280, R281). -/

namespace Sys2Proof.Machine

/-! ### A counter that advances on a condition -/

theorem when_bump_eq (b : Bool) (k : Nat) (s : State) :
    when b (bump k) s = { s with ctrs := (when b (bump k) s).ctrs } := by
  cases b <;> rfl

theorem ctrOf_when_bump (b : Bool) (k : Nat) (s : State) :
    ctrOf (when b (bump k) s) k = if b then (ctrOf s k).add (ctrTop k) 1 else ctrOf s k := by
  cases b
  · rfl
  · exact ctrOf_bumpBy s k 1

theorem ctrOf_when_bump_ne (b : Bool) {j k : Nat} (s : State) (h : j ≠ k) : ctrOf (when b (bump k) s) j = ctrOf s j := by
  cases b
  · rfl
  · exact ctrOf_bumpBy_ne s k 1 j h

/-! ### Clamping -/

theorem within_eq_self {b v : Int} (hlo : -b ≤ v) (hhi : v ≤ b) : within b v = v := by
  unfold within; omega

/-- A step towards a value within a limit does not leave the limit. -/
theorem step_within_limit {b d f c : Int} (hd : 0 ≤ d) (hc : -b ≤ c ∧ c ≤ b) (hf : -b ≤ f ∧ f ≤ b) :
    -b ≤ f + within d (c - f) ∧ f + within d (c - f) ≤ b := by
  unfold within; omega

/-! ### The request -/

/-- A request counts its clamp, then its step. -/
def requestCounted (want c n : Int) (s : State) : State :=
  when (decide (n ≠ c)) (bump (timeCtr 3)) (when (decide (c ≠ want)) (bump (timeCtr 2)) s)

section
variable {s : State} {want f c n : Int}

theorem requestCounted_eq : requestCounted want c n s = { s with ctrs := (requestCounted want c n s).ctrs } := by
  unfold requestCounted
  rw [when_bump_eq, when_bump_eq _ (timeCtr 2)]

theorem requestCounted_clamps : ctrOf (requestCounted want c n s) (timeCtr 2) =
    if c = want then ctrOf s (timeCtr 2) else (ctrOf s (timeCtr 2)).add (ctrTop (timeCtr 2)) 1 := by
  unfold requestCounted
  rw [ctrOf_when_bump_ne _ _ (by decide), ctrOf_when_bump]
  by_cases h : c = want <;> simp [h]

theorem requestCounted_steps : ctrOf (requestCounted want c n s) (timeCtr 3) =
    if n = c then ctrOf s (timeCtr 3) else (ctrOf s (timeCtr 3)).add (ctrTop (timeCtr 3)) 1 := by
  unfold requestCounted
  rw [ctrOf_when_bump, ctrOf_when_bump_ne _ _ (by decide)]
  by_cases h : n = c <;> simp [h]

theorem requestCounted_reached : requestCounted want want want s = s := by
  simp [requestCounted, when]

variable (hf : f = s.time.fSeal.getD s.time.f) (hc : c = within fLimit want) (hn : n = f + within fStep (c - f))
include hf hc hn

/-- Past its counters, a request writes itself and the bank. -/
theorem requestF_eq : requestF want s =
    { s with ctrs := (requestCounted want c n s).ctrs, time := { s.time with fWant := c, fBank := some n } } := by
  have hcounted := congrArg (fun u : State => { u with time := { u.time with fWant := c, fBank := some n } })
    (requestCounted_eq (s := s) (want := want) (c := c) (n := n))
  subst hn hc hf
  exact hcounted

theorem requestF_keeps : Keeps [.time, .ctrs] s (requestF want s) := by
  rw [requestF_eq hf hc hn]
  intro p hp
  cases p with
  | time | ctrs => exact absurd hp (by decide)
  | front | red | str | mem | sky | clover | host | mgmt | now | pending | free => rfl

theorem ctrOf_requestF (k : Nat) : ctrOf (requestF want s) k = ctrOf (requestCounted want c n s) k := by
  rw [requestF_eq hf hc hn]; rfl

/-- A request within the limit that is no further away than a step is reached, and neither counter advances. -/
theorem requestF_reached (hlimit : -fLimit ≤ want ∧ want ≤ fLimit) (hnear : -fStep ≤ want - f ∧ want - f ≤ fStep) :
    n = want ∧ (requestF want s).ctrs = s.ctrs := by
  have hcw : c = want := hc.trans (within_eq_self hlimit.1 hlimit.2)
  have hnw : n = want := by
    rw [hn, hcw, within_eq_self hnear.1 hnear.2]; omega
  refine ⟨hnw, ?_⟩
  rw [requestF_eq hf hc hn, hcw, hnw, requestCounted_reached]

end

/-- Settles O11: the steps and the limit by the clamp's bounds, the counters one by one. -/
theorem frequencyMovesInBoundedSteps : Obligations.FrequencyMovesInBoundedSteps := by
  unfold Obligations.FrequencyMovesInBoundedSteps
  rintro s u want f c n rfl hf hc hn
  have hstep : -fStep ≤ n - f ∧ n - f ≤ fStep := by
    have hw := within_le fStep (c - f) (by decide)
    omega
  have hclamped : -fLimit ≤ c ∧ c ≤ fLimit := hc ▸ within_le fLimit want (by decide)
  exact ⟨congrArg State.time (requestF_eq hf hc hn), requestF_keeps hf hc hn, hstep,
    fun hlo hhi => hn ▸ step_within_limit (by decide) hclamped ⟨hlo, hhi⟩,
    fun hlo hhi hnear hnear' => requestF_reached hf hc hn ⟨hlo, hhi⟩ ⟨hnear, hnear'⟩,
    (ctrOf_requestF hf hc hn _).trans requestCounted_clamps, (ctrOf_requestF hf hc hn _).trans requestCounted_steps⟩

end Sys2Proof.Machine
end

section
/-! SUPPORT. The exchanges of time with a neighbour, the root and the timed outputs (O49): the offset is the mean of the
last 64 exchanges (log entry 12). -/

namespace Sys2Proof.Machine

section
variable (s u v w : State) (p : Nat) (t : Inst)

/-! ### Requests and responses (R291, R496 to R498) -/

theorem timeRequestTimer_requests (hu : u = touch t s) (hport : isPort p = true) (husable : usable u p = true)
    (hv : v = modXchg p (fun x => { x with xseq := (x.xseq + 1) % 65536, open_ := some (x.xseq, t) }) u) :
    exec (.timeRequestTimer p t) s = .next (sendFrame p
      { ftype := 6, vc := 0, dest := 0, src := v.sky.hub
        body := [1, 0] ++ leBytes 2 (u.time.xchg.get p).xseq ++ leBytes 2 (quality v).toNat ++ List.replicate 42 0 } v) := by
  subst hv hu
  refine (event_of_exists hport _).trans ?_
  simp only [husable, Bool.not_true, Bool.false_eq_true, if_false]

/-- The response leaves 1 µs after T2. -/
theorem timeReq_answers (xseq : Nat) (qual : BitVec 16) (f : Frame)
    (hu : u = modXchg p (fun x => { x with qual := qual }) (touch t s)) (hport : isPort p = true)
    (husable : usable u p = true) (hroom : (u.port p).timed.length < 16)
    (hf : f = { ftype := 6, vc := 0, timed := true, dest := 0, src := u.sky.hub
                body := [2, 0] ++ leBytes 2 xseq ++ leBytes 2 (quality u).toNat ++ [0, 0] ++ tt12 t
                  ++ tt12 (t + nsSpan 1000) ++ List.replicate 16 0 })
    (hv : v = u.modPort p (fun q => { q with timed := q.timed ++ [{ frame := f, at_ := some (t + nsSpan 1000) }] })) :
    exec (.timeReq p xseq qual t) s = .next (noteUse 11 (v.port p).timed.length v) := by
  subst hv hf hu
  refine (event_of_exists hport _).trans ?_
  simp only [husable, Nat.not_le.mpr hroom, Bool.not_true, decide_false, Bool.or_self, Bool.false_eq_true, if_false]

section
variable (n : Nat) (qual : BitVec 16) (t1 t2 t3 t4 : Inst)

/-- A response within 1 ms enters the mean, and the delay sets the replay timeout. -/
theorem timeResp_enters (off mean : Int) (offs : List Int) (hu : u = touch t4 s) (hport : isPort p = true)
    (hopen : (u.time.xchg.get p).open_ = some (n, t1)) (hintime : t4 ≤ t1 + nsSpan 1000000)
    (hoff : off = to256 ((((t2 : Int) - t1) - ((t4 : Int) - t3)) / 2) - (u.time.xchg.get p).asym * 256 / 2000)
    (hoffs : offs = (off :: (u.time.xchg.get p).offs).take 64) (hmean : mean = offs.sum / offs.length)
    (hv : v = modXchg p (fun x => { x with
      open_ := none, offs := offs, offset := mean, delay := to256 ((((t2 : Int) - t1) + ((t4 : Int) - t3)) / 2)
      qual := qual }) u)
    (hw : w = v.modPort p (fun q => { q with timeout := replayTimeout (v.time.xchg.get p).delay })) :
    exec (.timeResp p n qual t2 t3 t4 false) s = .next
      (if w.time.parent = some p then { w with time := { w.time with offset := clamp32 (-mean) } } else w) := by
  subst hw hv hmean hoffs hoff hu
  refine (event_of_exists hport _).trans ?_
  simp only [hopen, ne_eq, not_true_eq_false, Nat.not_lt.mpr hintime, decide_false, Bool.or_self, Bool.false_eq_true,
    if_false]

theorem timeResp_late (hu : u = touch t4 s) (hport : isPort p = true) (hopen : (u.time.xchg.get p).open_ = some (n, t1)) :
    exec (.timeResp p n qual t2 t3 t4 true) s = .next (modXchg p (fun x => { x with open_ := none }) u) := by
  subst hu
  refine (event_of_exists hport _).trans ?_
  simp only [hopen, ne_eq, not_true_eq_false, Bool.true_or, if_false, if_true]

end

theorem timeRespTimeout_closes (hport : isPort p = true) :
    exec (.timeRespTimeout p) s = .next (modXchg p (fun x => { x with open_ := none }) s) :=
  event_of_exists hport _

/-! ### The root (R294) -/

theorem rootChange_adopts (off : Int) (c : Cand) (hlead : s.time.lead = some c) (hrun : 16 ≤ s.time.leadRun)
    (hother : s.time.root.map (·.hub) ≠ some c.hub) :
    exec (.rootChange off) s = .next (followRoot off (postAt s.now pTime 0x0702 0
      [vU ((s.time.root.map (·.hub)).getD 0), vU c.hub, vU c.cls] (adoptRoot c s))) := by
  have hwaits : (decide (s.time.leadRun < 16) || decide (s.time.root.map (·.hub) = some c.hub)) = false := by
    rw [decide_eq_false (Nat.not_lt.mpr hrun), decide_eq_false hother]; rfl
  simp only [exec, execRootChange, hlead, hwaits, Bool.false_eq_true, if_false]

/-! ### Timed outputs (R284 to R286) -/

theorem ppsOutLaunch_raises (sec : Nat) (hu : u = touch t s) (hon : u.time.outOn = true) (hallowed : ppsAllowed u = true)
    (htick : ppsTick u sec ≤ t) (hfree : u.outputsHeld = false)
    (hv : v = { u with time := { u.time with outHigh := true } }) :
    exec (.ppsOutLaunch sec t) s = .next (if ppsTick v sec < t then bump lateLaunch v else v) := by
  subst hv hu
  simp only [exec, execPpsOutLaunch, hon, hallowed, Nat.not_lt.mpr htick, hfree, when, Bool.not_true,
    Bool.or_self, decide_false, Bool.false_eq_true, if_false, decide_eq_true_eq]

theorem ppsOutPulseEnd_lowers :
    exec .ppsOutPulseEnd s = .next { s with time := { s.time with outHigh := false } } := rfl

/-- A launch that is due drives its pin, and a command of the hub's own completes with the actual time. -/
theorem pinLaunchTime_drives (pin : Nat) (j : PinJob) (hu : u = touch t s) (hpin : isPin pin = true)
    (hdue : dueLaunch u pin t = some j)
    (hv : v = { u with host := { u.host with pinJobs := u.host.pinJobs.filter (fun x => decide (x ≠ j)) } })
    (hw : w = if tickAt j.at_ < tickAt t then bump lateLaunch (drivePin pin j.level v) else drivePin pin j.level v) :
    exec (.pinLaunchTime pin t) s = .next (if j.silent then w
      else finishLater j.tenant j.queue j.tag { result := ttBytes (ttOf (tickAt t)) (quality w) } none w) := by
  subst hw hv hu
  refine (event_of_exists hpin _).trans ?_
  simp only [hdue, when, decide_eq_true_eq]

end

/-- Settles O49: each clause is the rule of its event. -/
theorem timeExchangesRootAndTimedOutputs : Obligations.TimeExchangesRootAndTimedOutputs := by
  unfold Obligations.TimeExchangesRootAndTimedOutputs
  intro s
  exact ⟨fun p t u v => timeRequestTimer_requests s u v p t,
    fun p xseq qual t u f v hu hport husable hroom => timeReq_answers s u v p t xseq qual f hu hport husable hroom,
    fun p n qual t2 t3 t4 t1 u off offs mean v w => timeResp_enters s u v w p n qual t1 t2 t3 t4 off mean offs,
    fun p n qual t2 t3 t4 t1 u => timeResp_late s u p n qual t1 t2 t3 t4, timeRespTimeout_closes s,
    rootChange_adopts s, fun sec t u v => ppsOutLaunch_raises s u v t sec, ppsOutPulseEnd_lowers s,
    fun pin t u j v w => pinLaunchTime_drives s u v w t pin j⟩

end Sys2Proof.Machine
end

section
/-! SUPPORT. The sources of time (O52): the end of SYNC, the reference, PTP, PPS and the holdover limit. -/

namespace Sys2Proof.Machine

section
variable (s u v : State) (t : Inst)

/-! ### SYNC and GRID (R49, R275, R298) -/

/-- Step 8: 1,000 swaths near the root's time, and a bound against it of at most 4 ns (log entry 177). -/
theorem syncExit_locks (hu : u = touch t s) (hsync : u.mgmt.startup = .sync) (hgrid : u.time.grid = true)
    (hstay : u.time.syncLeft = none) (hnear : lockSwaths ≤ u.time.within) (hbound : rootBound u ≤ 16) :
    exec (.syncExit t) s = .next (leaveSync t { u with time := { u.time with state := .locked } }) := by
  subst hu
  simp only [exec, execSyncExit, hsync, hgrid, hstay, Nat.not_lt.mpr hnear, Nat.not_lt.mpr hbound, ne_eq,
    not_true_eq_false, decide_false, Bool.not_true, Option.isSome_none, Bool.or_self, Bool.false_eq_true, if_false]

/-- A hub without a source in SYNC becomes its own root at the next boundary. -/
theorem freeRunningMaster_roots (g : Nat) (hu : u = touch t s) (hsync : u.mgmt.startup = .sync)
    (hstay : u.time.syncLeft = none) (hunsync : u.time.state = .unsync) (hg : g = ceilDiv t (boundary 1))
    (hv : v = { touch (boundary g) u with time := { u.time with
      free := true, state := .unsync, cls := gradeClass u, err := 31, hops := 0, parent := none
      root := some { prio := u.time.prio, cls := gradeClass u, err := 31, hub := u.sky.hub } } }) :
    exec (.freeRunningMaster t) s = .next (leaveSync (boundary g) (enterGrid g v)) := by
  subst hv hg hu
  have hstays : (decide ((touch t s).mgmt.startup ≠ .sync) || (touch t s).time.syncLeft.isSome ||
      decide ((touch t s).time.state ≠ .unsync)) = false := by
    rw [hsync, hstay, hunsync]; rfl
  simp only [exec, execFreeRunningMaster, hstays, Bool.false_eq_true, if_false]

theorem gridStep_enters (parent : TT) (g : Nat) (hg : stepBoundary parent = some g) (hsync : s.mgmt.startup = .sync)
    (hfree : s.time.grid = false) : exec (.gridStep parent) s = .next (touch (boundary g) (enterGrid g s)) := by
  simp only [exec, execGridStep, hg, hsync, hfree, decide_true, Bool.not_false, Bool.and_self, if_true]

/-! ### The reference (R304) -/

theorem refLost_loses (hhere : s.mgmt.refLost = false) : exec .refLost s = .next
    (withHealth (fun s => post pTime 0x0701 0 [vU 1]
      { s with mgmt := { s.mgmt with refLost := true }, time := { s.time with err := 31 } }) s) := by
  simp only [exec, execRefLost, hhere, Bool.false_eq_true, if_false]

theorem refReturned_reacquires (off : Int) (hlost : s.mgmt.refLost = true) : exec (.refReturned off) s = .next
    (withHealth (fun s => reacquire off (post pTime 0x0701 0 [vU 0]
      { s with mgmt := { s.mgmt with refLost := false }, time := { s.time with offset := clamp32 (256 * off) } })) s) := by
  simp only [exec, execRefReturned, hlost, Bool.not_true, Bool.false_eq_true, if_false]

/-! ### PTP (R288) -/

/-- PTP is on, in the domain and over the transport of a message. -/
structure PtpHears (src : PtpFrom) (s : State) : Prop where
  on : s.time.ptp.on = true
  domain : s.time.ptp.domain = src.domain
  transport : s.time.ptp.transport = src.transport

/-- A message that is heard is counted, compared or steers by its kind. -/
theorem ptpMessage_heard (kind : Nat) (src : PtpFrom) (data : PtpData) (off : Int) (err : Nat)
    (hheard : PtpHears src (touch t s)) :
    exec (.ptpMessage kind src data off err t) s = .next
      (if kind = 1 then bump (timeCtr 0) (touch t s) else if kind = 2 then ptpAnnounce src.master data (touch t s)
        else ptpTiming src.master off err (touch t s)) := by
  obtain ⟨hon, hdomain, htransport⟩ := hheard
  simp only [exec, execPtpMessage, hon, hdomain, htransport, ne_eq, not_true_eq_false, decide_false, Bool.not_true,
    Bool.or_self, Bool.false_eq_true, if_false]

theorem ptpMessage_peerDelay (src : PtpFrom) (data : PtpData) (off : Int) (err : Nat) (hu : u = touch t s)
    (hheard : PtpHears src u) : exec (.ptpMessage 1 src data off err t) s = .next (bump (timeCtr 0) u) := by
  subst hu
  exact (ptpMessage_heard s t 1 src data off err hheard).trans (congrArg _ (if_pos rfl))

theorem ptpMessage_announce (src : PtpFrom) (data : PtpData) (off : Int) (err : Nat) (hu : u = touch t s)
    (hheard : PtpHears src u) :
    exec (.ptpMessage 2 src data off err t) s = .next (ptpAnnounce src.master data u) := by
  subst hu
  exact (ptpMessage_heard s t 2 src data off err hheard).trans (congrArg _ ((if_neg (by decide)).trans (if_pos rfl)))

theorem ptpMessage_timing (kind : Nat) (src : PtpFrom) (data : PtpData) (off : Int) (err : Nat) (hu : u = touch t s)
    (hheard : PtpHears src u) (hpeer : kind ≠ 1) (hannounce : kind ≠ 2) :
    exec (.ptpMessage kind src data off err t) s = .next (ptpTiming src.master off err u) := by
  subst hu
  exact (ptpMessage_heard s t kind src data off err hheard).trans
    (congrArg _ ((if_neg hpeer).trans (if_neg hannounce)))

/-- The loss of the best master follows the next best (log entry 179), or PPS, or loses the source. -/
theorem ptpSourceLost_follows (l : List (Nat × Nat × PtpData)) (x : Ptp) (hu : u = touch t s)
    (husable : u.time.ptp.usable = true)
    (hl : l = u.time.ptp.masters.filter (fun m => decide (m.1 ≠ u.time.ptp.master)))
    (hx : x = { u.time.ptp with masters := l, tai := false })
    (hv : v = { u with time := { u.time with
      ptp := { x with usable := (bestMaster { u.time.ptp with masters := l }).isSome } } }) :
    exec (.ptpSourceLost t) s = .next (if v.time.ptp.usable then followMaster v
      else if u.time.ppsSec.isSome then (if ownsTime v then { v with time := { v.time with tai := false } } else v)
      else loseSource v) := by
  subst hv hx hl hu
  simp only [exec, execPtpSourceLost, husable, Bool.not_true, Bool.false_eq_true, if_false]

/-! ### PPS (R290) -/

/-- A pulse of 100 ns or more is an edge. -/
theorem ppsInEdge_counts (high err : Nat) (hwide : 100 ≤ high) : exec (.ppsInEdge t high err) s = .next (ppsEdge t err s) := by
  simp only [exec, execPpsInEdge, Nat.not_lt.mpr hwide, decide_false, Bool.false_and, Bool.false_eq_true, if_false]

theorem ppsSourceLost_loses (a : Inst) (hu : u = touch t s) (hat : u.time.ppsAt = some a) (hold : a + 3 * secSpan ≤ t)
    (hv : v = { u with time := { u.time with ppsSec := none, ppsAt := none } }) :
    exec (.ppsSourceLost t) s = .next
      (if v.time.ptp.on = true ∧ v.time.ptp.usable = true then v else loseSource v) := by
  subst hv hu
  simp only [exec, execPpsSourceLost, hat, if_neg (Nat.not_lt.mpr hold), Bool.and_eq_true]

/-! ### Holdover (R295) -/

/-- A root past the holdover limit announces its declared grade, with a ROOT_CHANGE entry (log entry 47). -/
theorem holdoverLimitReached_announces (g : Nat) (hhold : s.time.state = .holdover) (hroot : s.time.parent = none)
    (hpast : 4 * s.time.limitNs < holdBound s s.now) (hg : g = gradeClass s)
    (hv : v = { s with time := { s.time with cls := g, root := s.time.root.map (fun r => { r with cls := g }) } }) :
    exec .holdoverLimitReached s = .next (post pTime 0x0702 0 [vU v.sky.hub, vU v.sky.hub, vU g] v) := by
  subst hv hg
  simp [exec, execHoldoverLimitReached, hhold, hroot, Nat.not_le.mpr hpast]

end

/-- Settles O52: each clause is the rule of its event. -/
theorem timeSourceEventsSteerTheTime : Obligations.TimeSourceEventsSteerTheTime := by
  unfold Obligations.TimeSourceEventsSteerTheTime
  intro s
  exact ⟨fun t u => syncExit_locks s u t, fun t u g v => freeRunningMaster_roots s u v t g, gridStep_enters s,
    refLost_loses s, refReturned_reacquires s,
    fun src data off err t u hu hon hdom htrans => ptpMessage_peerDelay s u t src data off err hu ⟨hon, hdom, htrans⟩,
    fun src data off err t u hu hon hdom htrans => ptpMessage_announce s u t src data off err hu ⟨hon, hdom, htrans⟩,
    fun kind src data off err t u hu hon hdom htrans =>
      ptpMessage_timing s u t kind src data off err hu ⟨hon, hdom, htrans⟩,
    ppsInEdge_counts s, fun t u a v => ppsSourceLost_loses s u v t a,
    fun t u l x v => ptpSourceLost_follows s u v t l x, fun g v => holdoverLimitReached_announces s v g⟩

end Sys2Proof.Machine
end

section
/-! SUPPORT. The commands on subscriptions (O26): what the body of each answers once the checks of its rule hold. -/

namespace Sys2Proof.Machine

section
variable (c : Cmd) (u : State)

/-! ### SUBSCRIBE (R60, R306, R327, R328, R552) -/

/-- On a DMA queue that is made, of the right class, a stream that exists gets a subscription under the lowest free
number; the queue then carries its class. -/
theorem bodySubscribe_opens (pairs : List Pair) (a : SubAsk) (i : Nat) (v w : State)
    (hstream : hClass c = 0x0B) (hkind : kindOf (hIndex c) ≠ 15) (hthere : streamThere u (hIndex c) = true)
    (hpairs : pairsOk pairs = true) (hask : withPairs setSub pairs {} = some a) (hlag : lagOk u (hIndex c) a = true)
    (hauto : a.autoAck = none ∨ a.bestEffort = true) (hmade : (u.queue c.tenant (4 + a.queue)).made = true)
    (hclass : classFits u c.tenant a.queue a.bulk = true) (hon : ofOffChannel u (hIndex c) = false)
    (hdram : dramServes u = true) (hfree : freeSub u = some i)
    (hv : v = { u with str := { u.str with subs := u.str.subs.set i (some (newSub c (hIndex c) a u)) } })
    (hbound : a.bulk = true ∨ boundHolds v = true)
    (hw : w = v.modQueue c.tenant (4 + a.queue) (fun q => { q with cls := some a.bulk })) :
    bodySubscribe c pairs u = ({ result := leBytes 2 i ++ [0, 0] ++ leBytes 4 (largestOf w (hIndex c))
                                 objs := [(handleOf 0x0C i, 3)] }, noteUse 2 (liveSubs w) w) := by
  subst hv hw
  have hauto' : (a.autoAck.isNone || a.bestEffort) = true := by
    rwa [Bool.or_eq_true, Option.isNone_iff_eq_none]
  have hserved : (!ofOffChannel u (hIndex c) && dramServes u) = true := by rw [hon, hdram]; rfl
  have hbound' := (Bool.or_eq_true _ _).mpr hbound
  simp only [bodySubscribe, hask, hfree, hstream, hkind, hthere, Option.getD_some, decide_true, decide_false,
    Bool.true_and, Bool.or_false, Bool.not_false]
  exact checked_pass (firstFail_cons rfl (firstFail_cons rfl (firstFail_cons (by rw [hpairs]; rfl)
    (firstFail_cons hlag (firstFail_cons hauto' (firstFail_cons hmade (firstFail_cons hclass
    (firstFail_cons hserved (firstFail_cons hbound' firstFail_nil))))))))) u _

/-! ### Commands on a subscription, by its owner (R334, R340, R597) -/

section
variable (x : Sub) (hsub : hClass c = 0x0C) (hx : u.sub (hIndex c) = some x)
  (howner : (x.keyKind, x.keyId) = keyOf (u.tenant c.tenant))
include hsub hx howner

/-- The subscription that the handle names goes to the body when the command comes from its owner. -/
theorem onSub_owner (zero : Bool) (body : Nat → Sub → Reply × State) : onSub c zero u body = body (hIndex c) x := by
  simp only [onSub, hsub, hx, howner, if_true, ne_eq, not_true, decide_false, Bool.false_and, Bool.false_eq_true,
    if_false]

theorem bodyUnsubscribe_closes (hopen : x.state ≠ .closed) : bodyUnsubscribe c u =
    ({ progress := 1, objs := [(c.handle.toNat, 3)] }, queueEvent (hIndex c) .close u) :=
  (onSub_owner c u x hsub hx howner ..).trans (if_neg hopen)

theorem bodyAck_acknowledges (n : Nat) (hopen : x.state ≠ .closed) (hdelivered : n + 1 ≤ x.delivered)
    (hmoving : u.frozen = false) : bodyAck c n u = ({}, u.modSub (hIndex c) (fun y => y.ackTo (n + 1))) := by
  refine (onSub_owner c u x hsub hx howner ..).trans ?_
  simp only [hopen, Nat.not_lt.mpr hdelivered, hmoving, if_false, decide_false, Bool.false_and, Bool.false_eq_true]

theorem bodyResend_rewinds (m : Nat) (hdelivered : m ≤ x.delivered) (hlive : x.state = .active ∨ x.state = .stalled) :
    bodyResend c m u = ({}, queueEvent (hIndex c) (.resend m) u) := by
  have hlive' : (decide (x.state = .active) || decide (x.state = .stalled)) = true := by
    rwa [Bool.or_eq_true, decide_eq_true_iff, decide_eq_true_iff]
  exact (onSub_owner c u x hsub hx howner ..).trans (checked_pass (firstFail_cons (decide_eq_true hdelivered)
    (firstFail_cons hlive' firstFail_nil)) u _)

/-- The completions recorded go to the named queue first, which then carries the subscription's class. -/
theorem bodyAttach_resumes (q : Nat) (v w : State) (hq : q < 4) (hdetached : x.state = .detached)
    (hmade : (u.queue c.tenant (4 + q)).made = true) (hclass : classFits u c.tenant q x.bulk = true)
    (hv : v = each x.recorded (fun d s => putDma c.tenant (4 + q) { d with queue := q } s) u)
    (hw : w = v.modSub (hIndex c) (fun y => { y with recorded := [], tenant := c.tenant })) :
    bodyAttach c q u = ({}, queueEvent (hIndex c) (.attach q)
      (w.modQueue c.tenant (4 + q) (fun y => { y with cls := some x.bulk }))) := by
  subst hv hw
  exact (onSub_owner c u x hsub hx howner ..).trans (checked_pass (firstFail_cons (decide_eq_true hq)
    (firstFail_cons (decide_eq_true hdetached) (firstFail_cons hmade (firstFail_cons hclass firstFail_nil)))) u _)

end

end

/-- Settles O26: each command answers what its body answers once the checks of its rule hold. -/
theorem subscriptionCommandsActOnTheSubscription : Obligations.SubscriptionCommandsActOnTheSubscription := by
  unfold Obligations.SubscriptionCommandsActOnTheSubscription
  intro c s u hu
  refine ⟨?subscribe, fun x hsub hx howner => ⟨?unsubscribe, ?ack, ?resend, ?attach⟩⟩
  case subscribe =>
    intro pairs a i v hrun hstream hkind hthere hpairs hask hlag hauto hmade hclass hon hdram hfree hv hbound w hw
    exact command_at _ _ c _ s u _ _ hu hrun (bodySubscribe_opens c u pairs a i v w hstream hkind hthere hpairs hask
      hlag hauto hmade hclass hon hdram hfree hv hbound hw) code_done
  case unsubscribe =>
    intro hrun hopen
    exact command_at _ _ c _ s u _ _ hu hrun (bodyUnsubscribe_closes c u x hsub hx howner hopen) code_done
  case ack =>
    intro n hrun hopen hdelivered hmoving
    exact command_at _ _ c _ s u _ _ hu hrun
      (bodyAck_acknowledges c u x hsub hx howner n hopen hdelivered hmoving) code_done
  case resend =>
    intro m hrun hdelivered hlive
    exact command_at _ _ c _ s u _ _ hu hrun (bodyResend_rewinds c u x hsub hx howner m hdelivered hlive) code_done
  case attach =>
    intro q v w hrun hq hdetached hmade hclass hv hw
    exact command_at _ _ c _ s u _ _ hu hrun
      (bodyAttach_resumes c u x hsub hx howner q v w hq hdetached hmade hclass hv hw) code_done

end Sys2Proof.Machine
end

section
/-! SUPPORT. The events of records on their way (O38): staging, delivery, retention and the journal word (R332, R340, R343,
R344, R402). -/

namespace Sys2Proof.Machine

section
variable (s : State)

/-! ### Staging and writes (R343, R402) -/

/-- The loss ends only when staging has come below its size. -/
theorem stagingRecover_recovers (bytes : Nat) (v : State)
    (hv : v = { s with mem := { s.mem with staging := s.mem.staging - bytes } }) :
    exec (.stagingRecover bytes) s = .next (if s.mem.staging - bytes < stagingSize then clearLost v else v) := by
  subst hv
  rfl

/-- The journal word follows the item up to which everything is stored; it is not yet written. -/
theorem dramWriteComplete_stores (gsi bytes : Nat) (v : State)
    (hv : v = each (List.range 8) storeFront { s with mem := { s.mem with staging := s.mem.staging - bytes } }) :
    exec (.dramWriteComplete gsi bytes) s = .next (v.modStream (keyOfGsi gsi) (fun x =>
      let y := { x with ring := match x.ring.findIdx? (fun r => !r.stored) with
        | none => x.ring
        | some i => x.ring.modify i (fun r => { r with stored := true }) }
      if storedTo y = x.pub then y else { y with journW := storedTo y, journOk := false })) := by
  rw [hv]
  rfl

/-! ### Subscriptions (R332, R340) -/

section
variable (sub : Nat) (hsub : sub < 4096)
include hsub

theorem recordDelivery_delivers (t : Inst) (u : State) (hu : u = touch t s) :
    exec (.recordDelivery sub t) s = .next (deliver sub t u) := by
  subst hu
  exact event_of_exists (decide_eq_true hsub) _

theorem bulkCreditTimeout_completes (u : Sub) (c : Credit) (cs : List Credit) (hthere : s.sub sub = some u)
    (hcredit : u.credits = c :: cs) (hbulk : u.bulk = true) (hrecords : 0 < c.records)
    (hused : (s.tenant u.tenant).used = true) (hmoving : s.frozen = false) :
    exec (.bulkCreditTimeout sub) s = .next (completeCredit sub false s) := by
  have hdue : (u.bulk && decide (0 < c.records) && (s.tenant u.tenant).used && !s.frozen) = true := by
    rw [hbulk, hused, hmoving, decide_eq_true hrecords]; rfl
  exact (event_of_exists (decide_eq_true hsub) _).trans (by simp only [hthere, hcredit, hdue, if_true])

theorem retentionExpiry_queues (u : Sub) (hthere : s.sub sub = some u) (hdetached : u.state = .detached) :
    exec (.retentionExpiry sub) s = .next (queueEvent sub .expired s) :=
  (event_of_exists (decide_eq_true hsub) _).trans (by simp only [hthere, hdetached, if_true])

end

end

/-- Settles O38: each clause is the rule of its event. -/
theorem streamEventsMoveRecords : Obligations.StreamEventsMoveRecords := by
  unfold Obligations.StreamEventsMoveRecords
  intro s
  exact ⟨stagingRecover_recovers s, fun sub t u hu hsub => recordDelivery_delivers s sub hsub t u hu,
    fun sub u c cs hsub => bulkCreditTimeout_completes s sub hsub u c cs,
    fun sub u hsub => retentionExpiry_queues s sub hsub u, dramWriteComplete_stores s, fun _ => rfl⟩

end Sys2Proof.Machine
end

section
/-! SUPPORT. The events of the DRAM and of the arbiters (O58): reads (R388, R395, R423), maintenance (R393, R394, R396),
Furze (R397 to R399) and grants (R404 to R412). -/

namespace Sys2Proof.Machine

/-! ### Reads (R388, R395, R423) -/

section
variable (s : State) (req addr data bad : Nat) (upset : Bool) (held : Option (Nat × Nat)) (c : Nat)

theorem dramReadReturn_unanswered (hc : c = dramChan s addr) (hnone : nextRead s c = none) :
    exec (.dramReadReturn req addr data bad upset held) s = .next s := by
  subst hc
  simp only [exec, execDramReadReturn, hnone, Option.all_none, if_true]

/-- The oldest read of the channel is the one that this return answers: its requester and 64-byte unit are the return's. -/
theorem dramReadReturn_answers (x : Xact) (u : State) (rank : Nat) (lost : Bool) (v w : State)
    (hc : c = dramChan s addr) (hx : nextRead s c = some x) (hreq : x.req = req) (hunit : x.addr / 64 = addr / 64)
    (hu : u = takeRead c s) (hrank : rank = (placeAt u addr).rank)
    (hlost : lost = (decide (2 ≤ bad) || u.mem.spoiled.get (addr / 64)))
    (hv : v = if bad = 1 then bump (eccCtr c rank) u else u)
    (hw : w = if lost then post pDram 0x0A01 (handleOf 0 0) [vU addr, vU c, vU rank] v else v) :
    exec (.dramReadReturn req addr data bad upset held) s = .next
      (if lost || (readWord c data upset w).1 then takePoisoned req held (readWord c data upset w).2
        else (readWord c data upset w).2) := by
  subst hw hv hlost hrank hu hc
  have hanswered : (nextRead s (dramChan s addr)).all
      (fun y => decide (y.req ≠ req) || decide (y.addr / 64 ≠ addr / 64)) = false := by
    rw [hx, Option.all_some, hreq, hunit]; simp
  simp only [exec, execDramReadReturn, hanswered, when, Bool.false_eq_true, if_false, decide_eq_true_eq]

end

/-! ### Maintenance and Furze (R387, R393 to R399) -/

section
variable (s : State) (ch : Nat)

section
variable (hch : isDram ch = true)
include hch

/-- A rank, bank or lane of a channel that exists, by its bound. -/
theorem dramPart_exists {n k : Nat} (hn : n < k) : (isDram ch && decide (n < k)) = true := by
  rw [hch, decide_eq_true hn]; rfl

theorem refresh_counts (rank : Nat) (hrank : rank < 2) :
    exec (.refresh ch rank) s =
      .next (s.modDram ch (fun c => { c with refreshes := c.refreshes.mod rank (· + 1) })) :=
  event_of_exists (dramPart_exists ch hch hrank) _

theorem rfm_acts (bank : Nat) (hbank : bank < 128) : exec (.rfm ch bank) s = .next (rfm ch bank s) :=
  event_of_exists (dramPart_exists ch hch hbank) _

theorem zqCalibration_counts (rank : Nat) (hrank : rank < 2) :
    exec (.zqCalibration ch rank) s = .next (s.modDram ch (fun c => { c with zqs := c.zqs.mod rank (· + 1) })) :=
  event_of_exists (dramPart_exists ch hch hrank) _

theorem oscillatorRead_sets (lane : Nat) (drift : Int) (hlane : lane < 20) :
    exec (.oscillatorRead ch lane drift) s =
      .next (s.modDram ch (fun c => { c with drift := c.drift.set lane drift })) :=
  event_of_exists (dramPart_exists ch hch hlane) _

/-- A positive drift is one step less, and the lane one step further from its trained value. -/
theorem driftRecentring_steps (lane eye : Nat) (m : Int) (margin bad : Bool) (u : State) (hlane : lane < 20)
    (hdrift : 0 < (s.dram ch).drift.get lane) (hm : m = (s.dram ch).moved.get lane + 1)
    (hmargin : margin = decide (driftMargin ≤ m.natAbs))
    (hbad : bad = (decide (driftEntry < m.natAbs) || decide (eye < 32)))
    (hu : u = withHealth (fun s => s.modDram ch (fun c => { c with
      moved := c.moved.set lane m, drift := c.drift.set lane ((s.dram ch).drift.get lane - 1)
      drifted := c.drifted.set lane bad, margin := c.margin || margin })) s) :
    exec (.driftRecentring ch lane eye) s = .next
      (if bad && !(s.dram ch).drifted.get lane || margin && !(s.dram ch).margin then
        post pDram 0x0A02 (handleOf 0 0) [vU ch, vU lane, vS m, vU (if margin then 1 else 0)] u else u) := by
  rw [hu]
  subst hbad hmargin hm
  refine (event_of_exists (dramPart_exists ch hch hlane) _).trans ?_
  simp only [if_pos hdrift, when]
  rfl

theorem bankIdleTimerExpiry_closes (bank : Nat) (hbank : bank < 128) :
    exec (.bankIdleTimerExpiry ch bank) s =
      .next (s.modDram ch (fun c => { c with openRows := c.openRows.set bank none })) :=
  event_of_exists (dramPart_exists ch hch hbank) _

/-- A pair at the threshold that has not been acted on (log entry 37) is acted on. -/
theorem furze_acts (req bank row : Nat) (t : Inst) (u : State) (grp : Nat) (ring : Bool) (n : Nat) (v w : State)
    (hu : u = touch t s) (hreq : req < 96) (hbank : bank < 128) (hgrp : grp = row / 256) (hring : ring = isRingWriter req)
    (hn : n = pairCount req bank grp (u.dram ch).furze)
    (hover : (u.dram ch).furze.any
      (fun e => e.isPair req bank grp && !e.acted && decide (u.mem.furzeThr ≤ e.count)) = true)
    (hv : v = (rfm ch bank u).modDram ch (fun c => { c with
      furze := c.furze.map (fun e => if e.isPair req bank grp then { e with acted := true } else e)
      throttled := if ring || c.throttled.contains req then c.throttled else c.throttled ++ [req]
      fEvents := min (2 ^ 32 - 1) (c.fEvents + 1), fReq := req, fBank := bank % 64, fGroup := grp, fTime := shortTime t }))
    (hw : w = withHealth (fun s => { s with mem := { s.mem with furzeRing := s.mem.furzeRing || ring } }) v) :
    exec (.furze ch req bank row t) s = .next
      (post pDram (if ring then 0x0A04 else 0x0A03) (handleOf 0x11 (512 * ch + req))
        [vU (ch + 256 * (bank / 32 % 2) + 512 * (bank / 4 % 8) + 4096 * (bank % 4)), vU grp, vU n] w) := by
  subst hw hv hn hring hgrp hu
  have hexists : (isDram ch && decide (req < 96) && decide (bank < 128)) = true := by
    rw [dramPart_exists ch hch hreq, decide_eq_true hbank]; rfl
  refine (event_of_exists hexists _).trans ?_
  simp only [hover, Bool.not_true, Bool.false_eq_true, if_false]

end

/-- The scrub is suspended from thermal level 1 on (R633). -/
theorem patrolScrub_counts (hcool : s.mgmt.level = 0) :
    exec .patrolScrub s = .next { s with mem := { s.mem with scrubbed := s.mem.scrubbed + 1 } } := by
  have hruns : ¬ 1 ≤ s.mgmt.level := by omega
  simp only [exec, execPatrolScrub, if_neg hruns]

theorem furzeWindow_forgets (u : State)
    (hu : u = each (List.range 8) (fun c s => s.modDram c (fun d => { d with furze := [], throttled := [] })) s) :
    exec .furzeWindow s = .next { u with mem := { u.mem with window := u.mem.window + 1 } } := by
  rw [hu]
  rfl

end

/-! ### Grants (R405 to R412, R548) -/

section
variable (s : State) (i : Nat) (hinst : isInst i = true)
include hinst

section
variable (raised : List (Nat × Inst)) (burst : List Access) (order : List Nat) (u : State)

theorem burstBoundary_contested (o b : Nat) (hu : u = applyBank i (raiseAll i raised (issueAll i burst order s)))
    (howner : (u.inst i).owner = some o) (hbest : bestRaised u i = some b) :
    exec (.burstBoundary i { raised := raised, burst := burst, order := order }) s = .next
      (if rankOf u i b < rankOf u i o then u.modInst i (fun x => { x with owner := some b }) else u) := by
  subst hu
  exact (event_of_exists hinst _).trans (by simp only [howner, hbest])

theorem burstBoundary_free (hu : u = applyBank i (raiseAll i raised (issueAll i burst order s)))
    (hfree : (u.inst i).owner = none) :
    exec (.burstBoundary i { raised := raised, burst := burst, order := order }) s = .next (grantFree i u) := by
  subst hu
  exact (event_of_exists hinst _).trans (by simp only [hfree])

theorem grantRelease_passes (v : State) (o : Nat) (hv : v = issueAll i burst order s) (howner : (v.inst i).owner = some o)
    (hu : u = (v.modReq i o (fun x => { x with since := none })).modInst i (fun x => { x with owner := none })) :
    exec (.grantRelease i { raised := raised, burst := burst, order := order }) s = .next
      (grantFree i (applyBank i (raiseAll i raised u))) := by
  subst hu hv
  exact (event_of_exists hinst _).trans (by simp only [howner])

end

section
variable (addr : Nat) (t : Inst) (u : State) (o : Nat) (v w : State) (hu : u = touch t s)
  (howner : (u.inst i).owner = some o)
  (hv : v = (u.modReq i o (fun x => { x with since := none, disabled := true, bites := (t :: x.bites).take 3 })).modInst i
    (fun x => { x with owner := none }))
include hu howner hv

/-- The violation of a requester that is no DMA queue is in the PF log alone. -/
theorem grantWatchdog_bites (hother : dmaOf i o = none)
    (hw : w = violate none { kind := 7, addr := addr, requester := o, time := shortTime t, tenant := 0 } v) :
    exec (.grantWatchdog i addr t) s = .next
      (grantFree i (post pArb 0x0A05 (handleOf 0x11 (reqKey i o)) [vU i, vU addr] w)) := by
  subst hw hv hu
  exact (event_of_exists hinst _).trans (by simp only [howner, hother, Option.map_none, Option.getD_none])

/-- The violation of a DMA queue is its tenant's, and the queue stops. -/
theorem grantWatchdog_stopsQueue (x d : Nat) (hdma : dmaOf i o = some (x, d))
    (hw : w = (violate (tenantFn v x) { kind := 7, addr := addr, requester := o, time := shortTime t, tenant := x }
      v).modQueue x (4 + d) (fun k => { k with stopped := true })) :
    exec (.grantWatchdog i addr t) s = .next
      (grantFree i (post pArb 0x0A05 (handleOf 0x11 (reqKey i o)) [vU i, vU addr] w)) := by
  subst hw hv hu
  exact (event_of_exists hinst _).trans (by simp only [howner, hdma, Option.map_some, Option.getD_some])

end

end

/-- Settles O58: each clause is the rule of its event. -/
theorem memoryEventsActOnDramAndGrants : Obligations.MemoryEventsActOnDramAndGrants := by
  unfold Obligations.MemoryEventsActOnDramAndGrants
  intro s
  exact ⟨dramReadReturn_unanswered s, dramReadReturn_answers s,
    fun ch rank hch => refresh_counts s ch hch rank, fun ch bank hch => rfm_acts s ch hch bank,
    fun ch rank hch => zqCalibration_counts s ch hch rank,
    fun ch lane drift hch => oscillatorRead_sets s ch hch lane drift,
    fun ch lane eye m margin bad u hch => driftRecentring_steps s ch hch lane eye m margin bad u,
    patrolScrub_counts s,
    fun ch req bank row t u grp ring n v w hu hch => furze_acts s ch hch req bank row t u grp ring n v w hu,
    furzeWindow_forgets s, fun ch bank hch => bankIdleTimerExpiry_closes s ch hch bank,
    fun i raised burst order u o b hinst => burstBoundary_contested s i hinst raised burst order u o b,
    fun i raised burst order u hinst => burstBoundary_free s i hinst raised burst order u,
    fun i raised burst order v o u hinst => grantRelease_passes s i hinst raised burst order u v o,
    fun i addr t u o v w hu hinst howner hother hv => grantWatchdog_bites s i hinst addr t u o v w hu howner hv hother,
    fun i addr t u o x d v w hu hinst howner hdma hv =>
      grantWatchdog_stopsQueue s i hinst addr t u o v w hu howner hv x d hdma⟩

end Sys2Proof.Machine
end

section
/-! SUPPORT. The diagnostic commands (O32): what the body of each answers once its checks hold (R425, R463 to R465, R602,
R603). -/

namespace Sys2Proof.Machine

section
variable (c : Cmd) (u : State)

/-! ### LOOP_SET (R464, R465) -/

section
variable (hport : names 0x0D c = true) (hpair : pairPort u (hIndex c) = false) (hlock : u.mgmt.laneLock = true)
include hport hpair hlock

/-- The checks of LOOP_SET hold; a far-end loop is asked for in UP, by one command at a time. -/
theorem loopSet_allowed (kind : Nat) (hkind : kind < 4)
    (hmay : kind ≠ 3 ∨ (u.port (hIndex c)).state = .up ∧ (u.port (hIndex c)).loopTag = none) :
    firstFail [(names 0x0D c, .noSuchObject), (decide (kind < 4), .badParam), (!pairPort u (hIndex c), .state),
      (u.mgmt.laneLock && (decide (kind ≠ 3) ||
        (decide ((u.port (hIndex c)).state = .up) && (u.port (hIndex c)).loopTag.isNone)), .state)] = none := by
  have hruns : (decide (kind ≠ 3) ||
      (decide ((u.port (hIndex c)).state = .up) && (u.port (hIndex c)).loopTag.isNone)) = true := by
    rcases hmay with hnear | ⟨hup, hfree⟩
    · rw [decide_eq_true hnear]; rfl
    · rw [hup, hfree]; exact Bool.or_true _
  exact firstFail_cons hport (firstFail_cons (decide_eq_true hkind) (firstFail_cons (by rw [hpair]; rfl)
    (firstFail_cons (by rw [hlock, hruns]; rfl) firstFail_nil)))

theorem bodyLoopSet_ends : bodyLoopSet c 0 u = ({}, if (u.port (hIndex c)).loop = .none then u
    else portToIdle (hIndex c) (u.modPort (hIndex c) (fun q => { q with loop := .none }))) := by
  unfold bodyLoopSet
  exact checked_pass (loopSet_allowed c u hport hpair hlock 0 (by decide) (.inl (by decide))) u _

theorem bodyLoopSet_loopsNear (kind : Nat) (hkind : kind = 1 ∨ kind = 2) : bodyLoopSet c kind u =
    ({}, (portToIdle (hIndex c) u).modPort (hIndex c)
      (fun q => { q with loop := if kind = 1 then .nearSerial else .nearParallel })) := by
  unfold bodyLoopSet
  rcases hkind with rfl | rfl
  · exact checked_pass (loopSet_allowed c u hport hpair hlock 1 (by decide) (.inl (by decide))) u _
  · exact checked_pass (loopSet_allowed c u hport hpair hlock 2 (by decide) (.inl (by decide))) u _

/-- The partner's answer completes the command later. -/
theorem bodyLoopSet_asksFar (hup : (u.port (hIndex c)).state = .up) (hfree : (u.port (hIndex c)).loopTag = none) :
    bodyLoopSet c 3 u = ({ later := true },
      u.modPort (hIndex c) (fun q => { q with loopTag := some (c.tenant, c.queue, c.tag) })) := by
  unfold bodyLoopSet
  exact checked_pass (loopSet_allowed c u hport hpair hlock 3 (by decide) (.inr ⟨hup, hfree⟩)) u _

end

/-! ### PRBS_SET and PRBS_STATUS (R463) -/

/-- At shedding level 0 (log entry 90), or to turn both off. -/
theorem bodyPrbsSet_sets (poly : Nat) (gen chk on : Bool) (ports : List Nat) (hlane : names 0x0E c = true)
    (hpoly : poly = 0 ∨ poly = 7 ∨ poly = 15 ∨ poly = 31)
    (hports : ports = (List.range 16).filter (fun p => (portLanes u p).contains (hIndex c)))
    (hpair : ∀ p ∈ ports, pairPort u p = false) (hon : on = (decide (poly ≠ 0) && (gen || chk)))
    (hlock : u.mgmt.laneLock = true) (hmay : on = false ∨ u.mgmt.level = 0 ∧ u.outputsHeld = false) :
    bodyPrbsSet c poly gen chk u = ({},
      (when (on || ((u.lane (hIndex c)).gen || (u.lane (hIndex c)).chk)) (each ports portToIdle) u).modLane (hIndex c)
        (fun x => { x with
          poly := poly, gen := on && gen, chk := on && chk
          locked := x.locked && x.chk && on && chk && decide (x.poly = poly) })) := by
  have hknown : [0, 7, 15, 31].contains poly = true := by rcases hpoly with rfl | rfl | rfl | rfl <;> rfl
  have hfree : ports.all (fun p => !pairPort u p) = true :=
    List.all_eq_true.mpr fun p hp => by rw [hpair p hp]; rfl
  have hruns : (u.mgmt.laneLock && (!on || (decide (u.mgmt.level = 0) && !u.outputsHeld))) = true := by
    rcases hmay with hoff | ⟨hlevel, hheld⟩
    · rw [hlock, hoff]; rfl
    · rw [hlock, hlevel, hheld]; exact Bool.or_true _
  subst hports hon
  unfold bodyPrbsSet
  exact checked_pass (firstFail_cons hlane (firstFail_cons hknown (firstFail_cons hfree
    (firstFail_cons hruns firstFail_nil)))) u _

/-- What a locked checker has compared since its last lock is free (log entry 183). -/
theorem bodyPrbsStatus_reports (x : Prbs) (bits errors : Nat) (hlane : names 0x0E c = true) (hx : x = u.lane (hIndex c))
    (hseen : (bits, errors) = if x.locked && x.chk then Config.prbsSeen (drawn u).1 else (0, 0)) :
    bodyPrbsStatus c u =
      ({ result := leBytes 8 ((x.bits.toNat + bits) % 2 ^ 64) ++ leBytes 4 (min (x.errors + errors) (2 ^ 32 - 1))
          ++ leBytes 4 x.relocks }, (drawn u).2) := by
  subst hx
  refine (checked_pass (firstFail_cons hlane firstFail_nil) u _).trans ?_
  simp only [← hseen]
  rfl

/-! ### FIFO_STATUS, COUNTER_READ and COUNTER_WRITE (R425, R602) -/

theorem bodyFifoStatus_lists (hhub : names 0 c = true) :
    ∃ items, bodyFifoStatus c u = ((report c 16 items counted u).1, u) :=
  ⟨_, checked_pass (firstFail_cons hhub firstFail_nil) u _⟩

section
variable (field k : Nat) (hnames : namesSome c = true) (hk : namedCounter c field = some k)
include hnames hk

theorem bodyCounterRead_reads : bodyCounterRead c field u =
    ({ result := leBytes 8 (ctrOf u k).val ++ leBytes 1 (if (ctrOf u k).sat then 1 else 0) }, u) := by
  simp only [bodyCounterRead, hk, Option.getD_some]
  exact checked_pass (firstFail_cons hnames (firstFail_cons rfl firstFail_nil)) u _

theorem bodyCounterWrite_waits (value : Nat) (hvalue : value ≤ ctrTop k) : bodyCounterWrite c field value u =
    ({ later := true }, { u with host := { u.host with writes := u.host.writes ++
      [{ key := k, value := value, tenant := c.tenant, queue := c.queue, tag := c.tag, at_ := u.now }] } }) := by
  simp only [bodyCounterWrite, hk, Option.getD_some]
  exact checked_pass (firstFail_cons hnames (firstFail_cons rfl
    (firstFail_cons (decide_eq_true hvalue) firstFail_nil))) u _

end

/-! ### MEM_TEST (R603) -/

/-- At shedding level 0 (log entry 90). -/
theorem bodyMemTest_reports (ch mib errors : Nat) (hhub : names 0 c = true) (hch : ch < 8)
    (hthere : ch ∈ u.mem.pop.channels) (hsize : mib * u.mem.pop.channels.length ≤ u.mem.pop.gib * 1024)
    (hserves : dramServes u = true) (hlevel : u.mgmt.level = 0) (hrings : ringsExist u = false) :
    bodyMemTest c ch mib errors u = ({ result := leBytes 8 errors }, u) := by
  have hpart : (decide (ch < 8) && (u.mem.pop.channels.isEmpty ||
      (u.mem.pop.channels.contains ch && decide (mib * u.mem.pop.channels.length ≤ u.mem.pop.gib * 1024)))) = true := by
    rw [decide_eq_true hch, List.contains_iff_mem.mpr hthere, decide_eq_true hsize]; exact Bool.or_true _
  have hmay : (dramServes u && decide (u.mgmt.level = 0)) = true := by rw [hserves, hlevel]; rfl
  exact checked_pass (firstFail_cons hhub (firstFail_cons hpart (firstFail_cons hmay
    (firstFail_cons (by rw [hrings]; rfl) firstFail_nil)))) u _

end

/-- Settles O32: each command answers what its body answers once the checks of its rule hold. -/
theorem diagnosticCommandsActOnTheirParts : Obligations.DiagnosticCommandsActOnTheirParts := by
  unfold Obligations.DiagnosticCommandsActOnTheirParts
  intro c s u hu
  refine ⟨fun hport hpair hlock => ⟨?loopEnds, ?loopSerial, ?loopParallel, ?loopFar⟩, ?prbsSet, ?prbsStatus, ?fifo,
    fun field k hnames hk => ⟨?read, ?write⟩, ?memTest⟩
  case loopEnds =>
    intro hrun
    exact command_at _ _ c _ s u _ _ hu hrun (bodyLoopSet_ends c u hport hpair hlock) code_done
  case loopSerial =>
    intro hrun
    exact command_at _ _ c _ s u _ _ hu hrun (bodyLoopSet_loopsNear c u hport hpair hlock 1 (.inl rfl)) code_done
  case loopParallel =>
    intro hrun
    exact command_at _ _ c _ s u _ _ hu hrun (bodyLoopSet_loopsNear c u hport hpair hlock 2 (.inr rfl)) code_done
  case loopFar =>
    intro hrun hup hfree
    exact command_at _ _ c _ s u _ _ hu hrun (bodyLoopSet_asksFar c u hport hpair hlock hup hfree) code_done
  case prbsSet =>
    intro poly gen chk on ports hrun hlane hpoly hports hpair hon hlock hmay
    exact command_at _ _ c _ s u _ _ hu hrun
      (bodyPrbsSet_sets c u poly gen chk on ports hlane hpoly hports hpair hon hlock hmay) code_done
  case prbsStatus =>
    rintro x v bits errors hrun hlane hx rfl hseen
    exact command_at _ _ c _ s u _ _ hu hrun (bodyPrbsStatus_reports c u x bits errors hlane hx hseen) code_done
  case fifo =>
    intro hrun hhub
    obtain ⟨items, hbody⟩ := bodyFifoStatus_lists c u hhub
    exact ⟨_, rfl, report_status c 16 items counted u, rfl,
      command_at _ _ c _ s u _ _ hu hrun hbody (report_code c 16 items counted u)⟩
  case read =>
    intro hrun
    exact command_at _ _ c _ s u _ _ hu hrun (bodyCounterRead_reads c u field k hnames hk) code_done
  case write =>
    intro value hrun hvalue
    exact command_at _ _ c _ s u _ _ hu hrun (bodyCounterWrite_waits c u field k hnames hk value hvalue) code_done
  case memTest =>
    intro ch mib errors hrun hhub hch hthere hsize hserves hlevel hrings
    exact command_at _ _ c _ s u _ _ hu hrun
      (bodyMemTest_reports c u ch mib errors hhub hch hthere hsize hserves hlevel hrings) code_done

end Sys2Proof.Machine
end

section
/-! SUPPORT. The training of a port (O44): from IDLE through RATE, LOCK, ADAPT and DESKEW to UP, and the time limit of a
state (R442 to R449). -/

namespace Sys2Proof.Machine

section
variable (s v : State) (p : Nat)

section
variable (hport : isPort p = true)
include hport

/-! ### IDLE and RATE (R442, R443) -/

theorem idleExpiry_entersRate (hidle : (s.port p).state = .idle) (hon : portOn s p = true)
    (hloop : (s.port p).loop = .none) (htest : inTest s p = false) (hstarted : 3 ≤ startupCode s.mgmt.startup) :
    exec (.idleExpiry p) s =
      .next (s.modPort p (fun q => { q with state := .rate, slowIdle := false, classed := 0, parRate := 2 })) := by
  have hfree : (decide ((s.port p).state = .idle) && portOn s p && decide ((s.port p).loop = .none) && !inTest s p
      && decide (3 ≤ startupCode s.mgmt.startup)) = true := by
    rw [hidle, hon, hloop, htest, decide_eq_true hstarted]; rfl
  exact (event_of_exists hport _).trans (congrArg _ (if_pos hfree))

theorem rateSignalClassed_classes (runs : List Nat) (seen : List (Nat × Nat)) (hrate : (s.port p).state = .rate)
    (hseen : seen = (runs.zipIdx.filter (fun x => decide (x.2 < portWidth s p))).filterMap
      (fun x => (classRun x.1).map (fun c => (c, x.2))))
    (hv : v = s.modPort p (fun q => { q with
      classed := q.classed ||| maskOf (seen.map (·.2)), parRate := (seen.map (·.1)).foldl min q.parRate })) :
    exec (.rateSignalClassed p runs) s = .next
      (if (v.port p).classed = fullMask (portWidth v p) ∧ 0 < fullMask (portWidth v p)
        then enterLock p (fullMask (portWidth v p)) v else v) := by
  subst hv hseen
  refine (event_of_exists hport _).trans ?_
  simp only [hrate, ne_eq, not_true_eq_false, if_false, Bool.and_eq_true, decide_eq_true_eq]

/-! ### LOCK (R444 to R446) -/

/-- A consistent set in order, from a partner of a fitting role, on every lane of the set: one more in a run of sets of
one order and width, and the eighth ends LOCK. -/
theorem ts1_countsInLock (a : TsFields) (rest : List TsFields) (rev : Bool) (on : List (TsFields × Nat)) (w n inv : Nat)
    (hlock : (s.port p).state = .lock) (hcons : tsConsistent (a :: rest) = true)
    (hlen : (a :: rest).length = (lanesOf (s.port p).rx.mask).length)
    (hzip : on = (a :: rest).zip (lanesOf (s.port p).rx.mask)) (hw : w = min (portWidth s p) a.width)
    (horder : laneOrder w on = some rev) (hrole : roleFails s p a = false)
    (hn : n = (if (s.port p).agreed = w ∧ (s.port p).rxRev = rev then (s.port p).ts1Run else 0) + 1)
    (hinv : inv = maskOf ((on.filter (·.1.inverted)).map (·.2)))
    (hv : v = s.modPort p (fun q => { q with
      ts1Run := n, rxRev := rev, agreed := w, parHub := a.hub, parPort := a.port
      rxInv := ((List.range 4).map
        (fun i => if q.rxPol.get i = 2 || (q.rxPol.get i = 0 && inv.testBit i) then 2 ^ i else 0)).sum })) :
    exec (.ts1 p (a :: rest)) s = .next (if 8 ≤ n then enterAdapt p (s.port p).rx.mask v else v) := by
  subst hv hn hinv hw hzip
  refine (event_of_exists hport _).trans ?_
  simp only [hlock, hcons, hlen, horder, hrole, if_true, Bool.not_true, ne_eq, not_true_eq_false, decide_false,
    Bool.or_self, Bool.false_eq_true, if_false, Bool.and_eq_true, decide_eq_true_eq]

/-! ### ADAPT (R447) -/

/-- The partner is done with ADAPT when each of its lanes says so; the state ends when this end is done too. -/
theorem ts1_marksAdapt (a : TsFields) (rest : List TsFields) (hadapt : (s.port p).state = .adapt)
    (hv : v = s.modPort p (fun q => { q with parAdapt := (a :: rest).all (·.adaptDone) })) :
    exec (.ts1 p (a :: rest)) s = .next
      (if (a :: rest).all (·.adaptDone) = true ∧ (s.port p).ownAdapt = true
        then v.modPort p (fun q => { q with state := .deskew, ts2Run := 0 }) else v) := by
  subst hv
  refine (event_of_exists hport _).trans ?_
  simp only [hadapt, reduceCtorEq, if_false, if_true, Bool.and_eq_true]

theorem adaptDone_marksOwn (ctle : List Nat) (dfe : List Int) (eyes : List (Nat × Nat))
    (hadapt : (s.port p).state = .adapt)
    (hv : v = s.modPort p (fun q => { q with ownAdapt := true, ctle := ctle, dfe := dfe, eyes := eyes })) :
    exec (.adaptDone p ctle dfe eyes) s = .next
      (if (s.port p).parAdapt then v.modPort p (fun q => { q with state := .deskew, ts2Run := 0 }) else v) := by
  subst hv
  exact (event_of_exists hport _).trans (congrArg _ (if_pos hadapt))

/-! ### DESKEW (R448) -/

theorem ts2_aligns (lanes : List TsFields) (skew : List Nat) (good m : Nat) (hdeskew : (s.port p).state = .deskew)
    (hgood : good = maskOf ((skew.zip (lanesOf (s.port p).rx.mask)).filterMap
      (fun x => if x.1 ≤ 16 then some x.2 else none)))
    (hbest : bestSet (s.port p).agreed good 0 = some m)
    (hv : v = s.modPort p (fun q => { q with
      ts2Run := (s.port p).ts2Run + 1, ownSkew := decide (8 ≤ (s.port p).ts2Run + 1)
      parSkew := lanes.all (·.deskewDone), rx := { q.rx with mask := m } })) :
    exec (.ts2 p lanes skew) s = .next
      (if 8 ≤ (s.port p).ts2Run + 1 ∧ lanes.all (·.deskewDone) = true then portUp p v else v) := by
  subst hv hgood
  refine (event_of_exists hport _).trans ?_
  simp only [hdeskew, hbest, ne_eq, not_true_eq_false, if_false, Bool.and_eq_true, decide_eq_true_eq]

/-! ### The time limit of a state (R442, R449) -/

section
variable (passing : List Nat) (w : Nat)

/-- In RATE a lane has passed when its signal has been classed. -/
theorem trainingTimeout_inRate (m : Nat) (hrate : (s.port p).state = .rate) (hw : w = portWidth s p)
    (hbest : bestSet w (maskOf passing &&& (s.port p).classed &&& fullMask w) 0 = some m) :
    exec (.trainingTimeout p passing) s = .next (enterLock p m s) := by
  subst hw
  refine (event_of_exists hport _).trans ?_
  simp only [hrate, hbest, decide_true, Bool.or_true, Bool.true_or, if_true]

/-- Past RATE: with no legal set left the port fails, else the set carries on to the next state. -/
def carryOn (p w : Nat) : PortState → Option Nat → State → State
  | _, none, s => trainFail p 1 s
  | .lock, some m, s => enterAdapt p m (s.modPort p (fun q => { q with agreed := w }))
  | .adapt, some m, s =>
    s.modPort p (fun q => { q with state := .deskew, ts2Run := 0, tx := { mask := m }, rx := { mask := m } })
  | _, some m, s => portUp p (s.modPort p (fun q => { q with tx := { mask := m }, rx := { mask := m } }))

theorem trainingTimeout_pastRate (st : PortState) (left : Option Nat) (hst : (s.port p).state = st)
    (hpast : st = .lock ∨ st = .adapt ∨ st = .deskew)
    (hw : w = if (s.port p).agreed = 0 then portWidth s p else (s.port p).agreed)
    (hbest : bestSet w (maskOf passing &&& (s.port p).rx.mask &&& fullMask w) 0 = left) :
    exec (.trainingTimeout p passing) s = .next (carryOn p w st left s) := by
  have hrate : st ≠ .rate := by rcases hpast with rfl | rfl | rfl <;> decide
  subst hw
  refine (event_of_exists hport _).trans ?_
  simp only [hst, hrate, hbest, decide_false, Bool.or_false, decide_eq_true_eq, if_false]
  rcases hpast with rfl | rfl | rfl <;> cases left <;> rfl

end

end

end

/-- Settles O44: each clause is the rule of its event in the state that the port is in. -/
theorem trainingEventsMoveThePort : Obligations.TrainingEventsMoveThePort := by
  unfold Obligations.TrainingEventsMoveThePort
  intro s
  exact ⟨fun p hport => idleExpiry_entersRate s p hport,
    fun p runs seen v hport => rateSignalClassed_classes s v p hport runs seen,
    fun p a rest rev on w n v inv hport => ts1_countsInLock s v p hport a rest rev on w n inv,
    fun p a rest v hport => ts1_marksAdapt s v p hport a rest,
    fun p ctle dfe eyes v hport => adaptDone_marksOwn s v p hport ctle dfe eyes,
    fun p lanes skew good m v hport => ts2_aligns s v p hport lanes skew good m,
    fun p passing w m hport => trainingTimeout_inRate s p hport passing w m,
    fun p passing w m hport hlock => trainingTimeout_pastRate s p hport passing w .lock (some m) hlock (.inl rfl),
    fun p passing w m hport hadapt =>
      trainingTimeout_pastRate s p hport passing w .adapt (some m) hadapt (.inr (.inl rfl)),
    fun p passing w m hport hdeskew =>
      trainingTimeout_pastRate s p hport passing w .deskew (some m) hdeskew (.inr (.inr rfl)),
    fun p passing w hport hlock => trainingTimeout_pastRate s p hport passing w .lock none hlock (.inl rfl)⟩

end Sys2Proof.Machine
end

section
/-! SUPPORT. The lanes of a port in UP (O45): SKIP slots, faulty lanes, widths, far-end loops and the PRBS checker (R435,
R452, R453, R456, R463, R465). -/

namespace Sys2Proof.Machine

section
variable (s v : State) (p : Nat) (hport : isPort p = true)
include hport

section
variable (hup : (s.port p).state = .up)
include hup

/-- The slot ends its interval: bad sync headers are counted before the interval ends (log entry 159), and a lane is
faulty that is late twice in a row or has too many of them. -/
theorem skipBlock_endsInterval (n : Nat) (late : List Nat) (raw : List (Nat × Nat × BitVec 130)) (w x : State)
    (hv : v = each (raw.filter (fun x => (s.port p).rx.mask.testBit x.1 && decide (x.2.1 < 256))) (receiveRaw p) s)
    (hw : w = endInterval256 p (each (lanesOf (maskOf late)) (fun i s => bump (laneCtr s p i 3) s) v))
    (hx : x = w.modPort p (fun q => { q with seeded := true, skips := n % 65536, lateSkip := maskOf late })) :
    exec (.skipBlock p n { late := late, raw := raw }) s =
      .next (rxFaults p (maskOf late &&& (s.port p).lateSkip ||| headerFaults v p) x) := by
  subst hx hw hv
  exact (event_of_exists hport _).trans (congrArg _ (if_neg (not_not_intro hup)))

theorem laneFault_reduces (m : Nat) (hactive : (s.port p).tx.mask &&& m ≠ 0) : exec (.laneFault p m) s =
    .next (txReduce p m (each (lanesOf ((s.port p).tx.mask &&& m)) (fun i s => bump (laneCtr s p i 4) s) s)) := by
  refine (event_of_exists hport _).trans ?_
  simp only [hup, hactive, ne_eq, not_true_eq_false, decide_false, Bool.or_self, Bool.false_eq_true, if_false]

theorem widthBlock_follows (m : Nat) (hlegal : (legalSets (s.port p).agreed).contains m = true)
    (hdue : (s.port p).rx.due = true ∨ m ≠ (s.port p).rx.mask) : exec (.widthBlock p m) s =
    .next (bump (dirCtr p 7 1) (s.modPort p (fun q => { q with rx := { mask := m } }))) := by
  have hasked : ((s.port p).rx.due || decide (m ≠ (s.port p).rx.mask)) = true := by
    rwa [Bool.or_eq_true, decide_eq_true_iff]
  refine (event_of_exists hport _).trans ?_
  simp only [hup, hlegal, hasked, decide_true, Bool.and_self, if_true]

theorem lossOfSignal_inUp (lanes : List Nat) (hnear : (s.port p).farEnd = false)
    (hv : v = each (lanesOf (maskOf lanes)) (fun i s => bump (laneCtr s p i 2) s) s) : exec (.lossOfSignal p lanes) s =
    .next (if fullMask (s.port p).agreed &&& maskOf lanes = fullMask (s.port p).agreed then linkDown p v
      else rxFaults p (maskOf lanes) v) := by
  subst hv
  refine (event_of_exists hport _).trans ?_
  simp only [hnear, hup, Bool.false_eq_true, ne_eq, not_true_eq_false, if_false]

theorem loopBlock_accepts (hpermit : (s.port p).loopOk = true) : exec (.loopBlock p 1) s =
    .next (failPort p 4 (s.modPort p (fun q => { q with farEnd := true }))) := by
  have hmay : (decide ((s.port p).state = .up) && (s.port p).loopOk) = true := by rw [hup, hpermit]; rfl
  exact (event_of_exists hport _).trans (congrArg _ (if_pos hmay))

end

theorem lossOfSignal_endsFarEndLoop (lanes : List Nat) (hfar : (s.port p).farEnd = true)
    (hv : v = each (lanesOf (maskOf lanes)) (fun i s => bump (laneCtr s p i 2) s) s) :
    exec (.lossOfSignal p lanes) s = .next (toIdle p v) := by
  subst hv
  exact (event_of_exists hport _).trans (congrArg _ (if_pos hfar))

section
variable (t k : Nat) (g : BitVec 32) (hasked : (s.port p).loopTag = some (t, k, g))
include hasked

theorem loopBlock_accepted : exec (.loopBlock p 2) s = .next (finishLater t k g {} (some 3)
    (failPort p 4 (s.modPort p (fun q => { q with loop := .farEnd, loopTag := none })))) := by
  refine (event_of_exists hport _).trans ?_
  simp only [hasked]

theorem loopBlock_refused : exec (.loopBlock p 3) s = .next (finishLater t k g { status := .state } none
    (s.modPort p (fun q => { q with loopTag := none }))) := by
  refine (event_of_exists hport _).trans ?_
  simp only [hasked]

end

end

/-- A checker locks when it was not locked, or locks again after too many errors; the lock brings its counts (log entry 183). -/
theorem prbsCheckerLock_locks (s : State) (l : Nat) (received : List Bool) (bits errs : Nat) (hlane : l < 32)
    (hchk : (s.lane l).chk = true) (hfollows : prbsLocks (s.lane l).poly received = true)
    (hdue : (s.lane l).locked = false ∨ 64 ≤ errs) : exec (.prbsCheckerLock l received bits errs) s =
    .next (s.modLane l (fun x => { x with
      locked := true, relocks := if x.locked then x.relocks + 1 else x.relocks
      bits := x.bits + BitVec.ofNat 64 bits, errors := min (x.errors + errs) (2 ^ 32 - 1) })) := by
  have hlocks : (!(s.lane l).locked || decide (64 ≤ errs)) = true := by
    rwa [Bool.or_eq_true, Bool.not_eq_true', decide_eq_true_iff]
  refine (event_of_exists (decide_eq_true hlane) _).trans ?_
  simp only [hchk, hfollows, hlocks, Bool.and_self, if_true]

/-- Settles O45: each clause is the rule of its event. -/
theorem laneEventsKeepThePortRunning : Obligations.LaneEventsKeepThePortRunning := by
  unfold Obligations.LaneEventsKeepThePortRunning
  intro s
  exact ⟨fun p n late raw v w x hport hup => skipBlock_endsInterval s v p hport hup n late raw w x,
    fun p m hport hup => laneFault_reduces s p hport hup m, fun p m hport hup => widthBlock_follows s p hport hup m,
    fun p lanes v hport hup => lossOfSignal_inUp s v p hport hup lanes,
    fun p lanes v hport => lossOfSignal_endsFarEndLoop s v p hport lanes, loopBlock_accepts s,
    fun p t k g hport => loopBlock_accepted s p hport t k g, fun p t k g hport => loopBlock_refused s p hport t k g,
    prbsCheckerLock_locks s⟩

end Sys2Proof.Machine
end

section
/-! SUPPORT. Quiet lanes (O46): the request, the entry and the wake of a direction (R458 to R461). -/

namespace Sys2Proof.Machine

section
variable (s : State) (p : Nat) (hport : isPort p = true)
include hport

/-! ### The entry into quiet (R458 to R460) -/

section
variable (hup : (s.port p).state = .up)
include hup

theorem quietIdleExpiry_requests (hpolicy : (s.port p).quietOn = true) (hlanes : 2 ≤ laneCount (s.port p).tx.mask)
    (hawake : (s.port p).tx.quiet = .awake) : exec (.quietIdleExpiry p) s =
    .next (s.modPort p (fun q => { q with tx := { q.tx with quiet := .requested } })) := by
  refine (event_of_exists hport _).trans ?_
  simp only [hup, hpolicy, hlanes, hawake, decide_true, Bool.true_or, Bool.and_self, if_true]

theorem quietReq_answers (hawake : (s.port p).rx.quiet = .awake) : exec (.quietReq p) s =
    .next (s.modPort p (fun q => { q with rx := { q.rx with quiet := .acked } })) := by
  refine (event_of_exists hport _).trans ?_
  simp only [hup, hawake, decide_true, Bool.and_self, if_true]

/-- From here the transmitter is committed; the entry is complete at the next boundary (log entry 9). -/
theorem quietAck_commits (m : Nat) (hreq : (s.port p).tx.quiet = .requested) (hm : m = 2 ^ leadLane (s.port p).tx.mask) :
    exec (.quietAck p) s = .next (s.modPort p (fun q => { q with
      tx := { q.tx with quiet := .acked, mask := m, sleep := maskMinus q.tx.mask m } })) := by
  subst hm
  refine (event_of_exists hport _).trans ?_
  simp only [hup, hreq, decide_true, Bool.and_self, if_true]

theorem quietEnter_enters (m : Nat) (hacked : (s.port p).rx.quiet = .acked) : exec (.quietEnter p m) s =
    .next (bump (dirCtr p 9 1) (s.modPort p (fun q => { q with
      rx := { q.rx with quiet := .quiet, mask := m, sleep := maskMinus q.rx.mask m } }))) := by
  refine (event_of_exists hport _).trans ?_
  simp only [hup, hacked, decide_true, Bool.and_self, if_true]

end

theorem quietEntryWithdrawn_wakes (hacked : (s.port p).rx.quiet = .acked) : exec (.quietEntryWithdrawn p) s =
    .next (s.modPort p (fun q => { q with rx := { q.rx with quiet := .awake } })) :=
  (event_of_exists hport _).trans (congrArg _ (if_pos hacked))

/-! ### The wake (R460, R461) -/

theorem wakeNeed_wakes : exec (.wakeNeed p) s = .next (wakeNeed p s) := event_of_exists hport _

theorem idleExitEnd_stripes (a : Nat) (hwaking : (s.port p).tx.quiet = .waking)
    (ha : a = (s.port p).tx.mask ||| (s.port p).tx.sleep) : exec (.idleExitEnd p) s =
    .next (bump (dirCtr p 10 0) (s.modPort p (fun q => { q with
      tx := { mask := (bestSet q.agreed a (leadLane a)).getD a } }))) := by
  subst ha
  exact (event_of_exists hport _).trans (congrArg _ (if_pos hwaking))

theorem wakeBlock_deskews (ok : List Nat) (bad : Nat) (hquiet : (s.port p).rx.quiet = .quiet)
    (hbad : bad = maskMinus (s.port p).rx.sleep (maskOf ok)) : exec (.wakeBlock p ok) s =
    .next (rxFaults p bad (bump (dirCtr p 10 1) (s.modPort p (fun q => { q with
      rx := { mask := q.rx.mask ||| q.rx.sleep } })))) := by
  subst hbad
  exact (event_of_exists hport _).trans (congrArg _ (if_pos hquiet))

end

/-- Settles O46: each clause is the rule of its event. -/
theorem quietLanesSleepAndWake : Obligations.QuietLanesSleepAndWake := by
  unfold Obligations.QuietLanesSleepAndWake
  intro s
  exact ⟨quietIdleExpiry_requests s, quietReq_answers s,
    fun p m hport hup => quietAck_commits s p hport hup m, fun p m hport hup => quietEnter_enters s p hport hup m,
    quietEntryWithdrawn_wakes s, wakeNeed_wakes s, fun p a hport => idleExitEnd_stripes s p hport a,
    fun p ok bad hport => wakeBlock_deskews s p hport ok bad⟩

end Sys2Proof.Machine
end

section
/-! SUPPORT. The events of the clover pair (O55): traffic and LSAs, heartbeats and decisions, the join and the swap (R492,
R508 to R512, R517, R525 to R533). -/

namespace Sys2Proof.Machine

/-- A change of the pair changes the pair alone. -/
@[simp] theorem State.modClover_clover (s : State) (f : Clover → Clover) : (s.modClover f).clover = f s.clover := rfl

section
variable (s u v : State)

/-! ### Traffic and LSAs (R436, R451, R492) -/

section
variable (p : Nat) (hport : isPort p = true) (hup : (s.port p).state = .up)
include hport hup

/-- START brings the clover link up, where the roles are chosen (log entry 54). -/
theorem startBlock_starts (lane width : Nat) (emits pref : Bool) (hu : u = startTraffic p lane width s) :
    exec (.startBlock p lane width emits pref) s = .next (if (u.port p).clover then cloverLinkUp p emits pref u else u) := by
  subst hu
  exact (event_of_exists hport _).trans (congrArg _ (if_neg (not_not_intro hup)))

/-- A member that is not SOLO is not severed by what another hub says (R530). -/
theorem lsa_floods (origin uid seq hops : Nat) (links : List LsaLink) (hnewer : lsaNewer s origin uid seq = true)
    (hu : u = addrClash origin uid (seeUid uid (floodLsa (LsaRec.mk origin uid seq links) (some (p, hops))
      (storeLsa (LsaRec.mk origin uid seq links) s)))) (hjoined : u.clover.state ≠ .solo) :
    exec (.lsa p origin uid seq { hops := hops, links := links }) s = .next u := by
  subst hu
  refine (event_of_exists hport _).trans ?_
  simp only [hup, hnewer, hjoined, ne_eq, not_true_eq_false, decide_false, Bool.not_true, Bool.or_self, Bool.false_and,
    Bool.false_eq_true, if_false]

end

/-! ### Heartbeats and decisions (R512, R517, R533) -/

/-- What waits leaves with the heartbeat slot (log entry 55). -/
theorem heartbeatLaunch_launches (p k : Nat) (hu : u = sendMsgs s) (hlink : cloverPort u = some p) (hslot : k % 3000 = 0)
    (hpaired : u.clover.state ≠ .unpaired) : exec (.heartbeatLaunch k) s = .next (touch (atCycle k) (sendFrame p
      { ftype := 8, vc := 1, timed := true, dest := 0, src := u.sky.hub, aux := 1
        body := heartbeatBytes u (heartbeatOf u k) }
      (u.modClover (fun c => { c with hbSeq := (c.hbSeq + 1) % 2 ^ 32 })))) := by
  subst hu
  simp only [exec, execHeartbeatLaunch, hlink, hslot, hpaired, ne_eq, not_true_eq_false, decide_false, Bool.or_self,
    Bool.false_eq_true, if_false]

theorem heartbeat_coversDecisions (h : HeartbeatMsg) (t : Inst) (hu : u = touch t s)
    (hnewer : u.clover.last = none ∨ ∃ l, u.clover.last = some l ∧ l.sendAt < h.sendAt)
    (hformed : u.clover.state = .formed) (hactive : u.clover.role = .active)
    (hv : v = u.modClover (fun c => { c with last := some h, lastAt := h.sendAt, extended := false })) :
    exec (.heartbeat h t) s = .next
      (publishCovered (v.modClover (fun c => { c with sent := c.sent.filter (fun d => !covers h.decSeq d.1) }))) := by
  subst hv hu
  rcases hnewer with hlast | ⟨l, hlast, hlater⟩ <;>
    simp only [exec, execHeartbeat, *, State.modClover_clover, reduceCtorEq, decide_false, decide_true, Bool.not_true,
      Bool.or_self, Bool.false_and, Bool.false_eq_true, ne_eq, not_true_eq_false, if_false, if_true]

theorem decision_late (n : Nat) (d : Decision) (halone : s.clover.state ≠ .formed) :
    exec (.decision n d) s = .next (post pSkecy 0x0906 0 [vU n] (bump lateDecision s)) :=
  congrArg _ (if_pos halone)

theorem decision_applies (d : Decision) (hformed : s.clover.state = .formed) (hstandby : s.clover.role = .standby) :
    exec (.decision s.clover.decNext d) s = .next
      (applyDecision d (s.modClover (fun c => { c with decNext := (c.decNext + 1) % 2 ^ 32 }))) := by
  simp only [exec, execDecision, hformed, hstandby, ne_eq, not_true_eq_false, decide_false, Bool.or_self,
    Bool.false_eq_true, if_false]

/-! ### The join (R509 to R511, R524, R526) -/

/-- Only the active member judges the request (log entry 169); it names the first whole second at least two swaths ahead
(log entry 58). -/
theorem joinReq_answers (proto uid dig strap : Nat) (pop : Population) (t : Inst) (w : State) (hu : u = touch t s)
    (hjoin : u.clover.state = .joining) (hactive : u.clover.role = .active) (hfits : joinCause u proto strap pop = 0)
    (haddr : u.sky.hub ≠ 0)
    (hv : v = (drawn u).2.modClover (fun c => { c with digest := Config.digest (drawn u).1 }))
    (hw : w = v.modClover (fun c => { c with partner := uid, joinSec := some (joinSecond t), joinOk := true })) :
    exec (.joinReq proto uid dig strap pop t) s = .next
      (sendMsg { kind := 11, a := joinSecond t, b := if dig = w.clover.digest then 0 else 1 } w) := by
  subst hw hv hu
  simp only [exec, execJoinReq, hjoin, hactive, hfits, haddr, ne_eq, not_true_eq_false, decide_false, Bool.or_self,
    Bool.false_eq_true, if_false]

theorem joinSync_stages (sec uid addr : Nat) (config : List Change) (pos : List StreamPos) (dec : Nat)
    (hjoin : s.clover.state = .joining) (hstandby : s.clover.role = .standby) (hconfig : config ≠ [])
    (hu : u = s.modClover (fun c => { c with
      joinSec := some sec, joinOk := true, partner := uid, positions := pos, decNext := (dec + 1) % 2 ^ 32
      adopt := if strapAddr s.mgmt.strap = 0 then some addr else none })) :
    exec (.joinSync sec uid addr config pos dec) s = .next { u with host := { u.host with bank := u.host.bank ++
      [{ stage := { changes := config }, at_ := u.time.swath + 3, silent := true }] } } := by
  subst hu
  have hchanges : config.isEmpty = false := List.isEmpty_eq_false_iff.mpr hconfig
  simp only [exec, execJoinSync, hjoin, hstandby, hchanges, ne_eq, not_true_eq_false, decide_false, Bool.or_self,
    Bool.false_eq_true, if_false]

theorem searchTimeout_goesAlone (hsearch : s.clover.state = .search)
    (hu : u = s.modClover (fun c => { c with
      state := .solo, role := .active, timedOut := true, soloFrom := soloMarks s })) :
    exec (.searchTimeout) s = .next
      (if u.mgmt.memberB = true ∧ strapAddr u.mgmt.strap = 0 ∧ u.sky.hub = 0 then askAddress u else u) := by
  subst hu
  simp only [exec, execSearchTimeout, hsearch, if_true, when, Bool.and_eq_true, decide_eq_true_eq, and_assoc]

/-! ### The swap (R529, R531) -/

section
variable (hformed : s.clover.state = .formed)
include hformed

theorem swap_confirmed (b : Nat) (hown : s.clover.swapAt = some b) :
    exec (.swap b true) s = .next (s.modClover (fun c => { c with swapOk := true })) := by
  simp only [exec, execSwap, hformed, hown, ne_eq, not_true_eq_false, if_false, decide_true, Bool.and_self, if_true]

theorem swap_proposed (b : Nat) (hahead : twoAhead s b = true) (hfree : s.clover.swapAt = none) :
    exec (.swap b false) s = .next (sendMsg { kind := 13, a := b, b := 1 } (s.modClover (fun c => { c with
      swapAt := some b, swapOk := true, swapWhy := if c.command then 2 else 1 }))) := by
  simp only [exec, execSwap, hformed, hahead, hfree, ne_eq, not_true_eq_false, if_false, Bool.false_and,
    Bool.false_eq_true, Bool.not_true, Bool.false_or, Option.isSome_none, Bool.and_false]

theorem swapHoldExpiry_proposes (hstandby : s.clover.role = .standby) (hauto : s.clover.command = false)
    (hpreferred : preferred s (peerPref s) = true) (hready : s.ready = true) (hsound : s.mem.streamFault = false)
    (hclear : calClear s = true) (hfree : s.clover.swapAt = none) :
    exec (.swapHoldExpiry) s = .next (proposeSwap 1 s) := by
  simp only [exec, execSwapHoldExpiry, hformed, hstandby, hauto, hpreferred, hready, hsound, hclear, hfree, decide_true,
    Bool.not_false, Bool.and_self, Option.isNone_none, if_true]

end

end

/-- Settles O55: each clause is the rule of its event. -/
theorem pairEventsKeepTheCloverPair : Obligations.PairEventsKeepTheCloverPair := by
  unfold Obligations.PairEventsKeepTheCloverPair
  intro s
  exact ⟨fun p lane width emits pref u hport hup => startBlock_starts s u p hport hup lane width emits pref,
    fun p origin uid seq hops links u hport hup => lsa_floods s u p hport hup origin uid seq hops links,
    fun p k u => heartbeatLaunch_launches s u p k, fun h t u v => heartbeat_coversDecisions s u v h t,
    decision_late s, decision_applies s,
    fun proto uid dig strap pop t u v w => joinReq_answers s u v proto uid dig strap pop t w,
    fun sec uid addr config pos dec u => joinSync_stages s u sec uid addr config pos dec,
    fun u => searchTimeout_goesAlone s u, fun b hformed => swap_confirmed s hformed b,
    fun b hformed => swap_proposed s hformed b, swapHoldExpiry_proposes s⟩

end Sys2Proof.Machine
end

section
/-! SUPPORT. The link layer of a port (O47): frames in sequence, acknowledgement and replay, credits and the launch of
timed frames (R474 to R477, R498, R499). -/

namespace Sys2Proof.Machine

/-- A port after a frame in sequence: the next one is expected, an ACK is due and the frame is buffered (R476). -/
def passSequence (p : Nat) (f : Frame) (s : State) : State :=
  s.modPort p (fun q => { q with
    rxSeq := (q.rxSeq + 1) % 4096, nakSent := false, ackDue := true
    buf := q.buf ++ [(f.seq % 4096, f.vc, frameBlocks f)] })

section
variable (s u v w : State) (p : Nat)

/-! ### Reception (R476, R481) -/

/-- No CRC is its own stomped form. -/
theorem ne_stomped (c : BitVec 32) : c ≠ c ^^^ 0xFFFFFFFF#32 := by
  intro hsame
  have hbit := congrArg (BitVec.getLsbD · 0) hsame
  simp at hbit

section
variable (f : Frame) (t : Inst) (hu : u = touch t s) (hport : isPort p = true) (hup : (u.port p).state = .up)
  (hnoloop : (u.port p).farEnd = false)
include hu hport hup hnoloop

/-- A frame that lost a word in the receive FIFO is counted and answered with a NAK. -/
theorem frameReceive_harmed (lane : Nat) (dropped : Bool) (hcross : f.cross = some (lane, dropped)) :
    exec (.frameReceive p f t) s = .next (nak p (bump (portCtr p 14) (harmWord 1 lane dropped u))) := by
  subst hu
  refine (event_of_exists hport _).trans ?_
  simp only [hup, hnoloop, hcross, ne_eq, not_true_eq_false, decide_false, Bool.or_self, Bool.false_eq_true, if_false]

section
variable (hcross : f.cross = none)
include hcross

theorem frameReceive_outOfSequence (hseq : f.seq % 4096 ≠ (u.port p).rxSeq) :
    exec (.frameReceive p f t) s = .next (nak p u) := by
  subst hu
  refine (event_of_exists hport _).trans ?_
  simp only [hup, hnoloop, hcross, hseq, ne_eq, not_true_eq_false, not_false_eq_true, decide_false, Bool.or_self,
    Bool.false_eq_true, if_false, if_true]

section
variable (hseq : f.seq % 4096 = (u.port p).rxSeq)
include hseq

/-- A frame in sequence goes by its CRC: stomped, wrong or good. -/
theorem frameReceive_inSequence (hv : v = passSequence p f u) :
    exec (.frameReceive p f t) s = .next
      (if f.crc = frameCrc f ^^^ 0xFFFFFFFF#32 then release p (bump (portCtr p 15) v)
       else if f.crc ≠ frameCrc f then stompCopy p f (nak p (bump (portCtr p 14) u))
       else release p (accept p f (bump (portCtr p 13) v))) := by
  subst hv hu
  refine (event_of_exists hport _).trans ?_
  simp only [hup, hnoloop, hcross, hseq, passSequence, ne_eq, not_true_eq_false, decide_false, Bool.or_self,
    Bool.false_eq_true, if_false]

theorem frameReceive_accepted (hv : v = passSequence p f u) (hcrc : f.crc = frameCrc f) :
    exec (.frameReceive p f t) s = .next (release p (accept p f (bump (portCtr p 13) v))) := by
  have hwhole : f.crc ≠ frameCrc f ^^^ 0xFFFFFFFF#32 := hcrc ▸ ne_stomped (frameCrc f)
  rw [frameReceive_inSequence s u v p f t hu hport hup hnoloop hcross hseq hv, if_neg hwhole,
    if_neg (not_not_intro hcrc)]

/-- A stomped frame passes its sequence number without a NAK (log entry 10). -/
theorem frameReceive_stomped (hv : v = passSequence p f u) (hcrc : f.crc = frameCrc f ^^^ 0xFFFFFFFF#32) :
    exec (.frameReceive p f t) s = .next (release p (bump (portCtr p 15) v)) := by
  rw [frameReceive_inSequence s u v p f t hu hport hup hnoloop hcross hseq hv, if_pos hcrc]

theorem frameReceive_badCrc (hbad : f.crc ≠ frameCrc f) (hwhole : f.crc ≠ frameCrc f ^^^ 0xFFFFFFFF#32) :
    exec (.frameReceive p f t) s = .next (stompCopy p f (nak p (bump (portCtr p 14) u))) := by
  rw [frameReceive_inSequence s u _ p f t hu hport hup hnoloop hcross hseq rfl, if_neg hwhole, if_pos hbad]

end
end
end

section
variable (hport : isPort p = true)
include hport

/-! ### Acknowledgement, credits and replay (R474 to R477) -/

section
variable (hup : (s.port p).state = .up)
include hup

/-- A NAK replays what is left after the frames acknowledged, the fifth without progress fails the port. -/
theorem ackBlock_releases (ack : Nat) (no : Bool) (xt : Nat) (hsound : (s.port p).failed = false)
    (hu : u = s.modPort p (fun q => { q with
      retry := ackFrames ack (s.port p).retry
      replays := if (ackFrames ack (s.port p).retry).length < (s.port p).retry.length then 0 else q.replays }))
    (hv : v = ackXtrigs p xt u)
    (hw : w = if no then (if 4 ≤ (v.port p).replays then replayFail p v else replay p v) else v) :
    exec (.ackBlock p ack no xt) s = .next (pump p (w.port p).egress.length w) := by
  subst hw hv hu
  refine (event_of_exists hport _).trans ?_
  simp only [hup, hsound, ne_eq, not_true_eq_false, decide_false, Bool.or_self, Bool.false_eq_true, if_false,
    decide_eq_true_eq]

theorem creditBlock_grants (counts : List Nat)
    (hu : u = s.modPort p (fun q => { q with
      granted := (List.range 8).foldl (fun g v => Tab.set g v ((counts.getD v (Tab.get g v)) % 4096)) q.granted })) :
    exec (.creditBlock p counts) s = .next (pump p (u.port p).egress.length u) := by
  subst hu
  exact (event_of_exists hport _).trans (congrArg _ (if_neg (not_not_intro hup)))

theorem replayTimeout_replays (hunacked : (s.port p).retry ≠ [])
    (hu : u = s.modPort p (fun q => { q with nakSent := false })) :
    exec (.replayTimeout p) s = .next (if 4 ≤ (s.port p).replays then replayFail p u else replay p u) := by
  subst hu
  have hsome : (s.port p).retry.isEmpty = false := List.isEmpty_eq_false_iff.mpr hunacked
  refine (event_of_exists hport _).trans ?_
  simp only [hup, hsome, ne_eq, not_true_eq_false, decide_false, Bool.or_self, Bool.false_eq_true, if_false]

end

theorem ackTimer_acks :
    exec (.ackTimer p) s = .next (s.modPort p (fun q => { q with ackDue := false })) := event_of_exists hport _

theorem creditTimer_repeats : exec (.creditTimer p) s = .next s := event_of_exists hport _

/-! ### Timed frames (R285, R498, R499) -/

theorem timedLaunch_queues (t : Inst) (x : Sent) (r : List Sent) (hu : u = touch t s)
    (htimed : (u.port p).timed = x :: r) (hdue : x.at_.getD 0 ≤ t)
    (hv : v = if x.at_.getD 0 + blockSpan (u.port p).rate < t
      then bump lateLaunch (u.modPort p (fun q => { q with timed := r }))
      else u.modPort p (fun q => { q with timed := r })) :
    exec (.timedLaunch p t) s = .next (enqueue p { x with frame := sealFrame { x.frame with
      timed := true, late := decide (x.at_.getD 0 + blockSpan (u.port p).rate < t) } } v) := by
  subst hv hu
  refine (event_of_exists hport _).trans ?_
  simp only [htimed, Nat.not_lt.mpr hdue, if_false, when, decide_eq_true_eq]

end
end

/-- Settles O47: each clause is the rule of its event; a frame in sequence goes by its CRC. -/
theorem linkLayerTakesFramesOnceInOrder : Obligations.LinkLayerTakesFramesOnceInOrder := by
  unfold Obligations.LinkLayerTakesFramesOnceInOrder
  intro s
  exact ⟨fun p f t u => frameReceive_outOfSequence s u p f t,
    fun p f t u lane dropped hu hport hup hnoloop => frameReceive_harmed s u p f t hu hport hup hnoloop lane dropped,
    fun p f t u v => frameReceive_accepted s u v p f t, fun p f t u v => frameReceive_stomped s u v p f t,
    fun p f t u => frameReceive_badCrc s u p f t,
    fun p ack no xt u v w hport hup => ackBlock_releases s u v w p hport hup ack no xt,
    fun p counts u hport hup => creditBlock_grants s u p hport hup counts,
    fun p u hport hup => replayTimeout_replays s u p hport hup, ackTimer_acks s, creditTimer_repeats s,
    fun p t u x r v hu hport => timedLaunch_queues s u v p hport t x r hu⟩

end Sys2Proof.Machine
end

section
/-! SUPPORT. Discovery and addresses (O48): HELLOs and LSAs, the loss of a neighbour, and the requests and grants of
addresses (R488 to R492). -/

namespace Sys2Proof.Machine

section
variable (s u v : State) (p : Nat)

/-! ### HELLOs, neighbours and LSAs (R491, R492) -/

section
variable (hport : isPort p = true)
include hport

/-- The lowest network port counts the discovery period as well. -/
theorem helloTimer_sends (hnet : (netPorts s).contains p = true) (hjoined : s.clover.state ≠ .severed)
    (hu : u = if (netPorts s).head? = some p then rankPeriod s else s)
    (hv : v = u.modPort p (fun q => { q with hseq := (q.hseq + 1) % 65536 })) :
    exec (.helloTimer p) s = .next
      (sendFrame p { ftype := 5, vc := 0, dest := 0, src := u.sky.hub, body := helloBytes u p } v) := by
  subst hv hu
  refine (event_of_exists hport _).trans ?_
  simp only [hnet, hjoined, Bool.not_true, decide_false, Bool.or_self, Bool.false_eq_true, if_false, when,
    decide_eq_true_eq]

/-- The neighbour and its root are kept before an address that clashes is given up (R490). -/
theorem hello_keepsNeighbour (m : HelloMsg) (c : Cand) (hup : (s.port p).state = .up)
    (hu : u = s.modPort p (fun q => { q with
      missed := 0
      neigh := some { uid := m.uid, hub := m.hub, port := m.port, clover := m.clover, alloc := m.alloc } }))
    (hc : c = Cand.mk m.rprio (m.rqual.toNat / 8 % 8) (m.rqual.toNat / 2048) m.root (m.qual.toNat / 128 % 16) m.rqual)
    (hv : v = addrClash m.hub m.uid
      (seeUid m.uid { u with time := { u.time with heard := u.time.heard.set p (some c) } })) :
    exec (.hello p m) s = .next
      (if (s.port p).neigh.map (fun n => (n.uid, n.hub)) = some (m.uid, m.hub) then v else sendLsa v) := by
  subst hv hc hu
  exact (event_of_exists hport _).trans (congrArg _ (if_neg (not_not_intro hup)))

theorem neighbourLoss_failsPort (hneigh : (s.port p).neigh.isSome = true)
    (hu : u = bump (portCtr p 24) (s.modPort p (fun q => { q with neigh := none, missed := 3 }))) :
    exec (.neighbourLoss p) s = .next (failPort p 3 u) := by
  subst hu
  have hknown : ¬(s.port p).neigh.isNone = true :=
    fun hnone => Option.isSome_iff_ne_none.mp hneigh (Option.isNone_iff_eq_none.mp hnone)
  exact (event_of_exists hport _).trans (congrArg _ (if_neg hknown))

end

theorem lsaTimer_floods : exec .lsaTimer s = .next (sendLsa s) := rfl

/-! ### Requests for an address (R488, R489) -/

section
variable (hport : isPort p = true) (uid held : Nat) (t : Inst) (hu : u = touch t s)
include hport hu

theorem addrReq_relays (a : Nat) (hother : isAllocator u = false) (hparent : u.time.parent = some a)
    (hv : v = { u with sky := { u.sky with
      relays := (uid, p) :: u.sky.relays.filter (fun r => decide (r.1 ≠ uid)) } }) :
    exec (.addrReq p uid held t) s = .next (sendFrame a
      { ftype := 7, vc := 0, dest := 0, src := 0, aux := 2, body := leBytes 8 uid ++ leBytes 2 held } v) := by
  subst hv hu
  refine (event_of_exists hport _).trans ?_
  simp only [hother, hparent, Bool.not_false, if_true]

section
variable (halloc : isAllocator u = true)
include halloc

/-- An identifier with a grant has the same address again. -/
theorem addrReq_grantsAgain (g : Grant) (hgranted : u.sky.grants.find? (fun g => decide (g.uid = uid)) = some g) :
    exec (.addrReq p uid held t) s = .next (grantAddr p uid g.addr t u) := by
  subst hu
  refine (event_of_exists hport _).trans ?_
  simp only [halloc, hgranted, Bool.not_true, Bool.false_eq_true, if_false]

/-- Without a grant, the address held before is granted if it is free. -/
theorem addrReq_grantsHeld (hnew : u.sky.grants.find? (fun g => decide (g.uid = uid)) = none) (hlow : 1 ≤ held)
    (hhigh : held ≤ 1022) (hfree : addrFree u uid held = true) :
    exec (.addrReq p uid held t) s = .next (grantAddr p uid held t u) := by
  subst hu
  refine (event_of_exists hport _).trans ?_
  simp only [halloc, hnew, hlow, hhigh, hfree, Bool.not_true, Bool.false_eq_true, if_false, decide_true, Bool.and_self,
    if_true]

end
end

/-! ### Grants, and a hub without an address (R488 to R490, R307) -/

section
variable (hport : isPort p = true)
include hport

theorem addrGrant_ownKept (addr : Nat) (hlow : 1 ≤ addr) (hhigh : addr ≤ 1022) :
    exec (.addrGrant p Config.uid.toNat addr) s =
      .next { s with sky := { s.sky with next := some addr, former := addr, asking := false } } := by
  refine (event_of_exists hport _).trans ?_
  simp only [hlow, hhigh, decide_true, Bool.and_self, if_true]

theorem addrGrant_relayedBack (uid addr q : Nat) (hother : uid ≠ Config.uid.toNat)
    (hrelay : s.sky.relays.find? (fun r => decide (r.1 = uid)) = some (uid, q))
    (hv : v = { s with sky := { s.sky with relays := s.sky.relays.filter (fun x => decide (x.1 ≠ uid)) } }) :
    exec (.addrGrant p uid addr) s = .next (sendFrame q
      { ftype := 7, vc := 0, dest := 0, src := v.sky.hub, aux := 3, body := leBytes 8 uid ++ leBytes 2 addr } v) := by
  subst hv
  refine (event_of_exists hport _).trans ?_
  simp only [hother, hrelay, if_false]

end

theorem addrReqRetry_asks (hunaddressed : s.sky.hub = 0) (hnone : s.sky.next = none) (hmay : mayAsk s = true) :
    exec .addrReqRetry s = .next (askAddress s) := by
  have hasks : (decide (s.sky.hub = 0) && s.sky.next.isNone && mayAsk s) = true := by
    rw [hunaddressed, hnone, hmay]; rfl
  exact congrArg _ (if_pos hasks)

end

/-- Settles O48: each clause is the rule of its event. -/
theorem discoveryEventsKeepTheNetwork : Obligations.DiscoveryEventsKeepTheNetwork := by
  unfold Obligations.DiscoveryEventsKeepTheNetwork
  intro s
  exact ⟨fun p u v hport => helloTimer_sends s u v p hport,
    fun p m u c v hport => hello_keepsNeighbour s u v p hport m c,
    fun p u hport => neighbourLoss_failsPort s u p hport, lsaTimer_floods s,
    fun p uid held t u a v hu hport => addrReq_relays s u v p hport uid held t hu a,
    fun p uid held t u g hu hport halloc => addrReq_grantsAgain s u p hport uid held t hu halloc g,
    fun p uid held t u hu hport => addrReq_grantsHeld s u p hport uid held t hu,
    fun p addr hport => addrGrant_ownKept s p hport addr,
    fun p uid addr q v hport => addrGrant_relayedBack s v p hport uid addr q, addrReqRetry_asks s⟩

end Sys2Proof.Machine
end

section
/-! SUPPORT. What arrives (O51): segments of records from other hubs, tile-link words, and the samples of the chains
(R104, R176, R472). -/

namespace Sys2Proof.Machine

section
variable (s : State)

/-! ### Segments of a record (R472, R523) -/

section
variable (src gsi sub off lo bytes k : Nat) (one last : Bool) (edges : DataIn)
  (hk : k = (src * 65536 + sub) * 4294967296 + gsi)
include hk

theorem dataFrame_discards
    (hstray : off ≠ (if one then 0 else s.str.partials.get k) ∨
      one = false ∧ (s.str.partials.get k = 0 ∨ s.str.partSeq.get k ≠ lo)) :
    exec (.dataFrame src gsi sub one last off lo bytes edges) s = .next { s with str := { s.str with
      partials := s.str.partials.set k 0, discarded := s.str.discarded + 1 } } := by
  subst hk
  refine congrArg _ (if_pos ?_)
  simpa only [Bool.or_eq_true, Bool.and_eq_true, Bool.not_eq_true', decide_eq_true_eq] using hstray

section
variable (hoff : off = if one then 0 else s.str.partials.get k)
  (hnext : one = true ∨ s.str.partials.get k ≠ 0 ∧ s.str.partSeq.get k = lo)
include hoff hnext

/-- The segment that is due: the last one ends its record, of which a first copy is taken (log entry 127). -/
theorem dataFrame_due : exec (.dataFrame src gsi sub one last off lo bytes edges) s = .next
    (if last then
      if s.str.received.contains (gsi, lo) then { s with str := { s.str with partials := s.str.partials.set k 0 } }
      else takeRecord gsi lo edges { s with str := { s.str with partials := s.str.partials.set k 0 } }
    else { s with str := { s.str with
      partials := s.str.partials.set k (off + bytes), partSeq := s.str.partSeq.set k lo } }) := by
  subst hk
  refine congrArg _ (if_neg ?_)
  rcases hnext with hone | ⟨hsome, hseq⟩
  · simp [hoff, hone]
  · simp [hoff, hsome, hseq]

theorem dataFrame_collects : exec (.dataFrame src gsi sub one false off lo bytes edges) s = .next
    { s with str := { s.str with
      partials := s.str.partials.set k (off + bytes), partSeq := s.str.partSeq.set k lo } } :=
  dataFrame_due s src gsi sub off lo bytes k one false edges hk hoff hnext

theorem dataFrame_dropsSecondCopy (hsecond : s.str.received.contains (gsi, lo) = true) :
    exec (.dataFrame src gsi sub one true off lo bytes edges) s =
      .next { s with str := { s.str with partials := s.str.partials.set k 0 } } := by
  rw [dataFrame_due s src gsi sub off lo bytes k one true edges hk hoff hnext, if_pos rfl, if_pos hsecond]

theorem dataFrame_takesFirstCopy (hfirst : s.str.received.contains (gsi, lo) = false) :
    exec (.dataFrame src gsi sub one true off lo bytes edges) s =
      .next (takeRecord gsi lo edges { s with str := { s.str with partials := s.str.partials.set k 0 } }) := by
  rw [dataFrame_due s src gsi sub off lo bytes k one true edges hk hoff hnext, if_pos rfl,
    if_neg (Bool.eq_false_iff.mp hfirst)]

end
end

/-! ### Tile-link words (R104, R105) -/

theorem tileLinkWord_takesGroups (u : State) (tile k : Nat) (w : LinkIn) (hu : u = touch (atCycle k) s)
    (htile : isTile tile = true) :
    exec (.tileLinkWord tile w k) s = .next (each (List.range 4) (groupIn tile k w) u) := by
  subst hu
  exact event_of_exists htile _

/-! ### The samples of a chain (R176, R180, R181) -/

/-- A band that runs delivers its next word, when there is one. -/
theorem nextSample_of_running (m : Nat) (b : Band) (hon : bandOn (s.chain m) b = true)
    (hheld : bandHeld (s.pipe m) b = false) :
    nextSample m b s = (nextWord m b s).2.elim (nextWord m b s).1 (fun w => deliverWord m b w (nextWord m b s).1) := by
  simp only [nextSample, hon, hheld, Bool.not_true, Bool.or_self, Bool.false_eq_true, if_false]
  cases (nextWord m b s).2 <;> rfl

section
variable (m : Nat) (b : Band) (hm : isModulator m = true)
include hm

theorem chainSampleAvailable_byForce (hnone : tailOf s m b = none) :
    exec (.chainSampleAvailable m b) s = .next (nextSample m b s) := by
  refine (event_of_exists hm _).trans ?_
  simp only [hnone]

section
variable (t : Tail) (u : State × Option Word) (htail : tailOf s m b = some t) (hu : u = nextWord m b (asTail m t s))
include htail hu

/-- The tail of old settings is over with the first word that does not lie before the change (log entry 162). -/
theorem chainSampleAvailable_word (w : Word) (hw : u.2 = some w) : exec (.chainSampleAvailable m b) s = .next
    (if atCycle t.stop ≤ w.t then nextSample m b (endTail m t s)
     else inTail m t (fun _ => deliverWord m b w u.1) s) := by
  subst hu
  refine (event_of_exists hm _).trans ?_
  simp only [htail, hw, decide_eq_true_eq]

theorem chainSampleAvailable_noWord (hw : u.2 = none) : exec (.chainSampleAvailable m b) s = .next
    (if atCycle t.stop + availSpan (asTail m t s) m b ≤ s.now then nextSample m b (endTail m t s)
     else inTail m t (fun _ => u.1) s) := by
  subst hu
  refine (event_of_exists hm _).trans ?_
  simp only [htail, hw, decide_eq_true_eq]

end
end
end

/-- Settles O51: a segment is due or discards its record; a sample comes by the settings in force, or by the old ones
while their tail runs. -/
theorem dataFramesAndTileWordsArrive : Obligations.DataFramesAndTileWordsArrive := by
  unfold Obligations.DataFramesAndTileWordsArrive
  intro s
  refine ⟨fun src gsi sub one last off lo bytes edges k hk =>
      dataFrame_discards s src gsi sub off lo bytes k one last edges hk,
    fun src gsi sub one off lo bytes edges k hk => dataFrame_collects s src gsi sub off lo bytes k one edges hk,
    fun src gsi sub one off lo bytes edges k hk => dataFrame_dropsSecondCopy s src gsi sub off lo bytes k one edges hk,
    fun src gsi sub one off lo bytes edges k hk => dataFrame_takesFirstCopy s src gsi sub off lo bytes k one edges hk,
    fun tile w k u => tileLinkWord_takesGroups s u tile k w, ?inForce, ?inTail, ?tailEnds,
    fun m b t u hm htail hu => chainSampleAvailable_noWord s m b hm t u htail hu⟩
  case inForce =>
    rintro m b u hm hnone hon hheld rfl
    rw [chainSampleAvailable_byForce s m b hm hnone, nextSample_of_running s m b hon hheld]
    cases (nextWord m b s).2 <;> rfl
  case inTail =>
    intro m b t u w hm htail hu hw hbefore
    rw [chainSampleAvailable_word s m b hm t u htail hu w hw, if_neg (Nat.not_le.mpr hbefore)]
  case tailEnds =>
    intro m b t u w hm htail hu hw hafter
    rw [chainSampleAvailable_word s m b hm t u htail hu w hw, if_pos hafter]

end Sys2Proof.Machine
end

section
/-! SUPPORT. A step and the invariants (O1, O2, O3): the case of the queue, the reset state, and one law per command. -/

namespace Sys2Proof.Machine

/-! ### One step -/

theorem step_of_front {s : State} {i : Instr} {rest : List Instr} (h : s.pending = i :: rest) :
    step s = exec i { s with pending := rest } := by
  simp only [step, h]

theorem step_of_empty {s : State} (h : s.pending = []) : step s = .next (journalTick s) := by
  simp only [step, h]

/-- Settles O1: the queue has a front command, or it is empty. -/
theorem stepRunsTheFrontCommand : Obligations.StepRunsTheFrontCommand := by
  unfold Obligations.StepRunsTheFrontCommand
  exact fun _ => ⟨fun _ _ => step_of_front, step_of_empty⟩

/-! ### The invariants -/

/-- Settles O2: every table is empty, the counter runs FREE and F is 0. -/
theorem safeAtReset : Obligations.SafeAtReset := by
  unfold Obligations.SafeAtReset
  exact ⟨nofun, Nat.zero_le _, nofun, freq_zero, nofun, nofun, nofun⟩

/-- `Safe` does not read the queue. -/
theorem Safe.withPending {s : State} (l : List Instr) (h : Safe s) : Safe { s with pending := l } := h

/-- Every command keeps the invariants, by the law of its row. -/
theorem exec_safe (i : Instr) (s : State) (h : Safe s) : OutSafe (exec i s) := by
  cases i with
  | resetNAssert => exact execResetNAssert_safe (hsafe := h) ..
  | resetNRelease => exact execResetNRelease_safe (hsafe := h) ..
  | imageVerified => exact execImageVerified_safe (hsafe := h) ..
  | pllLock => exact execPllLock_safe (hsafe := h) ..
  | pllLockTimeout => exact execPllLockTimeout_safe (hsafe := h) ..
  | tileLinkTrainingDone => exact execTileLinkTrainingDone_safe (hsafe := h) ..
  | dramTrainingDone => exact execDramTrainingDone_safe (hsafe := h) ..
  | modulatorStart => exact execModulatorStart_safe (hsafe := h) ..
  | calComplete => exact execCalComplete_safe (hsafe := h) ..
  | syncExit => exact execSyncExit_safe (hsafe := h) ..
  | freeRunningMaster => exact execFreeRunningMaster_safe (hsafe := h) ..
  | streamsStart => exact execStreamsStart_safe (hsafe := h) ..
  | gridStep => exact execGridStep_safe (hsafe := h) ..
  | swathBoundary => exact execSwathBoundary_safe (hsafe := h) ..
  | addressApply => exact execAddressApply_safe (hsafe := h) ..
  | controlPass => exact execControlPass_safe (hsafe := h) ..
  | controlLoopSeal => exact execControlLoopSeal_safe (hsafe := h) ..
  | hkConversion => exact execHkConversion_safe (hsafe := h) ..
  | urgentConversion => exact execUrgentConversion_safe (hsafe := h) ..
  | refSettled => exact execRefSettled_safe (hsafe := h) ..
  | housekeepingPeriod => exact execHousekeepingPeriod_safe (hsafe := h) ..
  | thermalLevelExit => exact execThermalLevelExit_safe (hsafe := h) ..
  | thermalTrip => exact execThermalTrip_safe (hsafe := h) ..
  | thermalTripRelease => exact execThermalTripRelease_safe (hsafe := h) ..
  | pwrfailNAssert => exact execPwrfailNAssert_safe (hsafe := h) ..
  | flushComplete => exact execFlushComplete_safe (hsafe := h) ..
  | pwrfailNDeassert => exact execPwrfailNDeassert_safe (hsafe := h) ..
  | brownOut => exact execBrownOut_safe (hsafe := h) ..
  | internalResetRelease => exact execInternalResetRelease_safe (hsafe := h) ..
  | fullReset => exact execFullReset_safe (hsafe := h) ..
  | refLost => exact execRefLost_safe (hsafe := h) ..
  | refReturned => exact execRefReturned_safe (hsafe := h) ..
  | refclkLaneLost => exact execRefclkLaneLost_safe (hsafe := h) ..
  | refclkPcieLost => exact execRefclkPcieLost_safe (hsafe := h) ..
  | sramUncorrectable => exact execSramUncorrectable_safe (hsafe := h) ..
  | warmRestart => exact execWarmRestart_safe (hsafe := h) ..
  | warmRestartDone => exact execWarmRestartDone_safe (hsafe := h) ..
  | safetyWatchdogExpiry => exact execSafetyWatchdogExpiry_safe (hsafe := h) ..
  | spanExcursion => exact execSpanExcursion_safe (hsafe := h) ..
  | fastAcquisitionEnd => exact execFastAcquisitionEnd_safe (hsafe := h) ..
  | biasState => exact execBiasState_safe (hsafe := h) ..
  | excLimit => exact execExcLimit_safe (hsafe := h) ..
  | excFault => exact execExcFault_safe (hsafe := h) ..
  | excRetry => exact execExcRetry_safe (hsafe := h) ..
  | excWindowFlag => exact execExcWindowFlag_safe (hsafe := h) ..
  | excSettled => exact execExcSettled_safe (hsafe := h) ..
  | excLocalSense => exact execExcLocalSense_safe (hsafe := h) ..
  | excRemoteSenseReturn => exact execExcRemoteSenseReturn_safe (hsafe := h) ..
  | tileLinkWord => exact execTileLinkWord_safe (hsafe := h) ..
  | tileClockLost => exact execTileClockLost_safe (hsafe := h) ..
  | tileGroupRetrain => exact execTileGroupRetrain_safe (hsafe := h) ..
  | tileRepairSwitch => exact execTileRepairSwitch_safe (hsafe := h) ..
  | modLoopReset => exact execModLoopReset_safe (hsafe := h) ..
  | modLoopRestart => exact execModLoopRestart_safe (hsafe := h) ..
  | modFailed => exact execModFailed_safe (hsafe := h) ..
  | spareSuspect => exact execSpareSuspect_safe (hsafe := h) ..
  | calRunDone => exact execCalRunDone_safe (hsafe := h) ..
  | coverTakeover => exact execCoverTakeover_safe (hsafe := h) ..
  | primaryRestart => exact execPrimaryRestart_safe (hsafe := h) ..
  | coverHandback => exact execCoverHandback_safe (hsafe := h) ..
  | refcheckDone => exact execRefcheckDone_safe (hsafe := h) ..
  | substitutionEnd => exact execSubstitutionEnd_safe (hsafe := h) ..
  | chainSampleAvailable => exact execChainSampleAvailable_safe (hsafe := h) ..
  | tachTransition => exact execTachTransition_safe (hsafe := h) ..
  | tachEdgeConfirmed => exact execTachEdgeConfirmed_safe (hsafe := h) ..
  | edgeDeadline => exact execEdgeDeadline_safe (hsafe := h) ..
  | codeTimeout => exact execCodeTimeout_safe (hsafe := h) ..
  | codeFlood => exact execCodeFlood_safe (hsafe := h) ..
  | shaftFallback => exact execShaftFallback_safe (hsafe := h) ..
  | triggerTimeExpiry => exact execTriggerTimeExpiry_safe (hsafe := h) ..
  | fieldPinEdge => exact execFieldPinEdge_safe (hsafe := h) ..
  | pinPulseEnd => exact execPinPulseEnd_safe (hsafe := h) ..
  | triggerRearm => exact execTriggerRearm_safe (hsafe := h) ..
  | tussockSetWritten => exact execTussockSetWritten_safe (hsafe := h) ..
  | tussockComplete => exact execTussockComplete_safe (hsafe := h) ..
  | recordWrite => exact execRecordWrite_safe (hsafe := h) ..
  | stagingRecover => exact execStagingRecover_safe (hsafe := h) ..
  | recordDelivery => exact execRecordDelivery_safe (hsafe := h) ..
  | bulkCreditTimeout => exact execBulkCreditTimeout_safe (hsafe := h) ..
  | retentionExpiry => exact execRetentionExpiry_safe (hsafe := h) ..
  | dramReadReturn => exact execDramReadReturn_safe (hsafe := h) ..
  | refresh => exact execRefresh_safe (hsafe := h) ..
  | rfm => exact execRfm_safe (hsafe := h) ..
  | zqCalibration => exact execZqCalibration_safe (hsafe := h) ..
  | oscillatorRead => exact execOscillatorRead_safe (hsafe := h) ..
  | driftRecentring => exact execDriftRecentring_safe (hsafe := h) ..
  | patrolScrub => exact execPatrolScrub_safe (hsafe := h) ..
  | furze => exact execFurze_safe (hsafe := h) ..
  | furzeWindow => exact execFurzeWindow_safe (hsafe := h) ..
  | burstBoundary => exact execBurstBoundary_safe (hsafe := h) ..
  | grantRelease => exact execGrantRelease_safe (hsafe := h) ..
  | grantWatchdog => exact execGrantWatchdog_safe (hsafe := h) ..
  | idleExpiry => exact execIdleExpiry_safe (hsafe := h) ..
  | rateSignalClassed => exact execRateSignalClassed_safe (hsafe := h) ..
  | ts1 => exact execTs1_safe (hsafe := h) ..
  | adaptDone => exact execAdaptDone_safe (hsafe := h) ..
  | ts2 => exact execTs2_safe (hsafe := h) ..
  | trainingTimeout => exact execTrainingTimeout_safe (hsafe := h) ..
  | startBlock => exact execStartBlock_safe (hsafe := h) ..
  | skipBlock => exact execSkipBlock_safe (hsafe := h) ..
  | laneFault => exact execLaneFault_safe (hsafe := h) ..
  | widthBlock => exact execWidthBlock_safe (hsafe := h) ..
  | lossOfSignal => exact execLossOfSignal_safe (hsafe := h) ..
  | quietIdleExpiry => exact execQuietIdleExpiry_safe (hsafe := h) ..
  | quietReq => exact execQuietReq_safe (hsafe := h) ..
  | quietAck => exact execQuietAck_safe (hsafe := h) ..
  | quietEnter => exact execQuietEnter_safe (hsafe := h) ..
  | quietEntryWithdrawn => exact execQuietEntryWithdrawn_safe (hsafe := h) ..
  | wakeNeed => exact execWakeNeed_safe (hsafe := h) ..
  | idleExitEnd => exact execIdleExitEnd_safe (hsafe := h) ..
  | wakeBlock => exact execWakeBlock_safe (hsafe := h) ..
  | loopBlock => exact execLoopBlock_safe (hsafe := h) ..
  | frameReceive => exact execFrameReceive_safe (hsafe := h) ..
  | ackBlock => exact execAckBlock_safe (hsafe := h) ..
  | creditBlock => exact execCreditBlock_safe (hsafe := h) ..
  | replayTimeout => exact execReplayTimeout_safe (hsafe := h) ..
  | ackTimer => exact execAckTimer_safe (hsafe := h) ..
  | creditTimer => exact execCreditTimer_safe (hsafe := h) ..
  | timedLaunch => exact execTimedLaunch_safe (hsafe := h) ..
  | xtrig => exact execXtrig_safe (hsafe := h) ..
  | dataFrame => exact execDataFrame_safe (hsafe := h) ..
  | helloTimer => exact execHelloTimer_safe (hsafe := h) ..
  | hello => exact execHello_safe (hsafe := h) ..
  | neighbourLoss => exact execNeighbourLoss_safe (hsafe := h) ..
  | lsaTimer => exact execLsaTimer_safe (hsafe := h) ..
  | lsa => exact execLsa_safe (hsafe := h) ..
  | rootChange => exact execRootChange_safe (hsafe := h) ..
  | addrReq => exact execAddrReq_safe (hsafe := h) ..
  | addrGrant => exact execAddrGrant_safe (hsafe := h) ..
  | addrReqRetry => exact execAddrReqRetry_safe (hsafe := h) ..
  | timeRequestTimer => exact execTimeRequestTimer_safe (hsafe := h) ..
  | timeReq => exact execTimeReq_safe (hsafe := h) ..
  | timeResp => exact execTimeResp_safe (hsafe := h) ..
  | timeRespTimeout => exact execTimeRespTimeout_safe (hsafe := h) ..
  | ptpMessage => exact execPtpMessage_safe (hsafe := h) ..
  | ppsInEdge => exact execPpsInEdge_safe (hsafe := h) ..
  | ppsSourceLost => exact execPpsSourceLost_safe (hsafe := h) ..
  | holdoverLimitReached => exact execHoldoverLimitReached_safe (hsafe := h) ..
  | ppsOutLaunch => exact execPpsOutLaunch_safe (hsafe := h) ..
  | ppsOutPulseEnd => exact execPpsOutPulseEnd_safe (hsafe := h) ..
  | pinLaunchTime => exact execPinLaunchTime_safe (hsafe := h) ..
  | heartbeatLaunch => exact execHeartbeatLaunch_safe (hsafe := h) ..
  | heartbeat => exact execHeartbeat_safe (hsafe := h) ..
  | partnerLoss => exact execPartnerLoss_safe (hsafe := h) ..
  | decision => exact execDecision_safe (hsafe := h) ..
  | command => exact execCommand_safe (hsafe := h) ..
  | joinReq => exact execJoinReq_safe (hsafe := h) ..
  | joinSync => exact execJoinSync_safe (hsafe := h) ..
  | searchTimeout => exact execSearchTimeout_safe (hsafe := h) ..
  | swap => exact execSwap_safe (hsafe := h) ..
  | swapHoldExpiry => exact execSwapHoldExpiry_safe (hsafe := h) ..
  | liveUpdateReset => exact execLiveUpdateReset_safe (hsafe := h) ..
  | prepare => exact execPrepare_safe (hsafe := h) ..
  | readyMsg => exact execReadyMsg_safe (hsafe := h) ..
  | refuseMsg => exact execRefuseMsg_safe (hsafe := h) ..
  | networkCommitDecide => exact execNetworkCommitDecide_safe (hsafe := h) ..
  | sealStage => exact execSeal_safe (hsafe := h) ..
  | abortMsg => exact execAbortMsg_safe (hsafe := h) ..
  | networkStageExpiry => exact execNetworkStageExpiry_safe (hsafe := h) ..
  | commitConfirm => exact execCommitConfirm_safe (hsafe := h) ..
  | networkCommitDeadline => exact execNetworkCommitDeadline_safe (hsafe := h) ..
  | openMsg => exact execOpenMsg_safe (hsafe := h) ..
  | openReply => exact execOpenReply_safe (hsafe := h) ..
  | commandsMsg => exact execCommandsMsg_safe (hsafe := h) ..
  | creditsMsg => exact execCreditsMsg_safe (hsafe := h) ..
  | completionsMsg => exact execCompletionsMsg_safe (hsafe := h) ..
  | dmaCompletionsMsg => exact execDmaCompletionsMsg_safe (hsafe := h) ..
  | closeMsg => exact execCloseMsg_safe (hsafe := h) ..
  | keepalive => exact execKeepalive_safe (hsafe := h) ..
  | remoteResendTimer => exact execRemoteResendTimer_safe (hsafe := h) ..
  | remoteSessionTimeout => exact execRemoteSessionTimeout_safe (hsafe := h) ..
  | admEnableSet => exact execAdmEnableSet_safe (hsafe := h) ..
  | admEnableClear => exact execAdmEnableClear_safe (hsafe := h) ..
  | flr => exact execFlr_safe (hsafe := h) ..
  | d3hotEntry => exact execD3hotEntry_safe (hsafe := h) ..
  | vfEnableClear => exact execVfEnableClear_safe (hsafe := h) ..
  | hotReset => exact execHotReset_safe (hsafe := h) ..
  | pcieLinkDown => exact execPcieLinkDown_safe (hsafe := h) ..
  | pcieLinkUp => exact execPcieLinkUp_safe (hsafe := h) ..
  | dbSqTailWrite => exact execDbSqTailWrite_safe (hsafe := h) ..
  | dbCqHeadWrite => exact execDbCqHeadWrite_safe (hsafe := h) ..
  | violClear => exact execViolClear_safe (hsafe := h) ..
  | violLostClear => exact execViolLostClear_safe (hsafe := h) ..
  | snapTakeNow => exact execSnapTakeNow_safe (hsafe := h) ..
  | snapTakePps => exact execSnapTakePps_safe (hsafe := h) ..
  | snapTakeSwath => exact execSnapTakeSwath_safe (hsafe := h) ..
  | highWordLatchRead => exact execHighWordLatchRead_safe (hsafe := h) ..
  | registerWrite => exact execRegisterWrite_safe (hsafe := h) ..
  | dmaFault => exact execDmaFault_safe (hsafe := h) ..
  | identify => exact execIdentify_safe (hsafe := h) ..
  | getLimits => exact execGetLimits_safe (hsafe := h) ..
  | healthGet => exact execHealthGet_safe (hsafe := h) ..
  | resetPart => exact execResetPart_safe (hsafe := h) ..
  | queueCreate => exact execQueueCreate_safe (hsafe := h) ..
  | queueDelete => exact execQueueDelete_safe (hsafe := h) ..
  | dmaQueueRestart => exact execDmaQueueRestart_safe (hsafe := h) ..
  | stageStatus => exact execStageStatus_safe (hsafe := h) ..
  | stageDiscard => exact execStageDiscard_safe (hsafe := h) ..
  | commitAtSwath => exact execCommitAtSwath_safe (hsafe := h) ..
  | channelSet => exact execChannelSet_safe (hsafe := h) ..
  | channelStatus => exact execChannelStatus_safe (hsafe := h) ..
  | excSet => exact execExcSet_safe (hsafe := h) ..
  | excStatus => exact execExcStatus_safe (hsafe := h) ..
  | refbufSet => exact execRefbufSet_safe (hsafe := h) ..
  | calNow => exact execCalNow_safe (hsafe := h) ..
  | calReport => exact execCalReport_safe (hsafe := h) ..
  | calSet => exact execCalSet_safe (hsafe := h) ..
  | spareShadow => exact execSpareShadow_safe (hsafe := h) ..
  | spareRelease => exact execSpareRelease_safe (hsafe := h) ..
  | remapClear => exact execRemapClear_safe (hsafe := h) ..
  | chainSet => exact execChainSet_safe (hsafe := h) ..
  | chainTaps => exact execChainTaps_safe (hsafe := h) ..
  | chainReport => exact execChainReport_safe (hsafe := h) ..
  | tachSet => exact execTachSet_safe (hsafe := h) ..
  | tachStatus => exact execTachStatus_safe (hsafe := h) ..
  | shaftSet => exact execShaftSet_safe (hsafe := h) ..
  | shaftStatus => exact execShaftStatus_safe (hsafe := h) ..
  | shaftReturn => exact execShaftReturn_safe (hsafe := h) ..
  | statsSet => exact execStatsSet_safe (hsafe := h) ..
  | triggerSet => exact execTriggerSet_safe (hsafe := h) ..
  | triggerStatus => exact execTriggerStatus_safe (hsafe := h) ..
  | descCreate => exact execDescCreate_safe (hsafe := h) ..
  | descSet => exact execDescSet_safe (hsafe := h) ..
  | descFree => exact execDescFree_safe (hsafe := h) ..
  | tussockJump => exact execTussockJump_safe (hsafe := h) ..
  | admissionSet => exact execAdmissionSet_safe (hsafe := h) ..
  | refusalRead => exact execRefusalRead_safe (hsafe := h) ..
  | subscribe => exact execSubscribe_safe (hsafe := h) ..
  | unsubscribe => exact execUnsubscribe_safe (hsafe := h) ..
  | streamStatus => exact execStreamStatus_safe (hsafe := h) ..
  | ack => exact execAck_safe (hsafe := h) ..
  | resend => exact execResend_safe (hsafe := h) ..
  | attach => exact execAttach_safe (hsafe := h) ..
  | ringSet => exact execRingSet_safe (hsafe := h) ..
  | spkJob => exact execSpkJob_safe (hsafe := h) ..
  | spkJobComplete => exact execSpkJobComplete_safe (hsafe := h) ..
  | streamList => exact execStreamList_safe (hsafe := h) ..
  | timeStatus => exact execTimeStatus_safe (hsafe := h) ..
  | timeSet => exact execTimeSet_safe (hsafe := h) ..
  | ptpSet => exact execPtpSet_safe (hsafe := h) ..
  | ppsSet => exact execPpsSet_safe (hsafe := h) ..
  | timeOfDay => exact execTimeOfDay_safe (hsafe := h) ..
  | linkAsym => exact execLinkAsym_safe (hsafe := h) ..
  | pinLaunch => exact execPinLaunch_safe (hsafe := h) ..
  | portSet => exact execPortSet_safe (hsafe := h) ..
  | portStatus => exact execPortStatus_safe (hsafe := h) ..
  | routeStatic => exact execRouteStatic_safe (hsafe := h) ..
  | routeRead => exact execRouteRead_safe (hsafe := h) ..
  | mcastSet => exact execMcastSet_safe (hsafe := h) ..
  | portWake => exact execPortWake_safe (hsafe := h) ..
  | addrSet => exact execAddrSet_safe (hsafe := h) ..
  | cloverSet => exact execCloverSet_safe (hsafe := h) ..
  | cloverStatus => exact execCloverStatus_safe (hsafe := h) ..
  | cloverSwap => exact execCloverSwap_safe (hsafe := h) ..
  | memLayout => exact execMemLayout_safe (hsafe := h) ..
  | memStatus => exact execMemStatus_safe (hsafe := h) ..
  | arbRank => exact execArbRank_safe (hsafe := h) ..
  | arbWatchdog => exact execArbWatchdog_safe (hsafe := h) ..
  | policyClass => exact execPolicyClass_safe (hsafe := h) ..
  | tenantCap => exact execTenantCap_safe (hsafe := h) ..
  | furzeSet => exact execFurzeSet_safe (hsafe := h) ..
  | sensorRead => exact execSensorRead_safe (hsafe := h) ..
  | sensorSet => exact execSensorSet_safe (hsafe := h) ..
  | logRead => exact execLogRead_safe (hsafe := h) ..
  | journalQuery => exact execJournalQuery_safe (hsafe := h) ..
  | updateBegin => exact execUpdateBegin_safe (hsafe := h) ..
  | updateChunk => exact execUpdateChunk_safe (hsafe := h) ..
  | updateCommit => exact execUpdateCommit_safe (hsafe := h) ..
  | i2cXfer => exact execI2cXfer_safe (hsafe := h) ..
  | loopSet => exact execLoopSet_safe (hsafe := h) ..
  | prbsSet => exact execPrbsSet_safe (hsafe := h) ..
  | prbsStatus => exact execPrbsStatus_safe (hsafe := h) ..
  | fifoStatus => exact execFifoStatus_safe (hsafe := h) ..
  | counterRead => exact execCounterRead_safe (hsafe := h) ..
  | counterWrite => exact execCounterWrite_safe (hsafe := h) ..
  | demSet => exact execDemSet_safe (hsafe := h) ..
  | memTest => exact execMemTest_safe (hsafe := h) ..
  | i2cSclTimeout => exact execI2cSclTimeout_safe (hsafe := h) ..
  | i2cStuckRetry => exact execI2cStuckRetry_safe (hsafe := h) ..
  | pmbusPoll => exact execPmbusPoll_safe (hsafe := h) ..
  | sfpPoll => exact execSfpPoll_safe (hsafe := h) ..
  | predictedZero => exact execPredictedZero_safe (hsafe := h) ..
  | duplicatePairExpiry => exact execDuplicatePairExpiry_safe (hsafe := h) ..
  | ptpSourceLost => exact execPtpSourceLost_safe (hsafe := h) ..
  | managementEthernetLinkUp => exact execManagementEthernetLinkUp_safe (hsafe := h) ..
  | excLimitExit => exact execExcLimitExit_safe (hsafe := h) ..
  | dramWriteComplete => exact execDramWriteComplete_safe (hsafe := h) ..
  | mramWriteComplete => exact execMramWriteComplete_safe (hsafe := h) ..
  | prbsCheckerLock => exact execPrbsCheckerLock_safe (hsafe := h) ..
  | jtagTrstNAssert => exact execJtagTrstNAssert_safe (hsafe := h) ..
  | bankIdleTimerExpiry => exact execBankIdleTimerExpiry_safe (hsafe := h) ..

theorem step_safe (s : State) (h : Safe s) : OutSafe (step s) := by
  cases hq : s.pending with
  | nil =>
    rw [step_of_empty hq]
    exact outSafe_next (journalTick_safe s h)
  | cons i rest =>
    rw [step_of_front hq]
    exact exec_safe i _ (h.withPending rest)

/-- Settles O3: the idle step keeps the invariants, and so does the front command. -/
theorem everyStepKeepsTheInvariants : Obligations.EveryStepKeepsTheInvariants := by
  unfold Obligations.EveryStepKeepsTheInvariants
  exact fun s t hsafe hstep => (step_safe s hsafe).safe t hstep

end Sys2Proof.Machine
end

section
/-! SUPPORT. The queue of a journal port (O9, R642) and the violation log of a function (O10, R550). -/

namespace Sys2Proof.Machine

/-! ### A journal port -/

section
variable {q : JPort} {e lost : Entry}

theorem JPort.put_full (h : 16 ≤ q.queue.length) : q.put e lost = { q with dropped := q.dropped + 1 } := if_pos h

theorem JPort.put_room (h : q.queue.length < 16) (hlost : q.dropped = 0) :
    q.put e lost = { queue := q.queue ++ [e], dropped := 0 } := by
  obtain ⟨queue, dropped⟩ := q
  subst hlost
  exact (if_neg (Nat.not_le.mpr h)).trans (if_pos rfl)

/-- JOURNAL_OVERFLOW goes first, and the entry follows it. -/
theorem JPort.put_afterLoss (h : q.queue.length < 15) (hlost : q.dropped ≠ 0) :
    q.put e lost = { queue := q.queue ++ [lost, e], dropped := 0 } := by
  have hroom : ¬ portDepth ≤ (q.queue ++ [lost]).length := by simp [portDepth]; omega
  have hsplit : q.queue ++ [lost] ++ [e] = q.queue ++ [lost, e] := List.append_assoc ..
  refine (if_neg (Nat.not_le.mpr (Nat.lt_succ_of_lt h))).trans ((if_neg hlost).trans ?_)
  rw [if_neg hroom, hsplit]

/-- JOURNAL_OVERFLOW takes the last place, and the entry is counted. -/
theorem JPort.put_lastPlace (h : q.queue.length = 15) (hlost : q.dropped ≠ 0) :
    q.put e lost = { queue := q.queue ++ [lost], dropped := 1 } := by
  have hfull : portDepth ≤ (q.queue ++ [lost]).length := by simp [portDepth, h]
  refine (if_neg (by rw [h]; decide)).trans ((if_neg hlost).trans ?_)
  rw [if_pos hfull]

end

theorem postAt_keeps (t : Inst) (p code handle : Nat) (vals : List (Nat × BitVec 64)) (s : State) :
    Keeps [.mgmt] s (postAt t p code handle vals s) := by
  intro x hx
  cases x with
  | mgmt => exact absurd (List.mem_singleton.mpr rfl) hx
  | front | red | str | mem | sky | clover | time | host | ctrs | now | pending | free => rfl

/-- Settles O9: the port at which an entry is posted puts it, by its room and its losses. -/
theorem fullPortsCountTheirEntries : Obligations.FullPortsCountTheirEntries := by
  unfold Obligations.FullPortsCountTheirEntries
  rintro s u t p code handle vals q e lost rfl rfl rfl rfl
  have hput := port_postAt s t p code handle vals
  exact ⟨fun h => hput.trans (JPort.put_full h), fun h h0 => hput.trans (JPort.put_room h h0),
    fun h hl => hput.trans (JPort.put_afterLoss h hl), fun h hl => hput.trans (JPort.put_lastPlace h hl),
    fun j => port_postAt_ne s t p code handle j vals, postAt_keeps t p code handle vals s⟩

/-! ### A violation log -/

section
variable (fn : Nat) (v w : Viol) (s : State)

/-- The log after a violation, and whether it has lost one; raising the vector changes neither. -/
theorem viols_logViol : ((logViol fn v s).func fn).viols =
    (if violDepth fn ≤ (s.func fn).viols.length then (s.func fn).viols.drop 1 else (s.func fn).viols) ++ [v] := by
  simp [logViol, raise, Func.raise]

theorem lost_logViol : ((logViol fn v s).func fn).lost =
    ((s.func fn).lost || decide (violDepth fn ≤ (s.func fn).viols.length)) := by
  simp [logViol, raise, Func.raise]

/-- Of two violations the second comes behind the first, where the log holds two. -/
theorem viols_logViol_twice (hdepth : 2 ≤ violDepth fn) :
    ∃ l, ((logViol fn w (logViol fn v s)).func fn).viols = l ++ [v, w] := by
  rw [viols_logViol, viols_logViol fn v]
  generalize (if violDepth fn ≤ (s.func fn).viols.length then (s.func fn).viols.drop 1 else (s.func fn).viols) = l
  split
  case isTrue hfull =>
    cases l with
    | nil => exact absurd (Nat.le_trans hdepth hfull) (Nat.not_succ_le_self 1)
    | cons x r => exact ⟨r, List.append_assoc r [v] [w]⟩
  case isFalse => exact ⟨l, List.append_assoc l [v] [w]⟩

end

/-- Settles O10: the log has room or is full; two violations are logged one behind the other. -/
theorem violationLogsKeepTheNewest : Obligations.ViolationLogsKeepTheNewest := by
  unfold Obligations.ViolationLogsKeepTheNewest
  intro s fn v w
  refine ⟨fun hroom => ?room, fun hfull => ?full, viols_logViol_twice fn v w s⟩
  case room => rw [viols_logViol, lost_logViol]; simp [Nat.not_le.mpr hroom]
  case full => rw [viols_logViol, lost_logViol]; simp [hfull]

end Sys2Proof.Machine
end

section
/-! SUPPORT. What every Dwehild command has in common (O5 to O8): the form in which it answers, refusals, the commands that
a formed pair mirrors, and the completion ring (R520, R562, R565, R568, R588). -/

namespace Sys2Proof.Machine

/-! ### The form of a command -/

/-- A command of the table answers through the Dwehild protocol, with its opcode, entry and body. -/
theorem exec_of_commandBody {i : Instr} {x : Nat × Cmd × (State → Reply × State)} (h : commandBody i = some x) (s : State) :
    exec i s = command x.1 i x.2.1 x.2.2 s := by
  cases i with
  | identify | getLimits | healthGet | queueCreate | queueDelete | dmaQueueRestart | stageStatus | stageDiscard
  | commitAtSwath | channelSet | channelStatus | excSet | excStatus | refbufSet | calNow | calReport | calSet
  | spareShadow | spareRelease | remapClear | chainSet | chainTaps | chainReport | tachSet | tachStatus | shaftSet
  | shaftStatus | shaftReturn | statsSet | triggerSet | triggerStatus | descCreate | descSet | descFree
  | tussockJump | admissionSet | refusalRead | subscribe | unsubscribe | streamStatus | ack | resend | attach
  | ringSet | spkJob | streamList | timeStatus | timeSet | ptpSet | ppsSet | timeOfDay | linkAsym | pinLaunch
  | portSet | portStatus | routeStatic | routeRead | mcastSet | portWake | addrSet | cloverSet | cloverStatus
  | cloverSwap | memLayout | memStatus | arbRank | arbWatchdog | policyClass | tenantCap | furzeSet | sensorRead
  | sensorSet | logRead | journalQuery | updateBegin | updateChunk | i2cXfer | loopSet | prbsSet | prbsStatus
  | fifoStatus | counterRead | counterWrite | demSet | memTest =>
    cases h
    rfl
  | _ => exact absurd h nofun

section
variable (op : Nat) (self : Instr) (c : Cmd) (body : State → Reply × State) (s u : State)

/-- The hub does not take the command (R565): a command of a queue without room, or without a session, has no effect. -/
theorem command_unaccepted (hu : u = touch c.at_ s) (h : accepts u c = false) : command op self c body s = .next u := by
  subst hu
  simp [command, takes, discard, h]

/-- A tag in execution or a reserved flag refuses the command at once (R568). -/
theorem command_badParam (hu : u = touch c.at_ s) (htakes : takes u c = true)
    (h : tagBusy u c = true ∨ reservedFlags c.flags = true) :
    command op self c body s = .next (putCpl c.tenant c.queue { tag := c.tag, status := .badParam } u) := by
  subst hu
  have hrefused : (tagBusy (touch c.at_ s) c || reservedFlags c.flags) = true := (Bool.or_eq_true _ _).mpr h
  simp only [command, htakes, hrefused, Bool.not_true, Bool.false_eq_true, if_false, if_true]

section
variable (hu : u = touch c.at_ s) (htakes : takes u c = true) (htag : tagBusy u c = false)
  (hflags : reservedFlags c.flags = false) (hmirror : isMirrored op u = true)
include hu htakes htag hflags hmirror

/-- A mirrored command that this hub accepts waits for the partner (R520). -/
theorem command_mirrored (hok : statusCode (withMarks op c body u).1.status < 0x8000) :
    command op self c body s = .next { stayExec op c true u with
      clover := { (stayExec op c true u).clover with mirrors := (stayExec op c true u).clover.mirrors ++ [self] } } := by
  subst hu
  simp only [command, htakes, htag, hflags, hmirror, hok, Bool.not_true, Bool.or_self, Bool.false_eq_true, decide_true,
    if_false, if_true]

/-- One that this hub would refuse fails at once, whatever its body made of the state. -/
theorem command_mirroredFails (herr : 0x8000 ≤ statusCode (withMarks op c body u).1.status) :
    command op self c body s = .next (answer op c false (withMarks op c body u).1 u) := by
  subst hu
  simp only [command, htakes, htag, hflags, hmirror, Nat.not_lt.mpr herr, Bool.not_true, Bool.or_self,
    Bool.false_eq_true, decide_false, if_false, if_true]

end

/-- A command that runs and whose body answers an error answers it on the state that the body gives. -/
theorem command_fails (hu : u = touch c.at_ s) (h : Runs op c s) (herr : 0x8000 ≤ statusCode (body u).1.status) :
    command op self c body s = .next (answer op c false (body u).1 (body u).2) := by
  subst hu
  rw [command_runs op self c body s h, if_neg (Nat.not_lt.mpr herr)]

end

/-! ### RESET_PART and UPDATE_COMMIT, which do more than their bodies -/

/-- RESET_PART that does not reset the hub answers through its body. -/
theorem resetPart_command (c : Cmd) (s : State)
    (h : takes (touch c.at_ s) c = false ∨ tagBusy (touch c.at_ s) c = true ∨ reservedFlags c.flags = true) :
    exec (.resetPart c) s = command 0x0103 (.resetPart c) c (bodyResetPart c) s := by
  refine if_neg ?_
  rcases h with h | h | h <;> simp [h]

/-- An UPDATE_COMMIT that leaves the update as it was has no end. -/
theorem updateCommit_unaccepted (c : Cmd) (live : Bool) (v : ImageInfo) (s t : State)
    (h : command 0x0B06 (.updateCommit c live v) c (bodyUpdateCommit c live) s = .next t)
    (hkept : t.mgmt.update = s.mgmt.update) : exec (.updateCommit c live v) s = .next t := by
  have hexec : exec (.updateCommit c live v) s =
      (match command 0x0B06 (.updateCommit c live v) c (bodyUpdateCommit c live) s with
      | .next t => .next (if t.mgmt.update = s.mgmt.update then t else endUpdate c live v t)
      | o => o) := rfl
  rw [hexec, h]
  exact congrArg _ (if_pos hkept)

theorem putCpl_mgmt (t q : Nat) (x : Cpl) (s : State) : (putCpl t q x s).mgmt = s.mgmt := by
  obtain ⟨h, e⟩ := putSlot_host t q { cpl := some x } s
  rw [putCpl, e]

/-- What answers every command of an entry through the protocol before its body is asked, answers the commands of that
entry: RESET_PART of the hub and the end of UPDATE_COMMIT come after. -/
theorem exec_beforeBody {i : Instr} {c : Cmd} {s t : State} (hentry : commandEntry i = some c)
    (hcommand : ∀ op self body, command op self c body s = .next t) (hkept : t.mgmt.update = s.mgmt.update)
    (hreset : takes (touch c.at_ s) c = false ∨ tagBusy (touch c.at_ s) c = true ∨ reservedFlags c.flags = true) :
    exec i s = .next t := by
  unfold commandEntry at hentry
  split at hentry
  case h_1 =>
    cases hentry
    exact (resetPart_command c s hreset).trans (hcommand ..)
  case h_2 =>
    cases hentry
    exact updateCommit_unaccepted c _ _ s t (hcommand ..) hkept
  case h_3 =>
    obtain ⟨x, hx, rfl⟩ := Option.map_eq_some_iff.mp hentry
    exact (exec_of_commandBody hx s).trans (hcommand ..)

/-- Settles O6: a busy tag or a reserved flag comes before the body of every command. -/
theorem busyTagsAndReservedFlagsAreBadParam : Obligations.BusyTagsAndReservedFlagsAreBadParam := by
  unfold Obligations.BusyTagsAndReservedFlagsAreBadParam
  rintro i c s u hentry rfl htakes h
  exact exec_beforeBody hentry (fun op self body => command_badParam op self c body s _ rfl htakes h)
    (congrArg Mgmt.update (putCpl_mgmt ..)) (.inr h)

/-- Settles O7: the body of a mirrored command decides between the wait for the partner and the error. -/
theorem mirroredCommandsWaitForThePartner : Obligations.MirroredCommandsWaitForThePartner := by
  unfold Obligations.MirroredCommandsWaitForThePartner
  rintro i op c body s u r hbody hu htakes htag hflags - hmirror rfl
  rw [exec_of_commandBody hbody]
  exact ⟨fun hok => ⟨_, rfl, command_mirrored op i c body s u hu htakes htag hflags hmirror hok⟩,
    fun herr => command_mirroredFails op i c body s u hu htakes htag hflags hmirror herr⟩

/-! ### Refusals (R588) -/

theorem code_ite {p : Prop} [Decidable p] {a b : Status} (ha : statusCode a < 0x8000) (hb : statusCode b < 0x8000) :
    statusCode (if p then a else b) < 0x8000 := by
  split
  · exact ha
  · exact hb

/-- An error comes with the state as it was; on another tenant's object its violation may be logged (R548). -/
structure RefusesAlone (c : Cmd) (u : State) (x : Reply × State) : Prop where
  alone : 0x8000 ≤ statusCode x.1.status → x.2 = u ∨ x.1.status = .notOwner ∧ x.2 = (foreign c u).2

section
variable {c : Cmd} {u : State} {x y : Reply × State}

theorem refusesAlone_same (h : x.2 = u) : RefusesAlone c u x := ⟨fun _ => .inl h⟩

theorem refusesAlone_succeeds {st : Status} (h : x.1.status = st) (hst : statusCode st < 0x8000) : RefusesAlone c u x :=
  ⟨fun herr => absurd (h ▸ hst) (Nat.not_lt.mpr herr)⟩

theorem refusesAlone_done (h : x.1.status = .done) : RefusesAlone c u x := refusesAlone_succeeds h code_done

theorem refusesAlone_accepted (h : x.1.status = .accepted) : RefusesAlone c u x := refusesAlone_succeeds h code_accepted

theorem refusesAlone_foreign : RefusesAlone c u (foreign c u) := ⟨fun _ => .inr ⟨rfl, rfl⟩⟩

theorem refusesAlone_ite {p : Prop} [Decidable p] (hx : RefusesAlone c u x) (hy : RefusesAlone c u y) :
    RefusesAlone c u (if p then x else y) := by
  split
  · exact hx
  · exact hy

theorem refusesAlone_checked {l : List (Bool × Status)} {body : State → Reply × State}
    (h : RefusesAlone c u (body u)) : RefusesAlone c u (checked l u body) := by
  unfold checked
  split
  · exact refusesAlone_same rfl
  · exact h

theorem refusesAlone_hubSet {α : Type} (pairs : List Pair) (new : Option α) (put : α → State → State) :
    RefusesAlone c u (hubSet c pairs new put u) := by
  refine refusesAlone_checked ?_
  cases new with
  | none => exact refusesAlone_same rfl
  | some a => exact refusesAlone_done rfl

theorem refusesAlone_onSub (zero : Bool) (body : Nat → Sub → Reply × State)
    (h : ∀ i a, RefusesAlone c u (body i a)) : RefusesAlone c u (onSub c zero u body) := by
  unfold onSub
  split
  · exact refusesAlone_same rfl
  · exact refusesAlone_ite refusesAlone_foreign (h _ _)

end

section
variable (c : Cmd) (u : State)

/-! ### The bodies that choose between answers -/

theorem stageBody_refusesAlone (op : Nat) (ch : Change) (formed : Bool) :
    RefusesAlone c u (stageBody op c ch formed u) := by
  have hcommit (st l b) : (refuseCommit st l b u).2 = u := by unfold refuseCommit; split <;> rfl
  unfold stageBody
  dsimp only
  split
  case isTrue =>
    split
    · exact refusesAlone_same (hcommit ..)
    · exact refusesAlone_ite (refusesAlone_same rfl) (refusesAlone_done rfl)
  case isFalse =>
    split
    · exact refusesAlone_same rfl
    · exact refusesAlone_ite (refusesAlone_same rfl) (refusesAlone_ite (refusesAlone_same rfl)
        (refusesAlone_succeeds rfl code_staged))

theorem bodyStageStatus_refusesAlone : RefusesAlone c u (bodyStageStatus c u) := by
  unfold bodyStageStatus
  refine refusesAlone_checked ?_
  split
  · exact refusesAlone_same rfl
  · split <;> exact refusesAlone_same rfl

theorem bodyCommitAtSwath_refusesAlone (sec swath : Nat) (targets : List Nat) :
    RefusesAlone c u (bodyCommitAtSwath c sec swath targets u) := by
  have hcommit (st l b) : (refuseCommit st l b u).2 = u := by unfold refuseCommit; split <;> rfl
  unfold bodyCommitAtSwath netCommitBody
  refine refusesAlone_ite (refusesAlone_checked (refusesAlone_accepted rfl)) ?_
  dsimp only
  split
  · exact refusesAlone_same rfl
  · split
    · exact refusesAlone_ite (refusesAlone_same rfl) (refusesAlone_same (hcommit ..))
    · exact refusesAlone_same rfl
    · exact refusesAlone_accepted rfl

theorem bodyCalSet_refusesAlone (pairs : List Pair) : RefusesAlone c u (bodyCalSet c pairs u) := by
  unfold bodyCalSet
  refine refusesAlone_checked ?_
  split
  · exact refusesAlone_same rfl
  · exact refusesAlone_done rfl

theorem bodySpareShadow_refusesAlone (spare swaths : Nat) : RefusesAlone c u (bodySpareShadow c spare swaths u) := by
  unfold bodySpareShadow
  refine refusesAlone_checked ?_
  split
  · exact refusesAlone_same rfl
  · exact refusesAlone_done rfl

theorem bodyDescCreate_refusesAlone (d : Descriptor) : RefusesAlone c u (bodyDescCreate c d u) := by
  unfold bodyDescCreate
  refine refusesAlone_checked ?_
  split
  · exact refusesAlone_same rfl
  · exact refusesAlone_done rfl

theorem bodySubscribe_refusesAlone (pairs : List Pair) : RefusesAlone c u (bodySubscribe c pairs u) := by
  unfold bodySubscribe
  generalize freeSub u = free
  refine refusesAlone_checked ?_
  cases free with
  | none => exact refusesAlone_same rfl
  | some i => exact refusesAlone_done rfl

theorem bodyStreamStatus_refusesAlone (sel : Nat) : RefusesAlone c u (bodyStreamStatus c sel u) := by
  refine refusesAlone_onSub _ _ fun i a => ?_
  dsimp only
  split <;> exact refusesAlone_same rfl

theorem bodyUnsubscribe_refusesAlone : RefusesAlone c u (bodyUnsubscribe c u) := by
  unfold bodyUnsubscribe
  exact refusesAlone_onSub _ _ fun _ _ => refusesAlone_ite (refusesAlone_same rfl) (refusesAlone_done rfl)

theorem bodyResend_refusesAlone (m : Nat) : RefusesAlone c u (bodyResend c m u) := by
  unfold bodyResend
  exact refusesAlone_onSub _ _ fun _ _ => refusesAlone_checked (refusesAlone_done rfl)

theorem bodyAttach_refusesAlone (queue : Nat) : RefusesAlone c u (bodyAttach c queue u) := by
  unfold bodyAttach
  exact refusesAlone_onSub _ _ fun _ _ => refusesAlone_checked (refusesAlone_done rfl)

theorem bodyAck_refusesAlone (n : Nat) : RefusesAlone c u (bodyAck c n u) :=
  refusesAlone_onSub _ _ fun _ _ => refusesAlone_ite (refusesAlone_same rfl) (refusesAlone_ite (refusesAlone_same rfl)
    (refusesAlone_ite (refusesAlone_same rfl) (refusesAlone_done rfl)))

theorem bodyRouteStatic_refusesAlone (pfx len primary alternate : Nat) (remove : Bool) :
    RefusesAlone c u (bodyRouteStatic c pfx len primary alternate remove u) := by
  unfold bodyRouteStatic
  exact refusesAlone_checked (refusesAlone_ite (refusesAlone_same rfl) (refusesAlone_done rfl))

theorem bodyMcastSet_refusesAlone (mask : Nat) (loc : Bool) (alts : List Nat) :
    RefusesAlone c u (bodyMcastSet c mask loc alts u) := by
  unfold bodyMcastSet
  refine refusesAlone_checked ?_
  split
  · exact refusesAlone_same rfl
  · exact refusesAlone_done rfl

theorem bodyMemLayout_refusesAlone (pairs : List Pair) : RefusesAlone c u (bodyMemLayout c pairs u) := by
  unfold bodyMemLayout
  refine refusesAlone_checked ?_
  split
  · exact refusesAlone_same rfl
  · exact refusesAlone_done rfl

theorem bodyMemStatus_refusesAlone : RefusesAlone c u (bodyMemStatus c u) := by
  unfold bodyMemStatus
  exact refusesAlone_checked (refusesAlone_succeeds rfl (report_code ..))

theorem bodyJournalQuery_refusesAlone (kind id : Nat) (tag : BitVec 32) :
    RefusesAlone c u (bodyJournalQuery c kind id tag u) := by
  unfold bodyJournalQuery
  refine refusesAlone_checked ?_
  dsimp only
  split <;> exact refusesAlone_same rfl

theorem bodyI2cXfer_refusesAlone (addr wr rd : Nat) (nakAt : Option Nat) (data : List Byte) :
    RefusesAlone c u (bodyI2cXfer c addr wr rd nakAt data u) := by
  unfold bodyI2cXfer
  refine refusesAlone_checked ?_
  cases nakAt with
  | none => exact refusesAlone_done rfl
  | some n => exact refusesAlone_succeeds rfl code_partial

theorem bodyLoopSet_refusesAlone (kind : Nat) : RefusesAlone c u (bodyLoopSet c kind u) := by
  unfold bodyLoopSet
  refine refusesAlone_checked ?_
  split <;> exact refusesAlone_done rfl

theorem bodyDemSet_refusesAlone (on : Bool) : RefusesAlone c u (bodyDemSet c on u) := by
  unfold bodyDemSet
  refine refusesAlone_checked (refusesAlone_succeeds rfl ?_)
  exact code_ite code_partial code_done

end

/-- No command of the table changes the state when its body answers an error, but for a violation. -/
theorem commandBody_refusesAlone {i : Instr} {x : Nat × Cmd × (State → Reply × State)} (h : commandBody i = some x)
    (u : State) : RefusesAlone x.2.1 u (x.2.2 u) := by
  cases i with
  | identify | getLimits | healthGet | channelStatus | excStatus | calReport | chainReport | tachStatus | shaftStatus
  | triggerStatus | refusalRead | streamList | timeStatus | portStatus | routeRead | cloverStatus | sensorRead | logRead
  | fifoStatus | counterRead | memTest =>
    cases h
    apply refusesAlone_checked
    exact refusesAlone_same rfl
  | queueCreate | queueDelete | dmaQueueRestart | stageDiscard | spareRelease | remapClear | shaftReturn | tussockJump
  | timeOfDay | linkAsym | pinLaunch | portWake | cloverSwap | arbRank | arbWatchdog | tenantCap | furzeSet | sensorSet
  | updateBegin | updateChunk | prbsSet | prbsStatus | counterWrite =>
    cases h
    apply refusesAlone_checked
    exact refusesAlone_done rfl
  | calNow | spkJob =>
    cases h
    apply refusesAlone_checked
    exact refusesAlone_accepted rfl
  | channelSet | excSet | refbufSet | chainSet | chainTaps | tachSet | shaftSet | statsSet | triggerSet | admissionSet
  | ringSet | portSet =>
    cases h
    exact stageBody_refusesAlone ..
  | timeSet | ptpSet | ppsSet | addrSet | cloverSet | policyClass =>
    cases h
    apply refusesAlone_hubSet
  | descSet | descFree =>
    cases h
    exact refusesAlone_ite refusesAlone_foreign (refusesAlone_checked (refusesAlone_done rfl))
  | unsubscribe => cases h; exact bodyUnsubscribe_refusesAlone ..
  | resend => cases h; exact bodyResend_refusesAlone ..
  | attach => cases h; exact bodyAttach_refusesAlone ..
  | stageStatus => cases h; exact bodyStageStatus_refusesAlone ..
  | commitAtSwath => cases h; exact bodyCommitAtSwath_refusesAlone ..
  | calSet => cases h; exact bodyCalSet_refusesAlone ..
  | spareShadow => cases h; exact bodySpareShadow_refusesAlone ..
  | descCreate => cases h; exact bodyDescCreate_refusesAlone ..
  | subscribe c pairs => cases h; exact bodySubscribe_refusesAlone c u pairs
  | streamStatus => cases h; exact bodyStreamStatus_refusesAlone ..
  | ack => cases h; exact bodyAck_refusesAlone ..
  | routeStatic => cases h; exact bodyRouteStatic_refusesAlone ..
  | mcastSet => cases h; exact bodyMcastSet_refusesAlone ..
  | memLayout => cases h; exact bodyMemLayout_refusesAlone ..
  | memStatus => cases h; exact bodyMemStatus_refusesAlone ..
  | journalQuery => cases h; exact bodyJournalQuery_refusesAlone ..
  | i2cXfer => cases h; exact bodyI2cXfer_refusesAlone ..
  | loopSet => cases h; exact bodyLoopSet_refusesAlone ..
  | demSet => cases h; exact bodyDemSet_refusesAlone ..
  | _ => exact absurd h nofun

/-- Settles O5: a body that answers an error gives the state as it was, or that with the violation. -/
theorem refusedCommandsChangeNothing : Obligations.RefusedCommandsChangeNothing := by
  unfold Obligations.RefusedCommandsChangeNothing
  intro i op c body s u hbody hu hrun herr
  have hexec := (exec_of_commandBody hbody s).trans (command_fails op i c body s u hu hrun herr)
  rcases (commandBody_refusesAlone hbody u).alone herr with hsame | ⟨howner, hlogged⟩
  · exact .inl (hexec.trans (by rw [hsame]))
  · exact .inr ⟨howner, hexec.trans (by rw [hlogged])⟩

/-! ### The completion ring (R562, R565) -/

section
variable (s : State) (t q : Nat) (x : CplSlot)

theorem queue_raiseQueue (fn v p d : Nat) : (raiseQueue fn v s).queue p d = s.queue p d := rfl

section
variable (hkind : (s.tenant t).kind ≠ 2) (hmade : (s.queue t q).made = true)
include hkind hmade

/-- A completion of a host session's queue pair that is made enters that queue alone, but for the vector. -/
theorem queue_putSlot (p d : Nat) : (putSlot t q x s).queue p d = (s.modQueue t q (·.put x)).queue p d := by
  simp only [putSlot, hkind, hmade, Bool.not_true, Bool.false_eq_true, if_false, when]
  split
  · exact queue_raiseQueue ..
  · rfl

/-- While the ring is full or completions wait, no command of the queue is taken. -/
theorem accepts_false (c : Cmd) (ht : c.tenant = t) (hq : c.queue = q)
    (h : (s.queue t q).held ≠ [] ∨ (s.queue t q).full = true) : accepts (touch c.at_ s) c = false := by
  have hroom : (!(s.queue t q).full && (s.queue t q).held.isEmpty) = false := by
    rcases h with h | h
    · rw [List.isEmpty_eq_false_iff.mpr h, Bool.and_false]
    · rw [h]; rfl
  subst ht hq
  have hserved : (decide (((touch c.at_ s).tenant c.tenant).kind = 2) || (((touch c.at_ s).queue c.tenant c.queue).made &&
      !((touch c.at_ s).queue c.tenant c.queue).full && ((touch c.at_ s).queue c.tenant c.queue).held.isEmpty)) = false := by
    rw [Bool.and_assoc]
    exact (Bool.or_eq_false_iff).mpr ⟨decide_eq_false hkind, (congrArg _ hroom).trans (Bool.and_false _)⟩
  rw [accepts, hserved, Bool.and_false]

end

end

/-- Settles O8: the completion enters its queue, which writes or keeps it; the hub takes no command meanwhile. -/
theorem completionsWaitForRoom : Obligations.CompletionsWaitForRoom := by
  unfold Obligations.CompletionsWaitForRoom
  rintro s t q x k rfl hkind hmade
  have hput : (putSlot t q x s).queue t q = (s.queue t q).put x :=
    (queue_putSlot s t q x hkind hmade t q).trans (State.queue_modQueue s t q _)
  refine ⟨fun hheld hroom => ⟨?written, rfl⟩, fun h => ?kept, fun p d hne => ?others, fun i c hentry ht hq h => ?command⟩
  case written => rw [hput, Queue.put, hheld, hroom]; rfl
  case kept =>
    rw [hput, Queue.put]
    refine if_neg ?_
    rcases h with h | h <;> simp [h]
  case others =>
    exact (queue_putSlot s t q x hkind hmade p d).trans (State.queue_modQueue_ne s t q p d _ hne)
  case command =>
    have hrefused := accepts_false s t q hkind hmade c ht hq h
    exact exec_beforeBody hentry (fun op self body => command_unaccepted op self c body s _ rfl hrefused) rfl
      (.inl (by rw [takes, hrefused]; rfl))

end Sys2Proof.Machine
end

section
/-! SUPPORT. The twelve staging commands (O19 to O21): one body, which adds a change to its stage or commits it at once (R571,
R575 to R579, R582). -/

namespace Sys2Proof.Machine

/-- Each of the commands marked S answers through the one body of the staging commands. -/
theorem exec_of_stagingRow {i : Instr} {x : Nat × Cmd × Change × Bool} (h : stagingRow i = some x) (s : State) :
    exec i s = command x.1 i x.2.1 (stageBody x.1 x.2.1 x.2.2.1 x.2.2.2) s := by
  cases i with
  | channelSet | excSet | refbufSet | chainSet | chainTaps | tachSet | shaftSet | statsSet | triggerSet | admissionSet
  | ringSet | portSet =>
    cases h
    rfl
  | _ => exact absurd h nofun

section
variable (op : Nat) (c : Cmd) (ch : Change) (u : State)

/-- The change of a staging command, and the objects that its handle names. -/
theorem stagedAs_eq : { ch with
    opcode := op, handle := c.handle.toNat
    objs := namedObjs (stagedClass op) c { ch with opcode := op, handle := c.handle.toNat } } = stagedAs op c ch := rfl

theorem stagedAs_objs : namedObjs (stagedClass op) c { ch with opcode := op, handle := c.handle.toNat } =
    (stagedAs op c ch).objs := rfl

section
variable (hnamed : (names (stagedClass op) c || namesAll (stagedClass op) c) = true) (hobjs : (stagedAs op c ch).objs ≠ [])
include hnamed hobjs

/-- With a stage identifier: the change joins the stage. -/
theorem stageBody_joins (prior : List Change) (hid : c.stage ≠ 0) (hmine : stageMine u c.stage c.tenant = true)
    (hsealed : sealedStage u c.stage = none) (hprepared : (openStage u c.stage).bind (·.prepared) = none)
    (hprior : prior = ((openStage u c.stage).map (·.changes)).getD [])
    (hchecks : firstFail (stageChecks (stagedAs op c ch) prior u) = none)
    (hroom : (openStage u c.stage).isSome = true ∨ u.host.stages.length < 256) (hfew : prior.length < 4096) :
    stageBody op c ch true u =
      ({ status := .staged, progress := if namesAll (stagedClass op) c then (stagedAs op c ch).objs.length else 0
         objs := (changeHandles (stagedAs op c ch)).map (fun h => (h, 1)) },
       addChange c.stage c.tenant (stagedAs op c ch) u) := by
  have hopens : ((openStage u c.stage).isNone && decide (maxStages ≤ u.host.stages.length)) = false := by
    rcases hroom with h | h
    · rw [Option.isNone_eq_false_iff.mpr h]; rfl
    · exact (congrArg _ (decide_eq_false (Nat.not_le.mpr h))).trans (Bool.and_false _)
  have hfits : ¬ maxChanges ≤ prior.length := Nat.not_le.mpr hfew
  have hsome : (stagedAs op c ch).objs.isEmpty = false := List.isEmpty_eq_false_iff.mpr hobjs
  unfold stageBody
  simp only [hnamed, if_true, stagedAs_eq]
  simp [stagedAs_objs, hid, hmine, hsealed, hprepared, ← hprior, hsome, hopens, hfits, firstFail_holds, hchecks]

/-- With APPLY_NOW: the change is committed alone for the first boundary at least 2 swaths ahead. -/
theorem stageBody_commits (hid : c.stage = 0) (hnow : applyNow c = true)
    (hchecks : firstFail (commitChecks (soonest u 2) [stagedAs op c ch] u) = none) (hroom : u.host.bank.length < 64) :
    stageBody op c ch true u =
      ({ later := true, progress := (stagedAs op c ch).objs.length
         objs := (changeHandles (stagedAs op c ch)).map (fun h => (h, 2)) },
       pushCommit { stage := { tenant := c.tenant, changes := [stagedAs op c ch] }, at_ := soonest u 2, tenant := c.tenant
                    queue := c.queue, tag := c.tag, now := true } u) := by
  have hfits : ¬ maxCommits ≤ u.host.bank.length := Nat.not_le.mpr hroom
  have hsome : (stagedAs op c ch).objs.isEmpty = false := List.isEmpty_eq_false_iff.mpr hobjs
  unfold stageBody
  simp only [hnamed, if_true, stagedAs_eq]
  simp [stagedAs_objs, hid, hnow, hsome, hfits, firstFail_holds, hchecks]

end

/-! ### The stage that a change joins -/

theorem openStage_noteUse (n k id : Nat) : openStage (noteUse n k u) id = openStage u id := rfl

/-- Among stages of which those of one identifier have been rewritten under it, the first of an identifier. -/
theorem find?_mapAt (l : List Stage) (id j : Nat) (f : Stage → Stage) (hf : ∀ x, (f x).id = x.id) {y : Stage}
    (hy : l.find? (fun x => decide (x.id = id)) = some y) :
    (l.map (fun x => if x.id = id then f x else x)).find? (fun x => decide (x.id = j)) =
      if j = id then some (f y) else l.find? (fun x => decide (x.id = j)) := by
  have hid : ∀ x, (if x.id = id then f x else x).id = x.id := fun x => by split <;> simp [hf]
  rw [List.find?_map]
  simp only [Function.comp_def, hid]
  split
  next hj =>
    have hy' : y.id = id := by simpa using List.find?_some hy
    simp [hj, hy, hy']
  next hj =>
    cases hfind : l.find? (fun x => decide (x.id = j)) with
    | none => rfl
    | some x =>
      have hx : x.id = j := by simpa using List.find?_some hfind
      simp [hx, hj]

/-- The stages after a change has joined one. -/
theorem openStage_addChange (id t j : Nat) (x : Change) : openStage (addChange id t x u) j =
    if j = id then some (match openStage u id with
      | some y => { y with changes := y.changes ++ [x] }
      | none => { id := id, tenant := t, changes := [x] })
    else openStage u j := by
  simp only [addChange, openStage_noteUse]
  cases hopen : openStage u id with
  | some y =>
    exact find?_mapAt u.host.stages id j (fun z => { z with changes := z.changes ++ [x] }) (fun _ => rfl) hopen
  | none =>
    simp only [openStage, List.find?_append]
    by_cases hj : j = id
    · subst hj
      rw [show u.host.stages.find? (fun x => decide (x.id = j)) = none from hopen]
      simp
    · simp [hj, Ne.symm hj]

theorem addChange_keeps (id t : Nat) (x : Change) : Keeps [.host] u (addChange id t x u) := by
  intro p hp
  cases p with
  | host => exact absurd (List.mem_singleton.mpr rfl) hp
  | front | red | str | mem | sky | clover | time | mgmt | ctrs | now | pending | free => rfl

end

/-- Settles O19: the checks hold, so the body adds the change to the stage. -/
theorem stagingCommandsJoinTheirStage : Obligations.StagingCommandsJoinTheirStage := by
  unfold Obligations.StagingCommandsJoinTheirStage
  rintro i op c ch x formed prior s u hrow hu hrun rfl hid hnamed rfl hobjs hmine hsealed hprepared hprior hchecks hroom hfew
  rw [exec_of_stagingRow hrow]
  exact command_at op i c _ s u _ _ hu hrun (stageBody_joins op c ch u ((Bool.or_eq_true _ _).mpr hnamed) hobjs prior hid
    hmine hsealed hprepared hprior hchecks hroom hfew) code_staged

/-- Settles O20: the checks hold, so the body commits the change. -/
theorem applyNowCommitsAtOnce : Obligations.ApplyNowCommitsAtOnce := by
  unfold Obligations.ApplyNowCommitsAtOnce
  rintro i op c ch x formed s u hrow hu hrun rfl hid hnow hnamed rfl hobjs hchecks hroom
  rw [exec_of_stagingRow hrow]
  exact command_at op i c _ s u _ _ hu hrun (stageBody_commits op c ch u ((Bool.or_eq_true _ _).mpr hnamed) hobjs hid hnow
    hchecks hroom) code_done

/-- Settles O21: the stage is found among the stages after the change has joined it. -/
theorem stagedChangeEntersItsStageAlone : Obligations.StagedChangeEntersItsStageAlone := by
  unfold Obligations.StagedChangeEntersItsStageAlone
  intro id t x s
  refine ⟨?own, fun j hj => ?others, addChange_keeps s id t x⟩
  case own =>
    rw [openStage_addChange, if_pos rfl]
    cases openStage s id <;> rfl
  case others => rw [openStage_addChange, if_neg hj]

end Sys2Proof.Machine
end

section
/-! SUPPORT. The commands on queue pairs (O16): QUEUE_CREATE, QUEUE_DELETE and DMA_QUEUE_RESTART (R540, R545, R549, R557,
R591). -/

namespace Sys2Proof.Machine

section
variable (c : Cmd) (u : State) (hcls : hClass c = 0x10)
include hcls

/-! ### QUEUE_CREATE -/

section
variable (sqBase sqSize vector cqBase cqSize : Nat) (hfree : (u.queue c.tenant (hIndex c)).made = false)
  (hvector : vector ≤ 7 ∨ vector = 0xFF)
include hfree hvector

theorem bodyQueueCreate_makesIo (hlow : 1 ≤ hIndex c) (hhigh : hIndex c ≤ 3) (hsq : 16 ≤ sqSize) (hsq' : sqSize ≤ 4096)
    (hcq : 16 ≤ cqSize) (hcq' : cqSize ≤ 4096) : bodyQueueCreate c sqBase sqSize vector cqBase cqSize u =
      ({}, u.modQueue c.tenant (hIndex c) (fun _ =>
        { made := true, base := sqBase, size := sqSize, cqBase := cqBase, cqSize := cqSize
          vector := if vector = 0xFF then hIndex c else vector })) := by
  have hio : decide (4 ≤ hIndex c) = false := decide_eq_false (by omega)
  have hpair : hIndex c ≤ 7 := by omega
  have hvector' : (decide (vector ≤ 7) || decide (vector = 0xFF)) = true := by simpa using hvector
  simp only [bodyQueueCreate, hio, Bool.false_and, Bool.false_eq_true, if_false]
  exact checked_pass (firstFail_cons (by simp [hcls, hlow, hpair]) (firstFail_cons hvector'
    (firstFail_cons (by simp [hsq, hsq', hcq, hcq']) (firstFail_cons (by rw [hfree]; rfl)
    (firstFail_cons rfl firstFail_nil))))) u _

/-- The first DMA queue of a tenant marks it, when the latency bound allows one more (R557). -/
theorem bodyQueueCreate_makesDma (v : State) (hlow : 4 ≤ hIndex c) (hhigh : hIndex c ≤ 7)
    (hv : v = if (u.tenant c.tenant).hasDma then u else u.modTenant c.tenant (fun x => { x with hasDma := true }))
    (hbound : (u.tenant c.tenant).hasDma = true ∨ boundAllows v = true) (hsq : 1 ≤ sqSize) (hsq' : sqSize ≤ 65535)
    (hcq : 1 ≤ cqSize) (hcq' : cqSize ≤ 65535) : bodyQueueCreate c sqBase sqSize vector cqBase cqSize u =
      ({}, v.modQueue c.tenant (hIndex c) (fun _ =>
        { made := true, base := sqBase, size := sqSize, cqBase := cqBase, cqSize := cqSize
          vector := if vector = 0xFF then hIndex c else vector })) := by
  have hdma : decide (4 ≤ hIndex c) = true := decide_eq_true hlow
  have hpos : 1 ≤ hIndex c := by omega
  have hvector' : (decide (vector ≤ 7) || decide (vector = 0xFF)) = true := by simpa using hvector
  have hgrown : (if (!(u.tenant c.tenant).hasDma) = true then u.modTenant c.tenant (fun x => { x with hasDma := true })
      else u) = v := by
    rw [hv]; cases (u.tenant c.tenant).hasDma <;> rfl
  have hbound' : (!(!(u.tenant c.tenant).hasDma) || boundAllows v) = true := by simpa using hbound
  simp only [bodyQueueCreate, hdma, Bool.true_and, if_true, hgrown]
  exact checked_pass (firstFail_cons (by simp [hcls, hpos, hhigh]) (firstFail_cons hvector'
    (firstFail_cons (by simp [hsq, hcq, Nat.lt_succ_of_le hsq', Nat.lt_succ_of_le hcq']) (firstFail_cons (by rw [hfree]; rfl)
    (firstFail_cons hbound' firstFail_nil))))) u _

end

/-! ### QUEUE_DELETE and DMA_QUEUE_RESTART -/

section
variable (hmade : (u.queue c.tenant (hIndex c)).made = true) (hhigh : hIndex c ≤ 7)
include hmade hhigh

theorem bodyQueueDelete_unmakes (hlow : 1 ≤ hIndex c)
    (hidle : hIndex c < 4 ∨ boundSubs u c.tenant (hIndex c - 4) = []) : bodyQueueDelete c u =
      ({}, u.modQueue c.tenant (hIndex c)
        (fun x => { x with made := false, size := 0, late := [], stopped := false, cls := none })) := by
  have hthere : (decide (hClass c = 0x10) && decide (1 ≤ hIndex c) && decide (hIndex c ≤ 7) &&
      (u.queue c.tenant (hIndex c)).made) = true := by simp [hcls, hlow, hhigh, hmade]
  have hidle' : (decide (hIndex c < 4) || (boundSubs u c.tenant (hIndex c - 4)).isEmpty) = true := by simpa using hidle
  unfold bodyQueueDelete
  exact checked_pass (firstFail_cons hthere (firstFail_cons hidle' firstFail_nil)) u _

theorem bodyDmaQueueRestart_runs (hlow : 4 ≤ hIndex c) : bodyDmaQueueRestart c u =
    ({}, u.modQueue c.tenant (hIndex c) (fun x => { x with stopped := false })) := by
  have hthere : (decide (hClass c = 0x10) && decide (4 ≤ hIndex c) && decide (hIndex c ≤ 7) &&
      (u.queue c.tenant (hIndex c)).made) = true := by simp [hcls, hlow, hhigh, hmade]
  unfold bodyDmaQueueRestart
  exact checked_pass (firstFail_cons hthere firstFail_nil) u _

end

end

/-- Settles O16: each command answers what its body answers once the checks of its rule hold. -/
theorem queueCommandsActOnTheQueue : Obligations.QueueCommandsActOnTheQueue := by
  unfold Obligations.QueueCommandsActOnTheQueue
  intro c s u hu hcls
  refine ⟨?io, ?dma, ?delete, ?restart⟩
  case io =>
    intro sqBase sqSize vector cqBase cqSize hrun hlow hhigh hfree hsq hsq' hcq hcq' hvector
    exact command_at _ _ c _ s u _ _ hu hrun (bodyQueueCreate_makesIo c u hcls sqBase sqSize vector cqBase cqSize hfree
      hvector hlow hhigh hsq hsq' hcq hcq') code_done
  case dma =>
    intro sqBase sqSize vector cqBase cqSize v hrun hlow hhigh hfree hv hbound hsq hsq' hcq hcq' hvector
    exact command_at _ _ c _ s u _ _ hu hrun (bodyQueueCreate_makesDma c u hcls sqBase sqSize vector cqBase cqSize hfree
      hvector v hlow hhigh hv hbound hsq hsq' hcq hcq') code_done
  case delete =>
    intro hrun hlow hhigh hmade hidle
    exact command_at _ _ c _ s u _ _ hu hrun (bodyQueueDelete_unmakes c u hcls hmade hhigh hlow hidle) code_done
  case restart =>
    intro hrun hlow hhigh hmade
    exact command_at _ _ c _ s u _ _ hu hrun (bodyDmaQueueRestart_runs c u hcls hmade hhigh hlow) code_done

end Sys2Proof.Machine
end

section
/-! SUPPORT. RESET_PART (O18): a tile, a port, or the hub as a whole (R591, R606). -/

namespace Sys2Proof.Machine

/-- A handle names an object of one class. -/
theorem names_false {a b : Nat} {c : Cmd} (h : names a c = true) (hne : a ≠ b) : names b c = false := by
  obtain ⟨ha, -⟩ := Bool.and_eq_true .. ▸ h
  have hb : hClass c ≠ b := of_decide_eq_true ha ▸ hne
  rw [names, decide_eq_false hb, Bool.false_and]

section
variable (c : Cmd) (u : State)

theorem bodyResetPart_resetsTile (htile : names 4 c = true) (hband : (u.tile (hIndex c)).sideFail = false) :
    bodyResetPart c u = ({}, resetTile (hIndex c) u) := by
  simp only [bodyResetPart, htile, names_false htile (show 4 ≠ 0x0D by decide), if_true]
  exact checked_pass (firstFail_cons rfl (firstFail_cons rfl (firstFail_cons (by rw [hband]; rfl) firstFail_nil))) u _

theorem bodyResetPart_refusesTile (htile : names 4 c = true) (hband : (u.tile (hIndex c)).sideFail = true) :
    bodyResetPart c u = ({ status := .state }, u) := by
  simp only [bodyResetPart, htile, names_false htile (show 4 ≠ 0x0D by decide), hband]
  exact checked_refuses rfl u _

theorem bodyResetPart_retrainsPort (hport : names 0x0D c = true) (hon : (u.port (hIndex c)).state ≠ .disabled) :
    bodyResetPart c u = ({}, retrainPort (hIndex c) u) := by
  simp only [bodyResetPart, hport, names_false hport (show 0x0D ≠ 4 by decide)]
  exact checked_pass (firstFail_cons rfl (firstFail_cons (by rw [decide_eq_true hon]; rfl)
    (firstFail_cons rfl firstFail_nil))) u _

end

/-- RESET_PART of another part than the hub answers through its body. -/
theorem resetPart_ofPart (c : Cmd) (s : State) (h : names 0 c = false) :
    exec (.resetPart c) s = command 0x0103 (.resetPart c) c (bodyResetPart c) s :=
  if_neg (by simp [h])

/-- RESET_PART of the hub by tenant 0 stays in execution while the hub resets. -/
theorem resetPart_ofHub (c : Cmd) (s u : State) (hu : u = touch c.at_ s) (hrun : Runs 0x0103 c s) (h : names 0 c = true) :
    exec (.resetPart c) s = .next (heldReset 7 (some (c.tenant, c.tag))
      (stayExec 0x0103 c false (journalReply 0x0103 c { status := .accepted } u))) := by
  subst hu
  have hzero : c.tenant = 0 := hrun.mayP.resolve_left (by decide)
  exact if_pos (by simp [hrun.taken, hrun.tag, hrun.flags, hzero, h])

/-- Settles O18: a tile and a port are reset by the body, the hub by its full reset. -/
theorem resetPartResetsThePart : Obligations.ResetPartResetsThePart := by
  unfold Obligations.ResetPartResetsThePart
  intro c s u hu hrun
  refine ⟨fun htile hband => ?tile, fun htile hband => ?failed, fun hport hon => ?port, resetPart_ofHub c s u hu hrun⟩
  case tile =>
    rw [resetPart_ofPart c s (names_false htile (by decide))]
    exact command_at _ _ c _ s u _ _ hu hrun (bodyResetPart_resetsTile c u htile hband) code_done
  case failed =>
    rw [resetPart_ofPart c s (names_false htile (by decide))]
    exact command_refused _ _ c _ s u _ hu hrun (bodyResetPart_refusesTile c u htile hband) (by decide)
  case port =>
    rw [resetPart_ofPart c s (names_false hport (by decide))]
    exact command_at _ _ c _ s u _ _ hu hrun (bodyResetPart_retrainsPort c u hport hon) code_done

end Sys2Proof.Machine
end

section
/-! SUPPORT. The reports of channels, excitation groups and chains (O22, R81, R138, R192, R712). -/

namespace Sys2Proof.Machine

section
variable (c : Cmd) (u : State)

/-- The items go into the buffer as far as they fit; RESULT has the states and the bias voltage in either case. -/
theorem bodyChannelStatus_reports (hchan : names 1 c = true) :
    ∃ items result, bodyChannelStatus c u = report c 16 items result u ∧
      ∀ n, result n = leBytes 1 (biasCode (u.chan (hIndex c)).bias) ++ leBytes 1 (calCode (u.chan (hIndex c)).cal).1
        ++ leBytes 2 ((spareOf u (hIndex c)).getD 0xFFFF) ++ leInt 4 (u.chan (hIndex c)).vb := by
  unfold bodyChannelStatus
  exact ⟨_, _, checked_pass (firstFail_cons hchan firstFail_nil) u _, fun _ => rfl⟩

theorem bodyExcStatus_reports (hgroup : names 3 c = true) : bodyExcStatus c u =
    ({ result := leBytes 2 (u.group (hIndex c)).sensedMv ++ leBytes 2 (u.group (hIndex c)).currentUa
        ++ leBytes 4 (excCode (u.group (hIndex c)).state) ++ leBytes 4 (u.group (hIndex c)).retries }, u) :=
  checked_pass (firstFail_cons hgroup firstFail_nil) u _

theorem bodyCalReport_reports (sel : Nat) (hsel : sel ≤ 1) (hchan : names 1 c = true) :
    bodyCalReport c sel u = ({ result := figure u (hIndex c) (decide (sel = 1)) }, u) :=
  checked_pass (firstFail_cons hchan (firstFail_cons (decide_eq_true hsel) firstFail_nil)) u _

theorem bodyChainReport_reports (f : ChainFig) (hchain : names 5 c = true)
    (hf : f = chainFig u (hIndex c / 4) (bandOf (hIndex c % 4))) :
    ∃ items result, bodyChainReport c u = report c 16 items result u ∧
      ∀ n, result n = leBytes 8 f.delta ++ leBytes 1 f.n ++ leBytes 1 f.t
        ++ leBytes 2 (if bandOf (hIndex c % 4) = .wb then 1 else 0)
        ++ leBytes 4 (if bandOf (hIndex c % 4) = .wb then f.rate / 1000 else f.rate) := by
  subst hf
  exact ⟨_, _, checked_pass (firstFail_cons hchain firstFail_nil) u _, fun _ => by simp only [decide_eq_true_eq]⟩

end

/-- Settles O22: the body of each report leaves the state as it is. -/
theorem channelReportsChangeNothing : Obligations.ChannelReportsChangeNothing := by
  unfold Obligations.ChannelReportsChangeNothing
  intro c s u hu
  refine ⟨?channel, ?excitation, ?calibration, ?chain⟩
  case channel =>
    intro hrun hchan
    obtain ⟨items, result, hbody, hresult⟩ := bodyChannelStatus_reports c u hchan
    exact ⟨(report c 16 items result u).1, rfl, report_status c 16 items result u, hresult _,
      command_at _ _ c _ s u _ u hu hrun hbody (report_code c 16 items result u)⟩
  case excitation =>
    intro hrun hgroup
    exact command_at _ _ c _ s u _ _ hu hrun (bodyExcStatus_reports c u hgroup) code_done
  case calibration =>
    intro sel hsel hrun hchan
    exact command_at _ _ c _ s u _ _ hu hrun (bodyCalReport_reports c u sel hsel hchan) code_done
  case chain =>
    intro f hrun hchain hf
    obtain ⟨items, result, hbody, hresult⟩ := bodyChainReport_reports c u f hchain hf
    exact ⟨(report c 16 items result u).1, rfl, report_status c 16 items result u, hresult _,
      command_at _ _ c _ s u _ u hu hrun hbody (report_code c 16 items result u)⟩

end Sys2Proof.Machine
end

section
/-! SUPPORT. The reports of streams, and jobs (O27, R370, R371, R374, R590). -/

namespace Sys2Proof.Machine

section
variable (c : Cmd) (u : State)

/-! ### STREAM_STATUS and STREAM_LIST -/

section
variable (x : Sub) (hsub : hClass c = 0x0C) (hx : u.sub (hIndex c) = some x)
  (hmay : c.tenant = 0 ∨ (x.keyKind, x.keyId) = keyOf (u.tenant c.tenant))
include hsub hx hmay

/-- A report on a subscription goes to its owner and to tenant 0. -/
theorem onSub_reader (body : Nat → Sub → Reply × State) : onSub c true u body = body (hIndex c) x := by
  rcases hmay with hzero | howner
  · simp only [onSub, hsub, hx, hzero, if_true, decide_true, Bool.and_self, Bool.not_true, Bool.and_false,
      Bool.false_eq_true, if_false]
  · exact onSub_owner c u x hsub hx howner true body

theorem bodyStreamStatus_state : bodyStreamStatus c 0 u = done (leBytes 1 (subCode x.state)
    ++ leBytes 3 ((if x.bestEffort then 1 else 0) + (if x.bulk then 2 else 0)) ++ leBytes 4 (largestOf u x.gsi)
    ++ leBytes 8 x.dropped) u :=
  onSub_reader c u x hsub hx hmay _

theorem bodyStreamStatus_positions : bodyStreamStatus c 1 u =
    ({ result := leBytes 8 (itemBefore x.acked) ++ leBytes 8 (itemBefore x.delivered) }, u) :=
  onSub_reader c u x hsub hx hmay _

theorem bodyStreamStatus_items : bodyStreamStatus c 2 u =
    ({ result := leBytes 8 (oldestItem (u.stream x.gsi)) ++ leBytes 8 (itemBefore (u.stream x.gsi).pub) }, u) :=
  onSub_reader c u x hsub hx hmay _

end

theorem bodyStreamList_lists (hhub : names 0 c = true) :
    bodyStreamList c u = report c 4 ((streamKeys u).map (fun k => leBytes 4 (gsiOf u k))) counted u :=
  checked_pass (firstFail_cons hhub firstFail_nil) u _

/-! ### SPK_JOB (R370, R371) -/

section
variable (q : Nat) (j : JobIn) (x : SpkCtx) (hq : q < 4) (hmade : (u.queue c.tenant (4 + q)).made = true)
  (hdram : dramServes u = true)
include hq hmade hdram

theorem spkJob_allowed :
    firstFail [(decide (q < 4) && (u.queue c.tenant (4 + q)).made, .badParam), (dramServes u, .state)] = none :=
  firstFail_cons (by rw [decide_eq_true hq, hmade]; rfl) (firstFail_cons hdram firstFail_nil)

/-- A job that resumes its context, or whose operands the engine will refuse, keeps the context that it brings. -/
theorem bodySpkJob_keepsContext (hkeep : j.resume = true ∨ JobInOk j = false) : bodySpkJob c q j x u =
    ({ status := .accepted }, { u with str := { u.str with jobs := u.str.jobs ++
      [{ tenant := c.tenant, queue := c.queue, dmaq := q, tag := c.tag, job := j, ctx := x }] } }) := by
  have hkept : (j.resume || !JobInOk j) = true := by rcases hkeep with h | h <;> simp [h]
  unfold bodySpkJob
  refine (checked_pass (spkJob_allowed c u q hq hmade hdram) u _).trans ?_
  simp only [hkept, if_true]

/-- Any other job starts from a context of the tenant's next generation. -/
theorem bodySpkJob_resetsContext (gen : Nat) (hfresh : j.resume = false) (hok : JobInOk j = true)
    (hgen : gen = ((u.str.gens.get c.tenant).map (fun g => (g + 1) % 2 ^ 31)).getD 0) : bodySpkJob c q j x u =
    ({ status := .accepted }, { u with str := { u.str with
      gens := u.str.gens.set c.tenant (some gen)
      jobs := u.str.jobs ++ [{ tenant := c.tenant, queue := c.queue, dmaq := q, tag := c.tag, job := j
                               ctx := resetCtx j.kind gen j.firstSeq (j.op = 1) }] } }) := by
  subst hgen
  unfold bodySpkJob
  refine (checked_pass (spkJob_allowed c u q hq hmade hdram) u _).trans ?_
  simp only [hfresh, hok, Bool.not_true, Bool.or_self, Bool.false_eq_true, if_false]
  cases u.str.gens.get c.tenant <;> rfl

end

end

/-! ### SPK_JOB_COMPLETE (R374) -/

/-- Below the first shedding level the whole job has run. -/
theorem spkJobComplete_finishes (s v : State) (t : Nat) (tag : BitVec 32) (x : Job) (o : JobOut) (b : OutBuf)
    (hx : s.str.jobs.find? (fun y => decide (y.tenant = t) && decide (y.tag = tag)) = some x) (hlevel : s.mgmt.level = 0)
    (ho : o = runJob x none)
    (hb : b = OutBuf.mk t tag o.out o.stats
      (if x.job.save = true ∧ o.reason ≠ 5 ∧ o.reason ≠ 6 then ctxBytes o.ctx else []))
    (hv : v = { s with str := { s.str with
      jobs := s.str.jobs.filter (fun y => !(decide (y.tenant = t) && decide (y.tag = tag))) } }) :
    exec (.spkJobComplete t tag) s = .next (finishLater t x.queue tag
      { status := o.status, progress := o.items, result := jobResult x.job o } none
      (drawBytes t (x.job.input.length + o.out.length) ((writeOut b v).modTenant t (Tenant.fill s.now)))) := by
  have hnoshed : ¬ 1 ≤ s.mgmt.level := by omega
  have hsaves : (x.job.save && decide (o.reason ≠ 5) && decide (o.reason ≠ 6)) = true ↔
      x.job.save = true ∧ o.reason ≠ 5 ∧ o.reason ≠ 6 := by simp [and_assoc]
  subst hb hv
  simp only [exec, execSpkJobComplete, hx, hnoshed, if_false, ← ho, hsaves]
  rfl

/-- Settles O27: the reports leave the state as it is; a job waits for its completion. -/
theorem streamReportsAndSpkJobs : Obligations.StreamReportsAndSpkJobs := by
  unfold Obligations.StreamReportsAndSpkJobs
  intro c s u hu
  refine ⟨fun x hrun hsub hx hmay => ⟨?state, ?positions, ?items⟩, ?list, ?keeps, ?resets, ?completes⟩
  case state =>
    exact command_at _ _ c _ s u _ _ hu hrun (bodyStreamStatus_state c u x hsub hx hmay) code_done
  case positions =>
    exact command_at _ _ c _ s u _ _ hu hrun (bodyStreamStatus_positions c u x hsub hx hmay) code_done
  case items =>
    exact command_at _ _ c _ s u _ _ hu hrun (bodyStreamStatus_items c u x hsub hx hmay) code_done
  case list =>
    intro hrun hhub
    exact command_at _ _ c _ s u _ u hu hrun (bodyStreamList_lists c u hhub) (report_code ..)
  case keeps =>
    intro q j x hrun hq hmade hdram hkeep
    exact command_at _ _ c _ s u _ _ hu hrun (bodySpkJob_keepsContext c u q j x hq hmade hdram hkeep) code_accepted
  case resets =>
    intro q j x gen hrun hq hmade hdram hfresh hok hgen
    exact command_at _ _ c _ s u _ _ hu hrun (bodySpkJob_resetsContext c u q j x hq hmade hdram gen hfresh hok hgen)
      code_accepted
  case completes =>
    intro t tag x o v b hx hlevel ho hb hv
    have hbuf : b.tenant = t ∧ b.tag = tag := hb ▸ ⟨rfl, rfl⟩
    rw [spkJobComplete_finishes s v t tag x o b hx hlevel ho hb hv, writeOut, hbuf.1, hbuf.2]

end Sys2Proof.Machine
end

section
/-! SUPPORT. The commands of time (O28, R265, R269, R286, R288, R290 to R292, R303, R598). -/

namespace Sys2Proof.Machine

/-- A command of the hub whose pairs are well formed and make new settings puts them. -/
theorem hubSet_puts {α : Type} (c : Cmd) (u : State) (pairs : List Pair) (new : Option α) (put : α → State → State)
    (x : α) (hhub : names 0 c = true) (hpairs : pairsOk pairs = true) (hnew : new = some x) :
    hubSet c pairs new put u = ({}, put x u) := by
  subst hnew
  exact checked_pass (firstFail_cons hhub (firstFail_cons (by rw [hpairs]; rfl) firstFail_nil)) u _

section
variable (c : Cmd) (u : State)

section
variable (hhub : names 0 c = true)
include hhub

/-! ### TIME_STATUS, TIME_SET, PTP_SET and PPS_SET -/

theorem bodyTimeStatus_lists : bodyTimeStatus c u =
    report c 16 (((timeRegs u ((tenantFn u c.tenant).getD 64)).zipIdx).map (fun p => item p.2 0 p.1))
      (fun _ => leBytes 2 (quality u).toNat ++ leBytes 1 (u.time.parent.getD 0xFF)) u :=
  checked_pass (firstFail_cons hhub firstFail_nil) u _

theorem bodyTimeSet_sets (pairs : List Pair) (x : TimeU) (hpairs : pairsOk pairs = true)
    (hx : withPairs setTime pairs u.time = some x) : bodyTimeSet c pairs u = ({}, { u with time := x }) :=
  hubSet_puts c u pairs _ _ x hhub hpairs hx

theorem bodyPpsSet_sets (pairs : List Pair) (x : TimeU) (hpairs : pairsOk pairs = true)
    (hx : withPairs setPps pairs u.time = some x) : bodyPpsSet c pairs u = ({}, { u with time := x }) :=
  hubSet_puts c u pairs _ _ x hhub hpairs hx

/-- A new domain or transport, or PTP off, ends the use of a source that only PTP gave. -/
theorem bodyPtpSet_sets (pairs : List Pair) (x : Ptp) (v : State) (moved : Bool) (hpairs : pairsOk pairs = true)
    (hx : withPairs setPtp pairs u.time.ptp = some x)
    (hmoved : moved = (decide (x.domain ≠ u.time.ptp.domain) || decide (x.transport ≠ u.time.ptp.transport)))
    (hv : v = { u with time := { u.time with ptp := { x with
      usable := x.usable && x.on && !moved, masters := if moved || !x.on then [] else x.masters } } }) :
    bodyPtpSet c pairs u = ({},
      if x.usable = true ∧ (moved = true ∨ x.on = false) ∧ u.time.ppsSec = none then loseSource v else v) := by
  have hloses : ((x.usable && (moved || !x.on) && u.time.ppsSec.isNone) = true) =
      (x.usable = true ∧ (moved = true ∨ x.on = false) ∧ u.time.ppsSec = none) := by simp [and_assoc]
  refine (hubSet_puts c u pairs _ _ x hhub hpairs hx).trans ?_
  simp only [when, ← hmoved, ← hv, hloses]

/-! ### TIME_OF_DAY and PIN_LAUNCH -/

theorem bodyTimeOfDay_names (sec : Nat) (hsec : sec < 2 ^ 48)
    (hlead : ∀ t, pulseAt u sec = some t → (u.now + todLead : Nat) ≤ t) : bodyTimeOfDay c sec u =
      ({}, { u with time := { u.time with ppsNamed := some sec, ppsFrom := u.now + todLead } }) := by
  have hlater : (!match pulseAt u sec with | some t => decide (t < (u.now + todLead : Nat)) | none => false) = true := by
    cases hpulse : pulseAt u sec with
    | none => rfl
    | some t => exact congrArg _ (decide_eq_false (Int.not_lt.mpr (hlead t hpulse)))
  unfold bodyTimeOfDay
  exact checked_pass (firstFail_cons hhub (firstFail_cons (decide_eq_true hsec) (firstFail_cons hlater firstFail_nil))) u _

theorem bodyPinLaunch_books (pin : Nat) (level : Bool) (tt : TT) (hpin : isPin pin = true) (htime : tt.ns < 1000000000)
    (hheld : u.outputsHeld = false) (hlock : u.mgmt.measLock = true) (htach : tachPin u pin none = false)
    (haction : actionPin u pin = false) : bodyPinLaunch c pin level tt u = ({ later := true },
      { u with host := { u.host with pinJobs := u.host.pinJobs ++
        [{ pin := pin, level := level, at_ := instOf tt, tenant := c.tenant, queue := c.queue, tag := c.tag }] } }) :=
  checked_pass (firstFail_cons hhub (firstFail_cons (by rw [hpin, decide_eq_true htime]; rfl)
    (firstFail_cons (by rw [hheld, hlock]; rfl) (firstFail_cons (by rw [htach, haction]; rfl) firstFail_nil)))) u _

end

theorem bodyLinkAsym_sets (ps : Int) (hport : names 0x0D c = true) (hlow : -100000 ≤ ps) (hhigh : ps ≤ 100000) :
    bodyLinkAsym c ps u = ({}, modXchg (hIndex c) (fun x => { x with asym := ps }) u) :=
  checked_pass (firstFail_cons hport (firstFail_cons (by rw [decide_eq_true hlow, decide_eq_true hhigh]; rfl)
    firstFail_nil)) u _

end

/-- Settles O28: each command answers what its body answers once the checks of its rule hold. -/
theorem timeCommandsSetTheTime : Obligations.TimeCommandsSetTheTime := by
  unfold Obligations.TimeCommandsSetTheTime
  intro c s u hu
  refine ⟨fun hhub => ⟨?status, ?time, ?ptp, ?pps, ?timeOfDay, ?pin⟩, ?asym⟩
  case status =>
    intro hrun
    exact command_at _ _ c _ s u _ u hu hrun (bodyTimeStatus_lists c u hhub) (report_code ..)
  case time =>
    intro pairs x hrun hpairs hx
    exact command_at _ _ c _ s u _ _ hu hrun (bodyTimeSet_sets c u hhub pairs x hpairs hx) code_done
  case ptp =>
    intro pairs x v moved hrun hpairs hx hmoved hv
    exact command_at _ _ c _ s u _ _ hu hrun (bodyPtpSet_sets c u hhub pairs x v moved hpairs hx hmoved hv) code_done
  case pps =>
    intro pairs x hrun hpairs hx
    exact command_at _ _ c _ s u _ _ hu hrun (bodyPpsSet_sets c u hhub pairs x hpairs hx) code_done
  case timeOfDay =>
    intro sec hrun hsec hlead
    exact command_at _ _ c _ s u _ _ hu hrun (bodyTimeOfDay_names c u hhub sec hsec hlead) code_done
  case pin =>
    intro pin level tt hrun hpin htime hheld hlock htach haction
    exact command_at _ _ c _ s u _ _ hu hrun
      (bodyPinLaunch_books c u hhub pin level tt hpin htime hheld hlock htach haction) code_done
  case asym =>
    intro ps hrun hport hlow hhigh
    exact command_at _ _ c _ s u _ _ hu hrun (bodyLinkAsym_sets c u ps hport hlow hhigh) code_done

end Sys2Proof.Machine
end

section
/-! SUPPORT. The commands of the network (O29, R461, R482, R489, R494, R712). -/

namespace Sys2Proof.Machine

section
variable (c : Cmd) (u : State)

/-- The items go into the buffer as far as they fit; RESULT has state, width and rate in either case. -/
theorem bodyPortStatus_reports (hport : names 0x0D c = true) :
    ∃ items result, bodyPortStatus c u = report c 16 items result u ∧
      ∀ n, result n = leBytes 1 (portCode (u.port (hIndex c)).state) ++ leBytes 1 (shownWidth u (hIndex c))
        ++ leBytes 1 (u.port (hIndex c)).rate := by
  unfold bodyPortStatus
  exact ⟨_, _, checked_pass (firstFail_cons hport firstFail_nil) u _, fun _ => rfl⟩

theorem bodyRouteRead_lists (hhub : names 0 c = true) : bodyRouteRead c u =
    report c 8 (u.sky.routes.map routeBytes ++ u.sky.unreach.map unreachBytes) counted u :=
  checked_pass (firstFail_cons hhub firstFail_nil) u _

/-! ### ROUTE_STATIC -/

section
variable (pfx len prim alt : Nat) (hhub : names 0 c = true) (hlen : len ≤ 10) (hpfx : pfx < 2 ^ len) (r : Route)
  (st tab : List Route)
  (hr : r = { pfx := pfx, len := len, prim := prim, alt := if alt = 0xFF then none else some alt, static := true })
  (hst : st = u.sky.statics.filter (fun x => !r.same x)) (htab : tab = u.sky.nextTab.getD u.sky.routes)
include hhub hlen hpfx hr hst htab

theorem bodyRouteStatic_puts (hprim : prim < 16) (halt : alt < 16 ∨ alt = 0xFF)
    (hroom : (withStatics (st ++ [r]) tab).length ≤ maxRoutes) : bodyRouteStatic c pfx len prim alt false u =
      ({}, noteUse 4 (withStatics (st ++ [r]) tab).length
        { u with sky := { u.sky with statics := st ++ [r], nextTab := some (withStatics (st ++ [r]) tab) } }) := by
  have hpfx' : (decide (len ≤ 10) && decide (pfx < 2 ^ len)) = true := by simp [hlen, hpfx]
  have hports : (false || (decide (prim < 16) && (decide (alt < 16) || decide (alt = 0xFF)))) = true := by
    simpa [hprim] using halt
  unfold bodyRouteStatic
  refine (checked_pass (firstFail_cons hhub (firstFail_cons hpfx' (firstFail_cons hports
    (firstFail_cons rfl firstFail_nil)))) u _).trans ?_
  rw [hr] at hst hroom ⊢
  simp [← hst, ← htab, Nat.not_lt.mpr hroom]

theorem bodyRouteStatic_takesOut (new : List Route) (hthere : u.sky.statics.any r.same = true)
    (hnew : new = withStatics st (tab.filter (fun x => !(x.static && r.same x)))) :
    bodyRouteStatic c pfx len prim alt true u = ({}, noteUse 4 new.length
      { u with sky := { u.sky with statics := st, nextTab := some new } }) := by
  have hpfx' : (decide (len ≤ 10) && decide (pfx < 2 ^ len)) = true := by simp [hlen, hpfx]
  unfold bodyRouteStatic
  simp only [← hr, ← hst, ← htab]
  refine (checked_pass (firstFail_cons hhub (firstFail_cons hpfx' (firstFail_cons rfl
    (firstFail_cons (by rw [hthere]; rfl) firstFail_nil)))) u _).trans ?_
  simp only [← hnew, if_true, Bool.not_true, Bool.false_and, Bool.false_eq_true, if_false]

end

/-! ### MCAST_SET, PORT_WAKE and ADDR_SET -/

theorem bodyMcastSet_sets (mask : Nat) (loc : Bool) (alts : List Nat) (i : Nat) (v : State) (hmask : mask < 65536)
    (hfew : alts.length ≤ 16) (halts : ∀ a ∈ alts, a < 16 ∨ a = 0xFF)
    (hgroup : names 0 c = true ∧ (List.range 64).find? (fun (i : Nat) => !(u.sky.mcast.get i).made) = some i ∨
      names 0 c = false ∧ names 0x0F c = true ∧ (u.sky.mcast.get (hIndex c)).made = true ∧ i = hIndex c)
    (hv : v = { u with sky := { u.sky with
      mcast := u.sky.mcast.set i { made := true, mask := mask, loc := loc, alts := alts } } }) :
    bodyMcastSet c mask loc alts u =
      ({ result := leBytes 1 i }, noteUse 7 (v.sky.mcast.filter (fun p => p.2.made)).length v) := by
  have hok : (decide (mask < 65536) && (decide (alts.length ≤ 16) &&
      alts.all (fun a => decide (a < 16) || decide (a = 0xFF)))) = true := by
    simpa [hmask, hfew] using halts
  have hthere : (names 0 c || (names 0x0F c && (u.sky.mcast.get (hIndex c)).made)) = true := by
    rcases hgroup with ⟨hnew, -⟩ | ⟨-, hnamed, hmade, -⟩
    · rw [hnew]; rfl
    · rw [hnamed, hmade]; exact Bool.or_true _
  have hfound : (if names 0 c then (List.range 64).find? (fun (i : Nat) => !(u.sky.mcast.get i).made)
      else some (hIndex c)) = some i := by
    rcases hgroup with ⟨hnew, hfree⟩ | ⟨hold, -, -, rfl⟩
    · rw [if_pos hnew, hfree]
    · rw [hold]; rfl
  subst hv
  unfold bodyMcastSet
  simp only [hfound]
  exact checked_pass (firstFail_cons hthere (firstFail_cons hok firstFail_nil)) u _

theorem bodyPortWake_wakes (hport : names 0x0D c = true) (hup : (u.port (hIndex c)).state = .up) :
    bodyPortWake c u = ({}, wakeNeed (hIndex c) u) :=
  checked_pass (firstFail_cons hport (firstFail_cons (decide_eq_true hup) firstFail_nil)) u _

theorem bodyAddrSet_sets (pairs : List Pair) (x : Nat) (hhub : names 0 c = true) (hpairs : pairsOk pairs = true)
    (hx : withPairs setAddr pairs u.sky.ageH = some x) :
    bodyAddrSet c pairs u = ({}, { u with sky := { u.sky with ageH := x } }) :=
  hubSet_puts c u pairs _ _ x hhub hpairs hx

end

/-- Settles O29: each command answers what its body answers once the checks of its rule hold. -/
theorem networkCommandsActOnTheNetwork : Obligations.NetworkCommandsActOnTheNetwork := by
  unfold Obligations.NetworkCommandsActOnTheNetwork
  intro c s u hu
  refine ⟨?port, fun pfx len prim alt hhub hlen hpfx r st tab hr hst htab => ⟨?puts, ?takesOut⟩, ?read,
    ?mcast, ?wake, ?addr⟩
  case port =>
    intro hrun hport
    obtain ⟨items, result, hbody, hresult⟩ := bodyPortStatus_reports c u hport
    exact ⟨(report c 16 items result u).1, rfl, report_status c 16 items result u, hresult _,
      command_at _ _ c _ s u _ u hu hrun hbody (report_code c 16 items result u)⟩
  case puts =>
    intro hrun hprim halt hroom
    exact command_at _ _ c _ s u _ _ hu hrun (bodyRouteStatic_puts c u pfx len prim alt hhub hlen hpfx r st tab hr hst htab
      hprim halt hroom) code_done
  case takesOut =>
    intro new hrun hthere hnew
    exact command_at _ _ c _ s u _ _ hu hrun (bodyRouteStatic_takesOut c u pfx len prim alt hhub hlen hpfx r st tab hr hst
      htab new hthere hnew) code_done
  case read =>
    intro hrun hhub
    exact command_at _ _ c _ s u _ u hu hrun (bodyRouteRead_lists c u hhub) (report_code ..)
  case mcast =>
    intro mask loc alts i v hrun hmask hfew halts hgroup hv
    exact command_at _ _ c _ s u _ _ hu hrun (bodyMcastSet_sets c u mask loc alts i v hmask hfew halts hgroup hv) code_done
  case wake =>
    intro hrun hport hup
    exact command_at _ _ c _ s u _ _ hu hrun (bodyPortWake_wakes c u hport hup) code_done
  case addr =>
    intro pairs x hrun hhub hpairs hx
    exact command_at _ _ c _ s u _ _ hu hrun (bodyAddrSet_sets c u pairs x hhub hpairs hx) code_done

end Sys2Proof.Machine
end

section
/-! SUPPORT. The commands of the pair, of memory and of arbitration (O30, R398, R403, R404, R409, R411, R417, R520, R524,
R531, R554, R599). -/

namespace Sys2Proof.Machine

/-- Tenant 0 may send every command; with a buffer of an allowed length, the body answers. -/
theorem withMarks_passes (op : Nat) (c : Cmd) (body : State → Reply × State) (u : State) (hzero : c.tenant = 0)
    (hbuffer : badBuffer c u = false) : withMarks op c body u = body u := by
  simp only [withMarks, hzero, hbuffer, ne_eq, not_true_eq_false, decide_false, Bool.and_false, Bool.false_and,
    Bool.false_eq_true, if_false]

section
variable (c : Cmd) (u : State)

section
variable (hhub : names 0 c = true)
include hhub

/-! ### CLOVER_SET, CLOVER_STATUS and CLOVER_SWAP -/

theorem bodyCloverSet_sets (pairs : List Pair) (x : Clover) (hpairs : pairsOk pairs = true)
    (hx : withPairs setClover pairs u.clover = some x) : bodyCloverSet c pairs u = ({}, { u with clover := x }) :=
  hubSet_puts c u pairs _ _ x hhub hpairs hx

theorem bodyCloverStatus_reports : bodyCloverStatus c u = done (leBytes 1 (pairCode u.clover.state)
    ++ leBytes 1 (roleByte u) ++ leBytes 2 u.clover.cause ++ leBytes 4 u.clover.decSeq) u :=
  checked_pass (firstFail_cons hhub firstFail_nil) u _

/-- A swap that is under way stands; otherwise one is proposed. -/
theorem bodyCloverSwap_proposes (y : State) (hformed : u.clover.state = .formed)
    (hy : y = if u.clover.swapAt.isSome then u else proposeSwap 2 u) :
    bodyCloverSwap c u = ({ result := boundaryBytes (y.clover.swapAt.getD 0) }, y) := by
  subst hy
  exact checked_pass (firstFail_cons hhub (firstFail_cons (decide_eq_true hformed) firstFail_nil)) u _

theorem bodyCloverSwap_refuses (halone : u.clover.state ≠ .formed) : bodyCloverSwap c u = ({ status := .state }, u) := by
  unfold bodyCloverSwap
  exact checked_refuses (by rw [hhub, firstFail_holds, decide_eq_false halone]; rfl) u _

/-- The partner has taken a swap that waits for it: the body answers, and the completion says that it is mirrored. -/
theorem command_swapTaken (s v y : State) (t : Inst) (hu : u = touch t s) (hformed : u.clover.state = .formed)
    (hwaits : u.clover.mirrors.contains (.cloverSwap c) = true) (hzero : c.tenant = 0) (hbuffer : badBuffer c u = false)
    (hv : v = u.modClover (fun x => { x with mirrors := x.mirrors.erase (.cloverSwap c) }))
    (hy : y = if v.clover.swapAt.isSome then v else proposeSwap 2 v) :
    exec (.command (.cloverSwap c) (some .done) t) s =
      .next (answer 0x0902 c true { result := boundaryBytes (y.clover.swapAt.getD 0) } y) := by
  have hstill : v.clover.state = .formed := hv ▸ hformed
  have hbody : withMarks 0x0902 c (bodyCloverSwap c) v = ({ result := boundaryBytes (y.clover.swapAt.getD 0) }, y) :=
    (withMarks_passes 0x0902 c _ v hzero (hv ▸ hbuffer)).trans (bodyCloverSwap_proposes c v hhub y hstill hy)
  have hmirror : mirrorBody (.cloverSwap c) = some (0x0902, c, bodyCloverSwap c) := rfl
  have hnoerr : ¬ 0x8000 ≤ statusCode .done := by decide
  refine (command_answered s u t (.cloverSwap c) .done hu hformed).trans ?_
  simp only [fromHere, hwaits, Bool.not_true, Bool.false_eq_true, if_false, hmirror, hnoerr, ← hv, hbody]

/-! ### MEM_LAYOUT, MEM_STATUS, POLICY_CLASS and FURZE_SET -/

theorem bodyMemLayout_lays (pairs : List Pair) (x : Nat × List Nat) (hpairs : pairsOk pairs = true)
    (hx : withPairs setLayout pairs (u.mem.grain, (List.range 5).map (areaGiB u)) = some x) (hrings : ringsExist u = false)
    (hfits : u.mem.pop.channels = [] ∨ x.2.sum ≤ u.mem.pop.gib) : bodyMemLayout c pairs u = ({}, { u with mem := { u.mem with
      grain := x.1, areas := if x.2 = (List.range 5).map (areaGiB u) then u.mem.areas else some x.2 } }) := by
  have hroom : (u.mem.pop.channels.isEmpty || decide (x.2.sum ≤ u.mem.pop.gib)) = true := by simpa using hfits
  simp only [bodyMemLayout, hx, hpairs]
  exact checked_pass (firstFail_cons hhub (firstFail_cons rfl (firstFail_cons (by rw [hrings]; rfl)
    (firstFail_cons hroom firstFail_nil)))) u _

/-- The items go into the buffer as far as they fit; RESULT has the records lost in either case. -/
theorem bodyMemStatus_reports : ∃ items result,
    bodyMemStatus c u = report c 16 items result { u with mem := { u.mem with highMark := u.mem.staging } } ∧
      ∀ n, result n = leBytes 8 (ctrOf u (ctrKey 0 0 1 0)).val := by
  unfold bodyMemStatus
  exact ⟨_, _, checked_pass (firstFail_cons hhub firstFail_nil) u _, fun _ => rfl⟩

theorem bodyPolicyClass_sets (pairs : List Pair) (x : Mem) (hpairs : pairsOk pairs = true)
    (hx : withPairs setPolicy pairs u.mem = some x) (hok : policyOk x = true) :
    bodyPolicyClass c pairs u = ({}, { u with mem := x }) :=
  hubSet_puts c u pairs _ _ x hhub hpairs (by rw [hx, Option.filter_some_pos hok])

theorem bodyFurzeSet_sets (thr int : Nat) (hthr : 4096 ≤ thr) (hthr' : thr ≤ 65535) (hint : 100 ≤ int)
    (hint' : int ≤ 100000) :
    bodyFurzeSet c thr int u = ({}, { u with mem := { u.mem with furzeThr := thr, furzeInt := int } }) := by
  have hrange : (decide (4096 ≤ thr) && decide (thr ≤ 65535) && decide (100 ≤ int) && decide (int ≤ 100000)) = true := by
    simp [hthr, hthr', hint, hint']
  exact checked_pass (firstFail_cons hhub (firstFail_cons hrange firstFail_nil)) u _

end

/-! ### ARB_RANK, ARB_WATCHDOG and TENANT_CAP -/

section
variable (i r : Nat) (hq : requester c = some (i, r))
include hq

theorem bodyArbRank_ranks (rank : Nat) (commit : Bool) (v : State) (hrank : rank < 16)
    (hmay : rankAllowed i r rank = true) (hv : v = u.modReq i r (fun x => { x with shadow := some rank })) :
    bodyArbRank c rank commit u = ({}, if commit then commitRanks i v else v) := by
  subst hv
  simp only [bodyArbRank, hq, Option.getD_some]
  exact checked_pass (firstFail_cons rfl (firstFail_cons (by rw [decide_eq_true hrank, hmay]; rfl) firstFail_nil)) u _

theorem bodyArbWatchdog_limits (limit : Nat) (again : Bool) (v : State)
    (hlimit : limit = 0 ∨ 1000 ≤ limit ∧ limit ≤ 1000000)
    (hv : v = if limit = 0 then u else u.modInst i (fun x => { x with limit := some limit })) :
    bodyArbWatchdog c limit again u =
      ({}, if again then v.modReq i r (fun x => { x with disabled := false }) else v) := by
  have hrange : (decide (limit = 0) || (decide (1000 ≤ limit) && decide (limit ≤ 1000000))) = true := by
    simpa using hlimit
  have hset : (if decide (limit ≠ 0) then u.modInst i (fun x => { x with limit := some limit }) else u) = v := by
    rw [hv]; by_cases h : limit = 0 <;> simp [h]
  simp only [bodyArbWatchdog, hq, Option.getD_some, when]
  refine (checked_pass (firstFail_cons rfl (firstFail_cons hrange firstFail_nil)) u _).trans ?_
  rw [hset]

end

theorem bodyTenantCap_caps (cap : Nat) (hnamed : names 0x12 c = true) (hused : (u.tenant (hIndex c)).used = true)
    (hcap : cap < 4096) (hbound : boundAllows (u.modTenant (hIndex c) (fun x => { x with cap := cap })) = true) :
    bodyTenantCap c cap u = ({}, u.modTenant (hIndex c) (fun x => { x with capNext := some cap })) := by
  unfold bodyTenantCap
  exact checked_pass (firstFail_cons (by rw [hnamed, hused]; rfl) (firstFail_cons (decide_eq_true hcap)
    (firstFail_cons hbound firstFail_nil))) u _

end

/-- Settles O30: each command answers what its body answers once the checks of its rule hold; CLOVER_SWAP is mirrored. -/
theorem pairAndMemoryCommandsActOnTheirParts : Obligations.PairAndMemoryCommandsActOnTheirParts := by
  unfold Obligations.PairAndMemoryCommandsActOnTheirParts
  intro c s u hu
  refine ⟨fun hhub => ⟨?set, ?status, ?swapWaits, ?swapTaken, ?swapRefused, ?layout, ?memory, ?policy, ?furze⟩,
    fun i r hq => ⟨?rank, ?watchdog⟩, ?cap⟩
  case set =>
    intro pairs x hrun hpairs hx
    exact command_at _ _ c _ s u _ _ hu hrun (bodyCloverSet_sets c u hhub pairs x hpairs hx) code_done
  case status =>
    intro hrun
    exact command_at _ _ c _ s u _ _ hu hrun (bodyCloverStatus_reports c u hhub) code_done
  case swapWaits =>
    rintro v htakes htag hflags hzero hbuffer hformed rfl
    have hmirror : isMirrored 0x0902 u = true := by rw [isMirrored, decide_eq_true hformed]; rfl
    have hdone : (withMarks 0x0902 c (bodyCloverSwap c) u).1.status = .done := by
      rw [withMarks_passes 0x0902 c _ u hzero hbuffer, bodyCloverSwap_proposes c u hhub _ hformed rfl]
    exact command_mirrored 0x0902 _ c _ s u hu htakes htag hflags hmirror (hdone ▸ code_done)
  case swapTaken =>
    intro t w v hw hformed hwaits hzero hbuffer hv y hy
    exact command_swapTaken c w hhub s v y t hw hformed hwaits hzero hbuffer hv hy
  case swapRefused =>
    intro hrun halone
    exact command_refused _ _ c _ s u _ hu hrun (bodyCloverSwap_refuses c u hhub halone) (by decide)
  case layout =>
    intro pairs x hrun hpairs hx hrings hfits
    exact command_at _ _ c _ s u _ _ hu hrun (bodyMemLayout_lays c u hhub pairs x hpairs hx hrings hfits) code_done
  case memory =>
    intro hrun
    obtain ⟨items, result, hbody, hresult⟩ := bodyMemStatus_reports c u hhub
    exact ⟨(report c 16 items result u).1, rfl, report_status c 16 items result u, hresult _,
      command_at _ _ c _ s u _ _ hu hrun hbody (report_code c 16 items result u)⟩
  case policy =>
    intro pairs x hrun hpairs hx hok
    exact command_at _ _ c _ s u _ _ hu hrun (bodyPolicyClass_sets c u hhub pairs x hpairs hx hok) code_done
  case furze =>
    intro thr int hrun hthr hthr' hint hint'
    exact command_at _ _ c _ s u _ _ hu hrun (bodyFurzeSet_sets c u hhub thr int hthr hthr' hint hint') code_done
  case rank =>
    intro rank commit v hrun hrank hmay hv
    exact command_at _ _ c _ s u _ _ hu hrun (bodyArbRank_ranks c u i r hq rank commit v hrank hmay hv) code_done
  case watchdog =>
    intro limit again v hrun hlimit hv
    exact command_at _ _ c _ s u _ _ hu hrun (bodyArbWatchdog_limits c u i r hq limit again v hlimit hv) code_done
  case cap =>
    intro cap hrun hnamed hused hcap hbound
    exact command_at _ _ c _ s u _ _ hu hrun (bodyTenantCap_caps c u cap hnamed hused hcap hbound) code_done

end Sys2Proof.Machine
end

section
/-! SUPPORT. The commands of management (O31): sensors, the update and the I2C buses (R619, R627, R632, R638). -/

namespace Sys2Proof.Machine

section
variable (c : Cmd) (u : State)

theorem bodySensorRead_reports (hsensor : hClass c = 0x13) (hthere : isSensor (hIndex c) = true) : bodySensorRead c u =
    ({ result := leInt 8 (u.sensor (hIndex c)).value ++ leBytes 1 (if (u.sensor (hIndex c)).overR then 1 else 0) }, u) :=
  checked_pass (firstFail_cons (by rw [decide_eq_true hsensor, hthere]; rfl) firstFail_nil) u _

section
variable (hhub : names 0 c = true)
include hhub

theorem bodySensorSet_orders (pairs : List Pair) (hpairs : pairsOk pairs = true) (hok : sensorPairsOk pairs u = true) :
    bodySensorSet c pairs u = ({}, { u with mgmt := { u.mgmt with sensorSets := u.mgmt.sensorSets ++ pairs } }) :=
  checked_pass (firstFail_cons hhub (firstFail_cons (by rw [hpairs, hok]; rfl) firstFail_nil)) u _

/-! ### The update (R619) -/

theorem bodyUpdateBegin_opens (bytes : Nat) (v : State) (hsize : bytes ≤ maxImage) (hnone : u.mgmt.update = none)
    (hv : v = putInactive { valid := false } u) :
    bodyUpdateBegin c bytes u = ({}, { v with mgmt := { v.mgmt with update := some { bytes := bytes } } }) := by
  subst hv
  exact checked_pass (firstFail_cons hhub (firstFail_cons (decide_eq_true hsize)
    (firstFail_cons (by rw [hnone]; rfl) firstFail_nil))) u _

section
variable (x : Update) (hx : u.mgmt.update = some x)
include hx

theorem bodyUpdateChunk_adds (len : Nat) (hlow : 1 ≤ len) (hhigh : len ≤ 65536) (hfits : x.held + len ≤ x.bytes) :
    bodyUpdateChunk c x.held len u = ({ result := leBytes 4 (x.held + len), progress := x.held + len },
      { u with mgmt := { u.mgmt with update := some { x with held := x.held + len } } }) := by
  have hchunk : (!true || (decide True && decide (1 ≤ len) && decide (len ≤ 65536) &&
      decide (x.held + len ≤ x.bytes))) = true := by simp [hlow, hhigh, hfits]
  simp only [bodyUpdateChunk, hx, Option.map_some, Option.getD_some, Option.isSome_some]
  refine (checked_pass (firstFail_cons hhub (firstFail_cons rfl (firstFail_cons hchunk firstFail_nil))) u _).trans ?_
  rw [hx]
  rfl

theorem bodyUpdateCommit_accepts (live : Bool)
    (hmay : live = false ∨ u.clover.state = .formed ∧ u.clover.role = .standby ∧
      ∀ h, u.clover.last = some h → h.update = false) : bodyUpdateCommit c live u = ({ status := .accepted },
      { u with mgmt := { u.mgmt with update := some { x with tag := some (c.tenant, c.queue, c.tag) } } }) := by
  have hstandby : (!live || (decide (u.clover.state = .formed) && decide (u.clover.role = .standby))) = true := by
    rcases hmay with hlater | ⟨hformed, hrole, -⟩
    · rw [hlater]; rfl
    · rw [hformed, hrole]; exact Bool.or_true _
  have hpartner : (!live || !match u.clover.last with | some h => h.update | none => false) = true := by
    rcases hmay with hlater | ⟨-, -, hidle⟩
    · rw [hlater]; rfl
    · cases hlast : u.clover.last with
      | none => exact Bool.or_true _
      | some h => simp only [hidle h hlast, Bool.not_false, Bool.or_true]
  unfold bodyUpdateCommit
  refine (checked_pass (firstFail_cons hhub (firstFail_cons (by rw [hx]; rfl) (firstFail_cons hstandby
    (firstFail_cons hpartner firstFail_nil)))) u _).trans ?_
  rw [hx]
  rfl

end

end

/-! ### I2C_XFER (R638) -/

section
variable (addr wr rd : Nat) (hbus : names 0x14 c = true) (haddr : addr < 128) (hlow : 1 ≤ wr + rd)
  (hhigh : wr + rd ≤ 65536) (hread : hIndex c ≠ 1 ∨ wr = 0) (hfree : (u.bus (hIndex c)).state ≠ .stuck)
include hbus haddr hlow hhigh hread hfree

theorem i2cXfer_allowed : firstFail [(names 0x14 c, .noSuchObject),
    (decide (addr < 128) && decide (1 ≤ wr + rd) && decide (wr + rd ≤ 65536), .badParam),
    (decide (hIndex c ≠ 1) || decide (wr = 0), .badParam), (decide ((u.bus (hIndex c)).state ≠ .stuck), .state)] = none :=
  firstFail_cons hbus (firstFail_cons (by simp [haddr, hlow, hhigh]) (firstFail_cons (by simpa using hread)
    (firstFail_cons (decide_eq_true hfree) firstFail_nil)))

theorem bodyI2cXfer_moves (data : List Byte) : bodyI2cXfer c addr wr rd none data u =
    ({ progress := wr + rd, result := leBytes 4 (wr + rd), out := some (data.take rd) }, u) := by
  unfold bodyI2cXfer
  exact checked_pass (i2cXfer_allowed c u addr wr rd hbus haddr hlow hhigh hread hfree) u _

/-- A device that stops acknowledging after `n` bytes. -/
theorem bodyI2cXfer_stops (data : List Byte) (n : Nat) (hn : n ≤ wr + rd) : bodyI2cXfer c addr wr rd (some n) data u =
    ({ status := .partialDone, progress := n, result := leBytes 4 n, out := some (data.take (n - wr)) },
      bump (ctrKey 0x14 (hIndex c) 0 0) u) := by
  unfold bodyI2cXfer
  refine (checked_pass (i2cXfer_allowed c u addr wr rd hbus haddr hlow hhigh hread hfree) u _).trans ?_
  simp only [Nat.min_eq_left hn]

end

end

/-- The answer of a command of the hub itself leaves the update as the command made it. -/
theorem replied_update (op : Nat) (c : Cmd) (r : Reply) (s : State) : (replied op c r s).mgmt.update = s.mgmt.update := by
  obtain ⟨h, p, e⟩ := answer_host op c false r (noted op s)
  rw [replied, e]
  show (noted op s).mgmt.update = s.mgmt.update
  unfold noted
  split <;> rfl

/-- An UPDATE_COMMIT that is accepted marks the update, which then ends in the same step (log entry 101). -/
theorem updateCommit_ends (c : Cmd) (s u : State) (live : Bool) (v : ImageInfo) (x : Update) (hu : u = touch c.at_ s)
    (hrun : Runs 0x0B06 c s) (hhub : names 0 c = true) (hx : u.mgmt.update = some x) (htag : x.tag = none)
    (hmay : live = false ∨ u.clover.state = .formed ∧ u.clover.role = .standby ∧
      ∀ h, u.clover.last = some h → h.update = false) :
    exec (.updateCommit c live v) s = .next (endUpdate c live v (replied 0x0B06 c { status := .accepted }
      { u with mgmt := { u.mgmt with update := some { x with tag := some (c.tenant, c.queue, c.tag) } } })) := by
  have hcommand := command_at 0x0B06 (.updateCommit c live v) c _ s u _ _ hu hrun
    (bodyUpdateCommit_accepts c u hhub x hx live hmay) code_accepted
  have hbefore : s.mgmt.update = some x := by rw [← hx, hu]; rfl
  have hmarked : some { x with tag := some (c.tenant, c.queue, c.tag) } ≠ s.mgmt.update := by
    intro h
    have htags := congrArg Update.tag (Option.some.inj (h.trans hbefore))
    exact absurd (htags.trans htag) nofun
  have hexec : exec (.updateCommit c live v) s =
      (match command 0x0B06 (.updateCommit c live v) c (bodyUpdateCommit c live) s with
      | .next t => .next (if t.mgmt.update = s.mgmt.update then t else endUpdate c live v t)
      | o => o) := rfl
  rw [hexec, hcommand]
  refine congrArg _ (if_neg ?_)
  rw [replied_update]
  exact hmarked

/-- Settles O31: each command answers what its body answers once its checks hold; UPDATE_COMMIT then ends the update. -/
theorem managementCommandsActOnTheirParts : Obligations.ManagementCommandsActOnTheirParts := by
  unfold Obligations.ManagementCommandsActOnTheirParts
  intro c s u hu
  refine ⟨?read, fun hhub => ⟨?set, ?begin, ?chunk, ?commit⟩,
    fun addr wr rd data hrun hbus haddr hlow hhigh hread hfree => ⟨?moves, fun n hn => ?stops⟩⟩
  case read =>
    intro hrun hsensor hthere
    exact command_at _ _ c _ s u _ _ hu hrun (bodySensorRead_reports c u hsensor hthere) code_done
  case set =>
    intro pairs hrun hpairs hok
    exact command_at _ _ c _ s u _ _ hu hrun (bodySensorSet_orders c u hhub pairs hpairs hok) code_done
  case begin =>
    intro bytes v hrun hsize hnone hv
    exact command_at _ _ c _ s u _ _ hu hrun (bodyUpdateBegin_opens c u hhub bytes v hsize hnone hv) code_done
  case chunk =>
    intro len x hrun hx hlow hhigh hfits
    exact command_at _ _ c _ s u _ _ hu hrun (bodyUpdateChunk_adds c u hhub x hx len hlow hhigh hfits) code_done
  case commit =>
    intro live v x hrun hx htag hmay
    exact updateCommit_ends c s u live v x hu hrun hhub hx htag hmay
  case moves =>
    exact command_at _ _ c _ s u _ _ hu hrun
      (bodyI2cXfer_moves c u addr wr rd hbus haddr hlow hhigh hread hfree data) code_done
  case stops =>
    exact command_at _ _ c _ s u _ _ hu hrun
      (bodyI2cXfer_stops c u addr wr rd hbus haddr hlow hhigh hread hfree data n hn) code_partial

end Sys2Proof.Machine
end

section
/-! SUPPORT. The events that open and end sessions (O39, R538, R539, R541). -/

namespace Sys2Proof.Machine

section
variable (s : State) (fn : Nat) (hfn : isFn fn = true)
include hfn

/-! ### ADM_ENABLE_SET -/

section
variable (hoff : (s.func fn).enable = false)
include hoff

theorem admEnableSet_refuses (hbad : admValid (s.func fn) = false) :
    exec (.admEnableSet fn) s = .next (failOpen fn .badParam s) := by
  refine (event_of_exists hfn _).trans (congrArg _ ?_)
  simp only [hoff, hbad, Bool.not_false, Bool.false_eq_true, if_false, if_true]

section
variable (hvalid : admValid (s.func fn) = true) (free : Option Nat)
  (hfree : (if fn = 0 then (if (s.tenant 0).used = true ∨ (s.tenant 0).ended = true then none else some 0)
    else freeTenant s) = free)
include hvalid hfree

/-- The PF takes tenant 0, a VF the lowest free number. -/
theorem admEnableSet_opens (t : Nat) (ht : free = some t) : exec (.admEnableSet fn) s = .next (openSession fn t s) := by
  refine (event_of_exists hfn _).trans (congrArg _ ?_)
  simp only [hoff, hvalid, Bool.or_eq_true, hfree, ht, Bool.not_true, Bool.false_eq_true, if_false]

theorem admEnableSet_full (hnone : free = none) : exec (.admEnableSet fn) s =
    .next (post pPcie 0x0105 (handleOf 0x12 0) [vU fn, vU 0x8006] (failOpen fn .noResource s)) := by
  refine (event_of_exists hfn _).trans (congrArg _ ?_)
  simp only [hoff, hvalid, Bool.or_eq_true, hfree, hnone, Bool.not_true, Bool.false_eq_true, if_false]

end

end

/-! ### The events that end sessions -/

theorem admEnableClear_ends : exec (.admEnableClear fn) s = .next (endSession fn false s) := event_of_exists hfn _

theorem d3hotEntry_ends : exec (.d3hotEntry fn) s = .next (endSession fn (s.func fn).enable s) := event_of_exists hfn _

/-- An FLR of the PF resets every function. -/
theorem flr_resets : exec (.flr fn) s = .next (each (if fn = 0 then allFns else [fn]) (fun f s => s.modFunc f (fun _ => {}))
    (endSessions (if fn = 0 then allFns else [fn]) false s)) :=
  event_of_exists hfn _

end

/-- Settles O39: each clause is the rule of its event. -/
theorem sessionEventsOpenAndEndSessions : Obligations.SessionEventsOpenAndEndSessions := by
  unfold Obligations.SessionEventsOpenAndEndSessions
  intro s
  exact ⟨fun fn t hfn hoff hvalid => admEnableSet_opens s fn hfn hoff hvalid _ rfl t, admEnableSet_refuses s,
    fun fn hfn hoff hvalid => admEnableSet_full s fn hfn hoff hvalid _ rfl, admEnableClear_ends s, d3hotEntry_ends s,
    flr_resets s, rfl, rfl, rfl⟩

end Sys2Proof.Machine
end

section
/-! SUPPORT. Doorbells and faults of a queue's memory (O40, R545, R547 to R549, R563, R565). -/

namespace Sys2Proof.Machine

/-- A queue register of a function answers under its number. -/
theorem queueRegister_exists {fn q : Nat} (hfn : isFn fn = true) (hq : q < 8) : (isFn fn && decide (q < 8)) = true := by
  rw [hfn, decide_eq_true hq]; rfl

/-- An index inside the ring of a made queue. -/
theorem insideRing {qu : Queue} (hmade : qu.made = true) {size i : Nat} (hin : i < size) :
    ¬ (qu.made = false ∨ size ≤ i) := by
  rintro (h | h)
  · exact absurd (hmade.symm.trans h) nofun
  · omega

section
variable (s u : State) (fn q : Nat) (t : Inst) (hu : u = touch t s) (hfn : isFn fn = true)
include hu hfn

/-! ### What each doorbell does to the tenant of its function -/

section
variable (hq : q < 8)
include hq

theorem sqTail_noSession (tail : Nat) (cmds : List Fetch) (credits : List CreditEntry) (hnone : openTenant u fn = none) :
    exec (.dbSqTailWrite fn q tail cmds credits t) s = .next (badDoorbell fn (0x1040 + 8 * q) t u) := by
  subst hu
  refine (event_of_exists (queueRegister_exists hfn hq) _).trans ?_
  rw [hnone]

theorem cqHead_noSession (head : Nat) (hnone : openTenant u fn = none) :
    exec (.dbCqHeadWrite fn q head t) s = .next (badDoorbell fn (0x1044 + 8 * q) t u) := by
  subst hu
  refine (event_of_exists (queueRegister_exists hfn hq) _).trans ?_
  rw [hnone]

section
variable (x : Nat) (hx : openTenant u fn = some x)
include hx

/-- The tail of a made queue moves within its ring; an I/O queue fetches, a DMA queue posts credits. -/
theorem exec_sqTail (tail : Nat) (cmds : List Fetch) (credits : List CreditEntry) :
    exec (.dbSqTailWrite fn q tail cmds credits t) s = .next (
      if (u.queue x q).made = false ∨ (u.queue x q).size ≤ tail then badDoorbell fn (0x1040 + 8 * q) t u
      else if 4 ≤ q then
        if (u.queue x q).stopped = true then u.modQueue x q (fun k => { k with tail := tail })
        else postCredits x (q - 4) credits (u.modQueue x q (fun k => { k with tail := tail }))
      else
        let n := (tail + (u.queue x q).size - (u.queue x q).tail) % (u.queue x q).size
        let v := u.modQueue x q (fun k => { k with tail := tail, head := (k.head + min n cmds.length) % k.size })
        if u.mgmt.warm = true then v.modQueue x q (fun k => { k with late := k.late ++ cmds.take n })
        else each (cmds.take n) (fetchOne x q) v) := by
  subst hu
  refine (event_of_exists (queueRegister_exists hfn hq) _).trans (congrArg _ ?_)
  rw [hx]
  simp only [Bool.or_eq_true, Bool.not_eq_true', decide_eq_true_eq]
  rfl

theorem exec_cqHead (head : Nat) : exec (.dbCqHeadWrite fn q head t) s = .next (
      if (u.queue x q).made = false ∨ (u.queue x q).cqSize ≤ head then badDoorbell fn (0x1044 + 8 * q) t u
      else
        let v := u.modQueue x q (fun k => Queue.drain k.held.length { k with cqHead := head })
        if (v.queue x q).cqTail ≠ head ∨ (v.queue x q).held.length < (u.queue x q).held.length then
          raiseQueue (fnOf (v.tenant x)) (u.queue x q).vector v
        else v) := by
  subst hu
  refine (event_of_exists (queueRegister_exists hfn hq) _).trans (congrArg _ ?_)
  rw [hx]
  simp only [when, Bool.or_eq_true, Bool.not_eq_true', decide_eq_true_eq]

end

end

/-! ### Doorbells within the ring of a made queue -/

section
variable (x : Nat) (qu : Queue) (v : State) (hx : openTenant u fn = some x) (hqu : qu = u.queue x q) (hmade : qu.made = true)
include hx hqu hmade

section
variable (tail : Nat) (cmds : List Fetch) (credits : List CreditEntry) (htail : tail < qu.size)
include htail

theorem sqTail_fetches (n : Nat) (hq : q < 4) (hn : n = (tail + qu.size - qu.tail) % qu.size)
    (hv : v = u.modQueue x q (fun k => { k with tail := tail, head := (k.head + min n cmds.length) % k.size })) :
    exec (.dbSqTailWrite fn q tail cmds credits t) s = .next (if u.mgmt.warm then
      v.modQueue x q (fun k => { k with late := k.late ++ cmds.take n }) else each (cmds.take n) (fetchOne x q) v) := by
  have hin := insideRing hmade htail
  subst hqu hn hv
  rw [exec_sqTail s u fn q t hu hfn (by omega) x hx, if_neg hin, if_neg (by omega)]

theorem sqTail_postsCredits (hq : 4 ≤ q) (hq' : q < 8) (hv : v = u.modQueue x q (fun k => { k with tail := tail })) :
    exec (.dbSqTailWrite fn q tail cmds credits t) s =
      .next (if qu.stopped then v else postCredits x (q - 4) credits v) := by
  have hin := insideRing hmade htail
  subst hqu hv
  rw [exec_sqTail s u fn q t hu hfn hq' x hx, if_neg hin, if_pos hq]

end

theorem cqHead_drains (head : Nat) (hq : q < 8) (hhead : head < qu.cqSize)
    (hv : v = u.modQueue x q (fun k => Queue.drain k.held.length { k with cqHead := head })) :
    exec (.dbCqHeadWrite fn q head t) s =
      .next (if (v.queue x q).cqTail ≠ head ∨ (v.queue x q).held.length < qu.held.length then
        raiseQueue (fnOf (v.tenant x)) qu.vector v else v) := by
  have hin := insideRing hmade hhead
  subst hqu hv
  rw [exec_cqHead s u fn q t hu hfn hq x hx, if_neg hin]

end

/-! ### Doorbells that are violations -/

section
variable (hq : q < 8)
include hq

theorem sqTail_violates (tail : Nat) (cmds : List Fetch) (credits : List CreditEntry) (h : openTenant u fn = none ∨
      ∃ x, openTenant u fn = some x ∧ ((u.queue x q).made = false ∨ (u.queue x q).size ≤ tail)) :
    exec (.dbSqTailWrite fn q tail cmds credits t) s = .next (badDoorbell fn (0x1040 + 8 * q) t u) := by
  rcases h with hnone | ⟨x, hx, hbad⟩
  · exact sqTail_noSession s u fn q t hu hfn hq tail cmds credits hnone
  · rw [exec_sqTail s u fn q t hu hfn hq x hx, if_pos hbad]

theorem cqHead_violates (head : Nat) (h : openTenant u fn = none ∨
      ∃ x, openTenant u fn = some x ∧ ((u.queue x q).made = false ∨ (u.queue x q).cqSize ≤ head)) :
    exec (.dbCqHeadWrite fn q head t) s = .next (badDoorbell fn (0x1044 + 8 * q) t u) := by
  rcases h with hnone | ⟨x, hx, hbad⟩
  · exact cqHead_noSession s u fn q t hu hfn hq head hnone
  · rw [exec_cqHead s u fn q t hu hfn hq x hx, if_pos hbad]

end

/-! ### DMA_FAULT -/

section
variable (addr x : Nat) (v : State) (hx : openTenant u fn = some x)
  (hv : v = violate (some fn) { kind := 6, addr := addr, tenant := x, time := shortTime t } u)
include hx hv

theorem dmaFault_stopsQueue (hq : q < 8) : exec (.dmaFault fn q addr none t) s =
    .next (if 4 ≤ q then v.modQueue x q (fun k => { k with stopped := true }) else v) := by
  subst hu hv
  refine (event_of_exists (queueRegister_exists hfn hq) _).trans (congrArg _ ?_)
  rw [hx]
  simp only [when, decide_eq_true_eq]

theorem dmaFault_completesCommand (g : BitVec 32) (w : State) (hq : q < 4)
    (hw : w = { v with str := { v.str with
      jobs := v.str.jobs.filter (fun j => !(decide (j.tenant = x) && decide (j.tag = g))) } }) :
    exec (.dmaFault fn q addr (some g) t) s = .next (finishLater x q g { status := .violation } none w) := by
  have hio : ¬ 4 ≤ q := by omega
  subst hu hv hw
  refine (event_of_exists (queueRegister_exists hfn (by omega)) _).trans (congrArg _ ?_)
  rw [hx]
  simp only [when, hq, hio, if_true, decide_false, Bool.false_eq_true, if_false]

end

end

/-- Settles O40: each clause is the rule of its event. -/
theorem doorbellsMoveTheirQueues : Obligations.DoorbellsMoveTheirQueues := by
  unfold Obligations.DoorbellsMoveTheirQueues
  intro s
  exact ⟨fun fn q tail cmds credits t u x qu v n hu hfn hq hx hqu hmade htail hn hv =>
      sqTail_fetches s u fn q t hu hfn x qu v hx hqu hmade tail cmds credits htail n hq hn hv,
    fun fn q tail cmds credits t u x qu v hu hfn hq hq' hx hqu hmade htail hv =>
      sqTail_postsCredits s u fn q t hu hfn x qu v hx hqu hmade tail cmds credits htail hq hq' hv,
    fun fn q head t u x qu v hu hfn hq hx hqu hmade hhead hv =>
      cqHead_drains s u fn q t hu hfn x qu v hx hqu hmade head hq hhead hv,
    fun fn q tail cmds credits t u hu hfn hq h => sqTail_violates s u fn q t hu hfn hq tail cmds credits h,
    fun fn q head t u hu hfn hq h => cqHead_violates s u fn q t hu hfn hq head h,
    fun fn q addr t u x v hu hfn hq hx hv => dmaFault_stopsQueue s u fn q t hu hfn addr x v hx hv hq,
    fun fn q addr g t u x v w hu hfn hq hx hv hw =>
      dmaFault_completesCommand s u fn q t hu hfn addr x v hx hv g w hq hw⟩

end Sys2Proof.Machine
end

section
/-! SUPPORT. Remote sessions (O59, R340, R539, R558 to R560, R606). -/

namespace Sys2Proof.Machine

section
variable (s : State)

/-! ### OPEN -/

section
variable (hub uid : Nat) (hnew : remoteOf s hub uid = none) (hfirm : s.mgmt.warm = false) (haddr : s.sky.hub ≠ 0)
include hnew hfirm haddr

/-- Nothing keeps a hub with an address from answering the OPEN of a host without a session. -/
theorem open_answered : ¬ ((remoteOf s hub uid).isSome || s.mgmt.warm || decide (s.sky.hub = 0)) = true := by
  simp [hnew, hfirm, haddr]

theorem openMsg_opens (t : Nat) (u v : State) (hfree : freeTenant s = some t)
    (hu : u = s.modTenant t (fun _ => { used := true, kind := 2, hub := hub, uid := uid, epoch := s.host.epoch, cap := newCap
                                        bucket := bucketMax, bucketAt := s.now, rxFseq := 1, txFseq := 1
                                        unacked := [{ kind := 7 }] }))
    (hv : v = { u with host := { u.host with epoch := (u.host.epoch + 1) % 65536 } }) :
    exec (.openMsg hub uid) s = .next
      (sendRemote t (writeReplays t (noteUse 1 (v.host.tenants.filter (fun p => p.2.used)).length v))) := by
  subst hu hv
  refine congrArg _ ((if_neg (open_answered s hub uid hnew hfirm haddr)).trans ?_)
  rw [hfree]

theorem openMsg_full (hfull : freeTenant s = none) : exec (.openMsg hub uid) s = .next
    (post pPcie 0x0105 (handleOf 0x12 0) [vU 0, vU 0x8006]
      (sendMsg { kind := 7, dest := hub, a := 0xFF, b := 0, st := .noResource } s)) := by
  refine congrArg _ ((if_neg (open_answered s hub uid hnew hfirm haddr)).trans ?_)
  rw [hfull]

end

/-! ### Frames and timers of an open session -/

/-- Credits of a queue that is made and runs are posted; others are dropped with their frame acknowledged. -/
theorem creditsMsg_posts (t ep n ack q : Nat) (cr : List CreditEntry) (hq : q < 4) :
    exec (.creditsMsg t ep n ack q cr) s = .next (acceptRemote t ep n ack (fun s =>
      if (s.queue t (4 + q)).made = true ∧ (s.queue t (4 + q)).stopped = false then postCredits t q cr s else s) s) := by
  simp only [exec, execCreditsMsg, hq, decide_true, Bool.true_and, Bool.and_eq_true, Bool.not_eq_true']

section
variable (t : Nat) (hused : (s.tenant t).used = true) (hremote : (s.tenant t).kind = 2)
include hused hremote

theorem keepalive_sends : exec (.keepalive t none) s = .next (sendRemote t (remoteFrame t 8 [] [] s)) :=
  congrArg _ (if_pos (by rw [hused, hremote]; rfl))

theorem remoteSessionTimeout_ends : exec (.remoteSessionTimeout t) s = .next (endTenant t (cutTenant t none s)) :=
  congrArg _ (if_pos (by rw [hused, hremote]; rfl))

end

end

/-- Settles O59: each clause is the rule of its message or timer. -/
theorem remoteSessionsCarryCommands : Obligations.RemoteSessionsCarryCommands := by
  unfold Obligations.RemoteSessionsCarryCommands
  intro s
  exact ⟨fun hub uid t u v hnew hfirm haddr => openMsg_opens s hub uid hnew hfirm haddr t u v, openMsg_full s,
    fun _ _ _ _ => rfl, fun _ _ _ _ _ => rfl, creditsMsg_posts s, fun _ _ _ _ _ _ => rfl, fun _ _ _ _ _ _ => rfl,
    fun _ _ _ _ => rfl, fun _ _ _ _ => rfl, keepalive_sends s, fun _ => rfl, remoteSessionTimeout_ends s⟩

end Sys2Proof.Machine
end

section
/-! SUPPORT. Resets, power-fail flushes and lost clocks (O54, R346, R348, R624, R636, R681 to R683, R686, R690). -/

namespace Sys2Proof.Machine

section
variable (s u v : State)

/-! ### RESET_N and PWRFAIL_N -/

theorem resetNAssert_glitch (low : Nat) (hlow : low < 100) : exec (.resetNAssert low) s = .next (drawn s).2 :=
  congrArg _ (if_pos hlow)

section
variable (low : Nat) (hu : u = fullReset 4 none (drawn s).2)
include hu

/-- Between 100 ns and 1 µs a free value decides (log entry 2). -/
theorem resetNAssert_short (hlow : 100 ≤ low) (hhigh : low < 1000) : exec (.resetNAssert low) s = .next
    (if Config.shortReset (drawn s).1 low then { u with mgmt := { u.mgmt with resetLow := true } } else (drawn s).2) := by
  have hlong : ¬ low < 100 := by omega
  subst hu
  simp only [exec, execResetNAssert]
  obtain ⟨n, w⟩ := drawn s
  simp only [hlong, hhigh, if_false, decide_true, Bool.true_and]
  cases Config.shortReset n low <;> rfl

theorem resetNAssert_resets (hlow : 1000 ≤ low) :
    exec (.resetNAssert low) s = .next { u with mgmt := { u.mgmt with resetLow := true } } := by
  subst hu
  exact congrArg _ ((if_neg (by omega)).trans (if_neg (by simp [Nat.not_lt.mpr hlow])))

end

theorem pwrfailNAssert_flushes (low : Nat) (t : Inst) (hu : u = touch t s) (hlow : 500 ≤ low)
    (hreset : u.mgmt.resetLow = false) (hheld : u.mgmt.held = false) (hv : v = startFlush false t u) :
    exec (.pwrfailNAssert low t) s = .next { v with str := { v.str with flush := { v.str.flush with pinLow := true } } } := by
  subst hu hv
  rw [touch_mgmt] at hreset hheld
  exact congrArg _ (if_neg (by simp [hlow, hreset, hheld]))

/-! ### Events of the safety core that a hub under reset ignores -/

section
variable (hreset : s.mgmt.resetLow = false)
include hreset

theorem fullReset_holds (cause : Nat) (hlow : 1 ≤ cause) (hhigh : cause ≤ 3) :
    exec (.fullReset cause) s = .next (heldReset cause none s) :=
  (event_of_exists (by simp [hlow, hhigh]) _).trans (congrArg _ (if_neg (by simp [hreset])))

section
variable (hheld : s.mgmt.held = false)
include hheld

/-- With PWRFAIL_N asserted only a flush that still runs goes on. -/
theorem thermalTrip_flushes (sensor : Nat) (hsensor : sensor < 48)
    (hflush : s.str.flush.pinLow = false ∨ s.str.flush.running = true) : exec (.thermalTrip sensor) s =
      .next (startFlush false s.now { s with mgmt := { s.mgmt with tripHeld := true } }) := by
  refine (event_of_exists (decide_eq_true hsensor) _).trans (congrArg _ ((if_neg (by simp [hreset, hheld])).trans ?_))
  exact if_neg (by rcases hflush with h | h <;> simp [h])

theorem safetyWatchdogExpiry_holds : exec .safetyWatchdogExpiry s = .next (heldReset 1 none s) :=
  congrArg _ (if_neg (by simp [hreset, hheld]))

theorem refclkLaneLost_flushes (hu : u = { s with mgmt := { s.mgmt with laneLost := true } }) :
    exec .refclkLaneLost s = .next (startFlush true u.now u) := by
  subst hu
  exact congrArg _ (if_neg (by simp [hreset, hheld]))

end

/-! ### BROWN_OUT -/

theorem brownOut_holds (hidle : s.str.flush.running = false) : exec .brownOut s =
    .next (heldReset 5 none { (drawn s).2 with str := tearSlots (drawn s).1 (drawn s).2.str }) := by
  refine congrArg _ ((if_neg (by simp [hreset])).trans ?_)
  simp only [hidle, Bool.false_eq_true, if_false]

/-- A flush that runs ends with as many of its steps 3 to 5 written as a free value says. -/
theorem brownOut_cutsFlush (w : Nat) (hruns : s.str.flush.running = true) (hw : w = Config.draw (drawn s).1 % 4)
    (hu : u = if 2 ≤ w then journalDrain 208 (drawn s).2 else (drawn s).2)
    (hv : v = { u with str := { u.str with flush := { s.str.flush with
      running := false, positions := decide (1 ≤ w), tail := decide (2 ≤ w)
      stats := decide (3 ≤ w) && !s.str.flush.noStats } } }) :
    exec .brownOut s = .next (heldReset 5 none { (drawn v).2 with str := tearSlots (drawn v).1 (drawn v).2.str }) := by
  subst hw hu hv
  refine congrArg _ ((if_neg (by simp [hreset])).trans ?_)
  simp only [hruns, if_true]

end

/-! ### FLUSH_COMPLETE -/

section
variable (hruns : s.str.flush.running = true)
include hruns

/-- A flush that runs ends, and the reset that waited for it follows. -/
theorem exec_flushComplete (hu : u = heldReset 6 none (finishFlush s)) : exec .flushComplete s = .next (
    if s.mgmt.laneLost = true then heldReset 8 none (finishFlush s)
    else if s.mgmt.tripHeld = true then { u with mgmt := { u.mgmt with tripHeld := true } }
    else finishFlush s) := by
  obtain ⟨hlane, htrip⟩ := finishFlush_marks s
  simp only [exec, execFlushComplete, hruns, Bool.not_true, Bool.false_eq_true, if_false, hlane, htrip, ← hu]

theorem flushComplete_ends (hu : u = finishFlush s) (hlane : s.mgmt.laneLost = false) (htrip : s.mgmt.tripHeld = false) :
    exec .flushComplete s = .next u := by
  simp only [exec_flushComplete s _ hruns rfl, hu, hlane, htrip, Bool.false_eq_true, if_false]

theorem flushComplete_laneLost (hu : u = finishFlush s) (hlane : s.mgmt.laneLost = true) :
    exec .flushComplete s = .next (heldReset 8 none u) := by
  simp only [exec_flushComplete s _ hruns rfl, hu, hlane, if_true]

theorem flushComplete_tripped (hu : u = heldReset 6 none (finishFlush s)) (hlane : s.mgmt.laneLost = false)
    (htrip : s.mgmt.tripHeld = true) :
    exec .flushComplete s = .next { u with mgmt := { u.mgmt with tripHeld := true } } := by
  exact (exec_flushComplete s u hruns hu).trans (congrArg _ ((if_neg (by simp [hlane])).trans (if_pos htrip)))

end

/-! ### Releases -/

section
variable (s0 s1 s2 : BitVec 12) (hheld : s.mgmt.held = true) (hreset : s.mgmt.resetLow = false)
include hheld hreset

theorem internalResetRelease_starts (htrip : s.mgmt.tripHeld = false) : exec (.internalResetRelease s0 s1 s2) s =
    .next (startUp s0 s1 s2 { s with mgmt := { s.mgmt with laneLost := false } }) := by
  simp only [exec, execInternalResetRelease, hheld, hreset, htrip, Bool.not_true, Bool.or_self, Bool.false_eq_true,
    if_false]

theorem thermalTripRelease_starts (sensor : Nat) (value : Int) (htrip : s.mgmt.tripHeld = true) :
    exec (.thermalTripRelease s0 s1 s2 sensor value) s =
      .next (post pSafety 0x0B0A (handleOf 0x13 sensor) [vU sensor, vS value] (startUp s0 s1 s2 s)) := by
  simp only [exec, execThermalTripRelease, hheld, htrip, hreset, Bool.not_true, Bool.or_self, Bool.false_eq_true, if_false]

end

end

/-- Settles O54: each clause is the rule of its event. -/
theorem resetEventsHoldTheHub : Obligations.ResetEventsHoldTheHub := by
  unfold Obligations.ResetEventsHoldTheHub
  intro s
  exact ⟨resetNAssert_glitch s, fun low u hlow hhigh hu => resetNAssert_short s u low hu hlow hhigh,
    fun low u hlow hu => resetNAssert_resets s u low hu hlow,
    fun sensor hsensor hreset hheld => thermalTrip_flushes s hreset hheld sensor hsensor,
    fun s0 s1 s2 sensor value hheld htrip hreset => thermalTripRelease_starts s s0 s1 s2 hheld hreset sensor value htrip,
    fun low t u v => pwrfailNAssert_flushes s u v low t, rfl, fun u hruns => flushComplete_ends s u hruns,
    fun u hruns => flushComplete_laneLost s u hruns, fun u hruns => flushComplete_tripped s u hruns,
    internalResetRelease_starts s, fun cause hlow hhigh hreset => fullReset_holds s hreset cause hlow hhigh,
    safetyWatchdogExpiry_holds s, brownOut_holds s, fun w u v hreset => brownOut_cutsFlush s u v hreset w,
    fun u hreset hheld => refclkLaneLost_flushes s u hreset hheld, rfl⟩

end Sys2Proof.Machine
end

section
/-! SUPPORT. The messages of a network commit (O56, R583 to R585). -/

namespace Sys2Proof.Machine

section
variable (s u : State) (src stage : Nat)

/-! ### PREPARE at a target -/

section
variable (b : Nat) (t : Inst) (hu : u = touch t s)
include hu

theorem prepare_promises (hcheck : prepareCheck src stage b u = none) : exec (.prepare src stage b t) s =
    .next (sendMsg { kind := 2, dest := src, a := stage } { u with host := { u.host with
      stages := u.host.stages.map (fun x => if x.id = stage then { x with prepared := some (src, b) } else x) } }) := by
  subst hu
  simp only [exec, execPrepare, prepareStage, hcheck]

theorem prepare_refuses (st : Status) (hcheck : prepareCheck src stage b u = some st) :
    exec (.prepare src stage b t) s = .next (sendMsg { kind := 3, dest := src, a := stage, st := st } u) := by
  subst hu
  simp only [exec, execPrepare, prepareStage, hcheck]

end

/-! ### At the originator -/

section
variable (n : NetCommit) (hnet : netOf s stage = some n)
include hnet

section
variable (hopen : n.sealed = false)
include hopen

section
variable (htarget : src ∈ n.targets)
include htarget

/-- The last target that is ready seals the commit. -/
theorem readyMsg_notes (hnew : src ∉ n.ready)
    (hu : u = journalHub n src 1 (modNet stage (fun n => { n with ready := n.ready ++ [src] }) s)) :
    exec (.readyMsg src stage) s = .next (match netOf u stage with
      | some n => if n.targets.all n.ready.contains then sealNet n u else u
      | none => u) := by
  subst hu
  refine congrArg _ (?_ : readyIn src stage s = _)
  rw [readyIn, hnet]
  exact if_neg (by simp [hopen, htarget, hnew])

theorem refuseMsg_notes (st : Status) (hnew : src ∉ n.refused.map (·.1)) : exec (.refuseMsg src stage st) s =
    .next (journalHub n src 4 (modNet stage (fun n => { n with refused := n.refused ++ [(src, st)] }) s)) := by
  have hfirst : ¬ (n.sealed || !n.targets.contains src || (n.refused.map (·.1)).contains src) = true := by
    rw [hopen, List.contains_iff_mem.mpr htarget, List.contains_eq_mem, decide_eq_false hnew]
    exact Bool.false_ne_true
  refine congrArg _ (?_ : refusedIn src stage st s = _)
  rw [refusedIn, hnet]
  exact if_neg hfirst

end

theorem networkCommitDecide_decides : exec (.networkCommitDecide stage) s =
    .next (if n.targets.all n.ready.contains then sealNet n s else abortNet n s) := by
  simp only [exec, execNetworkCommitDecide, hnet, hopen, Bool.false_eq_true, if_false]

end

section
variable (hsealed : n.sealed = true)
include hsealed

/-- The last target that confirms completes the command. -/
theorem commitConfirm_notes (htarget : src ∈ n.targets) (hnew : src ∉ n.confirmed)
    (hu : u = journalHub n src 3 (modNet stage (fun n => { n with confirmed := n.confirmed ++ [src] }) s)) :
    exec (.commitConfirm src stage) s = .next (match netOf u stage with
      | some n => if n.targets.all n.confirmed.contains then endNet n (netReply n) u else u
      | none => u) := by
  subst hu
  refine congrArg _ (?_ : confirmIn src stage s = _)
  rw [confirmIn, hnet]
  exact if_neg (by simp [hsealed, htarget, hnew])

theorem networkCommitDeadline_completes : exec (.networkCommitDeadline stage) s = .next (endNet n (netReply n) s) := by
  simp only [exec, execNetworkCommitDeadline, hnet, hsealed, if_true]

end

end

/-! ### SEAL, ABORT and the expiry at a target -/

section
variable (x : Stage) (hopen : openStage s stage = some x)
include hopen

theorem sealStage_commits (b : Nat) (hprepared : x.prepared = some (src, b)) : exec (.sealStage src stage) s =
    .next (markStage x.tenant stage 2 (pushCommit
      { stage := { x with prepared := none }, at_ := b, tenant := x.tenant, src := some src } s)) := by
  simp only [exec, execSeal, sealStage, hopen, hprepared, if_true]

theorem abortMsg_discards (hfrom : stageFrom s x src = true) :
    exec (.abortMsg src stage) s = .next (dropStage stage s) := by
  simp only [exec, execAbortMsg, abortStage, hopen, hfrom, if_true]

theorem networkStageExpiry_discards (y : Nat × Nat) (hprepared : x.prepared = some y) :
    exec (.networkStageExpiry stage) s =
      .next (post pApp (Config.entryCode 2).toNat 0 [vU stage] (dropStage stage s)) := by
  simp only [exec, execNetworkStageExpiry, hopen, Option.bind_some, hprepared]

end

end

/-- Settles O56: each clause is the rule of its message or timer. -/
theorem networkCommitMessagesSealOrAbort : Obligations.NetworkCommitMessagesSealOrAbort := by
  unfold Obligations.NetworkCommitMessagesSealOrAbort
  intro s
  exact ⟨fun src stage b t u => prepare_promises s u src stage b t,
    fun src stage b t u st hu => prepare_refuses s u src stage b t hu st,
    fun src stage n u hnet hopen htarget => readyMsg_notes s u src stage n hnet hopen htarget,
    fun src stage st n hnet hopen htarget => refuseMsg_notes s src stage n hnet hopen htarget st,
    networkCommitDecide_decides s, fun src stage x b hopen => sealStage_commits s src stage x hopen b,
    abortMsg_discards s, fun stage x y hopen => networkStageExpiry_discards s stage x hopen y,
    fun src stage n u hnet hsealed => commitConfirm_notes s u src stage n hnet hsealed, networkCommitDeadline_completes s⟩

end Sys2Proof.Machine
end

section
/-! SUPPORT. Housekeeping, the thermal levels and the I2C buses (O57, R536, R628 to R633, R637, R639, R640, R681). -/

namespace Sys2Proof.Machine

/-- A PMBus reading of a quantity of a regulator reaches its sensor (R627). -/
def pmbusReading (reg q : Nat) (v : Int) (s : State) : State := takeReading (128 + 4 * reg + q) 0 v false s.now s

section
variable (s u : State)

/-! ### Conversions and records -/

theorem hkConversion_takes (slot : Nat) (code : Int) (t : Inst) (hu : u = touch t s) (hslot : slot < 98) :
    exec (.hkConversion slot code t) s = .next (judgeRefs (slotSensor slot) (convert (slotSensor slot) code t u)) := by
  subst hu
  exact event_of_exists (decide_eq_true hslot) _

section
variable (sensor slot : Nat) (code : Int) (hsensor : sensor < 98)
include hsensor

theorem urgentConversion_takes (hidle : 98 ≤ slot) (hslot : slot < 125) : exec (.urgentConversion sensor slot code) s =
    .next (judgeRefs sensor (convert sensor code s.now s)) :=
  (event_of_exists (by simp [hsensor, hslot]) _).trans (congrArg _ (if_neg (by omega)))

theorem urgentConversion_misses (hbusy : slot < 98) :
    exec (.urgentConversion sensor slot code) s = .next (bump (ctrKey 0x13 0 0 0) s) :=
  (event_of_exists (by simp [hsensor]; omega) _).trans (congrArg _ (if_pos hbusy))

end

theorem housekeepingPeriod_emits (sensor : Nat) (t : Inst) (hu : u = touch t s) (hsensor : isSensor sensor = true)
    (hon : housePeriod u sensor ≠ 0) : exec (.housekeepingPeriod sensor t) s =
      .next (emitItem houseKey { t := t, body := houseEntry u sensor } [] false u) := by
  subst hu
  exact (event_of_exists hsensor _).trans (congrArg _ (if_neg hon))

theorem thermalLevelExit_lowers (k : Nat) (hk : k = levelKept s s.time.swath) (hlower : k < s.mgmt.level) :
    exec .thermalLevelExit s = .next (ctlWrite (.level k) s) := by
  subst hk
  exact congrArg _ (if_pos (decide_eq_true hlower))

/-! ### The I2C buses -/

section
variable (bus : Nat) (hbus : bus < 4)
include hbus

theorem i2cSclTimeout_sticks (hwaits : (s.bus bus).state = .waitScl)
    (hu : u = s.modBus bus (fun x => { x with state := .stuck, byScl := true })) : exec (.i2cSclTimeout bus) s =
      .next (post pApp 0x0B07 (handleOf 0x14 bus) [vU bus, vU 1]
        (bump (ctrKey 0x14 bus 4 0) (bump (ctrKey 0x14 bus 2 0) u))) := by
  subst hu
  exact (event_of_exists (decide_eq_true hbus) _).trans (congrArg _ (if_neg (by simp [hwaits])))

theorem i2cStuckRetry_clears (scl : Bool) (pulses : Option Nat) (hstuck : (s.bus bus).state = .stuck)
    (hu : u = if (s.bus bus).rstPin.isSome then startPulse ((s.bus bus).rstPin.getD 0) (10 * (s.bus bus).pulse) s else s) :
    exec (.i2cStuckRetry bus scl pulses) s = .next (clearBus bus scl pulses u) := by
  subst hu
  refine (event_of_exists (decide_eq_true hbus) _).trans (congrArg _ ((if_neg (by simp [hstuck])).trans ?_))
  cases (s.bus bus).rstPin <;> rfl

end

section
variable (hfirm : s.mgmt.warm = false)
include hfirm

section
variable (reg : Nat) (vout iout temp st : Int) (hreg : reg < 16) (hthere : s.mgmt.pmbus.get reg ≠ 0)
  (hfree : (s.bus 0).state ≠ .stuck)
include hreg hthere hfree

theorem pmbusPoll_takes
    (hu : u = pmbusReading reg 3 st (pmbusReading reg 2 temp (pmbusReading reg 1 iout (pmbusReading reg 0 vout s)))) :
    exec (.pmbusPoll reg vout iout temp st true) s =
      .next (if st = 0 then u else post pApp 0x0B0C (handleOf 0x14 0) [vU reg, vU st.toNat] u) := by
  subst hu
  refine (event_of_exists (decide_eq_true hreg) _).trans (congrArg _ ((if_neg (by simp [hthere, hfree, hfirm])).trans ?_))
  by_cases hst : st = 0
  · rw [if_pos hst]; exact (if_neg (by simp)).trans (if_neg (by simp [hst]))
  · rw [if_neg hst]; exact (if_neg (by simp)).trans (if_pos (by simp [hst]))

/-- A PEC failure gives no reading. -/
theorem pmbusPoll_counts :
    exec (.pmbusPoll reg vout iout temp st false) s = .next (bump (ctrKey 0x14 0 1 0) s) :=
  (event_of_exists (decide_eq_true hreg) _).trans
    (congrArg _ ((if_neg (by simp [hthere, hfree, hfirm])).trans (if_pos rfl)))

end

section
variable (hfree : (s.bus 2).state ≠ .stuck)
include hfree

theorem sfpPoll_takes (vals : List Int) (alarms : Nat)
    (hu : u = each ((vals.take 5).zipIdx) (fun p s => takeReading (192 + p.2) 0 p.1 false s.now s) s) :
    exec (.sfpPoll vals alarms) s = .next (if alarms = 0 then u
      else post pApp 0x0B0D (handleOf 0x14 2) [vU alarms, vS (vals.getD (alarmed alarms) 0)] u) := by
  subst hu
  refine congrArg _ ((if_neg (by simp [hfree, hfirm])).trans ?_)
  by_cases halarms : alarms = 0
  · rw [if_pos halarms]; exact if_neg (by simp [halarms])
  · rw [if_neg halarms]; exact if_pos (by simp [halarms])

theorem managementEthernetLinkUp_stores (page : List Byte) : exec (.managementEthernetLinkUp page) s =
    .next { s with mgmt := { s.mgmt with sfpPage := page } } :=
  congrArg _ (if_neg (by simp [hfree, hfirm]))

end

end

end

/-- Settles O57: each clause is the rule of its event. -/
theorem housekeepingEventsTakeTheirReadings : Obligations.HousekeepingEventsTakeTheirReadings := by
  unfold Obligations.HousekeepingEventsTakeTheirReadings
  intro s
  exact ⟨fun slot code t u => hkConversion_takes s u slot code t, urgentConversion_takes s, urgentConversion_misses s,
    fun sensor t u => housekeepingPeriod_emits s u sensor t, thermalLevelExit_lowers s,
    fun bus u hbus => i2cSclTimeout_sticks s u bus hbus,
    fun bus scl pulses u hbus => i2cStuckRetry_clears s u bus hbus scl pulses,
    fun reg vout iout temp st u hreg hthere hfree hfirm =>
      pmbusPoll_takes s u hfirm reg vout iout temp st hreg hthere hfree,
    fun reg a b c d hreg hthere hfree hfirm => pmbusPoll_counts s hfirm reg a b c d hreg hthere hfree,
    fun vals alarms u hfree hfirm => sfpPoll_takes s u hfirm hfree vals alarms,
    fun page hfree hfirm => managementEthernetLinkUp_stores s hfirm hfree page, rfl⟩

end Sys2Proof.Machine
end
